-- ==== Sys2Proof/Word.lean ====
section
/-! DEFINITION. The word types of the model: 32-bit register words, bytes, and the 64-bit DT nanosecond count (R4). -/

namespace Sys2Proof

/-- A 32-bit word of the management address space (R7). -/
abbrev Word := BitVec 32

/-- A byte of a memory, a frame or a message. -/
abbrev Byte := BitVec 8

/-- A DT nanosecond count, 64 bits (R4). -/
abbrev Time := BitVec 64

end Sys2Proof
end

