-- ==== Sys2Proof/Syntax.lean ====
section
/-! DEFINITION. The commands of the block: one constructor of `Instr` for every row of the table of operations and
events, and the types of their operands. Every command carries the DT at which it comes; what an occurrence brings
from outside (a frame, a code of a converter, the levels of pins, an outcome that the spec leaves to a unit it does
not describe bit by bit) is an operand. -/

namespace Sys2Proof

/-- A head, H0 to H15. -/
abbrev HeadIx := Fin 16

/-- The interfaces of the register bus (R495): MSPI and maintenance session. -/
inductive Iface where
  | mspi | session
deriving DecidableEq, Repr

/-- The commands of the emitter chain (Table 3.3). -/
inductive ChainCmd where
  | config
  | load (entry : Nat)
  | verify
  | pattern (index : Nat)
  | swap
  | proof (emitter : Nat)
  | diag
  | mask
deriving DecidableEq, Repr

/-- Requesters of leave (Table 18.1). -/
inductive Requester where
  | park (h : HeadIx)
  | retrain (pc : Fin 64)
  | dwell (h : HeadIx)
  | flyback (h : HeadIx)
  | wipe | scrub | snapshot | catchup
  | maintenance (n : Fin 16)
deriving DecidableEq, Repr

/-- The class of a requester, in the order of Table 18.1: 0 SAFETY, 1 FIRING, 2 MEMORY, 3 MAINTENANCE. -/
def Requester.cls : Requester → Nat
  | .park _ | .retrain _ => 0
  | .dwell _ | .flyback _ => 1
  | .wipe | .scrub | .snapshot | .catchup => 2
  | .maintenance _ => 3

/-- One sensor of a thermal round (R436): its temperature in 1/16 °C, its count, and whether the count lies inside the
range of R437. -/
structure SensorReading where
  temp : BitVec 16
  count : BitVec 16
  inRange : Bool
deriving DecidableEq, Repr

/-- What an access to the accountant memory shows (R293): nothing, a corrected error, or an uncorrectable error in the
buckets of a sector and window. -/
inductive EyeEcc where
  | ok
  | corrected
  | uncorrectable (sector : BitVec 12) (w : Fin 4)
deriving DecidableEq, Repr

/-- Causes of a lane failure (R403): loss of signal, loss of lock, codewords, transmit driver or PLL fault. -/
inductive LaneCause where
  | los | lol | codewords | txFault
deriving DecidableEq, Repr


/-- How the codeword of a received cell or frame decoded (R398). -/
inductive Codeword where
  | clean | corrected | uncorrectable
deriving DecidableEq, Repr

/-- How a cell or frame of a Nolaetus link came: its port lane, its codeword, and whether its CRC is right. -/
structure LinkRx where
  lane : Fin 8
  codeword : Codeword
  crcOk : Bool
deriving DecidableEq, Repr

/-- What a heartbeat says of one head (Table 13.2). -/
structure HbHead where
  frame : Word
  dwell : BitVec 16
  lastShot : BitVec 12
  hstate : BitVec 3
  dtOpen : Word
deriving DecidableEq, Repr

/-- A heartbeat (Table 13.2). -/
structure Heartbeat where
  seq : Word
  dt : Time
  role : BitVec 2
  sync : BitVec 3
  drv : BitVec 2
  seen : BitVec 2
  handover : Bool
  fit : Bool
  devState : BitVec 3
  cid : BitVec 14
  epoch : BitVec 16
  serial : BitVec 64
  cfg : BitVec 64
  heads : List HbHead
  streamSeq : List Word
  safeSeq : Word
  rct : BitVec 16
deriving DecidableEq, Repr

/-- The state catch-up that a joining shadow takes from the active (R225, R352): buckets of the accountant by head, window and
sector, the odometer in µm, the ring indices of the heads, and the last SEQ queued of each stream and of the safety frames. -/
structure JoinState where
  rings : List (HeadIx × Fin 4 × BitVec 12 × List Word)
  odo : BitVec 64
  wrIdx : List Word := []
  streamSeq : List Word := []
  safeSeq : Word := 0
deriving DecidableEq, Repr

/-- A digest of a dwell (R341). -/
structure Digest where
  head : HeadIx
  frame : Word
  dwell : BitVec 16
  close : Time
  nrec : Word
  h1 : Word
  rsum : Word
  nranged : Word
deriving DecidableEq, Repr

/-- The header of a Svetne message (Table 14.1). -/
structure DomHdr where
  srcDid : BitVec 14
  srcNew : Bool
  bcast : Bool
  dstDid : BitVec 14
  term : BitVec 16
  hops : BitVec 8
  seq : Word
  serial : BitVec 64
deriving DecidableEq, Repr

/-- Where a Svetne message comes from: a cascade port and how it came, or the network. -/
inductive DomVia where
  | port (c : Fin 4) (rx : LinkRx)
  | net (crcOk : Bool)
deriving DecidableEq, Repr

/-- The outcome an ADMIT carries (R363 to R365). -/
inductive Admit where
  | granted (did : BitVec 14)
  | refused
  | revoked
deriving DecidableEq, Repr

/-- A change of the master's table (R372). -/
inductive TableOp where
  | admits (did : BitVec 14) (serial : BitVec 64)
  | release (did : BitVec 14)
  | revoke (did : BitVec 14)
deriving DecidableEq, Repr

/-- One entry of a PLAN: head, period, phase (R366). -/
structure PlanEntry where
  head : HeadIx
  period : Word
  phase : Word
deriving DecidableEq, Repr

/-- A notice (R370): a dwell open, with the CRC-32C of the timing fields of the owner's descriptor; or the last shot. -/
inductive Notice where
  | opens (frame : Word) (dwell : BitVec 16) (dt : Time) (fine : BitVec 8) (crc : Word)
  | stop (frame : Word) (dwell : BitVec 16) (shot : BitVec 12)
deriving DecidableEq, Repr

/-- A memory request (R379, R382): port, direction, address, bytes to read, bytes to write. It lies within one granule. -/
structure MemReq where
  port : Fin 10
  write : Bool
  addr : BitVec 35
  len : BitVec 9
  data : List Byte
deriving DecidableEq, Repr

/-- ECC severity of a read (R388): no error, corrected, uncorrectable. -/
inductive MemSev where
  | ok | corrected | uncorrectable
deriving DecidableEq, Repr

/-- The levels that the islands sample at a tick (R307, R309): SI_A, SI_B, SAFE_RST_A, SAFE_RST_B, OSSD_RB_A, OSSD_RB_B. -/
structure SafeLevels where
  siA : BitVec 8
  siB : BitVec 8
  rstA : Bool
  rstB : Bool
  rbA : BitVec 4
  rbB : BitVec 4
deriving DecidableEq, Repr

/-- What a forwarded write carries (R340): a standby-slot register word, a descriptor, a commit request of the shadow, the
active's acceptance with its SCAN_COMMIT_FRAME, or the shadow's rejection of an accepted commit. -/
inductive Forwarded where
  | word (addr v : Word)
  | descriptor (h : HeadIx) (slot : Fin 2) (dwell : BitVec 16) (words : List Word)
  | commit (h : HeadIx) (slot : Fin 2)
  | accepted (h : HeadIx) (slot : Fin 2) (frame : Word)
  | rejected (h : HeadIx)
deriving DecidableEq, Repr

/-- How a field line has come to an island (R300): not, whole, or not as it was sent. -/
inductive LineRead where
  | missing | whole | damaged
deriving DecidableEq, Repr
/-! ### The Irust image (20)

The spec says what the sections of an image hold and, beyond Tables 20.1 to 20.3, not how they lay it out: an image comes as
typed data. The outcomes of its cryptography come with the command that uses it. -/

/-- A pattern of a head (R93, R284, R286, R433, R86). -/
structure Pattern where
  /-- Enable mask and current code for each driver, driver 0 first. -/
  drivers : List (Nat × Nat)
  /-- E_OPT_MAX in nJ. -/
  eOptMax : Nat
  /-- Leave units of a dwell with this pattern (power model, R433). -/
  units : Nat
  /-- Supply energy per shot in 0.1 µJ (power model, R86). -/
  supply : Nat
  /-- Footprint offsets F0, F1 of X and of Y. -/
  f0x : Int
  f1x : Int
  f0y : Int
  f1y : Int
deriving DecidableEq, Repr

/-- A direction that the head calibration model gives (R191): unit vector and cosine to the track axis, signed Q1.14. -/
structure Dir where
  ux : Nat
  uy : Nat
  uz : Nat
deriving DecidableEq, Repr

/-- A read of the bench records of a group: the position of each corrected and of each uncorrectable error (R162). -/
structure BenchRead where
  g : Fin 96
  corr : List (Fin 16) := []
  bad : List (Fin 16) := []
deriving DecidableEq, Repr

/-- Head calibration data and power model of a head (R86, R285, R288, R294, R429). -/
structure HeadImage where
  patterns : List (Nat × Option Pattern) := []
  /-- Directions by (MIRROR_X field × 2^16 + MIRROR_Y field) × 2,048 + input (R191). -/
  dirs : List (Nat × Option Dir) := []
  /-- The head's track axis (R191). -/
  axis : Dir := ⟨0, 0, 0⟩
  /-- Pulse width of CONFIG in 0.5 ns (Table 3.3). -/
  pulseWidth : Nat := 0
  /-- E_PROOF in nJ. -/
  eProof : Nat := 0
  /-- Proof footprint offsets in sectors, X then Y. -/
  p0x : Int := 0
  p1x : Int := 0
  p0y : Int := 0
  p1y : Int := 0
  /-- Position lag in EU. -/
  posLag : Nat := 0
  /-- Echo skew in 1/256 ns, two's complement (R132). -/
  echoSkew : BitVec 16 := 0
  /-- Image ZERO. -/
  zero : Nat := 0
  /-- Leave units of a flyback's proof and random-hit steps. -/
  flyUnits : Nat := 0
  /-- Leave units of a servo park sequence. -/
  parkUnits : Nat := 8
  /-- Supply energy of a proof step in 0.1 µJ. -/
  stepEnergy : Nat := 0
deriving DecidableEq, Repr

/-- The power model of an image (R86, R428, R429): base load, and units of the requests that no head makes. -/
structure PowerModel where
  base : Nat
  retrainUnits : Nat
  wipeUnits : Nat
  scrubUnits : Nat
  snapUnits : Nat
  catchUnits : Nat
  maintUnits : Nat
deriving DecidableEq, Repr

/-- A section entry (Table 20.2), without its digest. -/
structure Sect where
  type : BitVec 16
  offset : Word
  length : Word
  reserved : Bool
deriving DecidableEq, Repr

/-- The header and manifest of a slot (Table 20.1), with the SHA-384 of the public keys presented (R468) and the image
digest; `reserved` says that every reserved byte is 0. -/
structure Manifest where
  magic : Word
  format : BitVec 16
  manLen : Word
  sigOff : Word
  imageLen : Word
  reserved : Bool
  part : BitVec 16
  rev : BitVec 8
  secVer : BitVec 8
  lcMask : BitVec 5
  autoCommit : Bool
  imageSeq : Word
  cls : Bool
  index : Bool
  bindSerial : BitVec 64
  keyHash : BitVec 384
  sects : List Sect
  digest : BitVec 512
deriving DecidableEq, Repr

/-- A program of the SCAN section: head, slot, FLYBACK and FLYBACK_MIN in µs, descriptors of 16 words. -/
structure ProgImage where
  head : HeadIx
  slot : Fin 2
  fly : BitVec 14
  flyMin : BitVec 14
  descs : List (List Word)
deriving DecidableEq, Repr

/-- A default of the CALDEF section for a delay line (R130): service chain and selections; the skew of an ECHO line comes
with the head calibration data (R132). -/
structure CalDefault where
  line : Fin 1552
  chain : Bool
  selA : BitVec 288
  selB : BitVec 288
  skew : BitVec 32
deriving DecidableEq, Repr

/-- The contents of an image. [DEDUCED, log 113, 113, 136, 136] -/
structure Image where
  fwVer : Word
  /-- Refractive index of R6 in 10^-6. -/
  index : Nat := 1000293
  /-- CONFIG: register words by address, and the slew codes of the CMOS outputs in ball order (R505): CHAIN_TX 0 to 15,
  TRIG_OUT 16 to 19, OSPI 20 to 31, MSPI_MISO 32, TP_ 33 to 36. -/
  config : List (Word × Word)
  pads : List (BitVec 2)
  programs : List ProgImage
  /-- FIELDS: the eight entries of a bearing's line, by BID. -/
  fields : List (BitVec 20 × List Word)
  /-- CALDEF: DEVTAG and the lines. -/
  devtag : BitVec 16
  cal : List CalDefault
  /-- CODE and LIMITS. -/
  heads : List (HeadIx × HeadImage)
  power : PowerModel
  /-- A master's plan of the domain: a DID and an entry of one of its heads (R366). -/
  plan : List (BitVec 14 × PlanEntry)
deriving DecidableEq, Repr

/-- What reading a slot shows (R470, checks 5 to 7 and 9): digests, signatures, vendor seal, answers within 10 ms; and
whether the copies of both safety islands read back as written (R299). -/
structure SlotRead where
  digests : Bool
  signatures : Bool
  vendorSeal : Bool
  answered : Bool
  copies : Bool
  image : Image
deriving DecidableEq, Repr

/-! ### Fuses, sessions (20), network frames (08) -/

/-- The OTP fuses (Table 20.4). -/
structure Fuses where
  serial : Nat := 0
  /-- Roots: vendor 0, vendor 1, owner 0, owner 1; 384 bits each, 0 while unprogrammed. -/
  roots : List Nat := [0, 0, 0, 0]
  /-- Revoked bits in the same order. -/
  revoked : Nat := 0
  /-- Identity seeds: Ed25519, ML-DSA-65. -/
  seedEd : Nat := 0
  seedMl : Nat := 0
  /-- Bits programmed of the rollback thermometer. -/
  rollback : Nat := 0
  /-- Copies programmed of each life-cycle stage, three bits a stage. -/
  stages : List Nat := [0, 0, 0, 0]
  trims : Nat := 0
deriving DecidableEq, Repr

/-- A maintenance certificate with the public keys of its root (R477, R478): root, PERM, SERIAL, validity, SHA-384 of the
keys presented; whether SYNC and VER match and the reserved bytes are 0, and whether both of the root's signatures
verify. -/
structure Cert where
  cls : Bool
  index : Bool
  perm : BitVec 32
  serial : BitVec 64
  notBefore : Time
  notAfter : Time
  keyHash : BitVec 384
  form : Bool
  signed : Bool
deriving DecidableEq, Repr

/-- The record that carries a service (R478): its sequence number, and whether it authenticates. -/
structure SessRec where
  seq : BitVec 64
  authentic : Bool
deriving DecidableEq, Repr

/-- What Electrum's units form for a report (R476): FUSE_DIGEST and the two signatures. -/
structure Signed where
  fuseDigest : List Byte
  ed : List Byte
  ml : List Byte
deriving DecidableEq, Repr

/-- A message of IEEE 802.1AS as a port uses it (R232), with its sequence number; of a peer-delay message the identity of the
port that asks; times in 1/256 ns: the precise origin of a Sync with its correction, when a peer-delay request was received, and
when its answer departed. -/
inductive PtpMsg where
  | sync (seq : BitVec 16)
  | followUp (seq : BitVec 16) (origin : BitVec 72)
  | pdelayReq (seq : BitVec 16) (port : BitVec 80)
  | pdelayResp (seq : BitVec 16) (port : BitVec 80) (t2 : BitVec 72)
  | pdelayRespFollowUp (seq : BitVec 16) (port : BitVec 80) (t3 : BitVec 72)
  | other
deriving DecidableEq, Repr

/-- What a received network frame carries, by its protocol (R231). -/
inductive NetPayload where
  /-- UDP: to an address of the device, destination port, payload. -/
  | udp (own : Bool) (port : BitVec 16) (data : List Byte)
  /-- ARP request or IPv6 neighbour solicitation for the shared address, or for the address of the node (false), and the IP
  address that asks. -/
  | resolve (v6 shared : Bool) (asker : BitVec 128)
  /-- A message of IEEE 802.1AS. -/
  | gptp (m : PtpMsg)
  /-- A message of the domain protocol; a PRP supervision frame; anything else. -/
  | domain | supervision | other
deriving DecidableEq, Repr

/-- A received network frame: source MAC address, sequence of its redundancy control trailer (R229), ingress stamp (R232). -/
structure NetRx where
  src : BitVec 48
  rct : Option (BitVec 16)
  stamp : Time
  payload : NetPayload
deriving DecidableEq, Repr

/-- The commands: one constructor for each row of the table. [DESIGN CHOICE, log 10, 141] -/
inductive Instr where
  /-- PORST_N_ASSERT -/
  | porstNAssert (t : Time)
  /-- PORST_N_RELEASE -/
  | porstNRelease (t : Time)
  /-- SUPPLIES_GOOD -/
  | suppliesGood (t : Time)
  /-- RAIL_OUT_OF_TOLERANCE: the rail, in the order of Table 23.6 from VDD_CORE 0 (VDD_SAFE_A 9, VDD_SAFE_B 10). -/
  | railOutOfTolerance (t : Time) (rail : Fin 13)
  /-- WATCHDOG_EXPIRY -/
  | watchdogExpiry (t : Time)
  /-- DEG_HOLD_EXPIRY: the event code of the cause. -/
  | degHoldExpiry (t : Time) (code : BitVec 16)
  /-- EVENT_LATCH_CLEAR: the value written to DEV_EVT_RD. -/
  | eventLatchClear (t : Time) (v : Word)
  /-- SLOW_INPUT_CLAMP: the input (numbered as in `Dev.clamps`), and whether its clamp begins to conduct or ends. -/
  | slowInputClamp (t : Time) (i : Fin 34) (on : Bool)
  /-- HEAD_START: interface and head. -/
  | headStart (t : Time) (i : Iface) (h : HeadIx)
  /-- HEAD_PARK: head. -/
  | headPark (t : Time) (h : HeadIx)
  /-- HEAD_RESTART: head. -/
  | headRestart (t : Time) (h : HeadIx)
  /-- HOST_INHIBIT_WRITE: head and value. -/
  | hostInhibitWrite (t : Time) (h : HeadIx) (v : Bool)
  /-- AUTO_START: head. -/
  | autoStart (t : Time) (h : HeadIx)
  /-- FRAME_START: head. -/
  | frameStart (t : Time) (h : HeadIx)
  /-- MOVE_PHASE_START: head. -/
  | movePhaseStart (t : Time) (h : HeadIx)
  /-- DESCRIPTOR_PREFETCH_ARRIVAL: head, dwell, and whether the read was uncorrectable. -/
  | descriptorPrefetchArrival (t : Time) (h : HeadIx) (d : BitVec 16) (uncorr : Bool)
  /-- SETTLE_TIMEOUT: head. -/
  | settleTimeout (t : Time) (h : HeadIx)
  /-- DWELL_OPEN: head. -/
  | dwellOpen (t : Time) (h : HeadIx)
  /-- DWELL_CLOSE: head. -/
  | dwellClose (t : Time) (h : HeadIx)
  /-- FLYBACK_START: head. -/
  | flybackStart (t : Time) (h : HeadIx)
  /-- SCAN_LOAD_STORE: interface, head, and the value written to SCAN_LOAD_DATA[15]. -/
  | scanLoadStore (t : Time) (i : Iface) (h : HeadIx) (v : Word)
  /-- COMMIT_REQUEST: head and target slot. -/
  | commitRequest (t : Time) (h : HeadIx) (slot : Fin 2)
  /-- COMMIT_CANCEL: head. -/
  | commitCancel (t : Time) (h : HeadIx)
  /-- COMMIT_CHECK_COMPLETE: head. -/
  | commitCheckComplete (t : Time) (h : HeadIx)
  /-- FORWARDED_WRITE: pair port, how the frame came, and what it forwards. -/
  | forwardedWrite (t : Time) (p : Fin 2) (rx : LinkRx) (f : Forwarded)
  /-- CHAIN_LOAD: head. -/
  | chainLoad (t : Time) (h : HeadIx)
  /-- CHAIN_PATTERN_SEND: head. -/
  | chainPatternSend (t : Time) (h : HeadIx)
  /-- CHAIN_SWAP_SEND: head. -/
  | chainSwapSend (t : Time) (h : HeadIx)
  /-- CHAIN_FRAME_RETURN: head, and the high times of the pulses that return on CHAIN_RX, in units of 0.1 ns. -/
  | chainFrameReturn (t : Time) (h : HeadIx) (r : List Nat)
  /-- CHAIN_FRAME_TIMEOUT: head. -/
  | chainFrameTimeout (t : Time) (h : HeadIx)
  /-- PROOF_STEP: head. -/
  | proofStep (t : Time) (h : HeadIx)
  /-- PROOF_LATE: head. -/
  | proofLate (t : Time) (h : HeadIx)
  /-- FIRE_STROBE_LAUNCH: head and shot; launched by the token holder, expected in a head that shows TOKEN. -/
  | fireStrobeLaunch (t : Time) (h : HeadIx) (k : BitVec 12)
  /-- ECHO_EDGE: head, taps of chain A and B. -/
  | echoEdge (t : Time) (h : HeadIx) (tapsA tapsB : BitVec 288)
  /-- ECHO_WINDOW_EXPIRY: head and shot. -/
  | echoWindowExpiry (t : Time) (h : HeadIx) (k : BitVec 12)
  /-- CLR_ECHO: head. -/
  | clrEcho (t : Time) (h : HeadIx)
  /-- RETURN_EDGE: input, how far before the capturing edge it arrived (1/256 ns), taps of chain A and B, the levels of the head's GATE at the capturing edge (bit 0) and at the 511 edges before it. -/
  | returnEdge (t : Time) (n : Fin 1536) (back : BitVec 8) (tapsA tapsB : BitVec 288) (gate : BitVec 512)
  /-- SATURATION_DETECT: input. -/
  | saturationDetect (t : Time) (n : Fin 1536)
  /-- SATURATION_END: input. -/
  | saturationEnd (t : Time) (n : Fin 1536)
  /-- RANDOM_HIT_INJECT: delay line (1,552 on: the cells of TACH_A, TACH_B, TRIG_IN[0] to [3]), taps of chain A and B. -/
  | randomHitInject (t : Time) (i : Fin 1558) (tapsA tapsB : BitVec 288)
  /-- CAL_EPOCH_CLOSE: delay line or auxiliary cell, as in RANDOM_HIT_INJECT. -/
  | calEpochClose (t : Time) (i : Fin 1558)
  /-- CAL_SELECTION_APPLY: delay line or auxiliary cell, as in RANDOM_HIT_INJECT. -/
  | calSelectionApply (t : Time) (i : Fin 1558)
  /-- CAL_STALE_EXPIRY: delay line. -/
  | calStaleExpiry (t : Time) (i : Fin 1552)
  /-- CAL_RESTORE: interface and the index written. -/
  | calRestore (t : Time) (i : Iface) (index : BitVec 11)
  /-- VERNIER_CAL_COMPLETE: head and the sums of the 64 delays measured at each of the five codes, 1/256 ns. -/
  | vernierCalComplete (t : Time) (h : HeadIx) (y0 y1 y2 y3 y4 : BitVec 32)
  /-- COINC_DECISION: group, position of the input whose next event is decided. -/
  | coincDecision (t : Time) (g : Fin 96) (j : Fin 16)
  /-- HYPOTHESIS_ENTRY: group. -/
  | hypothesisEntry (t : Time) (g : Fin 96)
  /-- BUFFER_COMPLETE: head, group. -/
  | bufferComplete (t : Time) (h : HeadIx) (g : Fin 96)
  /-- EVALUATOR_RUN: head, group, the position of each corrected and of each uncorrectable bench error that detection reads. -/
  | evaluatorRun (t : Time) (h : HeadIx) (g : Fin 96) (corr bad : List (Fin 16))
  /-- FIELD_LINE_ARRIVAL: head, input, and to whom the line has come: evaluator, island A, island B. -/
  | fieldLineArrival (t : Time) (h : HeadIx) (n : Fin 1536) (bid : BitVec 20) (fab : Bool) (a b : LineRead)
  /-- RECORD_MOVE: head, and the group with the bench errors of its read. -/
  | recordMove (t : Time) (h : HeadIx) (g : BenchRead)
  /-- RECORD_DROP_DEADLINE: head, group. -/
  | recordDropDeadline (t : Time) (h : HeadIx) (g : Fin 96)
  /-- BEARING_STAGE_ARRIVAL: input, and whether the read was uncorrectable. -/
  | bearingStageArrival (t : Time) (n : Fin 1536) (uncorr : Bool)
  /-- BEARING_MERGE: group, how many corrected errors its record shows, and whether it shows an uncorrectable one. -/
  | bearingMerge (t : Time) (g : Fin 96) (corr : BitVec 8) (bad : Bool)
  /-- WRITE_BACK_COMPLETE: input. -/
  | writeBackComplete (t : Time) (n : Fin 1536)
  /-- TACH_EDGE: channel (false A, true B), taps of its cell at the capturing edge. -/
  | tachEdge (t : Time) (b : Bool) (taps : BitVec 288)
  /-- TACH_GATE_END -/
  | tachGateEnd (t : Time)
  /-- SPEED_VALID_TIMER -/
  | speedValidTimer (t : Time)
  /-- POINT_FORMAT: head. -/
  | pointFormat (t : Time) (h : HeadIx)
  /-- POINT_FRAME_FLUSH: stream, head whose open frame is due. -/
  | pointFrameFlush (t : Time) (str : Fin 16) (h : HeadIx)
  /-- GEOMETRY_REPEAT: stream. -/
  | geometryRepeat (t : Time) (str : Fin 16)
  /-- ALARM_FIELD_STATUS: head. -/
  | alarmFieldStatus (t : Time) (h : HeadIx)
  /-- EVENT_FRAME_QUEUE -/
  | eventFrameQueue (t : Time)
  /-- STATUS_FRAME -/
  | statusFrame (t : Time)
  /-- STREAM_DISABLE: stream. -/
  | streamDisable (t : Time) (str : Fin 16)
  /-- FRAME_TRANSMIT: port, queue. -/
  | frameTransmit (t : Time) (p : Fin 4) (q : Fin 8)
  /-- PRP_SUPERVISION -/
  | prpSupervision (t : Time)
  /-- NET_PRP_PLANE: the plane (0 LAN A on N0, 1 LAN B on N1). -/
  | netPrpPlane (t : Time) (p : Fin 2)
  /-- NET_LINK_DOWN: port. -/
  | netLinkDown (t : Time) (p : Fin 4)
  /-- NET_LINK_UP: port. -/
  | netLinkUp (t : Time) (p : Fin 4)
  /-- CAPTURE_STATUS_TICK -/
  | captureStatusTick (t : Time)
  /-- CAPTURE_FRAME_CLOSE: stream `k`. -/
  | captureFrameClose (t : Time) (k : Fin 4)
  /-- TRIG_IN_EDGE: input, falling or rising, taps of its cell at the capturing edge. -/
  | trigInEdge (t : Time) (idx : Fin 4) (fall : Bool) (taps : BitVec 288)
  /-- SEQUENCER_OCCURRENCE: sequencer `q`. -/
  | sequencerOccurrence (t : Time) (q : Fin 4)
  /-- SEQUENCER_TIMER_EXPIRY: sequencer `q`. -/
  | sequencerTimerExpiry (t : Time) (q : Fin 4)
  /-- TRIG_OUT_PULSE_END: the ball. -/
  | trigOutPulseEnd (t : Time) (idx : Fin 4)
  /-- REARM_END: sequencer `q`. -/
  | rearmEnd (t : Time) (q : Fin 4)
  /-- SEQUENCER_FORCE: sequencer `q`. -/
  | sequencerForce (t : Time) (q : Fin 4)
  /-- SEQUENCER_RESTART: sequencer `q`. -/
  | sequencerRestart (t : Time) (q : Fin 4)
  /-- SLOT_ARM: slot `i`. -/
  | slotArm (t : Time) (i : Fin 8)
  /-- SLOT_RELEASE: slot `i`. -/
  | slotRelease (t : Time) (i : Fin 8)
  /-- SLOT_FULL: slot `i`. -/
  | slotFull (t : Time) (i : Fin 8)
  /-- SERVO_SAMPLE: head, and whether the computation of each loop is complete in time. -/
  | servoSample (t : Time) (h : HeadIx) (doneX doneY : Bool)
  /-- SERVO_OVERRUN: head, axis (false X, true Y). -/
  | servoOverrun (t : Time) (h : HeadIx) (y : Bool)
  /-- FEEDBACK_LOST: head, axis. -/
  | feedbackLost (t : Time) (h : HeadIx) (y : Bool)
  /-- FAULT_PARK_HOLD_END: head. -/
  | faultParkHoldEnd (t : Time) (h : HeadIx)
  /-- PARK_TIMEOUT: head. -/
  | parkTimeout (t : Time) (h : HeadIx)
  /-- SERVO_OFFSET_CAL_PHASE_END: head. -/
  | servoOffsetCalPhaseEnd (t : Time) (h : HeadIx)
  /-- EXCITATION_LEVEL_WRITE: interface, head, level. -/
  | excitationLevelWrite (t : Time) (i : Iface) (h : HeadIx) (level : BitVec 2)
  /-- EXCITATION_HOLD_END: head. -/
  | excitationHoldEnd (t : Time) (h : HeadIx)
  /-- COEF_BANK_WRITE: head, axis, bank, word of the bank, value. -/
  | coefBankWrite (t : Time) (h : HeadIx) (a k : Fin 2) (i : Fin 8) (v : Word)
  /-- SD_BLOCK_RECEIVE: head, cell SEQ, how it came, block counter, X and Y stream (bit 0 the oldest). -/
  | sdBlockReceive (t : Time) (h : HeadIx) (seq : BitVec 4) (rx : LinkRx) (ctr : BitVec 6) (x y : BitVec 64)
  /-- HK_UP_RECEIVE: head, how it came, and the (index, value) pairs of the cell. -/
  | hkUpReceive (t : Time) (h : HeadIx) (rx : LinkRx) (values : List (BitVec 8 × BitVec 24))
  /-- MGMT_UP_RECEIVE: head, how it came, status, data, tag. -/
  | mgmtUpReceive (t : Time) (h : HeadIx) (rx : LinkRx) (status : BitVec 8) (data : Word) (tag : BitVec 16)
  /-- ENERGY_MONITOR_SAMPLE: head, the shot (none for a proof pulse), the code, and what the accountant memory shows. -/
  | energyMonitorSample (t : Time) (h : HeadIx) (shot : Option (BitVec 12)) (code : BitVec 14) (ecc : EyeEcc)
  /-- EYE_BUCKET_ADVANCE: head, window, and what the accountant memory shows. -/
  | eyeBucketAdvance (t : Time) (h : HeadIx) (w : Fin 4) (ecc : EyeEcc)
  /-- EYE_LATCH_CLEAR: head. -/
  | eyeLatchClear (t : Time) (h : HeadIx)
  /-- ZERO_CAL_COMPLETE: head and the 256 codes. -/
  | zeroCalComplete (t : Time) (h : HeadIx) (codes : List (BitVec 14))
  /-- SAFETY_DECISION: head, on the slow path, and whether the exchange of the islands shows a difference or a missing result. -/
  | safetyDecision (t : Time) (h : HeadIx) (slow differ : Bool)
  /-- DECISION_DEADLINE: head, and the islands that have no evaluated returns. -/
  | decisionDeadline (t : Time) (h : HeadIx) (a b : Bool)
  /-- SAFETY_TICK: the levels sampled. -/
  | safetyTick (t : Time) (v : SafeLevels)
  /-- SAFE_CLOCK_CHECK: island (false A, true B), and its rate against DT, as the difference in 0.01 %. -/
  | safeClockCheck (t : Time) (b : Bool) (dev : BitVec 16)
  /-- DT_ADVANCE_TIMEOUT: island. -/
  | dtAdvanceTimeout (t : Time) (b : Bool)
  /-- INPUT_FILTER_CHANGE: channel (SI_A[n] 2n, SI_B[n] 2n + 1, SAFE_RST_A 16, SAFE_RST_B 17), raw level. -/
  | inputFilterChange (t : Time) (c : Fin 18) (level : Bool)
  /-- TEST_PULSE: the supply, whose low pulse ends. -/
  | testPulse (t : Time) (k : Fin 4)
  /-- DISCREPANCY_TIMEOUT: input. -/
  | discrepancyTimeout (t : Time) (n : Fin 8)
  /-- FIELD_CODE_HOLD -/
  | fieldCodeHold (t : Time)
  /-- RESET_ACCEPT: whether both islands judge the attempt alike. -/
  | resetAccept (t : Time) (same : Bool)
  /-- RST_STUCK: reset channel. -/
  | rstStuck (t : Time) (c : Fin 2)
  /-- OSSD_ON_DELAY_EXPIRY: pair. -/
  | ossdOnDelayExpiry (t : Time) (m : Fin 4)
  /-- HEAD_STALE: head. -/
  | headStale (t : Time) (h : HeadIx)
  /-- OSSD_TEST_START: pair, island. -/
  | ossdTestStart (t : Time) (m : Fin 4) (b : Bool)
  /-- OSSD_TEST_END: pair, island. -/
  | ossdTestEnd (t : Time) (m : Fin 4) (b : Bool)
  /-- CMD_NOP: connection, ingress stamp, SEQ, ARG0, ARG1, and whether both islands accept a message that passes. -/
  | cmdNop (t : Time) (c : Fin 4) (stamp : Time) (seq arg0 arg1 : Word) (both : Bool)
  /-- CMD_FIELD_SELECT: as CMD_NOP. -/
  | cmdFieldSelect (t : Time) (c : Fin 4) (stamp : Time) (seq arg0 arg1 : Word) (both : Bool)
  /-- CMD_OVERRIDE: as CMD_NOP. -/
  | cmdOverride (t : Time) (c : Fin 4) (stamp : Time) (seq arg0 arg1 : Word) (both : Bool)
  /-- CMD_SPEED_PLAUS: as CMD_NOP. -/
  | cmdSpeedPlaus (t : Time) (c : Fin 4) (stamp : Time) (seq arg0 arg1 : Word) (both : Bool)
  /-- CONN_TIMEOUT: connection. -/
  | connTimeout (t : Time) (c : Fin 4)
  /-- HEARTBEAT_SEND -/
  | heartbeatSend (t : Time)
  /-- HEARTBEAT_RECEIVE: pair port, how it came, the heartbeat, and the state catch-up where it has come. -/
  | heartbeatReceive (t : Time) (p : Fin 2) (rx : LinkRx) (hb : Heartbeat) (join : Option JoinState)
  /-- HEARTBEAT_LOST -/
  | heartbeatLost (t : Time)
  /-- PAIR_JOIN_TIMEOUT -/
  | pairJoinTimeout (t : Time)
  /-- TOKEN_CLAIM -/
  | tokenClaim (t : Time)
  /-- TOKEN_INHIBIT_CLEAR -/
  | tokenInhibitClear (t : Time)
  /-- TOKEN_IN_CHANGE: levels of TOKEN_IN_A and TOKEN_IN_B. -/
  | tokenInChange (t : Time) (a b : Bool)
  /-- TOKEN_RETRY -/
  | tokenRetry (t : Time)
  /-- HOLDER_HB_SILENCE: island (false A, true B). -/
  | holderHbSilence (t : Time) (b : Bool)
  /-- PAIR_HANDOVER: interface. -/
  | pairHandover (t : Time) (i : Iface)
  /-- PAIR_REJOIN -/
  | pairRejoin (t : Time)
  /-- DIGEST_RECEIVE: pair port, how it came, the digest. -/
  | digestReceive (t : Time) (p : Fin 2) (rx : LinkRx) (d : Digest)
  /-- DIGEST_TIMEOUT: head. -/
  | digestTimeout (t : Time) (h : HeadIx)
  /-- CATCHUP_RECORD: pair port, how it came, BID and record. -/
  | catchupRecord (t : Time) (p : Fin 2) (rx : LinkRx) (bid : BitVec 20) (record : List Byte)
  /-- BEACON_SEND -/
  | beaconSend (t : Time)
  /-- BEACON_RECEIVE: where it comes from, header, master DID, plan generation, members. -/
  | beaconReceive (t : Time) (via : DomVia) (hdr : DomHdr) (master : BitVec 14) (gen : Word) (members : BitVec 15)
  /-- BEACON_TIMEOUT -/
  | beaconTimeout (t : Time)
  /-- MARKER_SEND: cascade port, fine part of the departure. -/
  | markerSend (t : Time) (c : Fin 4) (fine : BitVec 8)
  /-- MARKER_RECEIVE: cascade port, how it came, header, fine part of the stamp, time from it to the child's answer (1/256
  ns), and the phase of a common edge of the two clocks against the 5 ns grid (1/256 ns). -/
  | markerReceive (t : Time) (c : Fin 4) (rx : LinkRx) (hdr : DomHdr) (fine : BitVec 8) (turn : Word) (phase : BitVec 16)
  /-- MARKER_FU_RECEIVE: cascade port, how it came, header, t1 and t4 in 1/256 ns. -/
  | markerFuReceive (t : Time) (c : Fin 4) (rx : LinkRx) (hdr : DomHdr) (t1 t4 : BitVec 72)
  /-- JOIN_SEND -/
  | joinSend (t : Time)
  /-- JOIN_RECEIVE: where from, header, preferred DID (none for any), depth, heads. -/
  | joinReceive (t : Time) (via : DomVia) (hdr : DomHdr) (pref : Option (BitVec 14)) (depth : BitVec 4) (heads : BitVec 16)
  /-- ADMIT_RECEIVE: where from, header, serial of the device addressed, outcome. -/
  | admitReceive (t : Time) (via : DomVia) (hdr : DomHdr) (serial : BitVec 64) (a : Admit)
  /-- ROLL_SEND -/
  | rollSend (t : Time)
  /-- ROLL_RECEIVE: where from, header. -/
  | rollReceive (t : Time) (via : DomVia) (hdr : DomHdr)
  /-- ROLL_ANS_RECEIVE: where from, header, DID, serial, role, depth, heads in use. -/
  | rollAnsReceive (t : Time) (via : DomVia) (hdr : DomHdr) (did : BitVec 14) (serial : BitVec 64) (role : BitVec 2)
      (depth : BitVec 4) (heads : BitVec 16)
  /-- PLAN_RECEIVE: where from, header, generation, effective DT, entries. -/
  | planReceive (t : Time) (via : DomVia) (hdr : DomHdr) (gen : Word) (eff : Time) (entries : List PlanEntry)
  /-- TABLE_RECEIVE: where from, header, the change. -/
  | tableReceive (t : Time) (via : DomVia) (hdr : DomHdr) (op : TableOp)
  /-- NOTICE_RECEIVE: where from, header, head of the owner, the notice. -/
  | noticeReceive (t : Time) (via : DomVia) (hdr : DomHdr) (owner : HeadIx) (n : Notice)
  /-- NOTICE_DEADLINE: head. -/
  | noticeDeadline (t : Time) (h : HeadIx)
  /-- SYNC_REQ_RECEIVE: where from, header, DT named. -/
  | syncReqReceive (t : Time) (via : DomVia) (hdr : DomHdr) (at_ : Time)
  /-- DIVIDER_RESET -/
  | dividerReset (t : Time)
  /-- SYNC_IN_EDGE -/
  | syncInEdge (t : Time)
  /-- DID_RESERVATION_EXPIRY: DID. -/
  | didReservationExpiry (t : Time) (did : BitVec 14)
  /-- HOLDOVER_LONG -/
  | holdoverLong (t : Time)
  /-- HOLD_ALIGN_EXPIRY -/
  | holdAlignExpiry (t : Time)
  /-- MEM_REQUEST_ISSUE: the request. -/
  | memRequestIssue (t : Time) (r : MemReq)
  /-- MEM_READ_COMPLETE: port, address of the unit, severity; and whether the copy of a table unit in the other stack is
  uncorrectable too. -/
  | memReadComplete (t : Time) (p : Fin 10) (addr : BitVec 35) (sev : MemSev) (other : Bool)
  /-- RETRAIN_PAUSE: pseudo-channel, and the new settings; none when the retraining fails. -/
  | retrainPause (t : Time) (pc : Fin 64) (res : Option Word)
  /-- SELF_REFRESH_ENTRY: channel, 16 × stack + channel. -/
  | selfRefreshEntry (t : Time) (c : Fin 32)
  /-- RATE_CHANGE_REQUEST: interface of a MEM_CTL write (none: Nichrome), rate (true 4.8 Gb/s). -/
  | rateChangeRequest (t : Time) (i : Option Iface) (slow : Bool)
  /-- STACK_RATE_CHANGE: stack. -/
  | stackRateChange (t : Time) (st : Fin 2)
  /-- SCRUB_UNIT: severity of the unit, and whether its owner has written it since the scrubber's read. -/
  | scrubUnit (t : Time) (sev : MemSev) (written : Bool)
  /-- WIPE_COMPLETE -/
  | wipeComplete (t : Time)
  /-- HBM_PLL_LOSS_OF_LOCK: stack. -/
  | hbmPllLossOfLock (t : Time) (st : Fin 2)
  /-- LANE_TRAIN_TIMEOUT: quad, lane. -/
  | laneTrainTimeout (t : Time) (q : Fin 36) (l : Fin 4)
  /-- CODEWORD_LOCK: quad, lane, and the logical position read from the masks (0xF outside the stripe). -/
  | codewordLock (t : Time) (q : Fin 36) (l : Fin 4) (pos : BitVec 4)
  /-- LANE_FAILURE: quad, lane, cause. -/
  | laneFailure (t : Time) (q : Fin 36) (l : Fin 4) (c : LaneCause)
  /-- LINK_REPORT_SEND: port (Nolaetus ports: H0 to H15, C0 to C3, K0 to K3, P0, P1). -/
  | linkReportSend (t : Time) (p : Fin 26)
  /-- LINK_REPORT_RECEIVE: port, CRC right, the far end's RX_OK. -/
  | linkReportReceive (t : Time) (p : Fin 26) (good : Bool) (rxOk : BitVec 8)
  /-- TRANSMIT_SET_APPLY: port. -/
  | transmitSetApply (t : Time) (p : Fin 26)
  /-- HEADLINK_FAULT: head. -/
  | headlinkFault (t : Time) (h : HeadIx)
  /-- LANE_READD: quad, lane. -/
  | laneReadd (t : Time) (q : Fin 36) (l : Fin 4)
  /-- LANE_READD_WRITE: interface, quad, READD. -/
  | laneReaddWrite (t : Time) (i : Iface) (q : Fin 36) (lanes : BitVec 4)
  /-- REFCLK_LOSS -/
  | refclkLoss (t : Time)
  /-- REFCLK_GOOD -/
  | refclkGood (t : Time)
  /-- TIMING_PLL_LOSS_OF_LOCK -/
  | timingPllLossOfLock (t : Time)
  /-- TIMING_PLL_RELOCK -/
  | timingPllRelock (t : Time)
  /-- LOGIC_PLL_LOSS_OF_LOCK -/
  | logicPllLossOfLock (t : Time)
  /-- LOGIC_PLL_RELOCK -/
  | logicPllRelock (t : Time)
  /-- LANE_REF_LOSS: lane reference pair. -/
  | laneRefLoss (t : Time) (i : Fin 9)
  /-- LANE_REF_RETURN: lane reference pair. -/
  | laneRefReturn (t : Time) (i : Fin 9)
  /-- TIMING_PLL_BYPASS: interface, TPLL_BYP. -/
  | timingPllBypass (t : Time) (i : Iface) (on : Bool)
  /-- LOGIC_PLL_BYPASS: interface, LPLL_BYP. -/
  | logicPllBypass (t : Time) (i : Iface) (on : Bool)
  /-- STEWARD_STEP -/
  | stewardStep (t : Time)
  /-- THERMAL_ROUND: the 48 sensor readings, index 0 first, and the two stack temperatures in 1/16 °C. -/
  | thermalRound (t : Time) (readings : List SensorReading) (hbm0 hbm1 : BitVec 16)
  /-- THERMAL_SHUTDOWN -/
  | thermalShutdown (t : Time)
  /-- THERMAL_HOLD_RELEASE -/
  | thermalHoldRelease (t : Time)
  /-- HEAD_TEMP_TIMEOUT: head `h`. -/
  | headTempTimeout (t : Time) (h : HeadIx)
  /-- HK_CONVERSION_COMPLETE: mean input voltage and reference voltage in nV (signed), whether the integrator saturated, and
  whether the excitation left its compliance. -/
  | hkConversionComplete (t : Time) (v ref : BitVec 48) (swing compl : Bool)
  /-- HK_URGENT_REQUEST: interface, URG_ENTRY. -/
  | hkUrgentRequest (t : Time) (i : Iface) (e : Fin 16)
  /-- HK_SINGLE_START: interface. -/
  | hkSingleStart (t : Time) (i : Iface)
  /-- HK_CALIBRATE: interface (none: at boot), and the eight codes that a gain correction of 1 would give. -/
  | hkCalibrate (t : Time) (i : Option Iface) (codes : List (BitVec 24))
  /-- HK_MODE_WRITE: interface, MODE (true SEQUENCE). -/
  | hkModeWrite (t : Time) (i : Iface) (seq : Bool)
  /-- HK_CLAMP_CONDUCT: HK_IN. -/
  | hkClampConduct (t : Time) (n : Fin 64)
  /-- FUSE_LOAD_COMPLETE: the factory's contents of fuses not yet loaded, and the manifests of slots A and B where a header can
  be read. -/
  | fuseLoadComplete (t : Time) (factory : Fuses) (a b : Option Manifest)
  /-- HBM_TRAINING_COMPLETE: settings found for 6.4 Gb/s and for 4.8 Gb/s, pseudo-channel 0 first. -/
  | hbmTrainingComplete (t : Time) (fast slow : List Word)
  /-- SLOT_READ_COMPLETE: what reading the slot shows. -/
  | slotReadComplete (t : Time) (r : SlotRead)
  /-- SEAL -/
  | seal (t : Time)
  /-- ROLLBACK_AUTO_COMMIT -/
  | rollbackAutoCommit (t : Time)
  /-- ATTEST_REQUEST: interface. -/
  | attestRequest (t : Time) (i : Iface)
  /-- ATTEST_COMPLETE: what Electrum's units form. -/
  | attestComplete (t : Time) (x : Signed)
  /-- HELLO_RECEIVE: network port (none: the recovery port), certificate. -/
  | helloReceive (t : Time) (p : Option (Fin 4)) (c : Cert)
  /-- AUTH_RECEIVE: whether both signatures verify. -/
  | authReceive (t : Time) (good : Bool)
  /-- REG_READ: record, address, COUNT. -/
  | regRead (t : Time) (r : SessRec) (addr : Word) (count : BitVec 16)
  /-- REG_WRITE: record, address, words. -/
  | regWrite (t : Time) (r : SessRec) (addr : Word) (words : List Word)
  /-- SNAP_READ: record, slot, GEN, first frame from FIRST, count. -/
  | snapRead (t : Time) (r : SessRec) (i : Fin 8) (gen first count : Word)
  /-- ATTEST: record, what Electrum's units form. -/
  | attest (t : Time) (r : SessRec) (x : Signed)
  /-- FLASH_ERASE: record, flash address. -/
  | flashErase (t : Time) (r : SessRec) (addr : Word)
  /-- FLASH_WRITE: record, flash address, data, whether the flash programs and reads back as written. -/
  | flashWrite (t : Time) (r : SessRec) (addr : Word) (data : List Byte) (good : Bool)
  /-- FLASH_READ: record, flash address, bytes. -/
  | flashRead (t : Time) (r : SessRec) (addr : Word) (n : BitVec 16)
  /-- HEAD_ENABLE: record, heads. -/
  | headEnable (t : Time) (r : SessRec) (heads : BitVec 16)
  /-- LC_CHANGE: record, target state, the seeds that the entropy source gives. -/
  | lcChange (t : Time) (r : SessRec) (target : BitVec 3) (seedEd seedMl : BitVec 256)
  /-- ROLLBACK_COMMIT: record. -/
  | rollbackCommit (t : Time) (r : SessRec)
  /-- ROOT_PROGRAM: record, owner root, SHA-384 of its keys. -/
  | rootProgram (t : Time) (r : SessRec) (i : Fin 2) (hash : BitVec 384)
  /-- ROOT_REVOKE: record, root in the order of Table 20.4. -/
  | rootRevoke (t : Time) (r : SessRec) (i : Fin 4)
  /-- CLOSE: record. -/
  | close (t : Time) (r : SessRec)
  /-- SESSION_LOST -/
  | sessionLost (t : Time)
  /-- SESSION_EXPIRY -/
  | sessionExpiry (t : Time)
  /-- HOST_REGISTER_WRITE: interface, address, word. -/
  | hostRegisterWrite (t : Time) (i : Iface) (addr v : Word)
  /-- MSPI_READ: address, LEN_M1, wait bytes until the words have been fetched. -/
  | mspiRead (t : Time) (addr : Word) (lenM1 waits : BitVec 8)
  /-- MSPI_WRITE: address, LEN_M1, words, CRC. -/
  | mspiWrite (t : Time) (addr : Word) (lenM1 : BitVec 8) (words : List Word) (crc : BitVec 16)
  /-- MSPI_STATUS -/
  | mspiStatus (t : Time)
  /-- MSPI_ABORT -/
  | mspiAbort (t : Time)
  /-- NET_FRAME_RECEIVE: network port, frame. -/
  | netFrameReceive (t : Time) (p : Fin 4) (x : NetRx)
deriving DecidableEq, Repr

end Sys2Proof
end

