-- ==== Sys2Proof/Decode.lean ====
section
/-! DEFINITION. The command that a word spells by the bits of the table of operations and events: the table gives no row any
bits (every row's list of fields is empty), so no word spells a command. -/

namespace Sys2Proof

/-- No row of the table has bits. [DESIGN CHOICE, log 7] -/
def decodeTableWord (_nbits _w : Nat) : Option Instr := none

end Sys2Proof
end

