-- ==== Sys2Proof/Config.lean ====
section
/-! DEFINITION. What the spec leaves open: free values, constants without a body. No proof can see what one is, so a
claim about them holds whatever they are. A free value that may differ from one occasion to the next is applied to the
counter `State.free`, which the step that uses it advances. -/

namespace Sys2Proof.Config

/-- Bits that the spec leaves open, one draw for each value of the counter. [DESIGN CHOICE, log 2] -/
opaque freeBits : Nat → BitVec 64

/-- The temperature in m°C of a thermocouple entry, from its curve (Table 19.3), RAW, gain and cold-junction temperature in
m°C; none outside the range. The spec names the reference functions of IEC 60584 and does not hold them (R454).
[DESIGN CHOICE, log 103] -/
opaque thermocouple : Nat → Int → Nat → Int → Option Int

/-- Word `w` of SEC_IDPUB for the two identity seeds (R475): key generation of Ed25519 and ML-DSA-65, which the spec names
and does not describe. [DESIGN CHOICE, log 130] -/
opaque identityKey : Nat → Nat → Nat → BitVec 32

/-- Is a quotient of a number and a divisor, which is not whole, rounded up? For a value that several readers form from the same
data (R191). [DESIGN CHOICE, log 150] -/
opaque roundUp : Int → Nat → Bool

/-- The VLAN tag of the frames that no stream carries (R230): 0 alarm frames, 1 IEEE 802.1AS, 2 address resolution and
supervision. [DESIGN CHOICE, log 72] -/
opaque ownTag : Nat → BitVec 16

/-- Where an island sends its alarm frames: from bit 0 on the destination MAC address (48 bits), UDP source and destination
port, DSCP and TTL code, IPv6 (1 bit), destination IP address (128 bits). [DESIGN CHOICE, log 72] -/
opaque alarmAddress : Bool → BitVec 217

/-- The direction in the geometry table of a bearing for which the image holds none (R219): unit vector and cosine, by head,
set-point and input. [DESIGN CHOICE, log 161] -/
opaque direction : Nat → Nat → Nat → BitVec 64

end Sys2Proof.Config
end

