-- ==== Sys2Proof/Machine/Bits.lean ====
section
/-! DEFINITION. Bit fields, sign extension, byte order, saturation and the small number helpers that the meanings
share. Numbers are exact (Nat, Int) and are narrowed where a rule gives a width. -/

namespace Sys2Proof.Machine

/-- The bits `hi` down to `lo` of a number. -/
def bits (n hi lo : Nat) : Nat := n / 2 ^ lo % 2 ^ (hi - lo + 1)

/-- Bit `i` of a number. -/
def bit (n i : Nat) : Bool := n / 2 ^ i % 2 == 1

/-- A flag as a one-bit field. -/
def flag (b : Bool) : Nat := if b then 1 else 0

/-- Put `v` (narrowed to the field) in bits `hi` down to `lo` of `n`. -/
def putBits (n hi lo v : Nat) : Nat :=
  n / 2 ^ (hi + 1) * 2 ^ (hi + 1) + v % 2 ^ (hi - lo + 1) * 2 ^ lo + n % 2 ^ lo

/-- The signed number that a `w`-bit field spells (R3: two's complement). -/
def sext (w n : Nat) : Int :=
  let m := n % 2 ^ w
  if m < 2 ^ (w - 1) then (m : Int) else (m : Int) - (2 ^ w : Nat)

/-- The `w`-bit field that spells a signed number, wrapping. -/
def wrapS (w : Nat) (v : Int) : Nat := (v % (2 ^ w : Nat)).toNat

/-- Clamp to a `w`-bit signed range. -/
def satS (w : Nat) (v : Int) : Int :=
  max (-(2 ^ (w - 1) : Nat) : Int) (min v ((2 ^ (w - 1) : Nat) - 1))

/-- Clamp to a `w`-bit unsigned range. -/
def satU (w n : Nat) : Nat := min n (2 ^ w - 1)

/-- Clamp a signed number to a `w`-bit unsigned range. -/
def satUI (w : Nat) (v : Int) : Nat := min v.toNat (2 ^ w - 1)

/-- Clamp between two bounds. -/
def clampI (lo hi v : Int) : Int := max lo (min v hi)

/-- Division rounded down, of signed numbers by a positive one. -/
def floorDiv (a : Int) (b : Nat) : Int := Int.fdiv a (b : Int)

/-- Division rounded up. -/
def ceilDiv (a b : Nat) : Nat := (a + b - 1) / b

/-- Arithmetic shift right by `k` bits, rounding down. -/
def asr (a : Int) (k : Nat) : Int := Int.fdiv a ((2 ^ k : Nat) : Int)

/-- The integer square root, rounded down, by a digit at a time. -/
def isqrtAux : Nat → Nat → Nat → Nat
  | 0, _, r => r
  | k + 1, n, r => if (r + 2 ^ k) * (r + 2 ^ k) ≤ n then isqrtAux k n (r + 2 ^ k) else isqrtAux k n r

/-- The integer square root of a number below 2^128, rounded down. -/
def isqrt (n : Nat) : Nat := isqrtAux 64 n 0

/-- How many bits of a number below `2 ^ w` are set. -/
def popcount : Nat → Nat → Nat
  | 0, _ => 0
  | w + 1, n => n % 2 + popcount w (n / 2)

/-- The indices below `n` for which `p` holds. -/
def indices (n : Nat) (p : Nat → Bool) : List Nat := (List.range n).filter p

/-- The mask with bit `i` set for each index below `n` for which `p` holds. -/
def maskOf (n : Nat) (p : Nat → Bool) : Nat :=
  (List.range n).foldl (fun acc i => if p i then acc + 2 ^ i else acc) 0

/-- The sum of `f` over the indices below `n`. -/
def sumTo (n : Nat) (f : Nat → Nat) : Nat := (List.range n).foldl (fun acc i => acc + f i) 0

/-- The sum of signed `f` over the indices below `n`. -/
def sumToI (n : Nat) (f : Nat → Int) : Int := (List.range n).foldl (fun acc i => acc + f i) 0

/-- The `n` bytes of a number, least significant first (R3). -/
def bytesLE : Nat → Nat → List Byte
  | 0, _ => []
  | n + 1, v => BitVec.ofNat 8 v :: bytesLE n (v / 256)

/-- The number that bytes spell, least significant first (R3). -/
def ofBytesLE : List Byte → Nat
  | [] => 0
  | b :: bs => b.toNat + 256 * ofBytesLE bs

/-- One bit step of a CRC-16 with polynomial 0x1021. -/
def crc16Bit (c : Nat) : Nat :=
  if c / 0x8000 % 2 = 1 then (c * 2 % 0x10000) ^^^ 0x1021 else c * 2 % 0x10000

/-- CRC-16 with polynomial 0x1021, most significant bit first, over bytes, from a start value. -/
def crc16From : Nat → List Byte → Nat
  | c, [] => c
  | c, b :: bs =>
    let c0 := c ^^^ (b.toNat * 256)
    crc16From (crc16Bit (crc16Bit (crc16Bit (crc16Bit (crc16Bit (crc16Bit (crc16Bit (crc16Bit c0)))))))) bs

/-- The CRC-16 of R136 and R497: initial value 0xFFFF, no final XOR. -/
def crc16 (bs : List Byte) : Nat := crc16From 0xFFFF bs

/-- One bit step of the reflected CRC-32 of IEEE 802.3. -/
def crc32Bit (c : Nat) : Nat := if c % 2 = 1 then (c / 2) ^^^ 0xEDB88320 else c / 2

/-- The CRC-32 register of IEEE 802.3 over bytes, from a start value. -/
def crc32From : Nat → List Byte → Nat
  | c, [] => c
  | c, b :: bs =>
    let c0 := c ^^^ b.toNat
    crc32From (crc32Bit (crc32Bit (crc32Bit (crc32Bit (crc32Bit (crc32Bit (crc32Bit (crc32Bit c0)))))))) bs

/-- The CRC-32 of IEEE 802.3. -/
def crc32 (bs : List Byte) : Nat := crc32From 0xFFFFFFFF bs ^^^ 0xFFFFFFFF

/-- A number in network byte order. -/
def be (n v : Nat) : List Byte := (bytesLE n v).reverse

end Sys2Proof.Machine
end

