-- ==== Sys2Proof/Machine/Events.lean ====
section
/-! DEFINITION. The event catalogue (R11, R490, Table 21.4): one constructor per event of the event tables of the
owning chapters, with its code and reaction class (Table 0.8). -/

namespace Sys2Proof.Machine

/-- The events the device raises (R490). -/
inductive Event where
  /-- 0x0101 BOOT_SLOT_FAIL, LOG. 20_boot_security.md: A slot failed; the argument holds slot and cause (R470). -/
  | bootSlotFail
  /-- 0x0102 BOOT_FALLBACK, LOG. 20_boot_security.md: Second candidate sealed (R472). -/
  | bootFallback
  /-- 0x0103 BOOT_NO_IMAGE, SAFE. 20_boot_security.md: No slot passed (R472). -/
  | bootNoImage
  /-- 0x0104 ROLLBACK_ADVANCED, LOG. 20_boot_security.md: Counter advanced (R471). -/
  | rollbackAdvanced
  /-- 0x0105 SESSION_OPEN, LOG. 20_boot_security.md: Session opened (R478). -/
  | sessionOpen
  /-- 0x0106 SESSION_AUTH_FAIL, LOG. 20_boot_security.md: Handshake check failed (R478). -/
  | sessionAuthFail
  /-- 0x0107 SESSION_END, LOG. 20_boot_security.md: Session ended (R479). -/
  | sessionEnd
  /-- 0x0108 LC_CHANGE, LOG. 20_boot_security.md: Life-cycle stage programmed (R483). -/
  | lcChange
  /-- 0x0109 FUSE_REFUSED, LOG. 20_boot_security.md: Fuse step refused (R482). -/
  | fuseRefused
  /-- 0x0201 PWR_CUT, DEGRADE. 18_power_thermal.md: Thermal cut began (R440). -/
  | pwrCut
  /-- 0x0202 PWR_STARVE, LOG. 18_power_thermal.md: Request deferred beyond STARVE (R431). -/
  | pwrStarve
  /-- 0x0203 PWR_SUPPLY_SHORT, LOG. 18_power_thermal.md: Pool short at dwell open (R434). -/
  | pwrSupplyShort
  /-- 0x0301 THM_WARN, LOG. 18_power_thermal.md: Table 18.2. -/
  | thmWarn
  /-- 0x0302 THM_LIMIT, INHIBIT. 18_power_thermal.md: Table 18.2. -/
  | thmLimit
  /-- 0x0303 THM_RISE, LOG. 18_power_thermal.md: Table 18.2. -/
  | thmRise
  /-- 0x0304 THM_RISE_CUT, INHIBIT. 18_power_thermal.md: Table 18.2. -/
  | thmRiseCut
  /-- 0x0305 THM_TRIPPED, LOG. 18_power_thermal.md: Boot after a hardware shutdown (R441). -/
  | thmTripped
  /-- 0x0306 THM_SENSOR_FAIL, DEGRADE. 18_power_thermal.md: Faulty sensor (R437). -/
  | thmSensorFail
  /-- 0x0307 THM_HEAD_RANGE, INHIBIT. 18_power_thermal.md: Head outside its range (R444). -/
  | thmHeadRange
  /-- 0x0308 THM_HBM_RELIEF, LOG. 18_power_thermal.md: Table 18.2. -/
  | thmHbmRelief
  /-- 0x0309 THM_WRITE_REFUSED, LOG. 18_power_thermal.md: Write outside its window (R443). -/
  | thmWriteRefused
  /-- 0x030A THM_COLD, LOG. 18_power_thermal.md: Table 18.2. -/
  | thmCold
  /-- 0x0401 CLK_REFCLK_LOSS, INHIBIT. 17_clocks.md: REFCLK lost (R413). -/
  | clkRefclkLoss
  /-- 0x0402 CLK_TPLL_LOL, INHIBIT. 17_clocks.md: Timing PLL unlocked (R424). -/
  | clkTpllLol
  /-- 0x0403 CLK_LPLL_LOL, SAFE. 17_clocks.md: Logic PLL unlocked (R424). -/
  | clkLpllLol
  /-- 0x0404 CLK_HBM_PLL_LOL, LOG. 17_clocks.md: HBM PLL unlocked (R424). -/
  | clkHbmPllLol
  /-- 0x0405 CLK_LREF_LOSS, LOG. 17_clocks.md: Lane reference pair lost (R423). -/
  | clkLrefLoss
  /-- 0x0406 CLK_DISC_LIMIT, LOG. 17_clocks.md: ADJ clamped (R417). -/
  | clkDiscLimit
  /-- 0x0407 CLK_HOLDOVER, LOG. 17_clocks.md: Holdover entered (R419). -/
  | clkHoldover
  /-- 0x0408 CLK_DT_STEP, LOG. 17_clocks.md: DT stepped (R418). -/
  | clkDtStep
  /-- 0x0501 HK_OVR, LOG. 19_housekeeping.md: First invalid result of an entry after a valid one (R450). -/
  | hkOvr
  /-- 0x0502 HK_CLAMP, LOG. 19_housekeeping.md: Clamp conducted (R451). -/
  | hkClamp
  /-- 0x0503 HK_OPEN, LOG. 19_housekeeping.md: Open input with burn-out (R452). -/
  | hkOpen
  /-- 0x0504 HK_COMPL, LOG. 19_housekeeping.md: Excitation out of compliance (R453). -/
  | hkCompl
  /-- 0x0505 HK_CAL_FAIL, DEGRADE. 19_housekeeping.md: Gain correction out of limits (R461). -/
  | hkCalFail
  /-- 0x0506 HK_URGENT_ABORT, LOG. 19_housekeeping.md: Step aborted for an urgent conversion (R459). -/
  | hkUrgentAbort
  /-- 0x0601 SAFE_CLOCK, SAFE. 12_safety_io.md: Oscillator or DT supervision failed (R298). -/
  | safeClock
  /-- 0x0602 SAFE_ISLAND_DISAGREE, SAFE. 12_safety_io.md: Island results differ (R301, R325). -/
  | safeIslandDisagree
  /-- 0x0603 SAFE_OSSD_FAULT, SAFE. 12_safety_io.md: OSSD channel fault (R307). -/
  | safeOssdFault
  /-- 0x0604 SI_ESTOP, SAFE. 12_safety_io.md: ESTOP input open (R314). -/
  | siEstop
  /-- 0x0605 SI_DISCREPANCY, DEGRADE. 12_safety_io.md: DISC fault (R312). -/
  | siDiscrepancy
  /-- 0x0606 SI_CROSS, DEGRADE. 12_safety_io.md: CROSS fault (R310). -/
  | siCross
  /-- 0x0607 SI_DOOR, LOG. 12_safety_io.md: MAINT_DOOR opened (R314). -/
  | siDoor
  /-- 0x0608 SI_FSEL_INVALID, LOG. 12_safety_io.md: Input field code invalid (R315). -/
  | siFselInvalid
  /-- 0x0609 RST_INVALID, LOG. 12_safety_io.md: Reset refused (R317, R318). -/
  | rstInvalid
  /-- 0x060A RST_STUCK, DEGRADE. 12_safety_io.md: Reset channel closed for 5 s (R319). -/
  | rstStuck
  /-- 0x060B CONN_TIMEOUT, DEGRADE. 12_safety_io.md: Connection deadline passed (R324). -/
  | connTimeout
  /-- 0x060C CMD_REJECT, LOG. 12_safety_io.md: Command failed check 3 (R323). -/
  | cmdReject
  /-- 0x060D SAFE_FIELD_CHECK, LOG. 12_safety_io.md: Field line missing or failed (R300). -/
  | safeFieldCheck
  /-- 0x060E SAFE_DECISION_MISS, LOG. 12_safety_io.md: Decision forced under R22. -/
  | safeDecisionMiss
  /-- 0x0701 PAIR_HB_LOST, DEGRADE. 13_twin_pair.md: Heartbeat lost (R336). -/
  | pairHbLost
  /-- 0x0702 PAIR_TAKEOVER, LOG. 13_twin_pair.md: Token taken (R349). -/
  | pairTakeover
  /-- 0x0703 PAIR_HANDOVER, LOG. 13_twin_pair.md: Token handed over (R344). -/
  | pairHandover
  /-- 0x0704 PAIR_DIGEST_MISMATCH, LOG. 13_twin_pair.md: Dwell mismatch (R342). -/
  | pairDigestMismatch
  /-- 0x0705 PAIR_DIVERGED, DEGRADE. 13_twin_pair.md: Divergence limit exceeded (R340, R342). -/
  | pairDiverged
  /-- 0x0706 PAIR_TOKEN_FAULT, DEGRADE. 13_twin_pair.md: Token drive and reading differ (R337). -/
  | pairTokenFault
  /-- 0x0707 PAIR_TOKEN_CONFLICT, LOG. 13_twin_pair.md: Both twins claimed (R346). -/
  | pairTokenConflict
  /-- 0x0708 PAIR_CONFIG_MISMATCH, DEGRADE. 13_twin_pair.md: CFG_DIGEST differs (R334). -/
  | pairConfigMismatch
  /-- 0x0709 PAIR_LINK_LOST, DEGRADE. 13_twin_pair.md: Heartbeat lost while the partner holds the token (R350). -/
  | pairLinkLost
  /-- 0x070A PAIR_JOINED, LOG. 13_twin_pair.md: Catch-up complete (R352). -/
  | pairJoined
  /-- 0x070B PAIR_OPEN_MISMATCH, LOG. 13_twin_pair.md: Dwell open differs (R338). -/
  | pairOpenMismatch
  /-- 0x0801 DOMAIN_FULL, DEGRADE. 14_domain.md: JOIN refused, no DID free (R364). -/
  | domainFull
  /-- 0x0802 DOM_HOP_LIMIT, DEGRADE. 14_domain.md: Depth above 8 (R355). -/
  | domHopLimit
  /-- 0x0803 DOM_DID_CONFLICT, LOG. 14_domain.md: Two serials on one DID (R365). -/
  | domDidConflict
  /-- 0x0804 DOM_SYNC_MISALIGN, INHIBIT. 14_domain.md: Divider off its grid (R362). -/
  | domSyncMisalign
  /-- 0x0805 DOM_MASTER_LOST, DEGRADE. 14_domain.md: Master declared lost (R372). -/
  | domMasterLost
  /-- 0x0806 DOM_BACKUP_TAKEOVER, LOG. 14_domain.md: Backup became master (R372). -/
  | domBackupTakeover
  /-- 0x0807 DOM_SPLIT, LOG. 14_domain.md: Master met a higher TERM (R373). -/
  | domSplit
  /-- 0x0808 DOM_HOLDOVER_LONG, DEGRADE. 14_domain.md: Holdover beyond HOLD_T (R374). -/
  | domHoldoverLong
  /-- 0x0809 DOM_PLAN_SHORT, LOG. 14_domain.md: Plan period below frame length (R367). -/
  | domPlanShort
  /-- 0x080A DOM_NOTICE_LATE, LOG. 14_domain.md: Helper notice late or mismatched (R371). -/
  | domNoticeLate
  /-- 0x0901 NET_LINK_DOWN, DEGRADE. 08_outputs.md: Port link lost (R233). -/
  | netLinkDown
  /-- 0x0902 NET_LINK_UP, LOG. 08_outputs.md: Port link regained. -/
  | netLinkUp
  /-- 0x0903 NET_RING_OVERRUN, LOG. 08_outputs.md: Unread records overwritten (R216). -/
  | netRingOverrun
  /-- 0x0904 NET_PRP_PLANE, DEGRADE. 08_outputs.md: No PRP frame or supervision received on one plane for 3 × SUP_MS. -/
  | netPrpPlane
  /-- 0x0905 NET_RX_DROP, LOG. 08_outputs.md: First dropped received frame after a quiet interval of 1 s (R231). -/
  | netRxDrop
  /-- 0x0A01 CAP_LOSS, LOG. 09_capture.md: Record dropped at a full queue (R244). -/
  | capLoss
  /-- 0x0A02 CAP_TRIGGER, LOG. 09_capture.md: Sequencer triggered (R249). -/
  | capTrigger
  /-- 0x0A03 CAP_MISSED, LOG. 09_capture.md: First missed trigger in a re-arm (R250). -/
  | capMissed
  /-- 0x0A04 CAP_SLOT_FULL, LOG. 09_capture.md: Snapshot complete (R252). -/
  | capSlotFull
  /-- 0x0A05 CAP_NO_SLOT, LOG. 09_capture.md: Trigger found no slot in PRE (R253). -/
  | capNoSlot
  /-- 0x0A06 CAP_REL_REFUSED, LOG. 09_capture.md: Release refused (R255). -/
  | capRelRefused
  /-- 0x0B01 MEM_ECC_CORR, LOG. 15_memory.md: Corrected error (R388). -/
  | memEccCorr
  /-- 0x0B02 MEM_ECC_UNCORR, DEGRADE. 15_memory.md: Uncorrectable error (R388, R389). -/
  | memEccUncorr
  /-- 0x0B03 MEM_RETRAIN_FAIL, LOG. 15_memory.md: Retraining failed (R385). -/
  | memRetrainFail
  /-- 0x0B04 MEM_STACK_FAIL, SAFE. 15_memory.md: Stack failed (R390). -/
  | memStackFail
  /-- 0x0B05 MEM_RATE_CHANGE, LOG. 15_memory.md: Rate change complete (R387). -/
  | memRateChange
  /-- 0x0B06 MEM_TABLE_FAIL, SAFE. 15_memory.md: Both copies of a table unit uncorrectable (Table 15.3). -/
  | memTableFail
  /-- 0x0C01 LANE_LOS, LOG. 16_lanes.md: Loss of signal or transmit fault (R403). -/
  | laneLos
  /-- 0x0C02 LANE_LOL, LOG. 16_lanes.md: Loss of lock or codeword lock (R403). -/
  | laneLol
  /-- 0x0C03 PORT_RESTRIPE, DEGRADE. 16_lanes.md: Port re-striped (R406). -/
  | portRestripe
  /-- 0x0C04 PORT_DOWN, DEGRADE. 16_lanes.md: A direction of a port has no lane (R401). -/
  | portDown
  /-- 0x0C05 LANE_TRAIN_FAIL, LOG. 16_lanes.md: Lane not locked within 100 ms (R401). -/
  | laneTrainFail
  /-- 0x0C06 LANE_FEC_UNCORR, LOG. 16_lanes.md: Uncorrectable codeword (R398). -/
  | laneFecUncorr
  /-- 0x0C07 LANE_HELD, LOG. 16_lanes.md: Lane held out after repeated failure (R407). -/
  | laneHeld
  /-- 0x1001 SETTLE_SKIP, LOG. 02_scan_programs.md: Dwell skipped on settle timeout (R53). -/
  | settleSkip
  /-- 0x1002 FRAME_LATE, LOG. 02_scan_programs.md: Frame started after its nominal start (R54). -/
  | frameLate
  /-- 0x1003 DESC_UNAVAILABLE, DEGRADE. 02_scan_programs.md: Descriptor failed its check or arrived late (R51). -/
  | descUnavailable
  /-- 0x1004 COMMIT_REJECTED, LOG. 02_scan_programs.md: Commit failed a check (R65). -/
  | commitRejected
  /-- 0x1005 COMMIT_APPLIED, LOG. 02_scan_programs.md: New program active (R62). -/
  | commitApplied
  /-- 0x1010 ECHO_LOST, INHIBIT. 03_firing.md: Consecutive misses reached ECHO_MISS_MAX (R82). -/
  | echoLost
  /-- 0x1011 ECHO_STRAY, LOG. 03_firing.md: Echo outside every window (R83). -/
  | echoStray
  /-- 0x1012 EMITTER_FAULT, DEGRADE. 03_firing.md: Emitter masked (R102). -/
  | emitterFault
  /-- 0x1013 EMITTER_LIMIT, INHIBIT. 03_firing.md: Masked count above MASK_MAX (R103). -/
  | emitterLimit
  /-- 0x1014 CHAIN_RETRY, LOG. 03_firing.md: Chain frame repeated (R91). -/
  | chainRetry
  /-- 0x1015 CHAIN_FAIL, INHIBIT. 03_firing.md: Third failure of a chain frame (R91). -/
  | chainFail
  /-- 0x1016 PROOF_LATE, LOG. 03_firing.md: Proof older than PERIOD (R101). -/
  | proofLate
  /-- 0x1017 CODE_FALLBACK, LOG. 03_firing.md: CID taken from FALLBACK (R76). -/
  | codeFallback
  /-- 0x1101 TDC_CAL_DRIFT, LOG. 04_return_timing.md: Service selection failed its measurement (R126). -/
  | tdcCalDrift
  /-- 0x1102 TDC_CAL_STARVED, LOG. 04_return_timing.md: Epoch discarded for too few hits (R125). -/
  | tdcCalStarved
  /-- 0x1103 TDC_CAL_STALE, DEGRADE. 04_return_timing.md: Calibration stale (R129). -/
  | tdcCalStale
  /-- 0x1104 TDC_CHAIN_FAIL, DEGRADE. 04_return_timing.md: One chain of a delay line failed (R128). -/
  | tdcChainFail
  /-- 0x1105 TDC_INPUT_FAIL, DEGRADE. 04_return_timing.md: Delay line failed; input FAILED (R128). -/
  | tdcInputFail
  /-- 0x1106 TDC_SPREAD_COUPLING, LOG. 04_return_timing.md: Coupling above COUPLE_LIM (R135). -/
  | tdcSpreadCoupling
  /-- 0x1107 ECHO_LATENCY_DRIFT, LOG. 04_return_timing.md: Echo latency outside LAT_TOL (R134). -/
  | echoLatencyDrift
  /-- 0x1108 CAL_RESTORE_REJECT, LOG. 04_return_timing.md: Restore refused (R138). -/
  | calRestoreReject
  /-- 0x1201 HIST_BUDGET, LOG. 05_histograms.md: The loader found a group over the increment budget (R37); the event names the group. -/
  | histBudget
  /-- 0x1202 HIST_ENTRY_FAULT, SAFE. 05_histograms.md: Entry queue overflow (R156). -/
  | histEntryFault
  /-- 0x1203 ZOOM_LATE, LOG. 05_histograms.md: Zoom placement missing at dwell open (R146). -/
  | zoomLate
  /-- 0x1204 MERGE_SPILL, LOG. 05_histograms.md: Records of a dwell written to the spill ring (R160). -/
  | mergeSpill
  /-- 0x1205 MERGE_DROP, DEGRADE. 05_histograms.md: Record dropped before merge (R160). -/
  | mergeDrop
  /-- 0x1206 BENCH_ECC_CORR, LOG. 05_histograms.md: Corrected bench error (R162). -/
  | benchEccCorr
  /-- 0x1207 BENCH_ECC_UNCORR, DEGRADE. 05_histograms.md: Uncorrectable bench error (R162). -/
  | benchEccUncorr
  /-- 0x1301 DET_BLIND, LOG. 06_detection.md: Live fraction below LIVE_MIN (R165). -/
  | detBlind
  /-- 0x1302 DET_CAND_OVF, LOG. 06_detection.md: More than 8 runs (R169). -/
  | detCandOvf
  /-- 0x1303 DET_FOREIGN, LOG. 06_detection.md: A candidate classed FOREIGN_SUSPECT (R172). -/
  | detForeign
  /-- 0x1304 DET_VIS_LOW, DEGRADE. 06_detection.md: MOR below VIS_MIN (R187). -/
  | detVisLow
  /-- 0x1305 DET_SEL_CHANGE, LOG. 06_detection.md: Selected set changed (R179). -/
  | detSelChange
  /-- 0x1306 DET_FIELD_LATE, DEGRADE. 06_detection.md: Field line missing at dwell close (R176). -/
  | detFieldLate
  /-- 0x1401 SPEED_INVALID, DEGRADE. 07_bearings.md: Speed became INVALID (R199). -/
  | speedInvalid
  /-- 0x1402 SPEED_VALID, LOG. 07_bearings.md: Speed valid again (R199). -/
  | speedValid
  /-- 0x1403 BEAR_INTEGRITY, LOG. 07_bearings.md: Check failed on staging (R210). -/
  | bearIntegrity
  /-- 0x1404 BEAR_INVALID, LOG. 07_bearings.md: Uncorrectable memory error in a record (R210). -/
  | bearInvalid
  /-- 0x1405 BEAR_LATE, LOG. 07_bearings.md: Merge without persistent detection (R193). -/
  | bearLate
  /-- 0x1406 BEAR_WP_OVF, LOG. 07_bearings.md: WEAK_PERSISTENT candidate without a slot (R207). -/
  | bearWpOvf
  /-- 0x1501 SRV_FEEDBACK_LOST, INHIBIT. 10_mirror_servo.md: No valid block for 10 µs (R277). -/
  | srvFeedbackLost
  /-- 0x1502 SRV_FEEDBACK_FROZEN, INHIBIT. 10_mirror_servo.md: 128 identical bits (R277). -/
  | srvFeedbackFrozen
  /-- 0x1503 SRV_OVERRUN, LOG. 10_mirror_servo.md: Computation overran (R278). -/
  | srvOverrun
  /-- 0x1504 SRV_OVERRUN_PARK, INHIBIT. 10_mirror_servo.md: Third consecutive overrun (R278). -/
  | srvOverrunPark
  /-- 0x1505 SRV_PARK_FAIL, INHIBIT. 10_mirror_servo.md: Park not reached (R279, R280). -/
  | srvParkFail
  /-- 0x1506 SRV_TRACK, LOG. 10_mirror_servo.md: Tracking limit exceeded in a dwell (R273). -/
  | srvTrack
  /-- 0x1507 SRV_FOLLOW_SRC, LOG. 10_mirror_servo.md: Follow source invalid (R271). -/
  | srvFollowSrc
  /-- 0x1508 SRV_SETPOINT_CLAMP, LOG. 10_mirror_servo.md: Set-point clamped in a dwell (R269). -/
  | srvSetpointClamp
  /-- 0x1601 EYE_LIMIT, INHIBIT. 11_eye_safety.md: Window test held (R290). -/
  | eyeLimit
  /-- 0x1602 EYE_PULSE_HIGH, INHIBIT. 11_eye_safety.md: Pulse above its bound or monitor saturated (R284). -/
  | eyePulseHigh
  /-- 0x1603 EYE_MON_FAIL, INHIBIT. 11_eye_safety.md: Consecutive low readings, or zero calibration failed (R284, R285). -/
  | eyeMonFail
  /-- 0x1604 EYE_POSITION, INHIBIT. 11_eye_safety.md: Position outside the charged range (R287). -/
  | eyePosition
  /-- 0x1605 EYE_MOTION, INHIBIT. 11_eye_safety.md: Mirror static while firing (R292). -/
  | eyeMotion
  /-- 0x1606 EYE_ECC, LOG. 11_eye_safety.md: Uncorrectable accountant memory error (R293). -/
  | eyeEcc
deriving DecidableEq, Repr

/-- The 16-bit code of an event. -/
def Event.code : Event → Nat
  | .bootSlotFail => 0x0101
  | .bootFallback => 0x0102
  | .bootNoImage => 0x0103
  | .rollbackAdvanced => 0x0104
  | .sessionOpen => 0x0105
  | .sessionAuthFail => 0x0106
  | .sessionEnd => 0x0107
  | .lcChange => 0x0108
  | .fuseRefused => 0x0109
  | .pwrCut => 0x0201
  | .pwrStarve => 0x0202
  | .pwrSupplyShort => 0x0203
  | .thmWarn => 0x0301
  | .thmLimit => 0x0302
  | .thmRise => 0x0303
  | .thmRiseCut => 0x0304
  | .thmTripped => 0x0305
  | .thmSensorFail => 0x0306
  | .thmHeadRange => 0x0307
  | .thmHbmRelief => 0x0308
  | .thmWriteRefused => 0x0309
  | .thmCold => 0x030A
  | .clkRefclkLoss => 0x0401
  | .clkTpllLol => 0x0402
  | .clkLpllLol => 0x0403
  | .clkHbmPllLol => 0x0404
  | .clkLrefLoss => 0x0405
  | .clkDiscLimit => 0x0406
  | .clkHoldover => 0x0407
  | .clkDtStep => 0x0408
  | .hkOvr => 0x0501
  | .hkClamp => 0x0502
  | .hkOpen => 0x0503
  | .hkCompl => 0x0504
  | .hkCalFail => 0x0505
  | .hkUrgentAbort => 0x0506
  | .safeClock => 0x0601
  | .safeIslandDisagree => 0x0602
  | .safeOssdFault => 0x0603
  | .siEstop => 0x0604
  | .siDiscrepancy => 0x0605
  | .siCross => 0x0606
  | .siDoor => 0x0607
  | .siFselInvalid => 0x0608
  | .rstInvalid => 0x0609
  | .rstStuck => 0x060A
  | .connTimeout => 0x060B
  | .cmdReject => 0x060C
  | .safeFieldCheck => 0x060D
  | .safeDecisionMiss => 0x060E
  | .pairHbLost => 0x0701
  | .pairTakeover => 0x0702
  | .pairHandover => 0x0703
  | .pairDigestMismatch => 0x0704
  | .pairDiverged => 0x0705
  | .pairTokenFault => 0x0706
  | .pairTokenConflict => 0x0707
  | .pairConfigMismatch => 0x0708
  | .pairLinkLost => 0x0709
  | .pairJoined => 0x070A
  | .pairOpenMismatch => 0x070B
  | .domainFull => 0x0801
  | .domHopLimit => 0x0802
  | .domDidConflict => 0x0803
  | .domSyncMisalign => 0x0804
  | .domMasterLost => 0x0805
  | .domBackupTakeover => 0x0806
  | .domSplit => 0x0807
  | .domHoldoverLong => 0x0808
  | .domPlanShort => 0x0809
  | .domNoticeLate => 0x080A
  | .netLinkDown => 0x0901
  | .netLinkUp => 0x0902
  | .netRingOverrun => 0x0903
  | .netPrpPlane => 0x0904
  | .netRxDrop => 0x0905
  | .capLoss => 0x0A01
  | .capTrigger => 0x0A02
  | .capMissed => 0x0A03
  | .capSlotFull => 0x0A04
  | .capNoSlot => 0x0A05
  | .capRelRefused => 0x0A06
  | .memEccCorr => 0x0B01
  | .memEccUncorr => 0x0B02
  | .memRetrainFail => 0x0B03
  | .memStackFail => 0x0B04
  | .memRateChange => 0x0B05
  | .memTableFail => 0x0B06
  | .laneLos => 0x0C01
  | .laneLol => 0x0C02
  | .portRestripe => 0x0C03
  | .portDown => 0x0C04
  | .laneTrainFail => 0x0C05
  | .laneFecUncorr => 0x0C06
  | .laneHeld => 0x0C07
  | .settleSkip => 0x1001
  | .frameLate => 0x1002
  | .descUnavailable => 0x1003
  | .commitRejected => 0x1004
  | .commitApplied => 0x1005
  | .echoLost => 0x1010
  | .echoStray => 0x1011
  | .emitterFault => 0x1012
  | .emitterLimit => 0x1013
  | .chainRetry => 0x1014
  | .chainFail => 0x1015
  | .proofLate => 0x1016
  | .codeFallback => 0x1017
  | .tdcCalDrift => 0x1101
  | .tdcCalStarved => 0x1102
  | .tdcCalStale => 0x1103
  | .tdcChainFail => 0x1104
  | .tdcInputFail => 0x1105
  | .tdcSpreadCoupling => 0x1106
  | .echoLatencyDrift => 0x1107
  | .calRestoreReject => 0x1108
  | .histBudget => 0x1201
  | .histEntryFault => 0x1202
  | .zoomLate => 0x1203
  | .mergeSpill => 0x1204
  | .mergeDrop => 0x1205
  | .benchEccCorr => 0x1206
  | .benchEccUncorr => 0x1207
  | .detBlind => 0x1301
  | .detCandOvf => 0x1302
  | .detForeign => 0x1303
  | .detVisLow => 0x1304
  | .detSelChange => 0x1305
  | .detFieldLate => 0x1306
  | .speedInvalid => 0x1401
  | .speedValid => 0x1402
  | .bearIntegrity => 0x1403
  | .bearInvalid => 0x1404
  | .bearLate => 0x1405
  | .bearWpOvf => 0x1406
  | .srvFeedbackLost => 0x1501
  | .srvFeedbackFrozen => 0x1502
  | .srvOverrun => 0x1503
  | .srvOverrunPark => 0x1504
  | .srvParkFail => 0x1505
  | .srvTrack => 0x1506
  | .srvFollowSrc => 0x1507
  | .srvSetpointClamp => 0x1508
  | .eyeLimit => 0x1601
  | .eyePulseHigh => 0x1602
  | .eyeMonFail => 0x1603
  | .eyePosition => 0x1604
  | .eyeMotion => 0x1605
  | .eyeEcc => 0x1606

/-- The reaction class of an event: 0 LOG, 1 DEGRADE, 2 INHIBIT, 3 SAFE (R221, Table 0.8). -/
def Event.cls : Event → Nat
  | .bootSlotFail => 0
  | .bootFallback => 0
  | .bootNoImage => 3
  | .rollbackAdvanced => 0
  | .sessionOpen => 0
  | .sessionAuthFail => 0
  | .sessionEnd => 0
  | .lcChange => 0
  | .fuseRefused => 0
  | .pwrCut => 1
  | .pwrStarve => 0
  | .pwrSupplyShort => 0
  | .thmWarn => 0
  | .thmLimit => 2
  | .thmRise => 0
  | .thmRiseCut => 2
  | .thmTripped => 0
  | .thmSensorFail => 1
  | .thmHeadRange => 2
  | .thmHbmRelief => 0
  | .thmWriteRefused => 0
  | .thmCold => 0
  | .clkRefclkLoss => 2
  | .clkTpllLol => 2
  | .clkLpllLol => 3
  | .clkHbmPllLol => 0
  | .clkLrefLoss => 0
  | .clkDiscLimit => 0
  | .clkHoldover => 0
  | .clkDtStep => 0
  | .hkOvr => 0
  | .hkClamp => 0
  | .hkOpen => 0
  | .hkCompl => 0
  | .hkCalFail => 1
  | .hkUrgentAbort => 0
  | .safeClock => 3
  | .safeIslandDisagree => 3
  | .safeOssdFault => 3
  | .siEstop => 3
  | .siDiscrepancy => 1
  | .siCross => 1
  | .siDoor => 0
  | .siFselInvalid => 0
  | .rstInvalid => 0
  | .rstStuck => 1
  | .connTimeout => 1
  | .cmdReject => 0
  | .safeFieldCheck => 0
  | .safeDecisionMiss => 0
  | .pairHbLost => 1
  | .pairTakeover => 0
  | .pairHandover => 0
  | .pairDigestMismatch => 0
  | .pairDiverged => 1
  | .pairTokenFault => 1
  | .pairTokenConflict => 0
  | .pairConfigMismatch => 1
  | .pairLinkLost => 1
  | .pairJoined => 0
  | .pairOpenMismatch => 0
  | .domainFull => 1
  | .domHopLimit => 1
  | .domDidConflict => 0
  | .domSyncMisalign => 2
  | .domMasterLost => 1
  | .domBackupTakeover => 0
  | .domSplit => 0
  | .domHoldoverLong => 1
  | .domPlanShort => 0
  | .domNoticeLate => 0
  | .netLinkDown => 1
  | .netLinkUp => 0
  | .netRingOverrun => 0
  | .netPrpPlane => 1
  | .netRxDrop => 0
  | .capLoss => 0
  | .capTrigger => 0
  | .capMissed => 0
  | .capSlotFull => 0
  | .capNoSlot => 0
  | .capRelRefused => 0
  | .memEccCorr => 0
  | .memEccUncorr => 1
  | .memRetrainFail => 0
  | .memStackFail => 3
  | .memRateChange => 0
  | .memTableFail => 3
  | .laneLos => 0
  | .laneLol => 0
  | .portRestripe => 1
  | .portDown => 1
  | .laneTrainFail => 0
  | .laneFecUncorr => 0
  | .laneHeld => 0
  | .settleSkip => 0
  | .frameLate => 0
  | .descUnavailable => 1
  | .commitRejected => 0
  | .commitApplied => 0
  | .echoLost => 2
  | .echoStray => 0
  | .emitterFault => 1
  | .emitterLimit => 2
  | .chainRetry => 0
  | .chainFail => 2
  | .proofLate => 0
  | .codeFallback => 0
  | .tdcCalDrift => 0
  | .tdcCalStarved => 0
  | .tdcCalStale => 1
  | .tdcChainFail => 1
  | .tdcInputFail => 1
  | .tdcSpreadCoupling => 0
  | .echoLatencyDrift => 0
  | .calRestoreReject => 0
  | .histBudget => 0
  | .histEntryFault => 3
  | .zoomLate => 0
  | .mergeSpill => 0
  | .mergeDrop => 1
  | .benchEccCorr => 0
  | .benchEccUncorr => 1
  | .detBlind => 0
  | .detCandOvf => 0
  | .detForeign => 0
  | .detVisLow => 1
  | .detSelChange => 0
  | .detFieldLate => 1
  | .speedInvalid => 1
  | .speedValid => 0
  | .bearIntegrity => 0
  | .bearInvalid => 0
  | .bearLate => 0
  | .bearWpOvf => 0
  | .srvFeedbackLost => 2
  | .srvFeedbackFrozen => 2
  | .srvOverrun => 0
  | .srvOverrunPark => 2
  | .srvParkFail => 2
  | .srvTrack => 0
  | .srvFollowSrc => 0
  | .srvSetpointClamp => 0
  | .eyeLimit => 2
  | .eyePulseHigh => 2
  | .eyeMonFail => 2
  | .eyePosition => 2
  | .eyeMotion => 2
  | .eyeEcc => 0

end Sys2Proof.Machine
end

