-- ==== Sys2Proof/Machine/Regs.lean ====
section
/-! DEFINITION. The names of the registers' fields: for each field of every register table of the spec, where it
stands (word address and bits), as a function of the register's indices (h: head, other letters as the spec's
register headings name them). The addresses follow R491 (22_register_map.md, Tables 22.1 and 22.5 to 22.7); the bits
follow the register tables of the owning chapters. -/

namespace Sys2Proof.Machine

/-- A register field: the byte address of its word and its highest and lowest bit. -/
structure FRef where
  addr : Nat
  hi : Nat
  lo : Nat
deriving DecidableEq, Repr

/-- The number of bits of a field. -/
abbrev FRef.width (f : FRef) : Nat := f.hi - f.lo + 1

/-- Two fields that share no bit of any word. -/
abbrev FRef.Disjoint (f g : FRef) : Prop := f.addr ≠ g.addr ∨ f.hi < g.lo ∨ g.hi < f.lo

/-- DEV_ID, 22_register_map.md R501. -/
abbrev R.DEV_ID.addr : Nat := 0x0
/-- DEV_ID[31:16]. -/
abbrev R.DEV_ID.PART : FRef := ⟨R.DEV_ID.addr, 31, 16⟩
/-- DEV_ID[15:8]. -/
abbrev R.DEV_ID.REV : FRef := ⟨R.DEV_ID.addr, 15, 8⟩
/-- DEV_FW_VER, 22_register_map.md R466. -/
abbrev R.DEV_FW_VER.addr : Nat := 0x4
/-- DEV_FW_VER[31:0]. -/
abbrev R.DEV_FW_VER.FW_VER : FRef := ⟨R.DEV_FW_VER.addr, 31, 0⟩
/-- DEV_RESET_CAUSE, 01_architecture.md R30. -/
abbrev R.DEV_RESET_CAUSE.addr : Nat := 0x8
/-- DEV_RESET_CAUSE[2:0]. -/
abbrev R.DEV_RESET_CAUSE.CAUSE : FRef := ⟨R.DEV_RESET_CAUSE.addr, 2, 0⟩
/-- DEV_STATE, 01_architecture.md R28. -/
abbrev R.DEV_STATE.addr : Nat := 0x10
/-- DEV_STATE[31:16]. -/
abbrev R.DEV_STATE.CHG_CNT : FRef := ⟨R.DEV_STATE.addr, 31, 16⟩
/-- DEV_STATE[10:8]. -/
abbrev R.DEV_STATE.PREV : FRef := ⟨R.DEV_STATE.addr, 10, 8⟩
/-- DEV_STATE[2:0]. -/
abbrev R.DEV_STATE.STATE : FRef := ⟨R.DEV_STATE.addr, 2, 0⟩
/-- DEV_CAUSE, 01_architecture.md R29. -/
abbrev R.DEV_CAUSE.addr : Nat := 0x14
/-- DEV_CAUSE[23:16]. -/
abbrev R.DEV_CAUSE.DEG_HOLD : FRef := ⟨R.DEV_CAUSE.addr, 23, 16⟩
/-- DEV_CAUSE[1:1]. -/
abbrev R.DEV_CAUSE.SAFE_ACT : FRef := ⟨R.DEV_CAUSE.addr, 1, 1⟩
/-- DEV_CAUSE[0:0]. -/
abbrev R.DEV_CAUSE.DEG_ACT : FRef := ⟨R.DEV_CAUSE.addr, 0, 0⟩
/-- DEV_STATE_DT_LO, 01_architecture.md R30. -/
abbrev R.DEV_STATE_DT_LO.addr : Nat := 0x18
/-- DEV_STATE_DT_LO[31:0]. -/
abbrev R.DEV_STATE_DT_LO.VALUE : FRef := ⟨R.DEV_STATE_DT_LO.addr, 31, 0⟩
/-- DEV_STATE_DT_HI, 01_architecture.md R30. -/
abbrev R.DEV_STATE_DT_HI.addr : Nat := 0x1C
/-- DEV_STATE_DT_HI[31:0]. -/
abbrev R.DEV_STATE_DT_HI.VALUE : FRef := ⟨R.DEV_STATE_DT_HI.addr, 31, 0⟩
/-- DEV_ACC_CNT, 22_register_map.md R496. -/
abbrev R.DEV_ACC_CNT.addr : Nat := 0x20
/-- DEV_ACC_CNT[31:0]. -/
abbrev R.DEV_ACC_CNT.COUNT : FRef := ⟨R.DEV_ACC_CNT.addr, 31, 0⟩
/-- DEV_ACC_ADDR, 22_register_map.md R496. -/
abbrev R.DEV_ACC_ADDR.addr : Nat := 0x24
/-- DEV_ACC_ADDR[31:0]. -/
abbrev R.DEV_ACC_ADDR.ADDR : FRef := ⟨R.DEV_ACC_ADDR.addr, 31, 0⟩
/-- DEV_ACC_INFO, 22_register_map.md R496. -/
abbrev R.DEV_ACC_INFO.addr : Nat := 0x28
/-- DEV_ACC_INFO[5:4]. -/
abbrev R.DEV_ACC_INFO.IF : FRef := ⟨R.DEV_ACC_INFO.addr, 5, 4⟩
/-- DEV_ACC_INFO[3:3]. -/
abbrev R.DEV_ACC_INFO.WRITE : FRef := ⟨R.DEV_ACC_INFO.addr, 3, 3⟩
/-- DEV_ACC_INFO[2:0]. -/
abbrev R.DEV_ACC_INFO.CAUSE : FRef := ⟨R.DEV_ACC_INFO.addr, 2, 0⟩
/-- MSPI_STATUS, 22_register_map.md R497. -/
abbrev R.MSPI_STATUS.addr : Nat := 0x40
/-- MSPI_STATUS[31:16]. -/
abbrev R.MSPI_STATUS.WRITES : FRef := ⟨R.MSPI_STATUS.addr, 31, 16⟩
/-- MSPI_STATUS[4:4]. -/
abbrev R.MSPI_STATUS.ABORT : FRef := ⟨R.MSPI_STATUS.addr, 4, 4⟩
/-- MSPI_STATUS[3:3]. -/
abbrev R.MSPI_STATUS.BUSY : FRef := ⟨R.MSPI_STATUS.addr, 3, 3⟩
/-- MSPI_STATUS[2:2]. -/
abbrev R.MSPI_STATUS.ACC_ERR : FRef := ⟨R.MSPI_STATUS.addr, 2, 2⟩
/-- MSPI_STATUS[1:1]. -/
abbrev R.MSPI_STATUS.CRC_ERR : FRef := ⟨R.MSPI_STATUS.addr, 1, 1⟩
/-- MSPI_STATUS[0:0]. -/
abbrev R.MSPI_STATUS.DONE : FRef := ⟨R.MSPI_STATUS.addr, 0, 0⟩
/-- DEV_EVT_RD, 22_register_map.md R501. -/
abbrev R.DEV_EVT_RD.addr : Nat := 0x44
/-- DEV_EVT_RD[31:0]. -/
abbrev R.DEV_EVT_RD.RD : FRef := ⟨R.DEV_EVT_RD.addr, 31, 0⟩
/-- DEV_EVT_CFG, 22_register_map.md R501. -/
abbrev R.DEV_EVT_CFG.addr : Nat := 0x48
/-- DEV_EVT_CFG[1:0]. -/
abbrev R.DEV_EVT_CFG.MIN_CLASS : FRef := ⟨R.DEV_EVT_CFG.addr, 1, 0⟩
/-- HEAD_CTL, 01_architecture.md R31. -/
abbrev R.HEAD_CTL.addr (h : Nat) : Nat := 0x100000 + h * 0x10000
/-- HEAD_CTL[4:4]. -/
abbrev R.HEAD_CTL.AUTO_START (h : Nat) : FRef := ⟨R.HEAD_CTL.addr h, 4, 4⟩
/-- HEAD_CTL[3:3]. -/
abbrev R.HEAD_CTL.RESTART (h : Nat) : FRef := ⟨R.HEAD_CTL.addr h, 3, 3⟩
/-- HEAD_CTL[2:2]. -/
abbrev R.HEAD_CTL.HOST_INHIBIT (h : Nat) : FRef := ⟨R.HEAD_CTL.addr h, 2, 2⟩
/-- HEAD_CTL[1:1]. -/
abbrev R.HEAD_CTL.PARK (h : Nat) : FRef := ⟨R.HEAD_CTL.addr h, 1, 1⟩
/-- HEAD_CTL[0:0]. -/
abbrev R.HEAD_CTL.START (h : Nat) : FRef := ⟨R.HEAD_CTL.addr h, 0, 0⟩
/-- HEAD_STATE, 01_architecture.md R31. -/
abbrev R.HEAD_STATE.addr (h : Nat) : Nat := 0x100004 + h * 0x10000
/-- HEAD_STATE[15:8]. -/
abbrev R.HEAD_STATE.FAULT_CAUSE (h : Nat) : FRef := ⟨R.HEAD_STATE.addr h, 15, 8⟩
/-- HEAD_STATE[3:3]. -/
abbrev R.HEAD_STATE.TOKEN_ONLY (h : Nat) : FRef := ⟨R.HEAD_STATE.addr h, 3, 3⟩
/-- HEAD_STATE[2:0]. -/
abbrev R.HEAD_STATE.STATE (h : Nat) : FRef := ⟨R.HEAD_STATE.addr h, 2, 0⟩
/-- FIRE_INHIBIT, 01_architecture.md R34. -/
abbrev R.FIRE_INHIBIT.addr (h : Nat) : Nat := 0x100008 + h * 0x10000
/-- FIRE_INHIBIT[11:11]. -/
abbrev R.FIRE_INHIBIT.SUPPLY (h : Nat) : FRef := ⟨R.FIRE_INHIBIT.addr h, 11, 11⟩
/-- FIRE_INHIBIT[10:10]. -/
abbrev R.FIRE_INHIBIT.HOST (h : Nat) : FRef := ⟨R.FIRE_INHIBIT.addr h, 10, 10⟩
/-- FIRE_INHIBIT[9:9]. -/
abbrev R.FIRE_INHIBIT.EMITTER (h : Nat) : FRef := ⟨R.FIRE_INHIBIT.addr h, 9, 9⟩
/-- FIRE_INHIBIT[8:8]. -/
abbrev R.FIRE_INHIBIT.HEADLINK (h : Nat) : FRef := ⟨R.FIRE_INHIBIT.addr h, 8, 8⟩
/-- FIRE_INHIBIT[7:7]. -/
abbrev R.FIRE_INHIBIT.LEAVE (h : Nat) : FRef := ⟨R.FIRE_INHIBIT.addr h, 7, 7⟩
/-- FIRE_INHIBIT[6:6]. -/
abbrev R.FIRE_INHIBIT.TOKEN (h : Nat) : FRef := ⟨R.FIRE_INHIBIT.addr h, 6, 6⟩
/-- FIRE_INHIBIT[5:5]. -/
abbrev R.FIRE_INHIBIT.SAFETY_IN (h : Nat) : FRef := ⟨R.FIRE_INHIBIT.addr h, 5, 5⟩
/-- FIRE_INHIBIT[4:4]. -/
abbrev R.FIRE_INHIBIT.THERMAL (h : Nat) : FRef := ⟨R.FIRE_INHIBIT.addr h, 4, 4⟩
/-- FIRE_INHIBIT[3:3]. -/
abbrev R.FIRE_INHIBIT.EYE (h : Nat) : FRef := ⟨R.FIRE_INHIBIT.addr h, 3, 3⟩
/-- FIRE_INHIBIT[2:2]. -/
abbrev R.FIRE_INHIBIT.SERVO (h : Nat) : FRef := ⟨R.FIRE_INHIBIT.addr h, 2, 2⟩
/-- FIRE_INHIBIT[1:1]. -/
abbrev R.FIRE_INHIBIT.TIMING (h : Nat) : FRef := ⟨R.FIRE_INHIBIT.addr h, 1, 1⟩
/-- FIRE_INHIBIT[0:0]. -/
abbrev R.FIRE_INHIBIT.CONFIG (h : Nat) : FRef := ⟨R.FIRE_INHIBIT.addr h, 0, 0⟩
/-- FIRE_INHIBIT_LATCH, 01_architecture.md R35. -/
abbrev R.FIRE_INHIBIT_LATCH.addr (h : Nat) : Nat := 0x10000C + h * 0x10000
/-- FIRE_INHIBIT_LATCH[11:11]. -/
abbrev R.FIRE_INHIBIT_LATCH.SUPPLY (h : Nat) : FRef := ⟨R.FIRE_INHIBIT_LATCH.addr h, 11, 11⟩
/-- FIRE_INHIBIT_LATCH[10:10]. -/
abbrev R.FIRE_INHIBIT_LATCH.HOST (h : Nat) : FRef := ⟨R.FIRE_INHIBIT_LATCH.addr h, 10, 10⟩
/-- FIRE_INHIBIT_LATCH[9:9]. -/
abbrev R.FIRE_INHIBIT_LATCH.EMITTER (h : Nat) : FRef := ⟨R.FIRE_INHIBIT_LATCH.addr h, 9, 9⟩
/-- FIRE_INHIBIT_LATCH[8:8]. -/
abbrev R.FIRE_INHIBIT_LATCH.HEADLINK (h : Nat) : FRef := ⟨R.FIRE_INHIBIT_LATCH.addr h, 8, 8⟩
/-- FIRE_INHIBIT_LATCH[7:7]. -/
abbrev R.FIRE_INHIBIT_LATCH.LEAVE (h : Nat) : FRef := ⟨R.FIRE_INHIBIT_LATCH.addr h, 7, 7⟩
/-- FIRE_INHIBIT_LATCH[6:6]. -/
abbrev R.FIRE_INHIBIT_LATCH.TOKEN (h : Nat) : FRef := ⟨R.FIRE_INHIBIT_LATCH.addr h, 6, 6⟩
/-- FIRE_INHIBIT_LATCH[5:5]. -/
abbrev R.FIRE_INHIBIT_LATCH.SAFETY_IN (h : Nat) : FRef := ⟨R.FIRE_INHIBIT_LATCH.addr h, 5, 5⟩
/-- FIRE_INHIBIT_LATCH[4:4]. -/
abbrev R.FIRE_INHIBIT_LATCH.THERMAL (h : Nat) : FRef := ⟨R.FIRE_INHIBIT_LATCH.addr h, 4, 4⟩
/-- FIRE_INHIBIT_LATCH[3:3]. -/
abbrev R.FIRE_INHIBIT_LATCH.EYE (h : Nat) : FRef := ⟨R.FIRE_INHIBIT_LATCH.addr h, 3, 3⟩
/-- FIRE_INHIBIT_LATCH[2:2]. -/
abbrev R.FIRE_INHIBIT_LATCH.SERVO (h : Nat) : FRef := ⟨R.FIRE_INHIBIT_LATCH.addr h, 2, 2⟩
/-- FIRE_INHIBIT_LATCH[1:1]. -/
abbrev R.FIRE_INHIBIT_LATCH.TIMING (h : Nat) : FRef := ⟨R.FIRE_INHIBIT_LATCH.addr h, 1, 1⟩
/-- FIRE_INHIBIT_LATCH[0:0]. -/
abbrev R.FIRE_INHIBIT_LATCH.CONFIG (h : Nat) : FRef := ⟨R.FIRE_INHIBIT_LATCH.addr h, 0, 0⟩
/-- SCAN_CTL, 02_scan_programs.md R44. -/
abbrev R.SCAN_CTL.addr (h : Nat) : Nat := 0x100400 + h * 0x10000
/-- SCAN_CTL[2:2]. -/
abbrev R.SCAN_CTL.INIT_SLOT (h : Nat) : FRef := ⟨R.SCAN_CTL.addr h, 2, 2⟩
/-- SCAN_CTL[1:1]. -/
abbrev R.SCAN_CTL.WRITE_EN (h : Nat) : FRef := ⟨R.SCAN_CTL.addr h, 1, 1⟩
/-- SCAN_CTL[0:0]. -/
abbrev R.SCAN_CTL.ALIGN (h : Nat) : FRef := ⟨R.SCAN_CTL.addr h, 0, 0⟩
/-- SCAN_COMMIT, 02_scan_programs.md R63. -/
abbrev R.SCAN_COMMIT.addr (h : Nat) : Nat := 0x100404 + h * 0x10000
/-- SCAN_COMMIT[2:2]. -/
abbrev R.SCAN_COMMIT.CANCEL (h : Nat) : FRef := ⟨R.SCAN_COMMIT.addr h, 2, 2⟩
/-- SCAN_COMMIT[1:1]. -/
abbrev R.SCAN_COMMIT.REQ (h : Nat) : FRef := ⟨R.SCAN_COMMIT.addr h, 1, 1⟩
/-- SCAN_COMMIT[0:0]. -/
abbrev R.SCAN_COMMIT.SLOT (h : Nat) : FRef := ⟨R.SCAN_COMMIT.addr h, 0, 0⟩
/-- SCAN_STATUS, 02_scan_programs.md R63. -/
abbrev R.SCAN_STATUS.addr (h : Nat) : Nat := 0x100408 + h * 0x10000
/-- SCAN_STATUS[4:4]. -/
abbrev R.SCAN_STATUS.REFUSED (h : Nat) : FRef := ⟨R.SCAN_STATUS.addr h, 4, 4⟩
/-- SCAN_STATUS[3:1]. -/
abbrev R.SCAN_STATUS.COMMIT_STATE (h : Nat) : FRef := ⟨R.SCAN_STATUS.addr h, 3, 1⟩
/-- SCAN_STATUS[0:0]. -/
abbrev R.SCAN_STATUS.ACTIVE_SLOT (h : Nat) : FRef := ⟨R.SCAN_STATUS.addr h, 0, 0⟩
/-- SCAN_REJECT, 02_scan_programs.md R65. -/
abbrev R.SCAN_REJECT.addr (h : Nat) : Nat := 0x10040C + h * 0x10000
/-- SCAN_REJECT[31:16]. -/
abbrev R.SCAN_REJECT.DWELL (h : Nat) : FRef := ⟨R.SCAN_REJECT.addr h, 31, 16⟩
/-- SCAN_REJECT[7:0]. -/
abbrev R.SCAN_REJECT.CAUSE (h : Nat) : FRef := ⟨R.SCAN_REJECT.addr h, 7, 0⟩
/-- SCAN_COMMIT_FRAME, 02_scan_programs.md R61. -/
abbrev R.SCAN_COMMIT_FRAME.addr (h : Nat) : Nat := 0x100410 + h * 0x10000
/-- SCAN_COMMIT_FRAME[31:0]. -/
abbrev R.SCAN_COMMIT_FRAME.FRAME (h : Nat) : FRef := ⟨R.SCAN_COMMIT_FRAME.addr h, 31, 0⟩
/-- SCAN_FRAME_NUM, 02_scan_programs.md R53. -/
abbrev R.SCAN_FRAME_NUM.addr (h : Nat) : Nat := 0x100414 + h * 0x10000
/-- SCAN_FRAME_NUM[31:0]. -/
abbrev R.SCAN_FRAME_NUM.FRAME (h : Nat) : FRef := ⟨R.SCAN_FRAME_NUM.addr h, 31, 0⟩
/-- SCAN_POS, 02_scan_programs.md R53. -/
abbrev R.SCAN_POS.addr (h : Nat) : Nat := 0x100418 + h * 0x10000
/-- SCAN_POS[19:19]. -/
abbrev R.SCAN_POS.FENCE (h : Nat) : FRef := ⟨R.SCAN_POS.addr h, 19, 19⟩
/-- SCAN_POS[18:16]. -/
abbrev R.SCAN_POS.PHASE (h : Nat) : FRef := ⟨R.SCAN_POS.addr h, 18, 16⟩
/-- SCAN_POS[15:0]. -/
abbrev R.SCAN_POS.DWELL (h : Nat) : FRef := ⟨R.SCAN_POS.addr h, 15, 0⟩
/-- SCAN_SLIP, 02_scan_programs.md R54. -/
abbrev R.SCAN_SLIP.addr (h : Nat) : Nat := 0x10041C + h * 0x10000
/-- SCAN_SLIP[31:0]. -/
abbrev R.SCAN_SLIP.SLIP (h : Nat) : FRef := ⟨R.SCAN_SLIP.addr h, 31, 0⟩
/-- SCAN_LEN, 02_scan_programs.md R45. -/
abbrev R.SCAN_LEN.addr (h s : Nat) : Nat := 0x100420 + h * 0x10000 + s * 0x8
/-- SCAN_LEN[31:31]. -/
abbrev R.SCAN_LEN.VALID (h s : Nat) : FRef := ⟨R.SCAN_LEN.addr h s, 31, 31⟩
/-- SCAN_LEN[15:0]. -/
abbrev R.SCAN_LEN.LEN_M1 (h s : Nat) : FRef := ⟨R.SCAN_LEN.addr h s, 15, 0⟩
/-- SCAN_FLY, 02_scan_programs.md R45. -/
abbrev R.SCAN_FLY.addr (h s : Nat) : Nat := 0x100424 + h * 0x10000 + s * 0x8
/-- SCAN_FLY[29:16]. -/
abbrev R.SCAN_FLY.FLYBACK_MIN (h s : Nat) : FRef := ⟨R.SCAN_FLY.addr h s, 29, 16⟩
/-- SCAN_FLY[13:0]. -/
abbrev R.SCAN_FLY.FLYBACK (h s : Nat) : FRef := ⟨R.SCAN_FLY.addr h s, 13, 0⟩
/-- SCAN_SETTLE, 02_scan_programs.md R52. -/
abbrev R.SCAN_SETTLE.addr (h p : Nat) : Nat := 0x100430 + h * 0x10000 + p * 0x4
/-- SCAN_SETTLE[31:20]. -/
abbrev R.SCAN_SETTLE.TIMEOUT (h p : Nat) : FRef := ⟨R.SCAN_SETTLE.addr h p, 31, 20⟩
/-- SCAN_SETTLE[19:12]. -/
abbrev R.SCAN_SETTLE.N (h p : Nat) : FRef := ⟨R.SCAN_SETTLE.addr h p, 19, 12⟩
/-- SCAN_SETTLE[11:0]. -/
abbrev R.SCAN_SETTLE.TOL (h p : Nat) : FRef := ⟨R.SCAN_SETTLE.addr h p, 11, 0⟩
/-- SCAN_LOAD_IDX, 02_scan_programs.md R45. -/
abbrev R.SCAN_LOAD_IDX.addr (h : Nat) : Nat := 0x100440 + h * 0x10000
/-- SCAN_LOAD_IDX[16:16]. -/
abbrev R.SCAN_LOAD_IDX.SLOT (h : Nat) : FRef := ⟨R.SCAN_LOAD_IDX.addr h, 16, 16⟩
/-- SCAN_LOAD_IDX[15:0]. -/
abbrev R.SCAN_LOAD_IDX.DWELL (h : Nat) : FRef := ⟨R.SCAN_LOAD_IDX.addr h, 15, 0⟩
/-- SCAN_LOAD_DATA, 02_scan_programs.md R45. -/
abbrev R.SCAN_LOAD_DATA.addr (h w : Nat) : Nat := 0x100444 + h * 0x10000 + w * 0x4
/-- SCAN_LOAD_DATA[31:0]. -/
abbrev R.SCAN_LOAD_DATA.WORD (h w : Nat) : FRef := ⟨R.SCAN_LOAD_DATA.addr h w, 31, 0⟩
/-- SCAN_CNT_SKIP, 02_scan_programs.md R53. -/
abbrev R.SCAN_CNT_SKIP.addr (h : Nat) : Nat := 0x100484 + h * 0x10000
/-- SCAN_CNT_SKIP[31:0]. -/
abbrev R.SCAN_CNT_SKIP.COUNT (h : Nat) : FRef := ⟨R.SCAN_CNT_SKIP.addr h, 31, 0⟩
/-- SCAN_CNT_LATE, 02_scan_programs.md R54. -/
abbrev R.SCAN_CNT_LATE.addr (h : Nat) : Nat := 0x100488 + h * 0x10000
/-- SCAN_CNT_LATE[31:0]. -/
abbrev R.SCAN_CNT_LATE.COUNT (h : Nat) : FRef := ⟨R.SCAN_CNT_LATE.addr h, 31, 0⟩
/-- SCAN_CNT_DESC, 02_scan_programs.md R51. -/
abbrev R.SCAN_CNT_DESC.addr (h : Nat) : Nat := 0x10048C + h * 0x10000
/-- SCAN_CNT_DESC[31:0]. -/
abbrev R.SCAN_CNT_DESC.COUNT (h : Nat) : FRef := ⟨R.SCAN_CNT_DESC.addr h, 31, 0⟩
/-- FIRE_CFG, 03_firing.md R80. -/
abbrev R.FIRE_CFG.addr (h : Nat) : Nat := 0x100800 + h * 0x10000
/-- FIRE_CFG[27:24]. -/
abbrev R.FIRE_CFG.ECHO_MISS_MAX (h : Nat) : FRef := ⟨R.FIRE_CFG.addr h, 27, 24⟩
/-- FIRE_CFG[23:16]. -/
abbrev R.FIRE_CFG.ECHO_MAX (h : Nat) : FRef := ⟨R.FIRE_CFG.addr h, 23, 16⟩
/-- FIRE_CFG[15:8]. -/
abbrev R.FIRE_CFG.ECHO_MIN (h : Nat) : FRef := ⟨R.FIRE_CFG.addr h, 15, 8⟩
/-- FIRE_CFG[7:3]. -/
abbrev R.FIRE_CFG.STROBE_W (h : Nat) : FRef := ⟨R.FIRE_CFG.addr h, 7, 3⟩
/-- FIRE_CFG[2:0]. -/
abbrev R.FIRE_CFG.SPAN (h : Nat) : FRef := ⟨R.FIRE_CFG.addr h, 2, 0⟩
/-- FIRE_TRIM, 03_firing.md R71. -/
abbrev R.FIRE_TRIM.addr (h : Nat) : Nat := 0x100804 + h * 0x10000
/-- FIRE_TRIM[15:0]. -/
abbrev R.FIRE_TRIM.TRIM (h : Nat) : FRef := ⟨R.FIRE_TRIM.addr h, 15, 0⟩
/-- FIRE_CODE, 03_firing.md R76. -/
abbrev R.FIRE_CODE.addr (h : Nat) : Nat := 0x100808 + h * 0x10000
/-- FIRE_CODE[31:31]. -/
abbrev R.FIRE_CODE.FALLBACK_ACTIVE (h : Nat) : FRef := ⟨R.FIRE_CODE.addr h, 31, 31⟩
/-- FIRE_CODE[29:16]. -/
abbrev R.FIRE_CODE.FALLBACK (h : Nat) : FRef := ⟨R.FIRE_CODE.addr h, 29, 16⟩
/-- FIRE_CODE[13:0]. -/
abbrev R.FIRE_CODE.CID (h : Nat) : FRef := ⟨R.FIRE_CODE.addr h, 13, 0⟩
/-- FIRE_CTL, 03_firing.md R82. -/
abbrev R.FIRE_CTL.addr (h : Nat) : Nat := 0x10080C + h * 0x10000
/-- FIRE_CTL[0:0]. -/
abbrev R.FIRE_CTL.CLR_ECHO (h : Nat) : FRef := ⟨R.FIRE_CTL.addr h, 0, 0⟩
/-- FIRE_STATUS, 03_firing.md R82. -/
abbrev R.FIRE_STATUS.addr (h : Nat) : Nat := 0x100810 + h * 0x10000
/-- FIRE_STATUS[31:31]. -/
abbrev R.FIRE_STATUS.ECHO_LOST (h : Nat) : FRef := ⟨R.FIRE_STATUS.addr h, 31, 31⟩
/-- FIRE_STATUS[19:16]. -/
abbrev R.FIRE_STATUS.MISS_RUN (h : Nat) : FRef := ⟨R.FIRE_STATUS.addr h, 19, 16⟩
/-- FIRE_STATUS[11:0]. -/
abbrev R.FIRE_STATUS.LAST_SHOT (h : Nat) : FRef := ⟨R.FIRE_STATUS.addr h, 11, 0⟩
/-- FIRE_CNT_SHOT, 03_firing.md R71. -/
abbrev R.FIRE_CNT_SHOT.addr (h : Nat) : Nat := 0x100814 + h * 0x10000
/-- FIRE_CNT_SHOT[31:0]. -/
abbrev R.FIRE_CNT_SHOT.COUNT (h : Nat) : FRef := ⟨R.FIRE_CNT_SHOT.addr h, 31, 0⟩
/-- FIRE_CNT_MISS, 03_firing.md R81. -/
abbrev R.FIRE_CNT_MISS.addr (h : Nat) : Nat := 0x100818 + h * 0x10000
/-- FIRE_CNT_MISS[31:0]. -/
abbrev R.FIRE_CNT_MISS.COUNT (h : Nat) : FRef := ⟨R.FIRE_CNT_MISS.addr h, 31, 0⟩
/-- FIRE_CNT_STRAY, 03_firing.md R80. -/
abbrev R.FIRE_CNT_STRAY.addr (h : Nat) : Nat := 0x10081C + h * 0x10000
/-- FIRE_CNT_STRAY[31:0]. -/
abbrev R.FIRE_CNT_STRAY.COUNT (h : Nat) : FRef := ⟨R.FIRE_CNT_STRAY.addr h, 31, 0⟩
/-- FIRE_LAST_DT_LO, 03_firing.md R71. -/
abbrev R.FIRE_LAST_DT_LO.addr (h : Nat) : Nat := 0x100820 + h * 0x10000
/-- FIRE_LAST_DT_LO[31:0]. -/
abbrev R.FIRE_LAST_DT_LO.VALUE (h : Nat) : FRef := ⟨R.FIRE_LAST_DT_LO.addr h, 31, 0⟩
/-- FIRE_LAST_DT_HI, 03_firing.md R71. -/
abbrev R.FIRE_LAST_DT_HI.addr (h : Nat) : Nat := 0x100824 + h * 0x10000
/-- FIRE_LAST_DT_HI[31:0]. -/
abbrev R.FIRE_LAST_DT_HI.VALUE (h : Nat) : FRef := ⟨R.FIRE_LAST_DT_HI.addr h, 31, 0⟩
/-- EMT_CFG, 03_firing.md R90. -/
abbrev R.EMT_CFG.addr (h : Nat) : Nat := 0x100C00 + h * 0x10000
/-- EMT_CFG[24:12]. -/
abbrev R.EMT_CFG.MASK_MAX (h : Nat) : FRef := ⟨R.EMT_CFG.addr h, 24, 12⟩
/-- EMT_CFG[11:6]. -/
abbrev R.EMT_CFG.EMIT_M1 (h : Nat) : FRef := ⟨R.EMT_CFG.addr h, 11, 6⟩
/-- EMT_CFG[5:0]. -/
abbrev R.EMT_CFG.DRIVERS_M1 (h : Nat) : FRef := ⟨R.EMT_CFG.addr h, 5, 0⟩
/-- EMT_PROOF, 03_firing.md R100. -/
abbrev R.EMT_PROOF.addr (h : Nat) : Nat := 0x100C04 + h * 0x10000
/-- EMT_PROOF[13:0]. -/
abbrev R.EMT_PROOF.PERIOD (h : Nat) : FRef := ⟨R.EMT_PROOF.addr h, 13, 0⟩
/-- EMT_STATUS, 03_firing.md R95. -/
abbrev R.EMT_STATUS.addr (h : Nat) : Nat := 0x100C08 + h * 0x10000
/-- EMT_STATUS[28:16]. -/
abbrev R.EMT_STATUS.MASKED (h : Nat) : FRef := ⟨R.EMT_STATUS.addr h, 28, 16⟩
/-- EMT_STATUS[15:4]. -/
abbrev R.EMT_STATUS.ACTIVE_PAT (h : Nat) : FRef := ⟨R.EMT_STATUS.addr h, 15, 4⟩
/-- EMT_STATUS[2:0]. -/
abbrev R.EMT_STATUS.CHAIN (h : Nat) : FRef := ⟨R.EMT_STATUS.addr h, 2, 0⟩
/-- EMT_PROOF_STATUS, 03_firing.md R101. -/
abbrev R.EMT_PROOF_STATUS.addr (h : Nat) : Nat := 0x100C0C + h * 0x10000
/-- EMT_PROOF_STATUS[31:16]. -/
abbrev R.EMT_PROOF_STATUS.AGE_MAX (h : Nat) : FRef := ⟨R.EMT_PROOF_STATUS.addr h, 31, 16⟩
/-- EMT_PROOF_STATUS[5:0]. -/
abbrev R.EMT_PROOF_STATUS.STEP (h : Nat) : FRef := ⟨R.EMT_PROOF_STATUS.addr h, 5, 0⟩
/-- EMT_SEL, 03_firing.md R102. -/
abbrev R.EMT_SEL.addr (h : Nat) : Nat := 0x100C10 + h * 0x10000
/-- EMT_SEL[5:0]. -/
abbrev R.EMT_SEL.DRIVER (h : Nat) : FRef := ⟨R.EMT_SEL.addr h, 5, 0⟩
/-- EMT_MASK_LO, 03_firing.md R102. -/
abbrev R.EMT_MASK_LO.addr (h : Nat) : Nat := 0x100C14 + h * 0x10000
/-- EMT_MASK_LO[31:0]. -/
abbrev R.EMT_MASK_LO.EMITTERS (h : Nat) : FRef := ⟨R.EMT_MASK_LO.addr h, 31, 0⟩
/-- EMT_MASK_HI, 03_firing.md R102. -/
abbrev R.EMT_MASK_HI.addr (h : Nat) : Nat := 0x100C18 + h * 0x10000
/-- EMT_MASK_HI[31:0]. -/
abbrev R.EMT_MASK_HI.EMITTERS (h : Nat) : FRef := ⟨R.EMT_MASK_HI.addr h, 31, 0⟩
/-- EMT_OPEN_LO, 03_firing.md R102. -/
abbrev R.EMT_OPEN_LO.addr (h : Nat) : Nat := 0x100C1C + h * 0x10000
/-- EMT_OPEN_LO[31:0]. -/
abbrev R.EMT_OPEN_LO.EMITTERS (h : Nat) : FRef := ⟨R.EMT_OPEN_LO.addr h, 31, 0⟩
/-- EMT_OPEN_HI, 03_firing.md R102. -/
abbrev R.EMT_OPEN_HI.addr (h : Nat) : Nat := 0x100C20 + h * 0x10000
/-- EMT_OPEN_HI[31:0]. -/
abbrev R.EMT_OPEN_HI.EMITTERS (h : Nat) : FRef := ⟨R.EMT_OPEN_HI.addr h, 31, 0⟩
/-- EMT_SHORT_LO, 03_firing.md R102. -/
abbrev R.EMT_SHORT_LO.addr (h : Nat) : Nat := 0x100C24 + h * 0x10000
/-- EMT_SHORT_LO[31:0]. -/
abbrev R.EMT_SHORT_LO.EMITTERS (h : Nat) : FRef := ⟨R.EMT_SHORT_LO.addr h, 31, 0⟩
/-- EMT_SHORT_HI, 03_firing.md R102. -/
abbrev R.EMT_SHORT_HI.addr (h : Nat) : Nat := 0x100C28 + h * 0x10000
/-- EMT_SHORT_HI[31:0]. -/
abbrev R.EMT_SHORT_HI.EMITTERS (h : Nat) : FRef := ⟨R.EMT_SHORT_HI.addr h, 31, 0⟩
/-- EMT_CNT_RETRY, 03_firing.md R91. -/
abbrev R.EMT_CNT_RETRY.addr (h : Nat) : Nat := 0x100C2C + h * 0x10000
/-- EMT_CNT_RETRY[31:0]. -/
abbrev R.EMT_CNT_RETRY.COUNT (h : Nat) : FRef := ⟨R.EMT_CNT_RETRY.addr h, 31, 0⟩
/-- EMT_CNT_CYCLE, 03_firing.md R99. -/
abbrev R.EMT_CNT_CYCLE.addr (h : Nat) : Nat := 0x100C30 + h * 0x10000
/-- EMT_CNT_CYCLE[31:0]. -/
abbrev R.EMT_CNT_CYCLE.COUNT (h : Nat) : FRef := ⟨R.EMT_CNT_CYCLE.addr h, 31, 0⟩
/-- RET_CFG, 04_return_timing.md R121. -/
abbrev R.RET_CFG.addr (h : Nat) : Nat := 0x101000 + h * 0x10000
/-- RET_CFG[15:8]. -/
abbrev R.RET_CFG.GATE_DLY (h : Nat) : FRef := ⟨R.RET_CFG.addr h, 15, 8⟩
/-- RET_CFG[1:1]. -/
abbrev R.RET_CFG.GATE_POL (h : Nat) : FRef := ⟨R.RET_CFG.addr h, 1, 1⟩
/-- RET_CFG[0:0]. -/
abbrev R.RET_CFG.GATE_EN (h : Nat) : FRef := ⟨R.RET_CFG.addr h, 0, 0⟩
/-- RET_SAT, 04_return_timing.md R117. -/
abbrev R.RET_SAT.addr (h : Nat) : Nat := 0x101004 + h * 0x10000
/-- RET_SAT[25:24]. -/
abbrev R.RET_SAT.NEIGH (h : Nat) : FRef := ⟨R.RET_SAT.addr h, 25, 24⟩
/-- RET_SAT[23:16]. -/
abbrev R.RET_SAT.RECOV (h : Nat) : FRef := ⟨R.RET_SAT.addr h, 23, 16⟩
/-- RET_SAT[7:0]. -/
abbrev R.RET_SAT.WIDTH (h : Nat) : FRef := ⟨R.RET_SAT.addr h, 7, 0⟩
/-- RET_RHG, 04_return_timing.md R124. -/
abbrev R.RET_RHG.addr (h : Nat) : Nat := 0x101008 + h * 0x10000
/-- RET_RHG[13:0]. -/
abbrev R.RET_RHG.RHG_T (h : Nat) : FRef := ⟨R.RET_RHG.addr h, 13, 0⟩
/-- RET_STATUS, 04_return_timing.md R128. -/
abbrev R.RET_STATUS.addr (h : Nat) : Nat := 0x10100C + h * 0x10000
/-- RET_STATUS[26:16]. -/
abbrev R.RET_STATUS.FAILED (h : Nat) : FRef := ⟨R.RET_STATUS.addr h, 26, 16⟩
/-- RET_STATUS[10:0]. -/
abbrev R.RET_STATUS.STALE (h : Nat) : FRef := ⟨R.RET_STATUS.addr h, 10, 0⟩
/-- RET_ECHO_LAT, 04_return_timing.md R134. -/
abbrev R.RET_ECHO_LAT.addr (h : Nat) : Nat := 0x101010 + h * 0x10000
/-- RET_ECHO_LAT[31:16]. -/
abbrev R.RET_ECHO_LAT.LAT_MEAN (h : Nat) : FRef := ⟨R.RET_ECHO_LAT.addr h, 31, 16⟩
/-- RET_ECHO_REF, 04_return_timing.md R134. -/
abbrev R.RET_ECHO_REF.addr (h : Nat) : Nat := 0x101014 + h * 0x10000
/-- RET_ECHO_REF[31:16]. -/
abbrev R.RET_ECHO_REF.LAT_TOL (h : Nat) : FRef := ⟨R.RET_ECHO_REF.addr h, 31, 16⟩
/-- RET_ECHO_REF[15:0]. -/
abbrev R.RET_ECHO_REF.LAT_REF (h : Nat) : FRef := ⟨R.RET_ECHO_REF.addr h, 15, 0⟩
/-- RET_CNT_SAT, 04_return_timing.md R117. -/
abbrev R.RET_CNT_SAT.addr (h : Nat) : Nat := 0x101018 + h * 0x10000
/-- RET_CNT_SAT[31:0]. -/
abbrev R.RET_CNT_SAT.COUNT (h : Nat) : FRef := ⟨R.RET_CNT_SAT.addr h, 31, 0⟩
/-- HIST_COINC, 05_histograms.md R148. -/
abbrev R.HIST_COINC.addr (h : Nat) : Nat := 0x101400 + h * 0x10000
/-- HIST_COINC[11:8]. -/
abbrev R.HIST_COINC.W_M1 (h : Nat) : FRef := ⟨R.HIST_COINC.addr h, 11, 8⟩
/-- HIST_COINC[5:4]. -/
abbrev R.HIST_COINC.K_M2 (h : Nat) : FRef := ⟨R.HIST_COINC.addr h, 5, 4⟩
/-- HIST_COINC[3:2]. -/
abbrev R.HIST_COINC.NEIGH (h : Nat) : FRef := ⟨R.HIST_COINC.addr h, 3, 2⟩
/-- HIST_COINC[0:0]. -/
abbrev R.HIST_COINC.EN (h : Nat) : FRef := ⟨R.HIST_COINC.addr h, 0, 0⟩
/-- HIST_STATUS, 05_histograms.md R156. -/
abbrev R.HIST_STATUS.addr (h : Nat) : Nat := 0x101404 + h * 0x10000
/-- HIST_STATUS[23:16]. -/
abbrev R.HIST_STATUS.GROUPS_OVER (h : Nat) : FRef := ⟨R.HIST_STATUS.addr h, 23, 16⟩
/-- HIST_STATUS[8:8]. -/
abbrev R.HIST_STATUS.ENTRY_FAULT (h : Nat) : FRef := ⟨R.HIST_STATUS.addr h, 8, 8⟩
/-- HIST_STATUS[5:0]. -/
abbrev R.HIST_STATUS.MQ_MAX (h : Nat) : FRef := ⟨R.HIST_STATUS.addr h, 5, 0⟩
/-- HIST_CNT_COINC, 05_histograms.md R149. -/
abbrev R.HIST_CNT_COINC.addr (h : Nat) : Nat := 0x101408 + h * 0x10000
/-- HIST_CNT_COINC[31:0]. -/
abbrev R.HIST_CNT_COINC.COUNT (h : Nat) : FRef := ⟨R.HIST_CNT_COINC.addr h, 31, 0⟩
/-- HIST_CNT_SHED, 05_histograms.md R150. -/
abbrev R.HIST_CNT_SHED.addr (h : Nat) : Nat := 0x10140C + h * 0x10000
/-- HIST_CNT_SHED[31:0]. -/
abbrev R.HIST_CNT_SHED.COUNT (h : Nat) : FRef := ⟨R.HIST_CNT_SHED.addr h, 31, 0⟩
/-- HIST_CNT_SPILL, 05_histograms.md R161. -/
abbrev R.HIST_CNT_SPILL.addr (h : Nat) : Nat := 0x101410 + h * 0x10000
/-- HIST_CNT_SPILL[31:0]. -/
abbrev R.HIST_CNT_SPILL.COUNT (h : Nat) : FRef := ⟨R.HIST_CNT_SPILL.addr h, 31, 0⟩
/-- HIST_CNT_DROP, 05_histograms.md R160. -/
abbrev R.HIST_CNT_DROP.addr (h : Nat) : Nat := 0x101414 + h * 0x10000
/-- HIST_CNT_DROP[31:0]. -/
abbrev R.HIST_CNT_DROP.COUNT (h : Nat) : FRef := ⟨R.HIST_CNT_DROP.addr h, 31, 0⟩
/-- HIST_CNT_ZLATE, 05_histograms.md R155. -/
abbrev R.HIST_CNT_ZLATE.addr (h : Nat) : Nat := 0x101418 + h * 0x10000
/-- HIST_CNT_ZLATE[31:0]. -/
abbrev R.HIST_CNT_ZLATE.COUNT (h : Nat) : FRef := ⟨R.HIST_CNT_ZLATE.addr h, 31, 0⟩
/-- DET_THR, 06_detection.md R168. -/
abbrev R.DET_THR.addr (h : Nat) : Nat := 0x101800 + h * 0x10000
/-- DET_THR[15:8]. -/
abbrev R.DET_THR.M_MIN (h : Nat) : FRef := ⟨R.DET_THR.addr h, 15, 8⟩
/-- DET_THR[7:0]. -/
abbrev R.DET_THR.N_SIG (h : Nat) : FRef := ⟨R.DET_THR.addr h, 7, 0⟩
/-- DET_BG, 06_detection.md R167. -/
abbrev R.DET_BG.addr (h : Nat) : Nat := 0x101804 + h * 0x10000
/-- DET_BG[31:16]. -/
abbrev R.DET_BG.CAP_ADD (h : Nat) : FRef := ⟨R.DET_BG.addr h, 31, 16⟩
/-- DET_BG[2:0]. -/
abbrev R.DET_BG.CAP_LOG2 (h : Nat) : FRef := ⟨R.DET_BG.addr h, 2, 0⟩
/-- DET_LIVE, 06_detection.md R165. -/
abbrev R.DET_LIVE.addr (h : Nat) : Nat := 0x101808 + h * 0x10000
/-- DET_LIVE[31:16]. -/
abbrev R.DET_LIVE.PU_LIM (h : Nat) : FRef := ⟨R.DET_LIVE.addr h, 31, 16⟩
/-- DET_LIVE[15:0]. -/
abbrev R.DET_LIVE.LIVE_MIN (h : Nat) : FRef := ⟨R.DET_LIVE.addr h, 15, 0⟩
/-- DET_BAL, 06_detection.md R171. -/
abbrev R.DET_BAL.addr (h : Nat) : Nat := 0x10180C + h * 0x10000
/-- DET_BAL[31:24]. -/
abbrev R.DET_BAL.E_MIN (h : Nat) : FRef := ⟨R.DET_BAL.addr h, 31, 24⟩
/-- DET_BAL[23:16]. -/
abbrev R.DET_BAL.DOM (h : Nat) : FRef := ⟨R.DET_BAL.addr h, 23, 16⟩
/-- DET_BAL[3:0]. -/
abbrev R.DET_BAL.SETS_MIN (h : Nat) : FRef := ⟨R.DET_BAL.addr h, 3, 0⟩
/-- DET_PRECIP, 06_detection.md R172. -/
abbrev R.DET_PRECIP.addr (h : Nat) : Nat := 0x101810 + h * 0x10000
/-- DET_PRECIP[31:24]. -/
abbrev R.DET_PRECIP.R_MAX (h : Nat) : FRef := ⟨R.DET_PRECIP.addr h, 31, 24⟩
/-- DET_PRECIP[23:16]. -/
abbrev R.DET_PRECIP.DR (h : Nat) : FRef := ⟨R.DET_PRECIP.addr h, 23, 16⟩
/-- DET_PRECIP[15:8]. -/
abbrev R.DET_PRECIP.W_NS (h : Nat) : FRef := ⟨R.DET_PRECIP.addr h, 15, 8⟩
/-- DET_PRECIP[7:0]. -/
abbrev R.DET_PRECIP.I_MAX (h : Nat) : FRef := ⟨R.DET_PRECIP.addr h, 7, 0⟩
/-- DET_FOG, 06_detection.md R172. -/
abbrev R.DET_FOG.addr (h : Nat) : Nat := 0x101814 + h * 0x10000
/-- DET_FOG[31:24]. -/
abbrev R.DET_FOG.W_MIN (h : Nat) : FRef := ⟨R.DET_FOG.addr h, 31, 24⟩
/-- DET_FOG[23:16]. -/
abbrev R.DET_FOG.START_MAX (h : Nat) : FRef := ⟨R.DET_FOG.addr h, 23, 16⟩
/-- DET_FOG[15:8]. -/
abbrev R.DET_FOG.DENS_MAX (h : Nat) : FRef := ⟨R.DET_FOG.addr h, 15, 8⟩
/-- DET_FOG[7:4]. -/
abbrev R.DET_FOG.NEIGH_MIN (h : Nat) : FRef := ⟨R.DET_FOG.addr h, 7, 4⟩
/-- DET_VIS, 06_detection.md R187. -/
abbrev R.DET_VIS.addr (h : Nat) : Nat := 0x101818 + h * 0x10000
/-- DET_VIS[31:16]. -/
abbrev R.DET_VIS.VIS_MIN (h : Nat) : FRef := ⟨R.DET_VIS.addr h, 31, 16⟩
/-- DET_VIS[15:8]. -/
abbrev R.DET_VIS.N_MIN (h : Nat) : FRef := ⟨R.DET_VIS.addr h, 15, 8⟩
/-- DET_MARGIN, 06_detection.md R180. -/
abbrev R.DET_MARGIN.addr (h : Nat) : Nat := 0x10181C + h * 0x10000
/-- DET_MARGIN[31:0]. -/
abbrev R.DET_MARGIN.MARGIN (h : Nat) : FRef := ⟨R.DET_MARGIN.addr h, 31, 0⟩
/-- DET_RANGE_K, 06_detection.md R170. -/
abbrev R.DET_RANGE_K.addr (h : Nat) : Nat := 0x101820 + h * 0x10000
/-- DET_RANGE_K[31:0]. -/
abbrev R.DET_RANGE_K.K (h : Nat) : FRef := ⟨R.DET_RANGE_K.addr h, 31, 0⟩
/-- DET_ZOOM, 06_detection.md R183. -/
abbrev R.DET_ZOOM.addr (h : Nat) : Nat := 0x101824 + h * 0x10000
/-- DET_ZOOM[7:0]. -/
abbrev R.DET_ZOOM.Z_MIN (h : Nat) : FRef := ⟨R.DET_ZOOM.addr h, 7, 0⟩
/-- DET_SEL_CFG, 06_detection.md R177. -/
abbrev R.DET_SEL_CFG.addr (h : Nat) : Nat := 0x101828 + h * 0x10000
/-- DET_SEL_CFG[31:16]. -/
abbrev R.DET_SEL_CFG.HYST (h : Nat) : FRef := ⟨R.DET_SEL_CFG.addr h, 31, 16⟩
/-- DET_SEL_CFG[5:4]. -/
abbrev R.DET_SEL_CFG.SRC (h : Nat) : FRef := ⟨R.DET_SEL_CFG.addr h, 5, 4⟩
/-- DET_SEL_CFG[2:0]. -/
abbrev R.DET_SEL_CFG.LARGEST (h : Nat) : FRef := ⟨R.DET_SEL_CFG.addr h, 2, 0⟩
/-- DET_SEL_STATUS, 06_detection.md R177. -/
abbrev R.DET_SEL_STATUS.addr (h : Nat) : Nat := 0x10182C + h * 0x10000
/-- DET_SEL_STATUS[31:16]. -/
abbrev R.DET_SEL_STATUS.CHG_CNT (h : Nat) : FRef := ⟨R.DET_SEL_STATUS.addr h, 31, 16⟩
/-- DET_SEL_STATUS[8:8]. -/
abbrev R.DET_SEL_STATUS.FALLBACK (h : Nat) : FRef := ⟨R.DET_SEL_STATUS.addr h, 8, 8⟩
/-- DET_SEL_STATUS[7:7]. -/
abbrev R.DET_SEL_STATUS.OVR (h : Nat) : FRef := ⟨R.DET_SEL_STATUS.addr h, 7, 7⟩
/-- DET_SEL_STATUS[6:4]. -/
abbrev R.DET_SEL_STATUS.OVR_SET (h : Nat) : FRef := ⟨R.DET_SEL_STATUS.addr h, 6, 4⟩
/-- DET_SEL_STATUS[2:0]. -/
abbrev R.DET_SEL_STATUS.SELECTED (h : Nat) : FRef := ⟨R.DET_SEL_STATUS.addr h, 2, 0⟩
/-- DET_FSET, 06_detection.md R175. -/
abbrev R.DET_FSET.addr (h f : Nat) : Nat := 0x101830 + h * 0x10000 + f * 0x4
/-- DET_FSET[16:16]. -/
abbrev R.DET_FSET.PRESENT (h f : Nat) : FRef := ⟨R.DET_FSET.addr h f, 16, 16⟩
/-- DET_FSET[15:8]. -/
abbrev R.DET_FSET.WARN_CLASSES (h f : Nat) : FRef := ⟨R.DET_FSET.addr h f, 15, 8⟩
/-- DET_FSET[7:0]. -/
abbrev R.DET_FSET.PROT_CLASSES (h f : Nat) : FRef := ⟨R.DET_FSET.addr h f, 7, 0⟩
/-- DET_BAND, 06_detection.md R177. -/
abbrev R.DET_BAND.addr (h i : Nat) : Nat := 0x101850 + h * 0x10000 + i * 0x4
/-- DET_BAND[31:16]. -/
abbrev R.DET_BAND.UPPER (h i : Nat) : FRef := ⟨R.DET_BAND.addr h i, 31, 16⟩
/-- DET_BAND[3:3]. -/
abbrev R.DET_BAND.EN (h i : Nat) : FRef := ⟨R.DET_BAND.addr h i, 3, 3⟩
/-- DET_BAND[2:0]. -/
abbrev R.DET_BAND.SET (h i : Nat) : FRef := ⟨R.DET_BAND.addr h i, 2, 0⟩
/-- DET_VIS_STATUS, 06_detection.md R187. -/
abbrev R.DET_VIS_STATUS.addr (h : Nat) : Nat := 0x101870 + h * 0x10000
/-- DET_VIS_STATUS[24:24]. -/
abbrev R.DET_VIS_STATUS.VIS_LOW (h : Nat) : FRef := ⟨R.DET_VIS_STATUS.addr h, 24, 24⟩
/-- DET_VIS_STATUS[23:16]. -/
abbrev R.DET_VIS_STATUS.N (h : Nat) : FRef := ⟨R.DET_VIS_STATUS.addr h, 23, 16⟩
/-- DET_VIS_STATUS[15:0]. -/
abbrev R.DET_VIS_STATUS.MOR (h : Nat) : FRef := ⟨R.DET_VIS_STATUS.addr h, 15, 0⟩
/-- DET_CNT_BLIND, 06_detection.md R186. -/
abbrev R.DET_CNT_BLIND.addr (h : Nat) : Nat := 0x101874 + h * 0x10000
/-- DET_CNT_BLIND[31:0]. -/
abbrev R.DET_CNT_BLIND.COUNT (h : Nat) : FRef := ⟨R.DET_CNT_BLIND.addr h, 31, 0⟩
/-- DET_CNT_CAND_OVF, 06_detection.md R169. -/
abbrev R.DET_CNT_CAND_OVF.addr (h : Nat) : Nat := 0x101878 + h * 0x10000
/-- DET_CNT_CAND_OVF[31:0]. -/
abbrev R.DET_CNT_CAND_OVF.COUNT (h : Nat) : FRef := ⟨R.DET_CNT_CAND_OVF.addr h, 31, 0⟩
/-- DET_CNT_FOREIGN, 06_detection.md R172. -/
abbrev R.DET_CNT_FOREIGN.addr (h : Nat) : Nat := 0x10187C + h * 0x10000
/-- DET_CNT_FOREIGN[31:0]. -/
abbrev R.DET_CNT_FOREIGN.COUNT (h : Nat) : FRef := ⟨R.DET_CNT_FOREIGN.addr h, 31, 0⟩
/-- DET_CNT_PROT, 06_detection.md R180. -/
abbrev R.DET_CNT_PROT.addr (h : Nat) : Nat := 0x101880 + h * 0x10000
/-- DET_CNT_PROT[31:0]. -/
abbrev R.DET_CNT_PROT.COUNT (h : Nat) : FRef := ⟨R.DET_CNT_PROT.addr h, 31, 0⟩
/-- DET_CNT_WARN, 06_detection.md R180. -/
abbrev R.DET_CNT_WARN.addr (h : Nat) : Nat := 0x101884 + h * 0x10000
/-- DET_CNT_WARN[31:0]. -/
abbrev R.DET_CNT_WARN.COUNT (h : Nat) : FRef := ⟨R.DET_CNT_WARN.addr h, 31, 0⟩
/-- BEAR_CFG, 07_bearings.md R201. -/
abbrev R.BEAR_CFG.addr (h : Nat) : Nat := 0x101C00 + h * 0x10000
/-- BEAR_CFG[31:24]. -/
abbrev R.BEAR_CFG.ELAPSED_MAX (h : Nat) : FRef := ⟨R.BEAR_CFG.addr h, 31, 24⟩
/-- BEAR_CFG[23:20]. -/
abbrev R.BEAR_CFG.BG_LOG2 (h : Nat) : FRef := ⟨R.BEAR_CFG.addr h, 23, 20⟩
/-- BEAR_CFG[15:8]. -/
abbrev R.BEAR_CFG.AGE_MIN (h : Nat) : FRef := ⟨R.BEAR_CFG.addr h, 15, 8⟩
/-- BEAR_CFG[4:4]. -/
abbrev R.BEAR_CFG.MOV_EN (h : Nat) : FRef := ⟨R.BEAR_CFG.addr h, 4, 4⟩
/-- BEAR_CFG[3:3]. -/
abbrev R.BEAR_CFG.WP_EN (h : Nat) : FRef := ⟨R.BEAR_CFG.addr h, 3, 3⟩
/-- BEAR_CFG[2:0]. -/
abbrev R.BEAR_CFG.K (h : Nat) : FRef := ⟨R.BEAR_CFG.addr h, 2, 0⟩
/-- BEAR_THR, 07_bearings.md R206. -/
abbrev R.BEAR_THR.addr (h : Nat) : Nat := 0x101C04 + h * 0x10000
/-- BEAR_THR[15:8]. -/
abbrev R.BEAR_THR.M_MIN_P (h : Nat) : FRef := ⟨R.BEAR_THR.addr h, 15, 8⟩
/-- BEAR_THR[7:0]. -/
abbrev R.BEAR_THR.N_SIG_P (h : Nat) : FRef := ⟨R.BEAR_THR.addr h, 7, 0⟩
/-- BEAR_MOV, 07_bearings.md R208. -/
abbrev R.BEAR_MOV.addr (h : Nat) : Nat := 0x101C08 + h * 0x10000
/-- BEAR_MOV[31:28]. -/
abbrev R.BEAR_MOV.MISS_MAX (h : Nat) : FRef := ⟨R.BEAR_MOV.addr h, 31, 28⟩
/-- BEAR_MOV[27:24]. -/
abbrev R.BEAR_MOV.N_MOV (h : Nat) : FRef := ⟨R.BEAR_MOV.addr h, 27, 24⟩
/-- BEAR_MOV[23:16]. -/
abbrev R.BEAR_MOV.GATE (h : Nat) : FRef := ⟨R.BEAR_MOV.addr h, 23, 16⟩
/-- BEAR_MOV[15:0]. -/
abbrev R.BEAR_MOV.V_MOV (h : Nat) : FRef := ⟨R.BEAR_MOV.addr h, 15, 0⟩
/-- BEAR_STATUS, 07_bearings.md R205. -/
abbrev R.BEAR_STATUS.addr (h : Nat) : Nat := 0x101C0C + h * 0x10000
/-- BEAR_STATUS[1:1]. -/
abbrev R.BEAR_STATUS.FROZEN (h : Nat) : FRef := ⟨R.BEAR_STATUS.addr h, 1, 1⟩
/-- BEAR_STATUS[0:0]. -/
abbrev R.BEAR_STATUS.PERSIST (h : Nat) : FRef := ⟨R.BEAR_STATUS.addr h, 0, 0⟩
/-- BEAR_CNT_UPD, 07_bearings.md R202. -/
abbrev R.BEAR_CNT_UPD.addr (h : Nat) : Nat := 0x101C10 + h * 0x10000
/-- BEAR_CNT_UPD[31:0]. -/
abbrev R.BEAR_CNT_UPD.COUNT (h : Nat) : FRef := ⟨R.BEAR_CNT_UPD.addr h, 31, 0⟩
/-- BEAR_CNT_RESTART, 07_bearings.md R202. -/
abbrev R.BEAR_CNT_RESTART.addr (h : Nat) : Nat := 0x101C14 + h * 0x10000
/-- BEAR_CNT_RESTART[31:0]. -/
abbrev R.BEAR_CNT_RESTART.COUNT (h : Nat) : FRef := ⟨R.BEAR_CNT_RESTART.addr h, 31, 0⟩
/-- BEAR_CNT_WP, 07_bearings.md R206. -/
abbrev R.BEAR_CNT_WP.addr (h : Nat) : Nat := 0x101C18 + h * 0x10000
/-- BEAR_CNT_WP[31:0]. -/
abbrev R.BEAR_CNT_WP.COUNT (h : Nat) : FRef := ⟨R.BEAR_CNT_WP.addr h, 31, 0⟩
/-- BEAR_CNT_LATE, 07_bearings.md R192. -/
abbrev R.BEAR_CNT_LATE.addr (h : Nat) : Nat := 0x101C1C + h * 0x10000
/-- BEAR_CNT_LATE[31:0]. -/
abbrev R.BEAR_CNT_LATE.COUNT (h : Nat) : FRef := ⟨R.BEAR_CNT_LATE.addr h, 31, 0⟩
/-- BEAR_CNT_INVALID, 07_bearings.md R205. -/
abbrev R.BEAR_CNT_INVALID.addr (h : Nat) : Nat := 0x101C20 + h * 0x10000
/-- BEAR_CNT_INVALID[31:0]. -/
abbrev R.BEAR_CNT_INVALID.COUNT (h : Nat) : FRef := ⟨R.BEAR_CNT_INVALID.addr h, 31, 0⟩
/-- BEAR_CNT_MOVING, 07_bearings.md R208. -/
abbrev R.BEAR_CNT_MOVING.addr (h : Nat) : Nat := 0x101C24 + h * 0x10000
/-- BEAR_CNT_MOVING[31:0]. -/
abbrev R.BEAR_CNT_MOVING.COUNT (h : Nat) : FRef := ⟨R.BEAR_CNT_MOVING.addr h, 31, 0⟩
/-- BEAR_CNT_WP_OVF, 07_bearings.md R206. -/
abbrev R.BEAR_CNT_WP_OVF.addr (h : Nat) : Nat := 0x101C28 + h * 0x10000
/-- BEAR_CNT_WP_OVF[31:0]. -/
abbrev R.BEAR_CNT_WP_OVF.COUNT (h : Nat) : FRef := ⟨R.BEAR_CNT_WP_OVF.addr h, 31, 0⟩
/-- BEAR_RANGE_KD, 07_bearings.md R200. -/
abbrev R.BEAR_RANGE_KD.addr (h : Nat) : Nat := 0x101C2C + h * 0x10000
/-- BEAR_RANGE_KD[31:0]. -/
abbrev R.BEAR_RANGE_KD.KD (h : Nat) : FRef := ⟨R.BEAR_RANGE_KD.addr h, 31, 0⟩
/-- SRV_CTL, 10_mirror_servo.md R276. -/
abbrev R.SRV_CTL.addr (h : Nat) : Nat := 0x102000 + h * 0x10000
/-- SRV_CTL[9:8]. -/
abbrev R.SRV_CTL.EXC_LEVEL (h : Nat) : FRef := ⟨R.SRV_CTL.addr h, 9, 8⟩
/-- SRV_CTL[3:0]. -/
abbrev R.SRV_CTL.PROF_BANK (h : Nat) : FRef := ⟨R.SRV_CTL.addr h, 3, 0⟩
/-- SRV_CFG, 10_mirror_servo.md R263. -/
abbrev R.SRV_CFG.addr (h a : Nat) : Nat := 0x102004 + h * 0x10000 + a * 0x4
/-- SRV_CFG[19:16]. -/
abbrev R.SRV_CFG.DCB_S (h a : Nat) : FRef := ⟨R.SRV_CFG.addr h a, 19, 16⟩
/-- SRV_CFG[15:8]. -/
abbrev R.SRV_CFG.PHASE (h a : Nat) : FRef := ⟨R.SRV_CFG.addr h a, 15, 8⟩
/-- SRV_CFG[2:0]. -/
abbrev R.SRV_CFG.RESP (h a : Nat) : FRef := ⟨R.SRV_CFG.addr h a, 2, 0⟩
/-- SRV_LIM, 10_mirror_servo.md R271. -/
abbrev R.SRV_LIM.addr (h a : Nat) : Nat := 0x10200C + h * 0x10000 + a * 0x4
/-- SRV_LIM[31:16]. -/
abbrev R.SRV_LIM.MAX (h a : Nat) : FRef := ⟨R.SRV_LIM.addr h a, 31, 16⟩
/-- SRV_LIM[15:0]. -/
abbrev R.SRV_LIM.MIN (h a : Nat) : FRef := ⟨R.SRV_LIM.addr h a, 15, 0⟩
/-- SRV_DRV, 10_mirror_servo.md R274. -/
abbrev R.SRV_DRV.addr (h a : Nat) : Nat := 0x102014 + h * 0x10000 + a * 0x4
/-- SRV_DRV[31:16]. -/
abbrev R.SRV_DRV.DRV_MAX (h a : Nat) : FRef := ⟨R.SRV_DRV.addr h a, 31, 16⟩
/-- SRV_DRV[15:0]. -/
abbrev R.SRV_DRV.DRV_MIN (h a : Nat) : FRef := ⟨R.SRV_DRV.addr h a, 15, 0⟩
/-- SRV_PARK, 10_mirror_servo.md R279. -/
abbrev R.SRV_PARK.addr (h a : Nat) : Nat := 0x10201C + h * 0x10000 + a * 0x4
/-- SRV_PARK[31:16]. -/
abbrev R.SRV_PARK.PARK_DRV (h a : Nat) : FRef := ⟨R.SRV_PARK.addr h a, 31, 16⟩
/-- SRV_PARK[15:0]. -/
abbrev R.SRV_PARK.PARK_SP (h a : Nat) : FRef := ⟨R.SRV_PARK.addr h a, 15, 0⟩
/-- SRV_PARK_CFG, 10_mirror_servo.md R280. -/
abbrev R.SRV_PARK_CFG.addr (h : Nat) : Nat := 0x102024 + h * 0x10000
/-- SRV_PARK_CFG[31:20]. -/
abbrev R.SRV_PARK_CFG.TOL (h : Nat) : FRef := ⟨R.SRV_PARK_CFG.addr h, 31, 20⟩
/-- SRV_PARK_CFG[19:12]. -/
abbrev R.SRV_PARK_CFG.TIMEOUT (h : Nat) : FRef := ⟨R.SRV_PARK_CFG.addr h, 19, 12⟩
/-- SRV_PARK_CFG[11:0]. -/
abbrev R.SRV_PARK_CFG.SLEW (h : Nat) : FRef := ⟨R.SRV_PARK_CFG.addr h, 11, 0⟩
/-- SRV_TIMES, 10_mirror_servo.md R265. -/
abbrev R.SRV_TIMES.addr (h : Nat) : Nat := 0x102028 + h * 0x10000
/-- SRV_TIMES[31:24]. -/
abbrev R.SRV_TIMES.OFFS_T (h : Nat) : FRef := ⟨R.SRV_TIMES.addr h, 31, 24⟩
/-- SRV_TIMES[23:16]. -/
abbrev R.SRV_TIMES.SLEW_OL (h : Nat) : FRef := ⟨R.SRV_TIMES.addr h, 23, 16⟩
/-- SRV_TIMES[11:0]. -/
abbrev R.SRV_TIMES.TRACK_LIM (h : Nat) : FRef := ⟨R.SRV_TIMES.addr h, 11, 0⟩
/-- SRV_SCALE, 10_mirror_servo.md R264. -/
abbrev R.SRV_SCALE.addr (h l : Nat) : Nat := 0x10202C + h * 0x10000 + l * 0x4
/-- SRV_SCALE[31:16]. -/
abbrev R.SRV_SCALE.SCALE_Y (h l : Nat) : FRef := ⟨R.SRV_SCALE.addr h l, 31, 16⟩
/-- SRV_SCALE[15:0]. -/
abbrev R.SRV_SCALE.SCALE_X (h l : Nat) : FRef := ⟨R.SRV_SCALE.addr h l, 15, 0⟩
/-- SRV_FOLLOW_CFG, 10_mirror_servo.md R270. -/
abbrev R.SRV_FOLLOW_CFG.addr (h : Nat) : Nat := 0x102038 + h * 0x10000
/-- SRV_FOLLOW_CFG[31:24]. -/
abbrev R.SRV_FOLLOW_CFG.SLEW (h : Nat) : FRef := ⟨R.SRV_FOLLOW_CFG.addr h, 31, 24⟩
/-- SRV_FOLLOW_CFG[15:12]. -/
abbrev R.SRV_FOLLOW_CFG.HK_ENTRY (h : Nat) : FRef := ⟨R.SRV_FOLLOW_CFG.addr h, 15, 12⟩
/-- SRV_FOLLOW_CFG[6:2]. -/
abbrev R.SRV_FOLLOW_CFG.SHIFT (h : Nat) : FRef := ⟨R.SRV_FOLLOW_CFG.addr h, 6, 2⟩
/-- SRV_FOLLOW_CFG[1:0]. -/
abbrev R.SRV_FOLLOW_CFG.SRC (h : Nat) : FRef := ⟨R.SRV_FOLLOW_CFG.addr h, 1, 0⟩
/-- SRV_FOLLOW_OFS, 10_mirror_servo.md R270. -/
abbrev R.SRV_FOLLOW_OFS.addr (h : Nat) : Nat := 0x10203C + h * 0x10000
/-- SRV_FOLLOW_OFS[23:0]. -/
abbrev R.SRV_FOLLOW_OFS.OFS (h : Nat) : FRef := ⟨R.SRV_FOLLOW_OFS.addr h, 23, 0⟩
/-- SRV_FOLLOW_FB, 10_mirror_servo.md R271. -/
abbrev R.SRV_FOLLOW_FB.addr (h : Nat) : Nat := 0x102040 + h * 0x10000
/-- SRV_FOLLOW_FB[31:16]. -/
abbrev R.SRV_FOLLOW_FB.FB_Y (h : Nat) : FRef := ⟨R.SRV_FOLLOW_FB.addr h, 31, 16⟩
/-- SRV_FOLLOW_FB[15:0]. -/
abbrev R.SRV_FOLLOW_FB.FB_X (h : Nat) : FRef := ⟨R.SRV_FOLLOW_FB.addr h, 15, 0⟩
/-- SRV_STATUS, 10_mirror_servo.md R275. -/
abbrev R.SRV_STATUS.addr (h : Nat) : Nat := 0x102050 + h * 0x10000
/-- SRV_STATUS[19:18]. -/
abbrev R.SRV_STATUS.LEVEL (h : Nat) : FRef := ⟨R.SRV_STATUS.addr h, 19, 18⟩
/-- SRV_STATUS[17:16]. -/
abbrev R.SRV_STATUS.MODE (h : Nat) : FRef := ⟨R.SRV_STATUS.addr h, 17, 16⟩
/-- SRV_STATUS[15:13]. -/
abbrev R.SRV_STATUS.SEQ (h : Nat) : FRef := ⟨R.SRV_STATUS.addr h, 15, 13⟩
/-- SRV_STATUS[12:12]. -/
abbrev R.SRV_STATUS.HOLD (h : Nat) : FRef := ⟨R.SRV_STATUS.addr h, 12, 12⟩
/-- SRV_STATUS[11:11]. -/
abbrev R.SRV_STATUS.FOLLOW_FB (h : Nat) : FRef := ⟨R.SRV_STATUS.addr h, 11, 11⟩
/-- SRV_STATUS[10:9]. -/
abbrev R.SRV_STATUS.OVR_RUN (h : Nat) : FRef := ⟨R.SRV_STATUS.addr h, 10, 9⟩
/-- SRV_STATUS[3:0]. -/
abbrev R.SRV_STATUS.CAUSE (h : Nat) : FRef := ⟨R.SRV_STATUS.addr h, 3, 0⟩
/-- SRV_ERR, 10_mirror_servo.md R272. -/
abbrev R.SRV_ERR.addr (h a : Nat) : Nat := 0x102054 + h * 0x10000 + a * 0x4
/-- SRV_ERR[31:0]. -/
abbrev R.SRV_ERR.VALUE (h a : Nat) : FRef := ⟨R.SRV_ERR.addr h a, 31, 0⟩
/-- SRV_POS, 10_mirror_servo.md R272. -/
abbrev R.SRV_POS.addr (h a : Nat) : Nat := 0x10205C + h * 0x10000 + a * 0x4
/-- SRV_POS[31:0]. -/
abbrev R.SRV_POS.VALUE (h a : Nat) : FRef := ⟨R.SRV_POS.addr h a, 31, 0⟩
/-- SRV_APPLIED, 10_mirror_servo.md R276. -/
abbrev R.SRV_APPLIED.addr (h : Nat) : Nat := 0x102064 + h * 0x10000
/-- SRV_APPLIED[31:0]. -/
abbrev R.SRV_APPLIED.VALUE (h : Nat) : FRef := ⟨R.SRV_APPLIED.addr h, 31, 0⟩
/-- SRV_CNT_OVR, 10_mirror_servo.md R278. -/
abbrev R.SRV_CNT_OVR.addr (h : Nat) : Nat := 0x102068 + h * 0x10000
/-- SRV_CNT_OVR[31:0]. -/
abbrev R.SRV_CNT_OVR.COUNT (h : Nat) : FRef := ⟨R.SRV_CNT_OVR.addr h, 31, 0⟩
/-- SRV_CNT_LOST, 10_mirror_servo.md R277. -/
abbrev R.SRV_CNT_LOST.addr (h : Nat) : Nat := 0x10206C + h * 0x10000
/-- SRV_CNT_LOST[31:0]. -/
abbrev R.SRV_CNT_LOST.COUNT (h : Nat) : FRef := ⟨R.SRV_CNT_LOST.addr h, 31, 0⟩
/-- SRV_CNT_CLAMP, 10_mirror_servo.md R274. -/
abbrev R.SRV_CNT_CLAMP.addr (h : Nat) : Nat := 0x102070 + h * 0x10000
/-- SRV_CNT_CLAMP[31:0]. -/
abbrev R.SRV_CNT_CLAMP.COUNT (h : Nat) : FRef := ⟨R.SRV_CNT_CLAMP.addr h, 31, 0⟩
/-- SRV_CNT_TRACK, 10_mirror_servo.md R273. -/
abbrev R.SRV_CNT_TRACK.addr (h : Nat) : Nat := 0x102074 + h * 0x10000
/-- SRV_CNT_TRACK[31:0]. -/
abbrev R.SRV_CNT_TRACK.COUNT (h : Nat) : FRef := ⟨R.SRV_CNT_TRACK.addr h, 31, 0⟩
/-- SRV_COEF, 10_mirror_servo.md R266. -/
abbrev R.SRV_COEF.addr (h a k i : Nat) : Nat := 0x102100 + h * 0x10000 + a * 0x40 + k * 0x20 + i * 0x4
/-- SRV_COEF[31:0]. -/
abbrev R.SRV_COEF.COEF (h a k i : Nat) : FRef := ⟨R.SRV_COEF.addr h a k i, 31, 0⟩
/-- SRV_FOLLOW_T, 10_mirror_servo.md R270. -/
abbrev R.SRV_FOLLOW_T.addr (h a j : Nat) : Nat := 0x102400 + h * 0x10000 + a * 0x200 + j * 0x4
/-- SRV_FOLLOW_T[31:16]. -/
abbrev R.SRV_FOLLOW_T.HIGH (h a j : Nat) : FRef := ⟨R.SRV_FOLLOW_T.addr h a j, 31, 16⟩
/-- SRV_FOLLOW_T[15:0]. -/
abbrev R.SRV_FOLLOW_T.LOW (h a j : Nat) : FRef := ⟨R.SRV_FOLLOW_T.addr h a j, 15, 0⟩
/-- EYE_CFG, 11_eye_safety.md R282. -/
abbrev R.EYE_CFG.addr (h : Nat) : Nat := 0x102800 + h * 0x10000
/-- EYE_CFG[31:24]. -/
abbrev R.EYE_CFG.CAP_DLY (h : Nat) : FRef := ⟨R.EYE_CFG.addr h, 31, 24⟩
/-- EYE_CFG[23:16]. -/
abbrev R.EYE_CFG.MON_N (h : Nat) : FRef := ⟨R.EYE_CFG.addr h, 23, 16⟩
/-- EYE_CFG[15:8]. -/
abbrev R.EYE_CFG.LOW (h : Nat) : FRef := ⟨R.EYE_CFG.addr h, 15, 8⟩
/-- EYE_GAIN, 11_eye_safety.md R283. -/
abbrev R.EYE_GAIN.addr (h : Nat) : Nat := 0x102804 + h * 0x10000
/-- EYE_GAIN[31:0]. -/
abbrev R.EYE_GAIN.GAIN (h : Nat) : FRef := ⟨R.EYE_GAIN.addr h, 31, 0⟩
/-- EYE_ZERO, 11_eye_safety.md R285. -/
abbrev R.EYE_ZERO.addr (h : Nat) : Nat := 0x102808 + h * 0x10000
/-- EYE_ZERO[13:0]. -/
abbrev R.EYE_ZERO.ZERO (h : Nat) : FRef := ⟨R.EYE_ZERO.addr h, 13, 0⟩
/-- EYE_GRID, 11_eye_safety.md R286. -/
abbrev R.EYE_GRID.addr (h a : Nat) : Nat := 0x10280C + h * 0x10000 + a * 0x4
/-- EYE_GRID[28:24]. -/
abbrev R.EYE_GRID.W_LOG2 (h a : Nat) : FRef := ⟨R.EYE_GRID.addr h a, 28, 24⟩
/-- EYE_GRID[23:0]. -/
abbrev R.EYE_GRID.ORIGIN (h a : Nat) : FRef := ⟨R.EYE_GRID.addr h a, 23, 0⟩
/-- EYE_GUARD, 11_eye_safety.md R286. -/
abbrev R.EYE_GUARD.addr (h : Nat) : Nat := 0x102814 + h * 0x10000
/-- EYE_GUARD[23:0]. -/
abbrev R.EYE_GUARD.GUARD (h : Nat) : FRef := ⟨R.EYE_GUARD.addr h, 23, 0⟩
/-- EYE_WIN, 11_eye_safety.md R289. -/
abbrev R.EYE_WIN.addr (h w : Nat) : Nat := 0x102820 + h * 0x10000 + w * 0x8
/-- EYE_WIN[24:24]. -/
abbrev R.EYE_WIN.EN (h w : Nat) : FRef := ⟨R.EYE_WIN.addr h w, 24, 24⟩
/-- EYE_WIN[23:0]. -/
abbrev R.EYE_WIN.LEN (h w : Nat) : FRef := ⟨R.EYE_WIN.addr h w, 23, 0⟩
/-- EYE_WIN_LIMIT, 11_eye_safety.md R289. -/
abbrev R.EYE_WIN_LIMIT.addr (h w : Nat) : Nat := 0x102824 + h * 0x10000 + w * 0x8
/-- EYE_WIN_LIMIT[31:0]. -/
abbrev R.EYE_WIN_LIMIT.LIMIT (h w : Nat) : FRef := ⟨R.EYE_WIN_LIMIT.addr h w, 31, 0⟩
/-- EYE_PREFILL, 11_eye_safety.md R295. -/
abbrev R.EYE_PREFILL.addr (h w : Nat) : Nat := 0x102840 + h * 0x10000 + w * 0x4
/-- EYE_PREFILL[31:0]. -/
abbrev R.EYE_PREFILL.PREFILL (h w : Nat) : FRef := ⟨R.EYE_PREFILL.addr h w, 31, 0⟩
/-- EYE_MOTION, 11_eye_safety.md R292. -/
abbrev R.EYE_MOTION.addr (h : Nat) : Nat := 0x102850 + h * 0x10000
/-- EYE_MOTION[31:16]. -/
abbrev R.EYE_MOTION.T (h : Nat) : FRef := ⟨R.EYE_MOTION.addr h, 31, 16⟩
/-- EYE_MOTION[15:0]. -/
abbrev R.EYE_MOTION.BOX (h : Nat) : FRef := ⟨R.EYE_MOTION.addr h, 15, 0⟩
/-- EYE_CTL, 11_eye_safety.md R284. -/
abbrev R.EYE_CTL.addr (h : Nat) : Nat := 0x102854 + h * 0x10000
/-- EYE_CTL[0:0]. -/
abbrev R.EYE_CTL.CLR (h : Nat) : FRef := ⟨R.EYE_CTL.addr h, 0, 0⟩
/-- EYE_STATUS, 11_eye_safety.md R284. -/
abbrev R.EYE_STATUS.addr (h : Nat) : Nat := 0x102858 + h * 0x10000
/-- EYE_STATUS[6:6]. -/
abbrev R.EYE_STATUS.ZERO_PEND (h : Nat) : FRef := ⟨R.EYE_STATUS.addr h, 6, 6⟩
/-- EYE_STATUS[5:5]. -/
abbrev R.EYE_STATUS.ECC (h : Nat) : FRef := ⟨R.EYE_STATUS.addr h, 5, 5⟩
/-- EYE_STATUS[4:4]. -/
abbrev R.EYE_STATUS.MOTION (h : Nat) : FRef := ⟨R.EYE_STATUS.addr h, 4, 4⟩
/-- EYE_STATUS[3:3]. -/
abbrev R.EYE_STATUS.POSITION (h : Nat) : FRef := ⟨R.EYE_STATUS.addr h, 3, 3⟩
/-- EYE_STATUS[2:2]. -/
abbrev R.EYE_STATUS.MON_FAIL (h : Nat) : FRef := ⟨R.EYE_STATUS.addr h, 2, 2⟩
/-- EYE_STATUS[1:1]. -/
abbrev R.EYE_STATUS.PULSE_HIGH (h : Nat) : FRef := ⟨R.EYE_STATUS.addr h, 1, 1⟩
/-- EYE_STATUS[0:0]. -/
abbrev R.EYE_STATUS.LIMIT (h : Nat) : FRef := ⟨R.EYE_STATUS.addr h, 0, 0⟩
/-- EYE_BLOCK, 11_eye_safety.md R290. -/
abbrev R.EYE_BLOCK.addr (h : Nat) : Nat := 0x10285C + h * 0x10000
/-- EYE_BLOCK[13:12]. -/
abbrev R.EYE_BLOCK.WIN (h : Nat) : FRef := ⟨R.EYE_BLOCK.addr h, 13, 12⟩
/-- EYE_BLOCK[11:0]. -/
abbrev R.EYE_BLOCK.SECTOR (h : Nat) : FRef := ⟨R.EYE_BLOCK.addr h, 11, 0⟩
/-- EYE_CNT_LOW, 11_eye_safety.md R284. -/
abbrev R.EYE_CNT_LOW.addr (h : Nat) : Nat := 0x102860 + h * 0x10000
/-- EYE_CNT_LOW[31:0]. -/
abbrev R.EYE_CNT_LOW.COUNT (h : Nat) : FRef := ⟨R.EYE_CNT_LOW.addr h, 31, 0⟩
/-- EYE_CNT_HIGH, 11_eye_safety.md R284. -/
abbrev R.EYE_CNT_HIGH.addr (h : Nat) : Nat := 0x102864 + h * 0x10000
/-- EYE_CNT_HIGH[31:0]. -/
abbrev R.EYE_CNT_HIGH.COUNT (h : Nat) : FRef := ⟨R.EYE_CNT_HIGH.addr h, 31, 0⟩
/-- EYE_CNT_ECC, 11_eye_safety.md R293. -/
abbrev R.EYE_CNT_ECC.addr (h : Nat) : Nat := 0x102868 + h * 0x10000
/-- EYE_CNT_ECC[31:0]. -/
abbrev R.EYE_CNT_ECC.COUNT (h : Nat) : FRef := ⟨R.EYE_CNT_ECC.addr h, 31, 0⟩
/-- EYE_ENERGY_LO, 11_eye_safety.md R283. -/
abbrev R.EYE_ENERGY_LO.addr (h : Nat) : Nat := 0x10286C + h * 0x10000
/-- EYE_ENERGY_LO[31:0]. -/
abbrev R.EYE_ENERGY_LO.VALUE (h : Nat) : FRef := ⟨R.EYE_ENERGY_LO.addr h, 31, 0⟩
/-- EYE_ENERGY_HI, 11_eye_safety.md R283. -/
abbrev R.EYE_ENERGY_HI.addr (h : Nat) : Nat := 0x102870 + h * 0x10000
/-- EYE_ENERGY_HI[31:0]. -/
abbrev R.EYE_ENERGY_HI.VALUE (h : Nat) : FRef := ⟨R.EYE_ENERGY_HI.addr h, 31, 0⟩
/-- EYE_SECT_SEL, 11_eye_safety.md R289. -/
abbrev R.EYE_SECT_SEL.addr (h : Nat) : Nat := 0x102874 + h * 0x10000
/-- EYE_SECT_SEL[13:12]. -/
abbrev R.EYE_SECT_SEL.WIN (h : Nat) : FRef := ⟨R.EYE_SECT_SEL.addr h, 13, 12⟩
/-- EYE_SECT_SEL[11:0]. -/
abbrev R.EYE_SECT_SEL.SECTOR (h : Nat) : FRef := ⟨R.EYE_SECT_SEL.addr h, 11, 0⟩
/-- EYE_SECT_SUM, 11_eye_safety.md R289. -/
abbrev R.EYE_SECT_SUM.addr (h : Nat) : Nat := 0x102878 + h * 0x10000
/-- EYE_SECT_SUM[31:0]. -/
abbrev R.EYE_SECT_SUM.SUM (h : Nat) : FRef := ⟨R.EYE_SECT_SUM.addr h, 31, 0⟩
/-- SEC_STATUS, 20_boot_security.md R467. -/
abbrev R.SEC_STATUS.addr : Nat := 0x10000
/-- SEC_STATUS[23:16]. -/
abbrev R.SEC_STATUS.ROLLBACK : FRef := ⟨R.SEC_STATUS.addr, 23, 16⟩
/-- SEC_STATUS[15:8]. -/
abbrev R.SEC_STATUS.SEC_VER : FRef := ⟨R.SEC_STATUS.addr, 15, 8⟩
/-- SEC_STATUS[7:7]. -/
abbrev R.SEC_STATUS.SESSION : FRef := ⟨R.SEC_STATUS.addr, 7, 7⟩
/-- SEC_STATUS[6:6]. -/
abbrev R.SEC_STATUS.SEALED : FRef := ⟨R.SEC_STATUS.addr, 6, 6⟩
/-- SEC_STATUS[5:5]. -/
abbrev R.SEC_STATUS.SLOT : FRef := ⟨R.SEC_STATUS.addr, 5, 5⟩
/-- SEC_STATUS[4:4]. -/
abbrev R.SEC_STATUS.FALLBACK : FRef := ⟨R.SEC_STATUS.addr, 4, 4⟩
/-- SEC_STATUS[2:0]. -/
abbrev R.SEC_STATUS.LC : FRef := ⟨R.SEC_STATUS.addr, 2, 0⟩
/-- SEC_BOOT, 20_boot_security.md R470. -/
abbrev R.SEC_BOOT.addr : Nat := 0x10004
/-- SEC_BOOT[15:8]. -/
abbrev R.SEC_BOOT.CAUSE_B : FRef := ⟨R.SEC_BOOT.addr, 15, 8⟩
/-- SEC_BOOT[7:0]. -/
abbrev R.SEC_BOOT.CAUSE_A : FRef := ⟨R.SEC_BOOT.addr, 7, 0⟩
/-- SEC_IMAGE_SEQ, 20_boot_security.md R473. -/
abbrev R.SEC_IMAGE_SEQ.addr : Nat := 0x10008
/-- SEC_IMAGE_SEQ[31:0]. -/
abbrev R.SEC_IMAGE_SEQ.SEQ : FRef := ⟨R.SEC_IMAGE_SEQ.addr, 31, 0⟩
/-- SEC_SERIAL_LO, 20_boot_security.md R467. -/
abbrev R.SEC_SERIAL_LO.addr : Nat := 0x10010
/-- SEC_SERIAL_LO[31:0]. -/
abbrev R.SEC_SERIAL_LO.SERIAL : FRef := ⟨R.SEC_SERIAL_LO.addr, 31, 0⟩
/-- SEC_SERIAL_HI, 20_boot_security.md R467. -/
abbrev R.SEC_SERIAL_HI.addr : Nat := 0x10014
/-- SEC_SERIAL_HI[31:0]. -/
abbrev R.SEC_SERIAL_HI.SERIAL : FRef := ⟨R.SEC_SERIAL_HI.addr, 31, 0⟩
/-- SEC_ROOTS, 20_boot_security.md R467. -/
abbrev R.SEC_ROOTS.addr : Nat := 0x10018
/-- SEC_ROOTS[7:4]. -/
abbrev R.SEC_ROOTS.REVOKED : FRef := ⟨R.SEC_ROOTS.addr, 7, 4⟩
/-- SEC_ROOTS[3:0]. -/
abbrev R.SEC_ROOTS.PROGRAMMED : FRef := ⟨R.SEC_ROOTS.addr, 3, 0⟩
/-- SEC_SESSION, 20_boot_security.md R478. -/
abbrev R.SEC_SESSION.addr : Nat := 0x1001C
/-- SEC_SESSION[9:8]. -/
abbrev R.SEC_SESSION.STATE : FRef := ⟨R.SEC_SESSION.addr, 9, 8⟩
/-- SEC_SESSION[7:0]. -/
abbrev R.SEC_SESSION.PERM : FRef := ⟨R.SEC_SESSION.addr, 7, 0⟩
/-- SEC_SESSION_EXP_LO, 20_boot_security.md R479. -/
abbrev R.SEC_SESSION_EXP_LO.addr : Nat := 0x10020
/-- SEC_SESSION_EXP_LO[31:0]. -/
abbrev R.SEC_SESSION_EXP_LO.VALUE : FRef := ⟨R.SEC_SESSION_EXP_LO.addr, 31, 0⟩
/-- SEC_SESSION_EXP_HI, 20_boot_security.md R479. -/
abbrev R.SEC_SESSION_EXP_HI.addr : Nat := 0x10024
/-- SEC_SESSION_EXP_HI[31:0]. -/
abbrev R.SEC_SESSION_EXP_HI.VALUE : FRef := ⟨R.SEC_SESSION_EXP_HI.addr, 31, 0⟩
/-- SEC_CNT_AUTH_FAIL, 20_boot_security.md R478. -/
abbrev R.SEC_CNT_AUTH_FAIL.addr : Nat := 0x10028
/-- SEC_CNT_AUTH_FAIL[31:0]. -/
abbrev R.SEC_CNT_AUTH_FAIL.COUNT : FRef := ⟨R.SEC_CNT_AUTH_FAIL.addr, 31, 0⟩
/-- SEC_CNT_SESSION, 20_boot_security.md R478. -/
abbrev R.SEC_CNT_SESSION.addr : Nat := 0x1002C
/-- SEC_CNT_SESSION[31:0]. -/
abbrev R.SEC_CNT_SESSION.COUNT : FRef := ⟨R.SEC_CNT_SESSION.addr, 31, 0⟩
/-- SEC_MAINT_CFG, 20_boot_security.md R479. -/
abbrev R.SEC_MAINT_CFG.addr : Nat := 0x10030
/-- SEC_MAINT_CFG[31:24]. -/
abbrev R.SEC_MAINT_CFG.LOST_T : FRef := ⟨R.SEC_MAINT_CFG.addr, 31, 24⟩
/-- SEC_MAINT_CFG[17:16]. -/
abbrev R.SEC_MAINT_CFG.PORT : FRef := ⟨R.SEC_MAINT_CFG.addr, 17, 16⟩
/-- SEC_MAINT_CFG[15:0]. -/
abbrev R.SEC_MAINT_CFG.UDP_PORT : FRef := ⟨R.SEC_MAINT_CFG.addr, 15, 0⟩
/-- SEC_DIGEST, 20_boot_security.md R473. -/
abbrev R.SEC_DIGEST.addr (w : Nat) : Nat := 0x10040 + w * 0x4
/-- SEC_DIGEST[31:0]. -/
abbrev R.SEC_DIGEST.DIGEST (w : Nat) : FRef := ⟨R.SEC_DIGEST.addr w, 31, 0⟩
/-- SEC_NONCE, 20_boot_security.md R476. -/
abbrev R.SEC_NONCE.addr (w : Nat) : Nat := 0x10080 + w * 0x4
/-- SEC_NONCE[31:0]. -/
abbrev R.SEC_NONCE.NONCE (w : Nat) : FRef := ⟨R.SEC_NONCE.addr w, 31, 0⟩
/-- SEC_ATTEST_CTL, 20_boot_security.md R476. -/
abbrev R.SEC_ATTEST_CTL.addr : Nat := 0x100A0
/-- SEC_ATTEST_CTL[0:0]. -/
abbrev R.SEC_ATTEST_CTL.REQ : FRef := ⟨R.SEC_ATTEST_CTL.addr, 0, 0⟩
/-- SEC_ATTEST_STATUS, 20_boot_security.md R476. -/
abbrev R.SEC_ATTEST_STATUS.addr : Nat := 0x100A4
/-- SEC_ATTEST_STATUS[31:16]. -/
abbrev R.SEC_ATTEST_STATUS.COUNT : FRef := ⟨R.SEC_ATTEST_STATUS.addr, 31, 16⟩
/-- SEC_ATTEST_STATUS[1:1]. -/
abbrev R.SEC_ATTEST_STATUS.DONE : FRef := ⟨R.SEC_ATTEST_STATUS.addr, 1, 1⟩
/-- SEC_ATTEST_STATUS[0:0]. -/
abbrev R.SEC_ATTEST_STATUS.BUSY : FRef := ⟨R.SEC_ATTEST_STATUS.addr, 0, 0⟩
/-- SEC_ATTEST, 20_boot_security.md R476. -/
abbrev R.SEC_ATTEST.addr (w : Nat) : Nat := 0x11000 + w * 0x4
/-- SEC_ATTEST[31:0]. -/
abbrev R.SEC_ATTEST.DATA (w : Nat) : FRef := ⟨R.SEC_ATTEST.addr w, 31, 0⟩
/-- SEC_IDPUB, 20_boot_security.md R468. -/
abbrev R.SEC_IDPUB.addr (w : Nat) : Nat := 0x12000 + w * 0x4
/-- SEC_IDPUB[31:0]. -/
abbrev R.SEC_IDPUB.DATA (w : Nat) : FRef := ⟨R.SEC_IDPUB.addr w, 31, 0⟩
/-- PWR_CFG, 18_power_thermal.md R428. -/
abbrev R.PWR_CFG.addr : Nat := 0x20000
/-- PWR_CFG[31:24]. -/
abbrev R.PWR_CFG.STARVE : FRef := ⟨R.PWR_CFG.addr, 31, 24⟩
/-- PWR_CFG[19:16]. -/
abbrev R.PWR_CFG.SAFE_RES : FRef := ⟨R.PWR_CFG.addr, 19, 16⟩
/-- PWR_CFG[9:0]. -/
abbrev R.PWR_CFG.BUDGET : FRef := ⟨R.PWR_CFG.addr, 9, 0⟩
/-- PWR_CUT, 18_power_thermal.md R440. -/
abbrev R.PWR_CUT.addr : Nat := 0x20004
/-- PWR_CUT[9:0]. -/
abbrev R.PWR_CUT.CUT : FRef := ⟨R.PWR_CUT.addr, 9, 0⟩
/-- PWR_STATUS, 18_power_thermal.md R428. -/
abbrev R.PWR_STATUS.addr : Nat := 0x20008
/-- PWR_STATUS[31:31]. -/
abbrev R.PWR_STATUS.CUT : FRef := ⟨R.PWR_STATUS.addr, 31, 31⟩
/-- PWR_STATUS[25:16]. -/
abbrev R.PWR_STATUS.B : FRef := ⟨R.PWR_STATUS.addr, 25, 16⟩
/-- PWR_STATUS[9:0]. -/
abbrev R.PWR_STATUS.GRANTED : FRef := ⟨R.PWR_STATUS.addr, 9, 0⟩
/-- PWR_HS_CFG, 18_power_thermal.md R434. -/
abbrev R.PWR_HS_CFG.addr : Nat := 0x2000C
/-- PWR_HS_CFG[31:16]. -/
abbrev R.PWR_HS_CFG.DEPTH : FRef := ⟨R.PWR_HS_CFG.addr, 31, 16⟩
/-- PWR_HS_CFG[15:0]. -/
abbrev R.PWR_HS_CFG.P_HS : FRef := ⟨R.PWR_HS_CFG.addr, 15, 0⟩
/-- PWR_HS_LEVEL, 18_power_thermal.md R434. -/
abbrev R.PWR_HS_LEVEL.addr : Nat := 0x20010
/-- PWR_HS_LEVEL[31:0]. -/
abbrev R.PWR_HS_LEVEL.LEVEL : FRef := ⟨R.PWR_HS_LEVEL.addr, 31, 0⟩
/-- PWR_CNT_WITHDRAW, 18_power_thermal.md R432. -/
abbrev R.PWR_CNT_WITHDRAW.addr : Nat := 0x20014
/-- PWR_CNT_WITHDRAW[31:0]. -/
abbrev R.PWR_CNT_WITHDRAW.COUNT : FRef := ⟨R.PWR_CNT_WITHDRAW.addr, 31, 0⟩
/-- PWR_CNT_SUPPLY, 18_power_thermal.md R435. -/
abbrev R.PWR_CNT_SUPPLY.addr : Nat := 0x20018
/-- PWR_CNT_SUPPLY[31:0]. -/
abbrev R.PWR_CNT_SUPPLY.COUNT : FRef := ⟨R.PWR_CNT_SUPPLY.addr, 31, 0⟩
/-- PWR_CNT_RECALL, 18_power_thermal.md R433. -/
abbrev R.PWR_CNT_RECALL.addr : Nat := 0x2001C
/-- PWR_CNT_RECALL[31:0]. -/
abbrev R.PWR_CNT_RECALL.COUNT : FRef := ⟨R.PWR_CNT_RECALL.addr, 31, 0⟩
/-- PWR_CNT_STARVE, 18_power_thermal.md R430. -/
abbrev R.PWR_CNT_STARVE.addr : Nat := 0x20020
/-- PWR_CNT_STARVE[31:0]. -/
abbrev R.PWR_CNT_STARVE.COUNT : FRef := ⟨R.PWR_CNT_STARVE.addr, 31, 0⟩
/-- THM_CFG, 18_power_thermal.md R438. -/
abbrev R.THM_CFG.addr : Nat := 0x30000
/-- THM_CFG[31:24]. -/
abbrev R.THM_CFG.HBM_RELIEF : FRef := ⟨R.THM_CFG.addr, 31, 24⟩
/-- THM_CFG[23:20]. -/
abbrev R.THM_CFG.RISE_N : FRef := ⟨R.THM_CFG.addr, 23, 20⟩
/-- THM_CFG[19:16]. -/
abbrev R.THM_CFG.HYST : FRef := ⟨R.THM_CFG.addr, 19, 16⟩
/-- THM_CFG[15:8]. -/
abbrev R.THM_CFG.LIMIT : FRef := ⟨R.THM_CFG.addr, 15, 8⟩
/-- THM_CFG[7:0]. -/
abbrev R.THM_CFG.WARN : FRef := ⟨R.THM_CFG.addr, 7, 0⟩
/-- THM_STATUS, 18_power_thermal.md R436. -/
abbrev R.THM_STATUS.addr : Nat := 0x30004
/-- THM_STATUS[21:16]. -/
abbrev R.THM_STATUS.COND : FRef := ⟨R.THM_STATUS.addr, 21, 16⟩
/-- THM_STATUS[15:0]. -/
abbrev R.THM_STATUS.TJ : FRef := ⟨R.THM_STATUS.addr, 15, 0⟩
/-- THM_RATE, 18_power_thermal.md R438. -/
abbrev R.THM_RATE.addr : Nat := 0x30008
/-- THM_RATE[15:0]. -/
abbrev R.THM_RATE.RATE : FRef := ⟨R.THM_RATE.addr, 15, 0⟩
/-- THM_TRIP, 18_power_thermal.md R441. -/
abbrev R.THM_TRIP.addr : Nat := 0x3000C
/-- THM_TRIP[31:31]. -/
abbrev R.THM_TRIP.HOLD : FRef := ⟨R.THM_TRIP.addr, 31, 31⟩
/-- THM_TRIP[15:0]. -/
abbrev R.THM_TRIP.SENSORS : FRef := ⟨R.THM_TRIP.addr, 15, 0⟩
/-- THM_BOARD, 18_power_thermal.md R443. -/
abbrev R.THM_BOARD.addr : Nat := 0x30010
/-- THM_BOARD[3:0]. -/
abbrev R.THM_BOARD.HK_ENTRY : FRef := ⟨R.THM_BOARD.addr, 3, 0⟩
/-- THM_CNT_WREFUSE, 18_power_thermal.md R443. -/
abbrev R.THM_CNT_WREFUSE.addr : Nat := 0x30014
/-- THM_CNT_WREFUSE[31:0]. -/
abbrev R.THM_CNT_WREFUSE.COUNT : FRef := ⟨R.THM_CNT_WREFUSE.addr, 31, 0⟩
/-- THM_HEAD, 18_power_thermal.md R444. -/
abbrev R.THM_HEAD.addr (h : Nat) : Nat := 0x30040 + h * 0x4
/-- THM_HEAD[31:16]. -/
abbrev R.THM_HEAD.TMAX (h : Nat) : FRef := ⟨R.THM_HEAD.addr h, 31, 16⟩
/-- THM_HEAD[15:0]. -/
abbrev R.THM_HEAD.TMIN (h : Nat) : FRef := ⟨R.THM_HEAD.addr h, 15, 0⟩
/-- THM_SENSOR, 18_power_thermal.md R436. -/
abbrev R.THM_SENSOR.addr (i : Nat) : Nat := 0x30100 + i * 0x4
/-- THM_SENSOR[16:16]. -/
abbrev R.THM_SENSOR.FAULTY (i : Nat) : FRef := ⟨R.THM_SENSOR.addr i, 16, 16⟩
/-- THM_SENSOR[15:0]. -/
abbrev R.THM_SENSOR.TEMP (i : Nat) : FRef := ⟨R.THM_SENSOR.addr i, 15, 0⟩
/-- CLK_CFG, 17_clocks.md R417. -/
abbrev R.CLK_CFG.addr : Nat := 0x40000
/-- CLK_CFG[9:9]. -/
abbrev R.CLK_CFG.LPLL_BYP : FRef := ⟨R.CLK_CFG.addr, 9, 9⟩
/-- CLK_CFG[8:8]. -/
abbrev R.CLK_CFG.TPLL_BYP : FRef := ⟨R.CLK_CFG.addr, 8, 8⟩
/-- CLK_CFG[6:5]. -/
abbrev R.CLK_CFG.GM_PORT : FRef := ⟨R.CLK_CFG.addr, 6, 5⟩
/-- CLK_CFG[4:4]. -/
abbrev R.CLK_CFG.GM_EN : FRef := ⟨R.CLK_CFG.addr, 4, 4⟩
/-- CLK_CFG[1:0]. -/
abbrev R.CLK_CFG.SPREAD : FRef := ⟨R.CLK_CFG.addr, 1, 0⟩
/-- CLK_STATUS, 17_clocks.md R413. -/
abbrev R.CLK_STATUS.addr : Nat := 0x40004
/-- CLK_STATUS[16:8]. -/
abbrev R.CLK_STATUS.LREF_OK : FRef := ⟨R.CLK_STATUS.addr, 16, 8⟩
/-- CLK_STATUS[7:7]. -/
abbrev R.CLK_STATUS.DISC_CLAMP : FRef := ⟨R.CLK_STATUS.addr, 7, 7⟩
/-- CLK_STATUS[6:6]. -/
abbrev R.CLK_STATUS.ALIGNED : FRef := ⟨R.CLK_STATUS.addr, 6, 6⟩
/-- CLK_STATUS[5:5]. -/
abbrev R.CLK_STATUS.HOLDOVER : FRef := ⟨R.CLK_STATUS.addr, 5, 5⟩
/-- CLK_STATUS[4:3]. -/
abbrev R.CLK_STATUS.HBM_LOCK : FRef := ⟨R.CLK_STATUS.addr, 4, 3⟩
/-- CLK_STATUS[2:2]. -/
abbrev R.CLK_STATUS.LPLL_LOCK : FRef := ⟨R.CLK_STATUS.addr, 2, 2⟩
/-- CLK_STATUS[1:1]. -/
abbrev R.CLK_STATUS.TPLL_LOCK : FRef := ⟨R.CLK_STATUS.addr, 1, 1⟩
/-- CLK_STATUS[0:0]. -/
abbrev R.CLK_STATUS.REFCLK_OK : FRef := ⟨R.CLK_STATUS.addr, 0, 0⟩
/-- CLK_TPLL, 17_clocks.md R414. -/
abbrev R.CLK_TPLL.addr : Nat := 0x40008
/-- CLK_TPLL[22:0]. -/
abbrev R.CLK_TPLL.SEED : FRef := ⟨R.CLK_TPLL.addr, 22, 0⟩
/-- CLK_DISC, 17_clocks.md R417. -/
abbrev R.CLK_DISC.addr : Nat := 0x4000C
/-- CLK_DISC[31:24]. -/
abbrev R.CLK_DISC.HOLD_ALIGN : FRef := ⟨R.CLK_DISC.addr, 31, 24⟩
/-- CLK_DISC[23:16]. -/
abbrev R.CLK_DISC.FREQ_LIM : FRef := ⟨R.CLK_DISC.addr, 23, 16⟩
/-- CLK_DISC[15:8]. -/
abbrev R.CLK_DISC.STEP_THR : FRef := ⟨R.CLK_DISC.addr, 15, 8⟩
/-- CLK_DISC[7:4]. -/
abbrev R.CLK_DISC.KI_LOG2 : FRef := ⟨R.CLK_DISC.addr, 7, 4⟩
/-- CLK_DISC[3:0]. -/
abbrev R.CLK_DISC.KP_LOG2 : FRef := ⟨R.CLK_DISC.addr, 3, 0⟩
/-- CLK_FREQ_ADJ, 17_clocks.md R417. -/
abbrev R.CLK_FREQ_ADJ.addr : Nat := 0x40010
/-- CLK_FREQ_ADJ[31:0]. -/
abbrev R.CLK_FREQ_ADJ.ADJ : FRef := ⟨R.CLK_FREQ_ADJ.addr, 31, 0⟩
/-- CLK_HOLD, 17_clocks.md R419. -/
abbrev R.CLK_HOLD.addr : Nat := 0x40014
/-- CLK_HOLD[31:0]. -/
abbrev R.CLK_HOLD.HOLD : FRef := ⟨R.CLK_HOLD.addr, 31, 0⟩
/-- CLK_TIMING_CAUSE, 17_clocks.md R426. -/
abbrev R.CLK_TIMING_CAUSE.addr : Nat := 0x40018
/-- CLK_TIMING_CAUSE[31:16]. -/
abbrev R.CLK_TIMING_CAUSE.HEADS : FRef := ⟨R.CLK_TIMING_CAUSE.addr, 31, 16⟩
/-- CLK_TIMING_CAUSE[4:4]. -/
abbrev R.CLK_TIMING_CAUSE.HOLD : FRef := ⟨R.CLK_TIMING_CAUSE.addr, 4, 4⟩
/-- CLK_TIMING_CAUSE[3:3]. -/
abbrev R.CLK_TIMING_CAUSE.CAL : FRef := ⟨R.CLK_TIMING_CAUSE.addr, 3, 3⟩
/-- CLK_TIMING_CAUSE[2:2]. -/
abbrev R.CLK_TIMING_CAUSE.ALIGN : FRef := ⟨R.CLK_TIMING_CAUSE.addr, 2, 2⟩
/-- CLK_TIMING_CAUSE[1:1]. -/
abbrev R.CLK_TIMING_CAUSE.TPLL : FRef := ⟨R.CLK_TIMING_CAUSE.addr, 1, 1⟩
/-- CLK_TIMING_CAUSE[0:0]. -/
abbrev R.CLK_TIMING_CAUSE.REFCLK : FRef := ⟨R.CLK_TIMING_CAUSE.addr, 0, 0⟩
/-- CLK_CNT_LOL, 17_clocks.md R424. -/
abbrev R.CLK_CNT_LOL.addr : Nat := 0x4001C
/-- CLK_CNT_LOL[31:0]. -/
abbrev R.CLK_CNT_LOL.COUNT : FRef := ⟨R.CLK_CNT_LOL.addr, 31, 0⟩
/-- CLK_CNT_STEP, 17_clocks.md R418. -/
abbrev R.CLK_CNT_STEP.addr : Nat := 0x40020
/-- CLK_CNT_STEP[31:0]. -/
abbrev R.CLK_CNT_STEP.COUNT : FRef := ⟨R.CLK_CNT_STEP.addr, 31, 0⟩
/-- HK_CFG, 19_housekeeping.md R448. -/
abbrev R.HK_CFG.addr : Nat := 0x50000
/-- HK_CFG[12:8]. -/
abbrev R.HK_CFG.NSTEP_M1 : FRef := ⟨R.HK_CFG.addr, 12, 8⟩
/-- HK_CFG[1:0]. -/
abbrev R.HK_CFG.PERIOD : FRef := ⟨R.HK_CFG.addr, 1, 0⟩
/-- HK_CTL, 19_housekeeping.md R459. -/
abbrev R.HK_CTL.addr : Nat := 0x50004
/-- HK_CTL[11:8]. -/
abbrev R.HK_CTL.URG_ENTRY : FRef := ⟨R.HK_CTL.addr, 11, 8⟩
/-- HK_CTL[4:4]. -/
abbrev R.HK_CTL.URG : FRef := ⟨R.HK_CTL.addr, 4, 4⟩
/-- HK_CTL[3:3]. -/
abbrev R.HK_CTL.CAL : FRef := ⟨R.HK_CTL.addr, 3, 3⟩
/-- HK_CTL[2:2]. -/
abbrev R.HK_CTL.START : FRef := ⟨R.HK_CTL.addr, 2, 2⟩
/-- HK_CTL[0:0]. -/
abbrev R.HK_CTL.MODE : FRef := ⟨R.HK_CTL.addr, 0, 0⟩
/-- HK_STATUS, 19_housekeeping.md R447. -/
abbrev R.HK_STATUS.addr : Nat := 0x50008
/-- HK_STATUS[20:16]. -/
abbrev R.HK_STATUS.STEP : FRef := ⟨R.HK_STATUS.addr, 20, 16⟩
/-- HK_STATUS[15:12]. -/
abbrev R.HK_STATUS.ENTRY : FRef := ⟨R.HK_STATUS.addr, 15, 12⟩
/-- HK_STATUS[11:11]. -/
abbrev R.HK_STATUS.URG_PEND : FRef := ⟨R.HK_STATUS.addr, 11, 11⟩
/-- HK_STATUS[10:10]. -/
abbrev R.HK_STATUS.BUSY : FRef := ⟨R.HK_STATUS.addr, 10, 10⟩
/-- HK_STATUS[9:9]. -/
abbrev R.HK_STATUS.CAL_DONE : FRef := ⟨R.HK_STATUS.addr, 9, 9⟩
/-- HK_STATUS[2:0]. -/
abbrev R.HK_STATUS.PHASE : FRef := ⟨R.HK_STATUS.addr, 2, 0⟩
/-- HK_STEPS, 19_housekeeping.md R456. -/
abbrev R.HK_STEPS.addr (w : Nat) : Nat := 0x50010 + w * 0x4
/-- HK_STEPS[31:0]. -/
abbrev R.HK_STEPS.ENTRIES (w : Nat) : FRef := ⟨R.HK_STEPS.addr w, 31, 0⟩
/-- HK_ENT0, 19_housekeeping.md R446. -/
abbrev R.HK_ENT0.addr (e : Nat) : Nat := 0x50100 + e * 0x10
/-- HK_ENT0[31:28]. -/
abbrev R.HK_ENT0.CURVE (e : Nat) : FRef := ⟨R.HK_ENT0.addr e, 31, 28⟩
/-- HK_ENT0[27:27]. -/
abbrev R.HK_ENT0.BURN (e : Nat) : FRef := ⟨R.HK_ENT0.addr e, 27, 27⟩
/-- HK_ENT0[26:26]. -/
abbrev R.HK_ENT0.REF (e : Nat) : FRef := ⟨R.HK_ENT0.addr e, 26, 26⟩
/-- HK_ENT0[25:24]. -/
abbrev R.HK_ENT0.NPER_M1 (e : Nat) : FRef := ⟨R.HK_ENT0.addr e, 25, 24⟩
/-- HK_ENT0[22:20]. -/
abbrev R.HK_ENT0.GAIN (e : Nat) : FRef := ⟨R.HK_ENT0.addr e, 22, 20⟩
/-- HK_ENT0[14:8]. -/
abbrev R.HK_ENT0.CHAN_N (e : Nat) : FRef := ⟨R.HK_ENT0.addr e, 14, 8⟩
/-- HK_ENT0[6:0]. -/
abbrev R.HK_ENT0.CHAN_P (e : Nat) : FRef := ⟨R.HK_ENT0.addr e, 6, 0⟩
/-- HK_ENT1, 19_housekeeping.md R453. -/
abbrev R.HK_ENT1.addr (e : Nat) : Nat := 0x50104 + e * 0x10
/-- HK_ENT1[20:20]. -/
abbrev R.HK_ENT1.CJ_EN (e : Nat) : FRef := ⟨R.HK_ENT1.addr e, 20, 20⟩
/-- HK_ENT1[19:16]. -/
abbrev R.HK_ENT1.CJ (e : Nat) : FRef := ⟨R.HK_ENT1.addr e, 19, 16⟩
/-- HK_ENT1[14:8]. -/
abbrev R.HK_ENT1.ILEVEL (e : Nat) : FRef := ⟨R.HK_ENT1.addr e, 14, 8⟩
/-- HK_ENT1[2:2]. -/
abbrev R.HK_ENT1.IEXC_EN (e : Nat) : FRef := ⟨R.HK_ENT1.addr e, 2, 2⟩
/-- HK_ENT1[1:0]. -/
abbrev R.HK_ENT1.IEXC (e : Nat) : FRef := ⟨R.HK_ENT1.addr e, 1, 0⟩
/-- HK_ENT2, 19_housekeeping.md R446. -/
abbrev R.HK_ENT2.addr (e : Nat) : Nat := 0x50108 + e * 0x10
/-- HK_ENT2[31:0]. -/
abbrev R.HK_ENT2.RREF (e : Nat) : FRef := ⟨R.HK_ENT2.addr e, 31, 0⟩
/-- HK_ENT3, 19_housekeeping.md R446. -/
abbrev R.HK_ENT3.addr (e : Nat) : Nat := 0x5010C + e * 0x10
/-- HK_ENT3[31:0]. -/
abbrev R.HK_ENT3.R25 (e : Nat) : FRef := ⟨R.HK_ENT3.addr e, 31, 0⟩
/-- HK_RES0, 19_housekeeping.md R450. -/
abbrev R.HK_RES0.addr (e : Nat) : Nat := 0x50200 + e * 0x10
/-- HK_RES0[31:31]. -/
abbrev R.HK_RES0.VALID (e : Nat) : FRef := ⟨R.HK_RES0.addr e, 31, 31⟩
/-- HK_RES0[30:30]. -/
abbrev R.HK_RES0.COMPL (e : Nat) : FRef := ⟨R.HK_RES0.addr e, 30, 30⟩
/-- HK_RES0[29:29]. -/
abbrev R.HK_RES0.CJ_BAD (e : Nat) : FRef := ⟨R.HK_RES0.addr e, 29, 29⟩
/-- HK_RES0[28:28]. -/
abbrev R.HK_RES0.LIN_RANGE (e : Nat) : FRef := ⟨R.HK_RES0.addr e, 28, 28⟩
/-- HK_RES0[27:27]. -/
abbrev R.HK_RES0.OPEN (e : Nat) : FRef := ⟨R.HK_RES0.addr e, 27, 27⟩
/-- HK_RES0[26:26]. -/
abbrev R.HK_RES0.CLAMP (e : Nat) : FRef := ⟨R.HK_RES0.addr e, 26, 26⟩
/-- HK_RES0[25:25]. -/
abbrev R.HK_RES0.OVR_NEG (e : Nat) : FRef := ⟨R.HK_RES0.addr e, 25, 25⟩
/-- HK_RES0[24:24]. -/
abbrev R.HK_RES0.OVR (e : Nat) : FRef := ⟨R.HK_RES0.addr e, 24, 24⟩
/-- HK_RES0[23:0]. -/
abbrev R.HK_RES0.RESULT (e : Nat) : FRef := ⟨R.HK_RES0.addr e, 23, 0⟩
/-- HK_RES1, 19_housekeeping.md R449. -/
abbrev R.HK_RES1.addr (e : Nat) : Nat := 0x50204 + e * 0x10
/-- HK_RES1[23:0]. -/
abbrev R.HK_RES1.RAW (e : Nat) : FRef := ⟨R.HK_RES1.addr e, 23, 0⟩
/-- HK_RES2, 19_housekeeping.md R457. -/
abbrev R.HK_RES2.addr (e : Nat) : Nat := 0x50208 + e * 0x10
/-- HK_RES2[31:16]. -/
abbrev R.HK_RES2.CNT (e : Nat) : FRef := ⟨R.HK_RES2.addr e, 31, 16⟩
/-- HK_RES2[15:0]. -/
abbrev R.HK_RES2.AGE (e : Nat) : FRef := ⟨R.HK_RES2.addr e, 15, 0⟩
/-- HK_RES3, 19_housekeeping.md R457. -/
abbrev R.HK_RES3.addr (e : Nat) : Nat := 0x5020C + e * 0x10
/-- HK_RES3[31:0]. -/
abbrev R.HK_RES3.DT (e : Nat) : FRef := ⟨R.HK_RES3.addr e, 31, 0⟩
/-- HK_SINGLE_CFG0, 19_housekeeping.md R460. -/
abbrev R.HK_SINGLE_CFG0.addr : Nat := 0x50300
/-- HK_SINGLE_CFG0[31:28]. -/
abbrev R.HK_SINGLE_CFG0.CURVE : FRef := ⟨R.HK_SINGLE_CFG0.addr, 31, 28⟩
/-- HK_SINGLE_CFG0[27:27]. -/
abbrev R.HK_SINGLE_CFG0.BURN : FRef := ⟨R.HK_SINGLE_CFG0.addr, 27, 27⟩
/-- HK_SINGLE_CFG0[26:26]. -/
abbrev R.HK_SINGLE_CFG0.REF : FRef := ⟨R.HK_SINGLE_CFG0.addr, 26, 26⟩
/-- HK_SINGLE_CFG0[25:24]. -/
abbrev R.HK_SINGLE_CFG0.NPER_M1 : FRef := ⟨R.HK_SINGLE_CFG0.addr, 25, 24⟩
/-- HK_SINGLE_CFG0[22:20]. -/
abbrev R.HK_SINGLE_CFG0.GAIN : FRef := ⟨R.HK_SINGLE_CFG0.addr, 22, 20⟩
/-- HK_SINGLE_CFG0[14:8]. -/
abbrev R.HK_SINGLE_CFG0.CHAN_N : FRef := ⟨R.HK_SINGLE_CFG0.addr, 14, 8⟩
/-- HK_SINGLE_CFG0[6:0]. -/
abbrev R.HK_SINGLE_CFG0.CHAN_P : FRef := ⟨R.HK_SINGLE_CFG0.addr, 6, 0⟩
/-- HK_SINGLE_CFG1, 19_housekeeping.md R460. -/
abbrev R.HK_SINGLE_CFG1.addr : Nat := 0x50304
/-- HK_SINGLE_CFG1[20:20]. -/
abbrev R.HK_SINGLE_CFG1.CJ_EN : FRef := ⟨R.HK_SINGLE_CFG1.addr, 20, 20⟩
/-- HK_SINGLE_CFG1[19:16]. -/
abbrev R.HK_SINGLE_CFG1.CJ : FRef := ⟨R.HK_SINGLE_CFG1.addr, 19, 16⟩
/-- HK_SINGLE_CFG1[14:8]. -/
abbrev R.HK_SINGLE_CFG1.ILEVEL : FRef := ⟨R.HK_SINGLE_CFG1.addr, 14, 8⟩
/-- HK_SINGLE_CFG1[2:2]. -/
abbrev R.HK_SINGLE_CFG1.IEXC_EN : FRef := ⟨R.HK_SINGLE_CFG1.addr, 2, 2⟩
/-- HK_SINGLE_CFG1[1:0]. -/
abbrev R.HK_SINGLE_CFG1.IEXC : FRef := ⟨R.HK_SINGLE_CFG1.addr, 1, 0⟩
/-- HK_SINGLE_CFG2, 19_housekeeping.md R460. -/
abbrev R.HK_SINGLE_CFG2.addr : Nat := 0x50308
/-- HK_SINGLE_CFG2[31:0]. -/
abbrev R.HK_SINGLE_CFG2.RREF : FRef := ⟨R.HK_SINGLE_CFG2.addr, 31, 0⟩
/-- HK_SINGLE_CFG3, 19_housekeeping.md R460. -/
abbrev R.HK_SINGLE_CFG3.addr : Nat := 0x5030C
/-- HK_SINGLE_CFG3[31:0]. -/
abbrev R.HK_SINGLE_CFG3.R25 : FRef := ⟨R.HK_SINGLE_CFG3.addr, 31, 0⟩
/-- HK_SINGLE_RES0, 19_housekeeping.md R450. -/
abbrev R.HK_SINGLE_RES0.addr : Nat := 0x50310
/-- HK_SINGLE_RES0[31:31]. -/
abbrev R.HK_SINGLE_RES0.VALID : FRef := ⟨R.HK_SINGLE_RES0.addr, 31, 31⟩
/-- HK_SINGLE_RES0[30:30]. -/
abbrev R.HK_SINGLE_RES0.COMPL : FRef := ⟨R.HK_SINGLE_RES0.addr, 30, 30⟩
/-- HK_SINGLE_RES0[29:29]. -/
abbrev R.HK_SINGLE_RES0.CJ_BAD : FRef := ⟨R.HK_SINGLE_RES0.addr, 29, 29⟩
/-- HK_SINGLE_RES0[28:28]. -/
abbrev R.HK_SINGLE_RES0.LIN_RANGE : FRef := ⟨R.HK_SINGLE_RES0.addr, 28, 28⟩
/-- HK_SINGLE_RES0[27:27]. -/
abbrev R.HK_SINGLE_RES0.OPEN : FRef := ⟨R.HK_SINGLE_RES0.addr, 27, 27⟩
/-- HK_SINGLE_RES0[26:26]. -/
abbrev R.HK_SINGLE_RES0.CLAMP : FRef := ⟨R.HK_SINGLE_RES0.addr, 26, 26⟩
/-- HK_SINGLE_RES0[25:25]. -/
abbrev R.HK_SINGLE_RES0.OVR_NEG : FRef := ⟨R.HK_SINGLE_RES0.addr, 25, 25⟩
/-- HK_SINGLE_RES0[24:24]. -/
abbrev R.HK_SINGLE_RES0.OVR : FRef := ⟨R.HK_SINGLE_RES0.addr, 24, 24⟩
/-- HK_SINGLE_RES0[23:0]. -/
abbrev R.HK_SINGLE_RES0.RESULT : FRef := ⟨R.HK_SINGLE_RES0.addr, 23, 0⟩
/-- HK_SINGLE_RES1, 19_housekeeping.md R449. -/
abbrev R.HK_SINGLE_RES1.addr : Nat := 0x50314
/-- HK_SINGLE_RES1[23:0]. -/
abbrev R.HK_SINGLE_RES1.RAW : FRef := ⟨R.HK_SINGLE_RES1.addr, 23, 0⟩
/-- HK_SINGLE_RES2, 19_housekeeping.md R457. -/
abbrev R.HK_SINGLE_RES2.addr : Nat := 0x50318
/-- HK_SINGLE_RES2[31:16]. -/
abbrev R.HK_SINGLE_RES2.CNT : FRef := ⟨R.HK_SINGLE_RES2.addr, 31, 16⟩
/-- HK_SINGLE_RES2[15:0]. -/
abbrev R.HK_SINGLE_RES2.AGE : FRef := ⟨R.HK_SINGLE_RES2.addr, 15, 0⟩
/-- HK_SINGLE_RES3, 19_housekeeping.md R457. -/
abbrev R.HK_SINGLE_RES3.addr : Nat := 0x5031C
/-- HK_SINGLE_RES3[31:0]. -/
abbrev R.HK_SINGLE_RES3.DT : FRef := ⟨R.HK_SINGLE_RES3.addr, 31, 0⟩
/-- HK_CLAMP_LO, 19_housekeeping.md R451. -/
abbrev R.HK_CLAMP_LO.addr : Nat := 0x50320
/-- HK_CLAMP_LO[31:0]. -/
abbrev R.HK_CLAMP_LO.INPUTS : FRef := ⟨R.HK_CLAMP_LO.addr, 31, 0⟩
/-- HK_CLAMP_HI, 19_housekeeping.md R451. -/
abbrev R.HK_CLAMP_HI.addr : Nat := 0x50324
/-- HK_CLAMP_HI[31:0]. -/
abbrev R.HK_CLAMP_HI.INPUTS : FRef := ⟨R.HK_CLAMP_HI.addr, 31, 0⟩
/-- HK_GAINCAL, 19_housekeeping.md R461. -/
abbrev R.HK_GAINCAL.addr (g : Nat) : Nat := 0x50340 + g * 0x4
/-- HK_GAINCAL[23:0]. -/
abbrev R.HK_GAINCAL.K (g : Nat) : FRef := ⟨R.HK_GAINCAL.addr g, 23, 0⟩
/-- HK_CNT_OVR, 19_housekeeping.md R450. -/
abbrev R.HK_CNT_OVR.addr : Nat := 0x50360
/-- HK_CNT_OVR[31:0]. -/
abbrev R.HK_CNT_OVR.COUNT : FRef := ⟨R.HK_CNT_OVR.addr, 31, 0⟩
/-- HK_CNT_ABORT, 19_housekeeping.md R459. -/
abbrev R.HK_CNT_ABORT.addr : Nat := 0x50364
/-- HK_CNT_ABORT[31:0]. -/
abbrev R.HK_CNT_ABORT.COUNT : FRef := ⟨R.HK_CNT_ABORT.addr, 31, 0⟩
/-- HK_CNT_CYCLE, 19_housekeeping.md R456. -/
abbrev R.HK_CNT_CYCLE.addr : Nat := 0x50368
/-- HK_CNT_CYCLE[31:0]. -/
abbrev R.HK_CNT_CYCLE.COUNT : FRef := ⟨R.HK_CNT_CYCLE.addr, 31, 0⟩
/-- SAFE_STATUS, 12_safety_io.md R303. -/
abbrev R.SAFE_STATUS.addr : Nat := 0x60000
/-- SAFE_STATUS[31:16]. -/
abbrev R.SAFE_STATUS.STALE : FRef := ⟨R.SAFE_STATUS.addr, 31, 16⟩
/-- SAFE_STATUS[1:1]. -/
abbrev R.SAFE_STATUS.DISAGREE : FRef := ⟨R.SAFE_STATUS.addr, 1, 1⟩
/-- SAFE_STATUS[0:0]. -/
abbrev R.SAFE_STATUS.CLOCK : FRef := ⟨R.SAFE_STATUS.addr, 0, 0⟩
/-- SAFE_TP_CFG, 12_safety_io.md R308. -/
abbrev R.SAFE_TP_CFG.addr : Nat := 0x60010
/-- SAFE_TP_CFG[31:16]. -/
abbrev R.SAFE_TP_CFG.TPP : FRef := ⟨R.SAFE_TP_CFG.addr, 31, 16⟩
/-- SAFE_TP_CFG[15:0]. -/
abbrev R.SAFE_TP_CFG.TPW : FRef := ⟨R.SAFE_TP_CFG.addr, 15, 0⟩
/-- SAFE_FSEL_CFG, 12_safety_io.md R315. -/
abbrev R.SAFE_FSEL_CFG.addr : Nat := 0x60014
/-- SAFE_FSEL_CFG[15:0]. -/
abbrev R.SAFE_FSEL_CFG.FSEL_T : FRef := ⟨R.SAFE_FSEL_CFG.addr, 15, 0⟩
/-- SAFE_SI_CFG, 12_safety_io.md R309. -/
abbrev R.SAFE_SI_CFG.addr (n : Nat) : Nat := 0x60020 + n * 0x4
/-- SAFE_SI_CFG[31:24]. -/
abbrev R.SAFE_SI_CFG.DISC_T (n : Nat) : FRef := ⟨R.SAFE_SI_CFG.addr n, 31, 24⟩
/-- SAFE_SI_CFG[23:18]. -/
abbrev R.SAFE_SI_CFG.FILT (n : Nat) : FRef := ⟨R.SAFE_SI_CFG.addr n, 23, 18⟩
/-- SAFE_SI_CFG[17:15]. -/
abbrev R.SAFE_SI_CFG.SRC_B (n : Nat) : FRef := ⟨R.SAFE_SI_CFG.addr n, 17, 15⟩
/-- SAFE_SI_CFG[14:12]. -/
abbrev R.SAFE_SI_CFG.SRC_A (n : Nat) : FRef := ⟨R.SAFE_SI_CFG.addr n, 14, 12⟩
/-- SAFE_SI_CFG[4:4]. -/
abbrev R.SAFE_SI_CFG.MODE (n : Nat) : FRef := ⟨R.SAFE_SI_CFG.addr n, 4, 4⟩
/-- SAFE_SI_CFG[3:0]. -/
abbrev R.SAFE_SI_CFG.FUNC (n : Nat) : FRef := ⟨R.SAFE_SI_CFG.addr n, 3, 0⟩
/-- SAFE_SI_HEADS, 12_safety_io.md R314. -/
abbrev R.SAFE_SI_HEADS.addr (n : Nat) : Nat := 0x60040 + n * 0x4
/-- SAFE_SI_HEADS[15:0]. -/
abbrev R.SAFE_SI_HEADS.HEAD_MASK (n : Nat) : FRef := ⟨R.SAFE_SI_HEADS.addr n, 15, 0⟩
/-- SAFE_SI_STATE, 12_safety_io.md R310. -/
abbrev R.SAFE_SI_STATE.addr : Nat := 0x60060
/-- SAFE_SI_STATE[31:24]. -/
abbrev R.SAFE_SI_STATE.TIMING : FRef := ⟨R.SAFE_SI_STATE.addr, 31, 24⟩
/-- SAFE_SI_STATE[23:16]. -/
abbrev R.SAFE_SI_STATE.CROSS : FRef := ⟨R.SAFE_SI_STATE.addr, 23, 16⟩
/-- SAFE_SI_STATE[15:8]. -/
abbrev R.SAFE_SI_STATE.DISC : FRef := ⟨R.SAFE_SI_STATE.addr, 15, 8⟩
/-- SAFE_SI_STATE[7:0]. -/
abbrev R.SAFE_SI_STATE.CLOSED : FRef := ⟨R.SAFE_SI_STATE.addr, 7, 0⟩
/-- SAFE_RST_STATUS, 12_safety_io.md R317. -/
abbrev R.SAFE_RST_STATUS.addr : Nat := 0x60070
/-- SAFE_RST_STATUS[31:16]. -/
abbrev R.SAFE_RST_STATUS.ACCEPTED : FRef := ⟨R.SAFE_RST_STATUS.addr, 31, 16⟩
/-- SAFE_RST_STATUS[2:2]. -/
abbrev R.SAFE_RST_STATUS.STUCK : FRef := ⟨R.SAFE_RST_STATUS.addr, 2, 2⟩
/-- SAFE_RST_STATUS[1:0]. -/
abbrev R.SAFE_RST_STATUS.LEVEL : FRef := ⟨R.SAFE_RST_STATUS.addr, 1, 0⟩
/-- SAFE_OSSD_CFG, 12_safety_io.md R304. -/
abbrev R.SAFE_OSSD_CFG.addr (m : Nat) : Nat := 0x60080 + m * 0x8
/-- SAFE_OSSD_CFG[31:16]. -/
abbrev R.SAFE_OSSD_CFG.HEAD_MASK (m : Nat) : FRef := ⟨R.SAFE_OSSD_CFG.addr m, 31, 16⟩
/-- SAFE_OSSD_CFG[15:8]. -/
abbrev R.SAFE_OSSD_CFG.ON_DLY (m : Nat) : FRef := ⟨R.SAFE_OSSD_CFG.addr m, 15, 8⟩
/-- SAFE_OSSD_CFG[1:1]. -/
abbrev R.SAFE_OSSD_CFG.RESTART (m : Nat) : FRef := ⟨R.SAFE_OSSD_CFG.addr m, 1, 1⟩
/-- SAFE_OSSD_CFG[0:0]. -/
abbrev R.SAFE_OSSD_CFG.ZONE (m : Nat) : FRef := ⟨R.SAFE_OSSD_CFG.addr m, 0, 0⟩
/-- SAFE_OSSD_TIME, 12_safety_io.md R303. -/
abbrev R.SAFE_OSSD_TIME.addr (m : Nat) : Nat := 0x60084 + m * 0x8
/-- SAFE_OSSD_TIME[9:0]. -/
abbrev R.SAFE_OSSD_TIME.GAP_T (m : Nat) : FRef := ⟨R.SAFE_OSSD_TIME.addr m, 9, 0⟩
/-- SAFE_OSSD_TEST, 12_safety_io.md R306. -/
abbrev R.SAFE_OSSD_TEST.addr : Nat := 0x600A0
/-- SAFE_OSSD_TEST[25:16]. -/
abbrev R.SAFE_OSSD_TEST.TEST_P : FRef := ⟨R.SAFE_OSSD_TEST.addr, 25, 16⟩
/-- SAFE_OSSD_TEST[8:0]. -/
abbrev R.SAFE_OSSD_TEST.TEST_W : FRef := ⟨R.SAFE_OSSD_TEST.addr, 8, 0⟩
/-- SAFE_OSSD_STATUS, 12_safety_io.md R304. -/
abbrev R.SAFE_OSSD_STATUS.addr : Nat := 0x600A4
/-- SAFE_OSSD_STATUS[31:16]. -/
abbrev R.SAFE_OSSD_STATUS.CAUSE : FRef := ⟨R.SAFE_OSSD_STATUS.addr, 31, 16⟩
/-- SAFE_OSSD_STATUS[11:8]. -/
abbrev R.SAFE_OSSD_STATUS.FAULT : FRef := ⟨R.SAFE_OSSD_STATUS.addr, 11, 8⟩
/-- SAFE_OSSD_STATUS[7:4]. -/
abbrev R.SAFE_OSSD_STATUS.ON_B : FRef := ⟨R.SAFE_OSSD_STATUS.addr, 7, 4⟩
/-- SAFE_OSSD_STATUS[3:0]. -/
abbrev R.SAFE_OSSD_STATUS.ON_A : FRef := ⟨R.SAFE_OSSD_STATUS.addr, 3, 0⟩
/-- SAFE_CONN0, 12_safety_io.md R322. -/
abbrev R.SAFE_CONN0.addr (c : Nat) : Nat := 0x600C0 + c * 0x10
/-- SAFE_CONN0[31:0]. -/
abbrev R.SAFE_CONN0.CONN_ID (c : Nat) : FRef := ⟨R.SAFE_CONN0.addr c, 31, 0⟩
/-- SAFE_CONN1, 12_safety_io.md R322. -/
abbrev R.SAFE_CONN1.addr (c : Nat) : Nat := 0x600C4 + c * 0x10
/-- SAFE_CONN1[31:31]. -/
abbrev R.SAFE_CONN1.EN (c : Nat) : FRef := ⟨R.SAFE_CONN1.addr c, 31, 31⟩
/-- SAFE_CONN1[30:27]. -/
abbrev R.SAFE_CONN1.CMD_MASK (c : Nat) : FRef := ⟨R.SAFE_CONN1.addr c, 30, 27⟩
/-- SAFE_CONN1[25:16]. -/
abbrev R.SAFE_CONN1.TIMEOUT (c : Nat) : FRef := ⟨R.SAFE_CONN1.addr c, 25, 16⟩
/-- SAFE_CONN1[15:0]. -/
abbrev R.SAFE_CONN1.UDP_PORT (c : Nat) : FRef := ⟨R.SAFE_CONN1.addr c, 15, 0⟩
/-- SAFE_CONN2, 12_safety_io.md R323. -/
abbrev R.SAFE_CONN2.addr (c : Nat) : Nat := 0x600C8 + c * 0x10
/-- SAFE_CONN2[23:16]. -/
abbrev R.SAFE_CONN2.SEQ_GAP (c : Nat) : FRef := ⟨R.SAFE_CONN2.addr c, 23, 16⟩
/-- SAFE_CONN2[15:0]. -/
abbrev R.SAFE_CONN2.HEAD_MASK (c : Nat) : FRef := ⟨R.SAFE_CONN2.addr c, 15, 0⟩
/-- SAFE_CONN3, 12_safety_io.md R323. -/
abbrev R.SAFE_CONN3.addr (c : Nat) : Nat := 0x600CC + c * 0x10
/-- SAFE_CONN3[31:0]. -/
abbrev R.SAFE_CONN3.LAST_SEQ (c : Nat) : FRef := ⟨R.SAFE_CONN3.addr c, 31, 0⟩
/-- SAFE_CONN_STATE, 12_safety_io.md R324. -/
abbrev R.SAFE_CONN_STATE.addr : Nat := 0x60100
/-- SAFE_CONN_STATE[7:0]. -/
abbrev R.SAFE_CONN_STATE.STATE : FRef := ⟨R.SAFE_CONN_STATE.addr, 7, 0⟩
/-- SAFE_OUT, 12_safety_io.md R320. -/
abbrev R.SAFE_OUT.addr : Nat := 0x60104
/-- SAFE_OUT[31:0]. -/
abbrev R.SAFE_OUT.CONN_ID : FRef := ⟨R.SAFE_OUT.addr, 31, 0⟩
/-- SAFE_CNT_MISS, 12_safety_io.md R301. -/
abbrev R.SAFE_CNT_MISS.addr : Nat := 0x60110
/-- SAFE_CNT_MISS[31:0]. -/
abbrev R.SAFE_CNT_MISS.COUNT : FRef := ⟨R.SAFE_CNT_MISS.addr, 31, 0⟩
/-- SAFE_CNT_FCHECK, 12_safety_io.md R299. -/
abbrev R.SAFE_CNT_FCHECK.addr : Nat := 0x60114
/-- SAFE_CNT_FCHECK[31:0]. -/
abbrev R.SAFE_CNT_FCHECK.COUNT : FRef := ⟨R.SAFE_CNT_FCHECK.addr, 31, 0⟩
/-- SAFE_CNT_RST_INVALID, 12_safety_io.md R317. -/
abbrev R.SAFE_CNT_RST_INVALID.addr : Nat := 0x60118
/-- SAFE_CNT_RST_INVALID[31:0]. -/
abbrev R.SAFE_CNT_RST_INVALID.COUNT : FRef := ⟨R.SAFE_CNT_RST_INVALID.addr, 31, 0⟩
/-- SAFE_CNT_CMD_DISCARD, 12_safety_io.md R323. -/
abbrev R.SAFE_CNT_CMD_DISCARD.addr : Nat := 0x6011C
/-- SAFE_CNT_CMD_DISCARD[31:0]. -/
abbrev R.SAFE_CNT_CMD_DISCARD.COUNT : FRef := ⟨R.SAFE_CNT_CMD_DISCARD.addr, 31, 0⟩
/-- SAFE_CNT_CMD_LATE, 12_safety_io.md R324. -/
abbrev R.SAFE_CNT_CMD_LATE.addr : Nat := 0x60120
/-- SAFE_CNT_CMD_LATE[31:0]. -/
abbrev R.SAFE_CNT_CMD_LATE.COUNT : FRef := ⟨R.SAFE_CNT_CMD_LATE.addr, 31, 0⟩
/-- PAIR_CFG, 13_twin_pair.md R331. -/
abbrev R.PAIR_CFG.addr : Nat := 0x70000
/-- PAIR_CFG[31:31]. -/
abbrev R.PAIR_CFG.EN : FRef := ⟨R.PAIR_CFG.addr, 31, 31⟩
/-- PAIR_CFG[23:16]. -/
abbrev R.PAIR_CFG.JOIN_T : FRef := ⟨R.PAIR_CFG.addr, 23, 16⟩
/-- PAIR_CFG[15:12]. -/
abbrev R.PAIR_CFG.DIV_MAX : FRef := ⟨R.PAIR_CFG.addr, 15, 12⟩
/-- PAIR_CFG[5:0]. -/
abbrev R.PAIR_CFG.HB_TIMEOUT : FRef := ⟨R.PAIR_CFG.addr, 5, 0⟩
/-- PAIR_CTL, 13_twin_pair.md R344. -/
abbrev R.PAIR_CTL.addr : Nat := 0x70004
/-- PAIR_CTL[1:1]. -/
abbrev R.PAIR_CTL.REJOIN : FRef := ⟨R.PAIR_CTL.addr, 1, 1⟩
/-- PAIR_CTL[0:0]. -/
abbrev R.PAIR_CTL.HANDOVER : FRef := ⟨R.PAIR_CTL.addr, 0, 0⟩
/-- PAIR_STATUS, 13_twin_pair.md R343. -/
abbrev R.PAIR_STATUS.addr : Nat := 0x70008
/-- PAIR_STATUS[14:12]. -/
abbrev R.PAIR_STATUS.SYNC : FRef := ⟨R.PAIR_STATUS.addr, 14, 12⟩
/-- PAIR_STATUS[11:11]. -/
abbrev R.PAIR_STATUS.FIT : FRef := ⟨R.PAIR_STATUS.addr, 11, 11⟩
/-- PAIR_STATUS[10:10]. -/
abbrev R.PAIR_STATUS.PARTNER : FRef := ⟨R.PAIR_STATUS.addr, 10, 10⟩
/-- PAIR_STATUS[9:8]. -/
abbrev R.PAIR_STATUS.LINK : FRef := ⟨R.PAIR_STATUS.addr, 9, 8⟩
/-- PAIR_STATUS[7:6]. -/
abbrev R.PAIR_STATUS.TOKEN_IN : FRef := ⟨R.PAIR_STATUS.addr, 7, 6⟩
/-- PAIR_STATUS[5:4]. -/
abbrev R.PAIR_STATUS.TOKEN_OUT : FRef := ⟨R.PAIR_STATUS.addr, 5, 4⟩
/-- PAIR_STATUS[3:3]. -/
abbrev R.PAIR_STATUS.CONFLICT : FRef := ⟨R.PAIR_STATUS.addr, 3, 3⟩
/-- PAIR_STATUS[2:2]. -/
abbrev R.PAIR_STATUS.TOKEN_FAULT : FRef := ⟨R.PAIR_STATUS.addr, 2, 2⟩
/-- PAIR_STATUS[1:0]. -/
abbrev R.PAIR_STATUS.ROLE : FRef := ⟨R.PAIR_STATUS.addr, 1, 0⟩
/-- PAIR_CID, 13_twin_pair.md R333. -/
abbrev R.PAIR_CID.addr : Nat := 0x7000C
/-- PAIR_CID[29:16]. -/
abbrev R.PAIR_CID.PARTNER_DID : FRef := ⟨R.PAIR_CID.addr, 29, 16⟩
/-- PAIR_CID[13:0]. -/
abbrev R.PAIR_CID.CID : FRef := ⟨R.PAIR_CID.addr, 13, 0⟩
/-- PAIR_PARTNER_SN_LO, 13_twin_pair.md R335. -/
abbrev R.PAIR_PARTNER_SN_LO.addr : Nat := 0x70010
/-- PAIR_PARTNER_SN_LO[31:0]. -/
abbrev R.PAIR_PARTNER_SN_LO.SERIAL : FRef := ⟨R.PAIR_PARTNER_SN_LO.addr, 31, 0⟩
/-- PAIR_PARTNER_SN_HI, 13_twin_pair.md R335. -/
abbrev R.PAIR_PARTNER_SN_HI.addr : Nat := 0x70014
/-- PAIR_PARTNER_SN_HI[31:0]. -/
abbrev R.PAIR_PARTNER_SN_HI.SERIAL : FRef := ⟨R.PAIR_PARTNER_SN_HI.addr, 31, 0⟩
/-- PAIR_CATCHUP, 13_twin_pair.md R353. -/
abbrev R.PAIR_CATCHUP.addr : Nat := 0x70018
/-- PAIR_CATCHUP[25:24]. -/
abbrev R.PAIR_CATCHUP.PASS : FRef := ⟨R.PAIR_CATCHUP.addr, 25, 24⟩
/-- PAIR_CATCHUP[19:0]. -/
abbrev R.PAIR_CATCHUP.BID : FRef := ⟨R.PAIR_CATCHUP.addr, 19, 0⟩
/-- PAIR_TAKE_DT_LO, 13_twin_pair.md R349. -/
abbrev R.PAIR_TAKE_DT_LO.addr : Nat := 0x7001C
/-- PAIR_TAKE_DT_LO[31:0]. -/
abbrev R.PAIR_TAKE_DT_LO.VALUE : FRef := ⟨R.PAIR_TAKE_DT_LO.addr, 31, 0⟩
/-- PAIR_TAKE_DT_HI, 13_twin_pair.md R349. -/
abbrev R.PAIR_TAKE_DT_HI.addr : Nat := 0x70020
/-- PAIR_TAKE_DT_HI[31:0]. -/
abbrev R.PAIR_TAKE_DT_HI.VALUE : FRef := ⟨R.PAIR_TAKE_DT_HI.addr, 31, 0⟩
/-- PAIR_GAP, 13_twin_pair.md R349. -/
abbrev R.PAIR_GAP.addr : Nat := 0x70024
/-- PAIR_GAP[31:0]. -/
abbrev R.PAIR_GAP.VALUE : FRef := ⟨R.PAIR_GAP.addr, 31, 0⟩
/-- PAIR_CNT_TAKEOVER, 13_twin_pair.md R349. -/
abbrev R.PAIR_CNT_TAKEOVER.addr : Nat := 0x70028
/-- PAIR_CNT_TAKEOVER[31:0]. -/
abbrev R.PAIR_CNT_TAKEOVER.COUNT : FRef := ⟨R.PAIR_CNT_TAKEOVER.addr, 31, 0⟩
/-- PAIR_CNT_HB_LOST, 13_twin_pair.md R336. -/
abbrev R.PAIR_CNT_HB_LOST.addr : Nat := 0x7002C
/-- PAIR_CNT_HB_LOST[31:0]. -/
abbrev R.PAIR_CNT_HB_LOST.COUNT : FRef := ⟨R.PAIR_CNT_HB_LOST.addr, 31, 0⟩
/-- PAIR_CNT_MISMATCH, 13_twin_pair.md R342. -/
abbrev R.PAIR_CNT_MISMATCH.addr : Nat := 0x70030
/-- PAIR_CNT_MISMATCH[31:0]. -/
abbrev R.PAIR_CNT_MISMATCH.COUNT : FRef := ⟨R.PAIR_CNT_MISMATCH.addr, 31, 0⟩
/-- PAIR_CNT_NOECHO, 13_twin_pair.md R339. -/
abbrev R.PAIR_CNT_NOECHO.addr : Nat := 0x70034
/-- PAIR_CNT_NOECHO[31:0]. -/
abbrev R.PAIR_CNT_NOECHO.COUNT : FRef := ⟨R.PAIR_CNT_NOECHO.addr, 31, 0⟩
/-- PAIR_CNT_STRAY, 13_twin_pair.md R339. -/
abbrev R.PAIR_CNT_STRAY.addr : Nat := 0x70038
/-- PAIR_CNT_STRAY[31:0]. -/
abbrev R.PAIR_CNT_STRAY.COUNT : FRef := ⟨R.PAIR_CNT_STRAY.addr, 31, 0⟩
/-- PAIR_CNT_CONFLICT, 13_twin_pair.md R346. -/
abbrev R.PAIR_CNT_CONFLICT.addr : Nat := 0x7003C
/-- PAIR_CNT_CONFLICT[31:0]. -/
abbrev R.PAIR_CNT_CONFLICT.COUNT : FRef := ⟨R.PAIR_CNT_CONFLICT.addr, 31, 0⟩
/-- PAIR_CNT_OPEN, 13_twin_pair.md R338. -/
abbrev R.PAIR_CNT_OPEN.addr : Nat := 0x70040
/-- PAIR_CNT_OPEN[31:0]. -/
abbrev R.PAIR_CNT_OPEN.COUNT : FRef := ⟨R.PAIR_CNT_OPEN.addr, 31, 0⟩
/-- DOM_CFG, 14_domain.md R356. -/
abbrev R.DOM_CFG.addr : Nat := 0x80000
/-- DOM_CFG[31:31]. -/
abbrev R.DOM_CFG.EN : FRef := ⟨R.DOM_CFG.addr, 31, 31⟩
/-- DOM_CFG[30:29]. -/
abbrev R.DOM_CFG.ROLE_CFG : FRef := ⟨R.DOM_CFG.addr, 30, 29⟩
/-- DOM_CFG[28:28]. -/
abbrev R.DOM_CFG.NET_JOIN : FRef := ⟨R.DOM_CFG.addr, 28, 28⟩
/-- DOM_CFG[27:27]. -/
abbrev R.DOM_CFG.SYNC_PIN : FRef := ⟨R.DOM_CFG.addr, 27, 27⟩
/-- DOM_CFG[16:16]. -/
abbrev R.DOM_CFG.DID_ANY : FRef := ⟨R.DOM_CFG.addr, 16, 16⟩
/-- DOM_CFG[13:0]. -/
abbrev R.DOM_CFG.DID_PREF : FRef := ⟨R.DOM_CFG.addr, 13, 0⟩
/-- DOM_TIMERS, 14_domain.md R372. -/
abbrev R.DOM_TIMERS.addr : Nat := 0x80004
/-- DOM_TIMERS[31:24]. -/
abbrev R.DOM_TIMERS.ROLL_S : FRef := ⟨R.DOM_TIMERS.addr, 31, 24⟩
/-- DOM_TIMERS[23:16]. -/
abbrev R.DOM_TIMERS.BEACON_TO : FRef := ⟨R.DOM_TIMERS.addr, 23, 16⟩
/-- DOM_TIMERS[15:8]. -/
abbrev R.DOM_TIMERS.HOLD_T : FRef := ⟨R.DOM_TIMERS.addr, 15, 8⟩
/-- DOM_TIMERS[7:0]. -/
abbrev R.DOM_TIMERS.NET_ERR : FRef := ⟨R.DOM_TIMERS.addr, 7, 0⟩
/-- DOM_PORT, 14_domain.md R355. -/
abbrev R.DOM_PORT.addr (c : Nat) : Nat := 0x80010 + c * 0x4
/-- DOM_PORT[31:16]. -/
abbrev R.DOM_PORT.ASYM (c : Nat) : FRef := ⟨R.DOM_PORT.addr c, 31, 16⟩
/-- DOM_PORT[1:0]. -/
abbrev R.DOM_PORT.ROLE (c : Nat) : FRef := ⟨R.DOM_PORT.addr c, 1, 0⟩
/-- DOM_STATUS, 14_domain.md R363. -/
abbrev R.DOM_STATUS.addr : Nat := 0x80020
/-- DOM_STATUS[31:30]. -/
abbrev R.DOM_STATUS.ROLE : FRef := ⟨R.DOM_STATUS.addr, 31, 30⟩
/-- DOM_STATUS[29:27]. -/
abbrev R.DOM_STATUS.STATE : FRef := ⟨R.DOM_STATUS.addr, 29, 27⟩
/-- DOM_STATUS[26:23]. -/
abbrev R.DOM_STATUS.DEPTH : FRef := ⟨R.DOM_STATUS.addr, 26, 23⟩
/-- DOM_STATUS[22:21]. -/
abbrev R.DOM_STATUS.UP_PORT : FRef := ⟨R.DOM_STATUS.addr, 22, 21⟩
/-- DOM_STATUS[20:20]. -/
abbrev R.DOM_STATUS.VIA_NET : FRef := ⟨R.DOM_STATUS.addr, 20, 20⟩
/-- DOM_STATUS[13:0]. -/
abbrev R.DOM_STATUS.DID : FRef := ⟨R.DOM_STATUS.addr, 13, 0⟩
/-- DOM_MASTER, 14_domain.md R372. -/
abbrev R.DOM_MASTER.addr : Nat := 0x80024
/-- DOM_MASTER[31:16]. -/
abbrev R.DOM_MASTER.TERM : FRef := ⟨R.DOM_MASTER.addr, 31, 16⟩
/-- DOM_MASTER[13:0]. -/
abbrev R.DOM_MASTER.MASTER_DID : FRef := ⟨R.DOM_MASTER.addr, 13, 0⟩
/-- DOM_COUNT, 14_domain.md R363. -/
abbrev R.DOM_COUNT.addr : Nat := 0x80028
/-- DOM_COUNT[14:0]. -/
abbrev R.DOM_COUNT.MEMBERS : FRef := ⟨R.DOM_COUNT.addr, 14, 0⟩
/-- DOM_HOP, 14_domain.md R358. -/
abbrev R.DOM_HOP.addr (c : Nat) : Nat := 0x80030 + c * 0x4
/-- DOM_HOP[31:0]. -/
abbrev R.DOM_HOP.VALUE (c : Nat) : FRef := ⟨R.DOM_HOP.addr c, 31, 0⟩
/-- DOM_TIME_ERR, 14_domain.md R358. -/
abbrev R.DOM_TIME_ERR.addr : Nat := 0x80040
/-- DOM_TIME_ERR[31:0]. -/
abbrev R.DOM_TIME_ERR.VALUE : FRef := ⟨R.DOM_TIME_ERR.addr, 31, 0⟩
/-- DOM_PLAN_GEN, 14_domain.md R366. -/
abbrev R.DOM_PLAN_GEN.addr : Nat := 0x80044
/-- DOM_PLAN_GEN[31:0]. -/
abbrev R.DOM_PLAN_GEN.VALUE : FRef := ⟨R.DOM_PLAN_GEN.addr, 31, 0⟩
/-- DOM_CNT_DISCARD, 14_domain.md R357. -/
abbrev R.DOM_CNT_DISCARD.addr : Nat := 0x80060
/-- DOM_CNT_DISCARD[31:0]. -/
abbrev R.DOM_CNT_DISCARD.COUNT : FRef := ⟨R.DOM_CNT_DISCARD.addr, 31, 0⟩
/-- DOM_CNT_REVOKE, 14_domain.md R365. -/
abbrev R.DOM_CNT_REVOKE.addr : Nat := 0x80064
/-- DOM_CNT_REVOKE[31:0]. -/
abbrev R.DOM_CNT_REVOKE.COUNT : FRef := ⟨R.DOM_CNT_REVOKE.addr, 31, 0⟩
/-- DOM_CNT_LATE_NOTICE, 14_domain.md R371. -/
abbrev R.DOM_CNT_LATE_NOTICE.addr : Nat := 0x80068
/-- DOM_CNT_LATE_NOTICE[31:0]. -/
abbrev R.DOM_CNT_LATE_NOTICE.COUNT : FRef := ⟨R.DOM_CNT_LATE_NOTICE.addr, 31, 0⟩
/-- DOM_CNT_TAKEOVER, 14_domain.md R372. -/
abbrev R.DOM_CNT_TAKEOVER.addr : Nat := 0x8006C
/-- DOM_CNT_TAKEOVER[31:0]. -/
abbrev R.DOM_CNT_TAKEOVER.COUNT : FRef := ⟨R.DOM_CNT_TAKEOVER.addr, 31, 0⟩
/-- DOM_PLAN0, 14_domain.md R366. -/
abbrev R.DOM_PLAN0.addr (h : Nat) : Nat := 0x80100 + h * 0x10
/-- DOM_PLAN0[31:0]. -/
abbrev R.DOM_PLAN0.PERIOD (h : Nat) : FRef := ⟨R.DOM_PLAN0.addr h, 31, 0⟩
/-- DOM_PLAN1, 14_domain.md R366. -/
abbrev R.DOM_PLAN1.addr (h : Nat) : Nat := 0x80104 + h * 0x10
/-- DOM_PLAN1[31:0]. -/
abbrev R.DOM_PLAN1.PHASE (h : Nat) : FRef := ⟨R.DOM_PLAN1.addr h, 31, 0⟩
/-- DOM_PLAN2, 14_domain.md R366. -/
abbrev R.DOM_PLAN2.addr (h : Nat) : Nat := 0x80108 + h * 0x10
/-- DOM_PLAN2[0:0]. -/
abbrev R.DOM_PLAN2.VALID (h : Nat) : FRef := ⟨R.DOM_PLAN2.addr h, 0, 0⟩
/-- DOM_MULT, 14_domain.md R370. -/
abbrev R.DOM_MULT.addr (h : Nat) : Nat := 0x80200 + h * 0x4
/-- DOM_MULT[31:31]. -/
abbrev R.DOM_MULT.EN (h : Nat) : FRef := ⟨R.DOM_MULT.addr h, 31, 31⟩
/-- DOM_MULT[30:30]. -/
abbrev R.DOM_MULT.ROLE (h : Nat) : FRef := ⟨R.DOM_MULT.addr h, 30, 30⟩
/-- DOM_MULT[29:16]. -/
abbrev R.DOM_MULT.OWNER_DID (h : Nat) : FRef := ⟨R.DOM_MULT.addr h, 29, 16⟩
/-- DOM_MULT[15:12]. -/
abbrev R.DOM_MULT.OWNER_HEAD (h : Nat) : FRef := ⟨R.DOM_MULT.addr h, 15, 12⟩
/-- DOM_MULT[6:0]. -/
abbrev R.DOM_MULT.LEAD (h : Nat) : FRef := ⟨R.DOM_MULT.addr h, 6, 0⟩
/-- NET_PORT, 08_outputs.md R226. -/
abbrev R.NET_PORT.addr (p : Nat) : Nat := 0x90000 + p * 0x20
/-- NET_PORT[29:16]. -/
abbrev R.NET_PORT.MTU (p : Nat) : FRef := ⟨R.NET_PORT.addr p, 29, 16⟩
/-- NET_PORT[3:3]. -/
abbrev R.NET_PORT.LINK (p : Nat) : FRef := ⟨R.NET_PORT.addr p, 3, 3⟩
/-- NET_PORT[2:0]. -/
abbrev R.NET_PORT.MODE (p : Nat) : FRef := ⟨R.NET_PORT.addr p, 2, 0⟩
/-- NET_CBS, 08_outputs.md R230. -/
abbrev R.NET_CBS.addr (p q : Nat) : Nat := 0x90104 + p * 0x20 + q * 0x4
/-- NET_CBS[16:0]. -/
abbrev R.NET_CBS.IDLE_SLOPE (p q : Nat) : FRef := ⟨R.NET_CBS.addr p q, 16, 0⟩
/-- NET_PRP, 08_outputs.md R229. -/
abbrev R.NET_PRP.addr : Nat := 0x90200
/-- NET_PRP[31:16]. -/
abbrev R.NET_PRP.RCT_SEQ : FRef := ⟨R.NET_PRP.addr, 31, 16⟩
/-- NET_PRP[15:1]. -/
abbrev R.NET_PRP.SUP_MS : FRef := ⟨R.NET_PRP.addr, 15, 1⟩
/-- NET_PRP[0:0]. -/
abbrev R.NET_PRP.EN : FRef := ⟨R.NET_PRP.addr, 0, 0⟩
/-- NET_SAFE, 08_outputs.md R222. -/
abbrev R.NET_SAFE.addr : Nat := 0x90204
/-- NET_SAFE[31:16]. -/
abbrev R.NET_SAFE.STATUS_MS : FRef := ⟨R.NET_SAFE.addr, 31, 16⟩
/-- NET_SAFE[15:8]. -/
abbrev R.NET_SAFE.ALARM_MS : FRef := ⟨R.NET_SAFE.addr, 15, 8⟩
/-- NET_SRC_MAC_LO, 08_outputs.md R227. -/
abbrev R.NET_SRC_MAC_LO.addr : Nat := 0x90210
/-- NET_SRC_MAC_LO[31:0]. -/
abbrev R.NET_SRC_MAC_LO.VALUE : FRef := ⟨R.NET_SRC_MAC_LO.addr, 31, 0⟩
/-- NET_SRC_MAC_HI, 08_outputs.md R227. -/
abbrev R.NET_SRC_MAC_HI.addr : Nat := 0x90214
/-- NET_SRC_MAC_HI[31:0]. -/
abbrev R.NET_SRC_MAC_HI.VALUE : FRef := ⟨R.NET_SRC_MAC_HI.addr, 31, 0⟩
/-- NET_NODE_MAC_LO, 08_outputs.md R229. -/
abbrev R.NET_NODE_MAC_LO.addr : Nat := 0x90218
/-- NET_NODE_MAC_LO[31:0]. -/
abbrev R.NET_NODE_MAC_LO.VALUE : FRef := ⟨R.NET_NODE_MAC_LO.addr, 31, 0⟩
/-- NET_NODE_MAC_HI, 08_outputs.md R229. -/
abbrev R.NET_NODE_MAC_HI.addr : Nat := 0x9021C
/-- NET_NODE_MAC_HI[31:0]. -/
abbrev R.NET_NODE_MAC_HI.VALUE : FRef := ⟨R.NET_NODE_MAC_HI.addr, 31, 0⟩
/-- NET_IP4, 08_outputs.md R227. -/
abbrev R.NET_IP4.addr : Nat := 0x90220
/-- NET_IP4[31:0]. -/
abbrev R.NET_IP4.VALUE : FRef := ⟨R.NET_IP4.addr, 31, 0⟩
/-- NET_IP6, 08_outputs.md R227. -/
abbrev R.NET_IP6.addr (w : Nat) : Nat := 0x90224 + w * 0x4
/-- NET_IP6[31:0]. -/
abbrev R.NET_IP6.VALUE (w : Nat) : FRef := ⟨R.NET_IP6.addr w, 31, 0⟩
/-- NET_STREAM0, 08_outputs.md R223. -/
abbrev R.NET_STREAM0.addr (s : Nat) : Nat := 0x91000 + s * 0x40
/-- NET_STREAM0[31:31]. -/
abbrev R.NET_STREAM0.EN (s : Nat) : FRef := ⟨R.NET_STREAM0.addr s, 31, 31⟩
/-- NET_STREAM0[30:26]. -/
abbrev R.NET_STREAM0.TYPES (s : Nat) : FRef := ⟨R.NET_STREAM0.addr s, 30, 26⟩
/-- NET_STREAM0[25:25]. -/
abbrev R.NET_STREAM0.IPV6 (s : Nat) : FRef := ⟨R.NET_STREAM0.addr s, 25, 25⟩
/-- NET_STREAM0[24:23]. -/
abbrev R.NET_STREAM0.PORT (s : Nat) : FRef := ⟨R.NET_STREAM0.addr s, 24, 23⟩
/-- NET_STREAM0[22:20]. -/
abbrev R.NET_STREAM0.QUEUE (s : Nat) : FRef := ⟨R.NET_STREAM0.addr s, 22, 20⟩
/-- NET_STREAM0[19:17]. -/
abbrev R.NET_STREAM0.PCP (s : Nat) : FRef := ⟨R.NET_STREAM0.addr s, 19, 17⟩
/-- NET_STREAM0[16:5]. -/
abbrev R.NET_STREAM0.VID (s : Nat) : FRef := ⟨R.NET_STREAM0.addr s, 16, 5⟩
/-- NET_STREAM_MAC_LO, 08_outputs.md R227. -/
abbrev R.NET_STREAM_MAC_LO.addr (s : Nat) : Nat := 0x91004 + s * 0x40
/-- NET_STREAM_MAC_LO[31:0]. -/
abbrev R.NET_STREAM_MAC_LO.DST_MAC_LO (s : Nat) : FRef := ⟨R.NET_STREAM_MAC_LO.addr s, 31, 0⟩
/-- NET_STREAM_MAC_HI, 08_outputs.md R227. -/
abbrev R.NET_STREAM_MAC_HI.addr (s : Nat) : Nat := 0x91008 + s * 0x40
/-- NET_STREAM_MAC_HI[31:0]. -/
abbrev R.NET_STREAM_MAC_HI.DST_MAC_HI (s : Nat) : FRef := ⟨R.NET_STREAM_MAC_HI.addr s, 31, 0⟩
/-- NET_STREAM_IP, 08_outputs.md R227. -/
abbrev R.NET_STREAM_IP.addr (s w : Nat) : Nat := 0x9100C + s * 0x40 + w * 0x4
/-- NET_STREAM_IP[31:0]. -/
abbrev R.NET_STREAM_IP.DST_IP (s w : Nat) : FRef := ⟨R.NET_STREAM_IP.addr s w, 31, 0⟩
/-- NET_STREAM_UDP, 08_outputs.md R227. -/
abbrev R.NET_STREAM_UDP.addr (s : Nat) : Nat := 0x9101C + s * 0x40
/-- NET_STREAM_UDP[31:16]. -/
abbrev R.NET_STREAM_UDP.DST_PORT (s : Nat) : FRef := ⟨R.NET_STREAM_UDP.addr s, 31, 16⟩
/-- NET_STREAM_UDP[15:0]. -/
abbrev R.NET_STREAM_UDP.SRC_PORT (s : Nat) : FRef := ⟨R.NET_STREAM_UDP.addr s, 15, 0⟩
/-- NET_STREAM_SEL, 08_outputs.md R223. -/
abbrev R.NET_STREAM_SEL.addr (s : Nat) : Nat := 0x91020 + s * 0x40
/-- NET_STREAM_SEL[31:16]. -/
abbrev R.NET_STREAM_SEL.HEAD_MASK (s : Nat) : FRef := ⟨R.NET_STREAM_SEL.addr s, 31, 16⟩
/-- NET_STREAM_SEL[15:8]. -/
abbrev R.NET_STREAM_SEL.CLASS_MASK (s : Nat) : FRef := ⟨R.NET_STREAM_SEL.addr s, 15, 8⟩
/-- NET_STREAM_SEL[7:0]. -/
abbrev R.NET_STREAM_SEL.DSCP_TTL (s : Nat) : FRef := ⟨R.NET_STREAM_SEL.addr s, 7, 0⟩
/-- NET_STREAM_BID_LO, 08_outputs.md R223. -/
abbrev R.NET_STREAM_BID_LO.addr (s : Nat) : Nat := 0x91024 + s * 0x40
/-- NET_STREAM_BID_LO[19:0]. -/
abbrev R.NET_STREAM_BID_LO.BID_LO (s : Nat) : FRef := ⟨R.NET_STREAM_BID_LO.addr s, 19, 0⟩
/-- NET_STREAM_BID_HI, 08_outputs.md R223. -/
abbrev R.NET_STREAM_BID_HI.addr (s : Nat) : Nat := 0x91028 + s * 0x40
/-- NET_STREAM_BID_HI[19:0]. -/
abbrev R.NET_STREAM_BID_HI.BID_HI (s : Nat) : FRef := ⟨R.NET_STREAM_BID_HI.addr s, 19, 0⟩
/-- NET_STREAM_R_MIN, 08_outputs.md R223. -/
abbrev R.NET_STREAM_R_MIN.addr (s : Nat) : Nat := 0x9102C + s * 0x40
/-- NET_STREAM_R_MIN[31:0]. -/
abbrev R.NET_STREAM_R_MIN.R_MIN (s : Nat) : FRef := ⟨R.NET_STREAM_R_MIN.addr s, 31, 0⟩
/-- NET_STREAM_R_MAX, 08_outputs.md R223. -/
abbrev R.NET_STREAM_R_MAX.addr (s : Nat) : Nat := 0x91030 + s * 0x40
/-- NET_STREAM_R_MAX[31:0]. -/
abbrev R.NET_STREAM_R_MAX.R_MAX (s : Nat) : FRef := ⟨R.NET_STREAM_R_MAX.addr s, 31, 0⟩
/-- NET_STREAM_CTL, 08_outputs.md R218. -/
abbrev R.NET_STREAM_CTL.addr (s : Nat) : Nat := 0x91034 + s * 0x40
/-- NET_STREAM_CTL[31:24]. -/
abbrev R.NET_STREAM_CTL.FLUSH (s : Nat) : FRef := ⟨R.NET_STREAM_CTL.addr s, 31, 24⟩
/-- NET_STREAM_CTL[23:16]. -/
abbrev R.NET_STREAM_CTL.GEO_S (s : Nat) : FRef := ⟨R.NET_STREAM_CTL.addr s, 23, 16⟩
/-- NET_STREAM_CTL[15:8]. -/
abbrev R.NET_STREAM_CTL.DECIM (s : Nat) : FRef := ⟨R.NET_STREAM_CTL.addr s, 15, 8⟩
/-- NET_STREAM_CTL[7:0]. -/
abbrev R.NET_STREAM_CTL.MAX_REC (s : Nat) : FRef := ⟨R.NET_STREAM_CTL.addr s, 7, 0⟩
/-- NET_STREAM_SEQ, 08_outputs.md R225. -/
abbrev R.NET_STREAM_SEQ.addr (s : Nat) : Nat := 0x91038 + s * 0x40
/-- NET_STREAM_SEQ[31:0]. -/
abbrev R.NET_STREAM_SEQ.SEQ (s : Nat) : FRef := ⟨R.NET_STREAM_SEQ.addr s, 31, 0⟩
/-- NET_STREAM_LOST, 08_outputs.md R217. -/
abbrev R.NET_STREAM_LOST.addr (s : Nat) : Nat := 0x9103C + s * 0x40
/-- NET_STREAM_LOST[31:0]. -/
abbrev R.NET_STREAM_LOST.LOST (s : Nat) : FRef := ⟨R.NET_STREAM_LOST.addr s, 31, 0⟩
/-- NET_RING, 08_outputs.md R215. -/
abbrev R.NET_RING.addr (h : Nat) : Nat := 0x92000 + h * 0x8
/-- NET_RING[4:0]. -/
abbrev R.NET_RING.RING_LOG2 (h : Nat) : FRef := ⟨R.NET_RING.addr h, 4, 0⟩
/-- NET_RING_WR, 08_outputs.md R215. -/
abbrev R.NET_RING_WR.addr (h : Nat) : Nat := 0x92004 + h * 0x8
/-- NET_RING_WR[31:0]. -/
abbrev R.NET_RING_WR.WR_IDX (h : Nat) : FRef := ⟨R.NET_RING_WR.addr h, 31, 0⟩
/-- NET_CNT_RX_DROP, 08_outputs.md R231. -/
abbrev R.NET_CNT_RX_DROP.addr : Nat := 0x92100
/-- NET_CNT_RX_DROP[31:0]. -/
abbrev R.NET_CNT_RX_DROP.COUNT : FRef := ⟨R.NET_CNT_RX_DROP.addr, 31, 0⟩
/-- CAP_CFG, 09_capture.md R237. -/
abbrev R.CAP_CFG.addr : Nat := 0xA0000
/-- CAP_CFG[11:8]. -/
abbrev R.CAP_CFG.DISP_MASK : FRef := ⟨R.CAP_CFG.addr, 11, 8⟩
/-- CAP_CFG[7:4]. -/
abbrev R.CAP_CFG.PORT_EN : FRef := ⟨R.CAP_CFG.addr, 7, 4⟩
/-- CAP_CFG[3:0]. -/
abbrev R.CAP_CFG.STREAM_EN : FRef := ⟨R.CAP_CFG.addr, 3, 0⟩
/-- CAP_SHOT, 09_capture.md R238. -/
abbrev R.CAP_SHOT.addr : Nat := 0xA0004
/-- CAP_SHOT[15:0]. -/
abbrev R.CAP_SHOT.SHOT_EN : FRef := ⟨R.CAP_SHOT.addr, 15, 0⟩
/-- CAP_RL, 09_capture.md R239. -/
abbrev R.CAP_RL.addr : Nat := 0xA0008
/-- CAP_RL[18:18]. -/
abbrev R.CAP_RL.EN : FRef := ⟨R.CAP_RL.addr, 18, 18⟩
/-- CAP_RL[17:16]. -/
abbrev R.CAP_RL.STREAM : FRef := ⟨R.CAP_RL.addr, 17, 16⟩
/-- CAP_RL[15:0]. -/
abbrev R.CAP_RL.HEAD_MASK : FRef := ⟨R.CAP_RL.addr, 15, 0⟩
/-- CAP_STAT, 09_capture.md R240. -/
abbrev R.CAP_STAT.addr : Nat := 0xA000C
/-- CAP_STAT[31:16]. -/
abbrev R.CAP_STAT.SERVO_DB : FRef := ⟨R.CAP_STAT.addr, 31, 16⟩
/-- CAP_STAT[15:8]. -/
abbrev R.CAP_STAT.HK_DB : FRef := ⟨R.CAP_STAT.addr, 15, 8⟩
/-- CAP_STAT[2:1]. -/
abbrev R.CAP_STAT.STREAM : FRef := ⟨R.CAP_STAT.addr, 2, 1⟩
/-- CAP_STAT[0:0]. -/
abbrev R.CAP_STAT.EN : FRef := ⟨R.CAP_STAT.addr, 0, 0⟩
/-- CAP_STREAM_FSEQ, 09_capture.md R242. -/
abbrev R.CAP_STREAM_FSEQ.addr (k : Nat) : Nat := 0xA0040 + k * 0x10
/-- CAP_STREAM_FSEQ[31:0]. -/
abbrev R.CAP_STREAM_FSEQ.FSEQ (k : Nat) : FRef := ⟨R.CAP_STREAM_FSEQ.addr k, 31, 0⟩
/-- CAP_STREAM_LOSS, 09_capture.md R244. -/
abbrev R.CAP_STREAM_LOSS.addr (k : Nat) : Nat := 0xA0044 + k * 0x10
/-- CAP_STREAM_LOSS[31:0]. -/
abbrev R.CAP_STREAM_LOSS.CNT_LOSS (k : Nat) : FRef := ⟨R.CAP_STREAM_LOSS.addr k, 31, 0⟩
/-- CAP_STREAM_FDROP, 09_capture.md R244. -/
abbrev R.CAP_STREAM_FDROP.addr (k : Nat) : Nat := 0xA0048 + k * 0x10
/-- CAP_STREAM_FDROP[31:0]. -/
abbrev R.CAP_STREAM_FDROP.CNT_FDROP (k : Nat) : FRef := ⟨R.CAP_STREAM_FDROP.addr k, 31, 0⟩
/-- CAP_STREAM_QMAX, 09_capture.md R244. -/
abbrev R.CAP_STREAM_QMAX.addr (k : Nat) : Nat := 0xA004C + k * 0x10
/-- CAP_STREAM_QMAX[12:0]. -/
abbrev R.CAP_STREAM_QMAX.Q_MAX (k : Nat) : FRef := ⟨R.CAP_STREAM_QMAX.addr k, 12, 0⟩
/-- CAP_SEL, 09_capture.md R245. -/
abbrev R.CAP_SEL.addr (e : Nat) : Nat := 0xA0100 + e * 0x4
/-- CAP_SEL[31:31]. -/
abbrev R.CAP_SEL.EN (e : Nat) : FRef := ⟨R.CAP_SEL.addr e, 31, 31⟩
/-- CAP_SEL[13:12]. -/
abbrev R.CAP_SEL.STREAM (e : Nat) : FRef := ⟨R.CAP_SEL.addr e, 13, 12⟩
/-- CAP_SEL[10:0]. -/
abbrev R.CAP_SEL.INPUT (e : Nat) : FRef := ⟨R.CAP_SEL.addr e, 10, 0⟩
/-- SEQ_CFG, 09_capture.md R246. -/
abbrev R.SEQ_CFG.addr (q : Nat) : Nat := 0xA0800 + q * 0x100
/-- SEQ_CFG[31:16]. -/
abbrev R.SEQ_CFG.REARM (q : Nat) : FRef := ⟨R.SEQ_CFG.addr q, 31, 16⟩
/-- SEQ_CFG[15:8]. -/
abbrev R.SEQ_CFG.OUT_W (q : Nat) : FRef := ⟨R.SEQ_CFG.addr q, 15, 8⟩
/-- SEQ_CFG[7:7]. -/
abbrev R.SEQ_CFG.EN (q : Nat) : FRef := ⟨R.SEQ_CFG.addr q, 7, 7⟩
/-- SEQ_CFG[6:6]. -/
abbrev R.SEQ_CFG.OUT_EN (q : Nat) : FRef := ⟨R.SEQ_CFG.addr q, 6, 6⟩
/-- SEQ_CFG[5:4]. -/
abbrev R.SEQ_CFG.OUT_IDX (q : Nat) : FRef := ⟨R.SEQ_CFG.addr q, 5, 4⟩
/-- SEQ_CFG[3:0]. -/
abbrev R.SEQ_CFG.STREAM_MASK (q : Nat) : FRef := ⟨R.SEQ_CFG.addr q, 3, 0⟩
/-- SEQ_EVT, 09_capture.md R247. -/
abbrev R.SEQ_EVT.addr (q : Nat) : Nat := 0xA0804 + q * 0x100
/-- SEQ_EVT[31:16]. -/
abbrev R.SEQ_EVT.MASK (q : Nat) : FRef := ⟨R.SEQ_EVT.addr q, 31, 16⟩
/-- SEQ_EVT[15:0]. -/
abbrev R.SEQ_EVT.CODE (q : Nat) : FRef := ⟨R.SEQ_EVT.addr q, 15, 0⟩
/-- SEQ_CTL, 09_capture.md R250. -/
abbrev R.SEQ_CTL.addr (q : Nat) : Nat := 0xA0808 + q * 0x100
/-- SEQ_CTL[1:1]. -/
abbrev R.SEQ_CTL.FORCE (q : Nat) : FRef := ⟨R.SEQ_CTL.addr q, 1, 1⟩
/-- SEQ_CTL[0:0]. -/
abbrev R.SEQ_CTL.RESTART (q : Nat) : FRef := ⟨R.SEQ_CTL.addr q, 0, 0⟩
/-- SEQ_STAT, 09_capture.md R250. -/
abbrev R.SEQ_STAT.addr (q : Nat) : Nat := 0xA080C + q * 0x100
/-- SEQ_STAT[31:8]. -/
abbrev R.SEQ_STAT.COUNT (q : Nat) : FRef := ⟨R.SEQ_STAT.addr q, 31, 8⟩
/-- SEQ_STAT[4:4]. -/
abbrev R.SEQ_STAT.REARMING (q : Nat) : FRef := ⟨R.SEQ_STAT.addr q, 4, 4⟩
/-- SEQ_STAT[3:0]. -/
abbrev R.SEQ_STAT.STATE (q : Nat) : FRef := ⟨R.SEQ_STAT.addr q, 3, 0⟩
/-- SEQ_MISSED, 09_capture.md R250. -/
abbrev R.SEQ_MISSED.addr (q : Nat) : Nat := 0xA0810 + q * 0x100
/-- SEQ_MISSED[31:0]. -/
abbrev R.SEQ_MISSED.MISSED (q : Nat) : FRef := ⟨R.SEQ_MISSED.addr q, 31, 0⟩
/-- SEQ_TRIGS, 09_capture.md R249. -/
abbrev R.SEQ_TRIGS.addr (q : Nat) : Nat := 0xA0814 + q * 0x100
/-- SEQ_TRIGS[31:0]. -/
abbrev R.SEQ_TRIGS.TRIGS (q : Nat) : FRef := ⟨R.SEQ_TRIGS.addr q, 31, 0⟩
/-- SEQ_TRIG_DT_LO, 09_capture.md R249. -/
abbrev R.SEQ_TRIG_DT_LO.addr (q : Nat) : Nat := 0xA0818 + q * 0x100
/-- SEQ_TRIG_DT_LO[31:0]. -/
abbrev R.SEQ_TRIG_DT_LO.VALUE (q : Nat) : FRef := ⟨R.SEQ_TRIG_DT_LO.addr q, 31, 0⟩
/-- SEQ_TRIG_DT_HI, 09_capture.md R249. -/
abbrev R.SEQ_TRIG_DT_HI.addr (q : Nat) : Nat := 0xA081C + q * 0x100
/-- SEQ_TRIG_DT_HI[31:0]. -/
abbrev R.SEQ_TRIG_DT_HI.VALUE (q : Nat) : FRef := ⟨R.SEQ_TRIG_DT_HI.addr q, 31, 0⟩
/-- SEQ_ST0, 09_capture.md R246. -/
abbrev R.SEQ_ST0.addr (q i : Nat) : Nat := 0xA0880 + q * 0x100 + i * 0x8
/-- SEQ_ST0[29:23]. -/
abbrev R.SEQ_ST0.COUNT_M1 (q i : Nat) : FRef := ⟨R.SEQ_ST0.addr q i, 29, 23⟩
/-- SEQ_ST0[22:19]. -/
abbrev R.SEQ_ST0.GOTO (q i : Nat) : FRef := ⟨R.SEQ_ST0.addr q i, 22, 19⟩
/-- SEQ_ST0[18:17]. -/
abbrev R.SEQ_ST0.ACTION (q i : Nat) : FRef := ⟨R.SEQ_ST0.addr q i, 18, 17⟩
/-- SEQ_ST0[16:16]. -/
abbrev R.SEQ_ST0.FALL (q i : Nat) : FRef := ⟨R.SEQ_ST0.addr q i, 16, 16⟩
/-- SEQ_ST0[15:8]. -/
abbrev R.SEQ_ST0.ARG (q i : Nat) : FRef := ⟨R.SEQ_ST0.addr q i, 15, 8⟩
/-- SEQ_ST0[7:0]. -/
abbrev R.SEQ_ST0.COND (q i : Nat) : FRef := ⟨R.SEQ_ST0.addr q i, 7, 0⟩
/-- SEQ_ST1, 09_capture.md R246. -/
abbrev R.SEQ_ST1.addr (q i : Nat) : Nat := 0xA0884 + q * 0x100 + i * 0x8
/-- SEQ_ST1[29:26]. -/
abbrev R.SEQ_ST1.TO_STATE (q i : Nat) : FRef := ⟨R.SEQ_ST1.addr q i, 29, 26⟩
/-- SEQ_ST1[25:24]. -/
abbrev R.SEQ_ST1.TMODE (q i : Nat) : FRef := ⟨R.SEQ_ST1.addr q i, 25, 24⟩
/-- SEQ_ST1[23:0]. -/
abbrev R.SEQ_ST1.T (q i : Nat) : FRef := ⟨R.SEQ_ST1.addr q i, 23, 0⟩
/-- CAP_SLOT0, 09_capture.md R251. -/
abbrev R.CAP_SLOT0.addr (s : Nat) : Nat := 0xA0C00 + s * 0x10
/-- CAP_SLOT0[31:16]. -/
abbrev R.CAP_SLOT0.SIZE (s : Nat) : FRef := ⟨R.CAP_SLOT0.addr s, 31, 16⟩
/-- CAP_SLOT0[15:0]. -/
abbrev R.CAP_SLOT0.BASE (s : Nat) : FRef := ⟨R.CAP_SLOT0.addr s, 15, 0⟩
/-- CAP_SLOT1, 09_capture.md R251. -/
abbrev R.CAP_SLOT1.addr (s : Nat) : Nat := 0xA0C04 + s * 0x10
/-- CAP_SLOT1[31:16]. -/
abbrev R.CAP_SLOT1.POST (s : Nat) : FRef := ⟨R.CAP_SLOT1.addr s, 31, 16⟩
/-- CAP_SLOT1[15:0]. -/
abbrev R.CAP_SLOT1.PRE (s : Nat) : FRef := ⟨R.CAP_SLOT1.addr s, 15, 0⟩
/-- CAP_SLOT2, 09_capture.md R252. -/
abbrev R.CAP_SLOT2.addr (s : Nat) : Nat := 0xA0C08 + s * 0x10
/-- CAP_SLOT2[5:4]. -/
abbrev R.CAP_SLOT2.STREAM (s : Nat) : FRef := ⟨R.CAP_SLOT2.addr s, 5, 4⟩
/-- CAP_SLOT2[3:3]. -/
abbrev R.CAP_SLOT2.REARM (s : Nat) : FRef := ⟨R.CAP_SLOT2.addr s, 3, 3⟩
/-- CAP_SLOT2[2:0]. -/
abbrev R.CAP_SLOT2.STATE (s : Nat) : FRef := ⟨R.CAP_SLOT2.addr s, 2, 0⟩
/-- CAP_SLOT3, 09_capture.md R253. -/
abbrev R.CAP_SLOT3.addr (s : Nat) : Nat := 0xA0C0C + s * 0x10
/-- CAP_SLOT3[31:0]. -/
abbrev R.CAP_SLOT3.GEN (s : Nat) : FRef := ⟨R.CAP_SLOT3.addr s, 31, 0⟩
/-- CAP_SLOT_CTL, 09_capture.md R252. -/
abbrev R.CAP_SLOT_CTL.addr : Nat := 0xA0D00
/-- CAP_SLOT_CTL[4:4]. -/
abbrev R.CAP_SLOT_CTL.RELEASE : FRef := ⟨R.CAP_SLOT_CTL.addr, 4, 4⟩
/-- CAP_SLOT_CTL[3:3]. -/
abbrev R.CAP_SLOT_CTL.ARM : FRef := ⟨R.CAP_SLOT_CTL.addr, 3, 3⟩
/-- CAP_SLOT_CTL[2:0]. -/
abbrev R.CAP_SLOT_CTL.SLOT : FRef := ⟨R.CAP_SLOT_CTL.addr, 2, 0⟩
/-- CAP_SLOT_GEN, 09_capture.md R255. -/
abbrev R.CAP_SLOT_GEN.addr : Nat := 0xA0D04
/-- CAP_SLOT_GEN[31:0]. -/
abbrev R.CAP_SLOT_GEN.GEN : FRef := ⟨R.CAP_SLOT_GEN.addr, 31, 0⟩
/-- CAP_SLOT_RESULT, 09_capture.md R255. -/
abbrev R.CAP_SLOT_RESULT.addr : Nat := 0xA0D08
/-- CAP_SLOT_RESULT[2:0]. -/
abbrev R.CAP_SLOT_RESULT.RESULT : FRef := ⟨R.CAP_SLOT_RESULT.addr, 2, 0⟩
/-- MEM_CFG, 15_memory.md R386. -/
abbrev R.MEM_CFG.addr : Nat := 0xB0000
/-- MEM_CFG[31:24]. -/
abbrev R.MEM_CFG.SCRUB_H : FRef := ⟨R.MEM_CFG.addr, 31, 24⟩
/-- MEM_CFG[23:16]. -/
abbrev R.MEM_CFG.UE_MAX : FRef := ⟨R.MEM_CFG.addr, 23, 16⟩
/-- MEM_CFG[15:15]. -/
abbrev R.MEM_CFG.SR_EN : FRef := ⟨R.MEM_CFG.addr, 15, 15⟩
/-- MEM_CFG[13:0]. -/
abbrev R.MEM_CFG.SR_IDLE : FRef := ⟨R.MEM_CFG.addr, 13, 0⟩
/-- MEM_STATUS, 15_memory.md R391. -/
abbrev R.MEM_STATUS.addr : Nat := 0xB0004
/-- MEM_STATUS[6:6]. -/
abbrev R.MEM_STATUS.WIPE_DONE : FRef := ⟨R.MEM_STATUS.addr, 6, 6⟩
/-- MEM_STATUS[5:4]. -/
abbrev R.MEM_STATUS.STACK_FAIL : FRef := ⟨R.MEM_STATUS.addr, 5, 4⟩
/-- MEM_STATUS[3:3]. -/
abbrev R.MEM_STATUS.RATE_PEND : FRef := ⟨R.MEM_STATUS.addr, 3, 3⟩
/-- MEM_STATUS[2:2]. -/
abbrev R.MEM_STATUS.TARGET : FRef := ⟨R.MEM_STATUS.addr, 2, 2⟩
/-- MEM_STATUS[1:0]. -/
abbrev R.MEM_STATUS.RATE : FRef := ⟨R.MEM_STATUS.addr, 1, 0⟩
/-- MEM_CTL, 15_memory.md R387. -/
abbrev R.MEM_CTL.addr : Nat := 0xB0008
/-- MEM_CTL[1:1]. -/
abbrev R.MEM_CTL.RATE_REQ : FRef := ⟨R.MEM_CTL.addr, 1, 1⟩
/-- MEM_CTL[0:0]. -/
abbrev R.MEM_CTL.RATE_SEL : FRef := ⟨R.MEM_CTL.addr, 0, 0⟩
/-- MEM_PORT, 15_memory.md R379. -/
abbrev R.MEM_PORT.addr (p : Nat) : Nat := 0xB0040 + p * 0x8
/-- MEM_PORT[31:22]. -/
abbrev R.MEM_PORT.BURST (p : Nat) : FRef := ⟨R.MEM_PORT.addr p, 31, 22⟩
/-- MEM_PORT[11:0]. -/
abbrev R.MEM_PORT.RATE (p : Nat) : FRef := ⟨R.MEM_PORT.addr p, 11, 0⟩
/-- MEM_PORT_STALL, 15_memory.md R381. -/
abbrev R.MEM_PORT_STALL.addr (p : Nat) : Nat := 0xB0044 + p * 0x8
/-- MEM_PORT_STALL[31:0]. -/
abbrev R.MEM_PORT_STALL.COUNT (p : Nat) : FRef := ⟨R.MEM_PORT_STALL.addr p, 31, 0⟩
/-- MEM_ECC, 15_memory.md R388. -/
abbrev R.MEM_ECC.addr (st : Nat) : Nat := 0xB0100 + st * 0x4
/-- MEM_ECC[31:16]. -/
abbrev R.MEM_ECC.UNCORR (st : Nat) : FRef := ⟨R.MEM_ECC.addr st, 31, 16⟩
/-- MEM_ECC[15:0]. -/
abbrev R.MEM_ECC.CORR (st : Nat) : FRef := ⟨R.MEM_ECC.addr st, 15, 0⟩
/-- MEM_UE_ADDR_LO, 15_memory.md R388. -/
abbrev R.MEM_UE_ADDR_LO.addr : Nat := 0xB0108
/-- MEM_UE_ADDR_LO[31:0]. -/
abbrev R.MEM_UE_ADDR_LO.ADDR : FRef := ⟨R.MEM_UE_ADDR_LO.addr, 31, 0⟩
/-- MEM_UE_ADDR_HI, 15_memory.md R388. -/
abbrev R.MEM_UE_ADDR_HI.addr : Nat := 0xB010C
/-- MEM_UE_ADDR_HI[31:0]. -/
abbrev R.MEM_UE_ADDR_HI.ADDR : FRef := ⟨R.MEM_UE_ADDR_HI.addr, 31, 0⟩
/-- MEM_CNT_SR, 15_memory.md R386. -/
abbrev R.MEM_CNT_SR.addr : Nat := 0xB0110
/-- MEM_CNT_SR[31:0]. -/
abbrev R.MEM_CNT_SR.COUNT : FRef := ⟨R.MEM_CNT_SR.addr, 31, 0⟩
/-- MEM_CNT_RETRAIN_FAIL, 15_memory.md R385. -/
abbrev R.MEM_CNT_RETRAIN_FAIL.addr : Nat := 0xB0114
/-- MEM_CNT_RETRAIN_FAIL[31:0]. -/
abbrev R.MEM_CNT_RETRAIN_FAIL.COUNT : FRef := ⟨R.MEM_CNT_RETRAIN_FAIL.addr, 31, 0⟩
/-- MEM_CNT_RATE, 15_memory.md R387. -/
abbrev R.MEM_CNT_RATE.addr : Nat := 0xB0118
/-- MEM_CNT_RATE[31:0]. -/
abbrev R.MEM_CNT_RATE.COUNT : FRef := ⟨R.MEM_CNT_RATE.addr, 31, 0⟩
/-- LANE_QCFG, 16_lanes.md R394. -/
abbrev R.LANE_QCFG.addr (q : Nat) : Nat := 0xC0000 + q * 0x400
/-- LANE_QCFG[8:8]. -/
abbrev R.LANE_QCFG.AUTO_READD (q : Nat) : FRef := ⟨R.LANE_QCFG.addr q, 8, 8⟩
/-- LANE_QCFG[2:0]. -/
abbrev R.LANE_QCFG.RATE (q : Nat) : FRef := ⟨R.LANE_QCFG.addr q, 2, 0⟩
/-- LANE_QSTATUS, 16_lanes.md R405. -/
abbrev R.LANE_QSTATUS.addr (q : Nat) : Nat := 0xC0004 + q * 0x400
/-- LANE_QSTATUS[31:24]. -/
abbrev R.LANE_QSTATUS.RX_SET (q : Nat) : FRef := ⟨R.LANE_QSTATUS.addr q, 31, 24⟩
/-- LANE_QSTATUS[23:16]. -/
abbrev R.LANE_QSTATUS.TX_SET (q : Nat) : FRef := ⟨R.LANE_QSTATUS.addr q, 23, 16⟩
/-- LANE_QSTATUS[6:4]. -/
abbrev R.LANE_QSTATUS.PORT_STATE (q : Nat) : FRef := ⟨R.LANE_QSTATUS.addr q, 6, 4⟩
/-- LANE_QSTATUS[0:0]. -/
abbrev R.LANE_QSTATUS.PLL_LOCK (q : Nat) : FRef := ⟨R.LANE_QSTATUS.addr q, 0, 0⟩
/-- LANE_QCTL, 16_lanes.md R407. -/
abbrev R.LANE_QCTL.addr (q : Nat) : Nat := 0xC0008 + q * 0x400
/-- LANE_QCTL[3:0]. -/
abbrev R.LANE_QCTL.READD (q : Nat) : FRef := ⟨R.LANE_QCTL.addr q, 3, 0⟩
/-- LANE_QCNT_RESTRIPE, 16_lanes.md R406. -/
abbrev R.LANE_QCNT_RESTRIPE.addr (q : Nat) : Nat := 0xC000C + q * 0x400
/-- LANE_QCNT_RESTRIPE[31:0]. -/
abbrev R.LANE_QCNT_RESTRIPE.COUNT (q : Nat) : FRef := ⟨R.LANE_QCNT_RESTRIPE.addr q, 31, 0⟩
/-- LANE_CFG, 16_lanes.md R394. -/
abbrev R.LANE_CFG.addr (q l : Nat) : Nat := 0xC0040 + q * 0x400 + l * 0x20
/-- LANE_CFG[7:7]. -/
abbrev R.LANE_CFG.INV_RX (q l : Nat) : FRef := ⟨R.LANE_CFG.addr q l, 7, 7⟩
/-- LANE_CFG[6:6]. -/
abbrev R.LANE_CFG.INV_TX (q l : Nat) : FRef := ⟨R.LANE_CFG.addr q l, 6, 6⟩
/-- LANE_CFG[5:4]. -/
abbrev R.LANE_CFG.SLEW (q l : Nat) : FRef := ⟨R.LANE_CFG.addr q l, 5, 4⟩
/-- LANE_CFG[3:3]. -/
abbrev R.LANE_CFG.PRE_RX (q l : Nat) : FRef := ⟨R.LANE_CFG.addr q l, 3, 3⟩
/-- LANE_CFG[2:2]. -/
abbrev R.LANE_CFG.PRE_TX (q l : Nat) : FRef := ⟨R.LANE_CFG.addr q l, 2, 2⟩
/-- LANE_CFG[1:1]. -/
abbrev R.LANE_CFG.RX_SLEEP (q l : Nat) : FRef := ⟨R.LANE_CFG.addr q l, 1, 1⟩
/-- LANE_CFG[0:0]. -/
abbrev R.LANE_CFG.TX_SLEEP (q l : Nat) : FRef := ⟨R.LANE_CFG.addr q l, 0, 0⟩
/-- LANE_TXEQ, 16_lanes.md R410. -/
abbrev R.LANE_TXEQ.addr (q l : Nat) : Nat := 0xC0044 + q * 0x400 + l * 0x20
/-- LANE_TXEQ[19:16]. -/
abbrev R.LANE_TXEQ.POST (q l : Nat) : FRef := ⟨R.LANE_TXEQ.addr q l, 19, 16⟩
/-- LANE_TXEQ[11:8]. -/
abbrev R.LANE_TXEQ.PRE (q l : Nat) : FRef := ⟨R.LANE_TXEQ.addr q l, 11, 8⟩
/-- LANE_TXEQ[6:0]. -/
abbrev R.LANE_TXEQ.SWING (q l : Nat) : FRef := ⟨R.LANE_TXEQ.addr q l, 6, 0⟩
/-- LANE_STATUS, 16_lanes.md R403. -/
abbrev R.LANE_STATUS.addr (q l : Nat) : Nat := 0xC0048 + q * 0x400 + l * 0x20
/-- LANE_STATUS[11:8]. -/
abbrev R.LANE_STATUS.POS (q l : Nat) : FRef := ⟨R.LANE_STATUS.addr q l, 11, 8⟩
/-- LANE_STATUS[5:5]. -/
abbrev R.LANE_STATUS.HELD (q l : Nat) : FRef := ⟨R.LANE_STATUS.addr q l, 5, 5⟩
/-- LANE_STATUS[4:4]. -/
abbrev R.LANE_STATUS.EXCLUDED (q l : Nat) : FRef := ⟨R.LANE_STATUS.addr q l, 4, 4⟩
/-- LANE_STATUS[3:3]. -/
abbrev R.LANE_STATUS.TX_FAULT (q l : Nat) : FRef := ⟨R.LANE_STATUS.addr q l, 3, 3⟩
/-- LANE_STATUS[2:2]. -/
abbrev R.LANE_STATUS.CW_LOCK (q l : Nat) : FRef := ⟨R.LANE_STATUS.addr q l, 2, 2⟩
/-- LANE_STATUS[1:1]. -/
abbrev R.LANE_STATUS.LOL (q l : Nat) : FRef := ⟨R.LANE_STATUS.addr q l, 1, 1⟩
/-- LANE_STATUS[0:0]. -/
abbrev R.LANE_STATUS.LOS (q l : Nat) : FRef := ⟨R.LANE_STATUS.addr q l, 0, 0⟩
/-- LANE_CNT_CORR, 16_lanes.md R398. -/
abbrev R.LANE_CNT_CORR.addr (q l : Nat) : Nat := 0xC004C + q * 0x400 + l * 0x20
/-- LANE_CNT_CORR[31:0]. -/
abbrev R.LANE_CNT_CORR.COUNT (q l : Nat) : FRef := ⟨R.LANE_CNT_CORR.addr q l, 31, 0⟩
/-- LANE_CNT_UNCORR, 16_lanes.md R398. -/
abbrev R.LANE_CNT_UNCORR.addr (q l : Nat) : Nat := 0xC0050 + q * 0x400 + l * 0x20
/-- LANE_CNT_UNCORR[31:0]. -/
abbrev R.LANE_CNT_UNCORR.COUNT (q l : Nat) : FRef := ⟨R.LANE_CNT_UNCORR.addr q l, 31, 0⟩
/-- LANE_CNT_LOSS, 16_lanes.md R398. -/
abbrev R.LANE_CNT_LOSS.addr (q l : Nat) : Nat := 0xC0054 + q * 0x400 + l * 0x20
/-- LANE_CNT_LOSS[31:0]. -/
abbrev R.LANE_CNT_LOSS.COUNT (q l : Nat) : FRef := ⟨R.LANE_CNT_LOSS.addr q l, 31, 0⟩
/-- BWIN_BASE, 07_bearings.md R211. -/
abbrev R.BWIN_BASE.addr : Nat := 0x410000
/-- BWIN_BASE[19:4]. -/
abbrev R.BWIN_BASE.BASE : FRef := ⟨R.BWIN_BASE.addr, 19, 4⟩
/-- TACH_CFG, 07_bearings.md R194. -/
abbrev R.TACH_CFG.addr : Nat := 0x410004
/-- TACH_CFG[31:24]. -/
abbrev R.TACH_CFG.GATE_MS : FRef := ⟨R.TACH_CFG.addr, 31, 24⟩
/-- TACH_CFG[17:16]. -/
abbrev R.TACH_CFG.DIR_SRC : FRef := ⟨R.TACH_CFG.addr, 17, 16⟩
/-- TACH_CFG[1:0]. -/
abbrev R.TACH_CFG.MODE : FRef := ⟨R.TACH_CFG.addr, 1, 0⟩
/-- TACH_WHEEL, 07_bearings.md R195. -/
abbrev R.TACH_WHEEL.addr (c : Nat) : Nat := 0x410008 + c * 0x4
/-- TACH_WHEEL[25:16]. -/
abbrev R.TACH_WHEEL.PPR (c : Nat) : FRef := ⟨R.TACH_WHEEL.addr c, 25, 16⟩
/-- TACH_WHEEL[15:0]. -/
abbrev R.TACH_WHEEL.CIRC (c : Nat) : FRef := ⟨R.TACH_WHEEL.addr c, 15, 0⟩
/-- TACH_LIM, 07_bearings.md R197. -/
abbrev R.TACH_LIM.addr : Nat := 0x410010
/-- TACH_LIM[31:24]. -/
abbrev R.TACH_LIM.A_MAX : FRef := ⟨R.TACH_LIM.addr, 31, 24⟩
/-- TACH_LIM[23:16]. -/
abbrev R.TACH_LIM.TOL_ABS : FRef := ⟨R.TACH_LIM.addr, 23, 16⟩
/-- TACH_LIM[15:8]. -/
abbrev R.TACH_LIM.TOL : FRef := ⟨R.TACH_LIM.addr, 15, 8⟩
/-- TACH_LIM[7:0]. -/
abbrev R.TACH_LIM.VALID_T : FRef := ⟨R.TACH_LIM.addr, 7, 0⟩
/-- TACH_LIM2, 07_bearings.md R196. -/
abbrev R.TACH_LIM2.addr : Nat := 0x410014
/-- TACH_LIM2[31:24]. -/
abbrev R.TACH_LIM2.V_DIR : FRef := ⟨R.TACH_LIM2.addr, 31, 24⟩
/-- TACH_LIM2[23:16]. -/
abbrev R.TACH_LIM2.PLAUS_TOL : FRef := ⟨R.TACH_LIM2.addr, 23, 16⟩
/-- TACH_LIM2[15:8]. -/
abbrev R.TACH_LIM2.STOP_T : FRef := ⟨R.TACH_LIM2.addr, 15, 8⟩
/-- SPEED_STATUS, 07_bearings.md R197. -/
abbrev R.SPEED_STATUS.addr : Nat := 0x410018
/-- SPEED_STATUS[31:28]. -/
abbrev R.SPEED_STATUS.CAUSE : FRef := ⟨R.SPEED_STATUS.addr, 31, 28⟩
/-- SPEED_STATUS[27:26]. -/
abbrev R.SPEED_STATUS.STATE : FRef := ⟨R.SPEED_STATUS.addr, 27, 26⟩
/-- SPEED_STATUS[16:16]. -/
abbrev R.SPEED_STATUS.DIR : FRef := ⟨R.SPEED_STATUS.addr, 16, 16⟩
/-- SPEED_STATUS[15:0]. -/
abbrev R.SPEED_STATUS.V : FRef := ⟨R.SPEED_STATUS.addr, 15, 0⟩
/-- SPEED_CH, 07_bearings.md R194. -/
abbrev R.SPEED_CH.addr : Nat := 0x41001C
/-- SPEED_CH[31:16]. -/
abbrev R.SPEED_CH.VB : FRef := ⟨R.SPEED_CH.addr, 31, 16⟩
/-- SPEED_CH[15:0]. -/
abbrev R.SPEED_CH.VA : FRef := ⟨R.SPEED_CH.addr, 15, 0⟩
/-- SPEED_EPOCH, 07_bearings.md R199. -/
abbrev R.SPEED_EPOCH.addr : Nat := 0x410020
/-- SPEED_EPOCH[15:0]. -/
abbrev R.SPEED_EPOCH.EPOCH : FRef := ⟨R.SPEED_EPOCH.addr, 15, 0⟩
/-- ODO_LO, 07_bearings.md R199. -/
abbrev R.ODO_LO.addr : Nat := 0x410024
/-- ODO_LO[31:0]. -/
abbrev R.ODO_LO.VALUE : FRef := ⟨R.ODO_LO.addr, 31, 0⟩
/-- ODO_HI, 07_bearings.md R199. -/
abbrev R.ODO_HI.addr : Nat := 0x410028
/-- ODO_HI[31:0]. -/
abbrev R.ODO_HI.VALUE : FRef := ⟨R.ODO_HI.addr, 31, 0⟩
/-- BEAR_CNT_INTEG, 07_bearings.md R192. -/
abbrev R.BEAR_CNT_INTEG.addr : Nat := 0x41002C
/-- BEAR_CNT_INTEG[31:0]. -/
abbrev R.BEAR_CNT_INTEG.VALUE : FRef := ⟨R.BEAR_CNT_INTEG.addr, 31, 0⟩
/-- EVENT_LOG, 21_limits_faults.md R489. -/
abbrev R.EVENT_LOG.addr (w : Nat) : Nat := 0x500000 + w * 0x4
/-- EVENT_LOG[31:0]. -/
abbrev R.EVENT_LOG.WORD (w : Nat) : FRef := ⟨R.EVENT_LOG.addr w, 31, 0⟩
/-- EVT_WR, 21_limits_faults.md R486. -/
abbrev R.EVT_WR.addr : Nat := 0x510000
/-- EVT_WR[31:0]. -/
abbrev R.EVT_WR.WR : FRef := ⟨R.EVT_WR.addr, 31, 0⟩
/-- CAL_REC0, 04_return_timing.md R136. -/
abbrev R.CAL_REC0.addr (i : Nat) : Nat := 0x600000 + i * 0x40
/-- CAL_REC0[31:16]. -/
abbrev R.CAL_REC0.DEVTAG (i : Nat) : FRef := ⟨R.CAL_REC0.addr i, 31, 16⟩
/-- CAL_REC0[13:13]. -/
abbrev R.CAL_REC0.INPUT_FAIL (i : Nat) : FRef := ⟨R.CAL_REC0.addr i, 13, 13⟩
/-- CAL_REC0[12:12]. -/
abbrev R.CAL_REC0.STALE (i : Nat) : FRef := ⟨R.CAL_REC0.addr i, 12, 12⟩
/-- CAL_REC0[11:11]. -/
abbrev R.CAL_REC0.RESTORED (i : Nat) : FRef := ⟨R.CAL_REC0.addr i, 11, 11⟩
/-- CAL_REC0[10:9]. -/
abbrev R.CAL_REC0.FAIL (i : Nat) : FRef := ⟨R.CAL_REC0.addr i, 10, 9⟩
/-- CAL_REC0[8:8]. -/
abbrev R.CAL_REC0.CHAIN (i : Nat) : FRef := ⟨R.CAL_REC0.addr i, 8, 8⟩
/-- CAL_REC0[7:0]. -/
abbrev R.CAL_REC0.SEQ_HEAD (i : Nat) : FRef := ⟨R.CAL_REC0.addr i, 7, 0⟩
/-- CAL_REC_TAP, 04_return_timing.md R136. -/
abbrev R.CAL_REC_TAP.addr (i w : Nat) : Nat := 0x600004 + i * 0x40 + w * 0x4
/-- CAL_REC_TAP[31:0]. -/
abbrev R.CAL_REC_TAP.TAP_SEL (i w : Nat) : FRef := ⟨R.CAL_REC_TAP.addr i w, 31, 0⟩
/-- CAL_REC_SKEW, 04_return_timing.md R136. -/
abbrev R.CAL_REC_SKEW.addr (i : Nat) : Nat := 0x600028 + i * 0x40
/-- CAL_REC_SKEW[31:16]. -/
abbrev R.CAL_REC_SKEW.INL_MAX (i : Nat) : FRef := ⟨R.CAL_REC_SKEW.addr i, 31, 16⟩
/-- CAL_REC_SKEW[15:0]. -/
abbrev R.CAL_REC_SKEW.SKEW (i : Nat) : FRef := ⟨R.CAL_REC_SKEW.addr i, 15, 0⟩
/-- CAL_REC_DNL, 04_return_timing.md R136. -/
abbrev R.CAL_REC_DNL.addr (i : Nat) : Nat := 0x60002C + i * 0x40
/-- CAL_REC_DNL[31:16]. -/
abbrev R.CAL_REC_DNL.TEMP (i : Nat) : FRef := ⟨R.CAL_REC_DNL.addr i, 31, 16⟩
/-- CAL_REC_DNL[15:0]. -/
abbrev R.CAL_REC_DNL.DNL_MAX (i : Nat) : FRef := ⟨R.CAL_REC_DNL.addr i, 15, 0⟩
/-- CAL_REC_HITS, 04_return_timing.md R136. -/
abbrev R.CAL_REC_HITS.addr (i : Nat) : Nat := 0x600030 + i * 0x40
/-- CAL_REC_HITS[31:0]. -/
abbrev R.CAL_REC_HITS.HITS (i : Nat) : FRef := ⟨R.CAL_REC_HITS.addr i, 31, 0⟩
/-- CAL_REC_DT_LO, 04_return_timing.md R136. -/
abbrev R.CAL_REC_DT_LO.addr (i : Nat) : Nat := 0x600034 + i * 0x40
/-- CAL_REC_DT_LO[31:0]. -/
abbrev R.CAL_REC_DT_LO.DT_LO (i : Nat) : FRef := ⟨R.CAL_REC_DT_LO.addr i, 31, 0⟩
/-- CAL_REC_DT_HI, 04_return_timing.md R136. -/
abbrev R.CAL_REC_DT_HI.addr (i : Nat) : Nat := 0x600038 + i * 0x40
/-- CAL_REC_DT_HI[31:0]. -/
abbrev R.CAL_REC_DT_HI.DT_HI (i : Nat) : FRef := ⟨R.CAL_REC_DT_HI.addr i, 31, 0⟩
/-- CAL_REC_CRC, 04_return_timing.md R136. -/
abbrev R.CAL_REC_CRC.addr (i : Nat) : Nat := 0x60003C + i * 0x40
/-- CAL_REC_CRC[31:24]. -/
abbrev R.CAL_REC_CRC.SEQ_TAIL (i : Nat) : FRef := ⟨R.CAL_REC_CRC.addr i, 31, 24⟩
/-- CAL_REC_CRC[15:0]. -/
abbrev R.CAL_REC_CRC.CRC (i : Nat) : FRef := ⟨R.CAL_REC_CRC.addr i, 15, 0⟩
/-- CAL_CFG, 04_return_timing.md R125. -/
abbrev R.CAL_CFG.addr : Nat := 0x620000
/-- CAL_CFG[31:31]. -/
abbrev R.CAL_CFG.HOLD : FRef := ⟨R.CAL_CFG.addr, 31, 31⟩
/-- CAL_CFG[27:24]. -/
abbrev R.CAL_CFG.HITS_LOG2 : FRef := ⟨R.CAL_CFG.addr, 27, 24⟩
/-- CAL_CFG[23:16]. -/
abbrev R.CAL_CFG.MAX_AGE : FRef := ⟨R.CAL_CFG.addr, 23, 16⟩
/-- CAL_CFG[15:8]. -/
abbrev R.CAL_CFG.STALE_AGE : FRef := ⟨R.CAL_CFG.addr, 15, 8⟩
/-- CAL_CFG[7:0]. -/
abbrev R.CAL_CFG.INL_LIM : FRef := ⟨R.CAL_CFG.addr, 7, 0⟩
/-- CAL_LIM, 04_return_timing.md R135. -/
abbrev R.CAL_LIM.addr : Nat := 0x620004
/-- CAL_LIM[31:24]. -/
abbrev R.CAL_LIM.RESTORE_DT : FRef := ⟨R.CAL_LIM.addr, 31, 24⟩
/-- CAL_LIM[23:16]. -/
abbrev R.CAL_LIM.COUPLE_LIM : FRef := ⟨R.CAL_LIM.addr, 23, 16⟩
/-- CAL_LIM[9:0]. -/
abbrev R.CAL_LIM.DNL_LIM : FRef := ⟨R.CAL_LIM.addr, 9, 0⟩
/-- CAL_CTL, 04_return_timing.md R138. -/
abbrev R.CAL_CTL.addr : Nat := 0x620008
/-- CAL_CTL[31:31]. -/
abbrev R.CAL_CTL.RESTORE : FRef := ⟨R.CAL_CTL.addr, 31, 31⟩
/-- CAL_CTL[10:0]. -/
abbrev R.CAL_CTL.INDEX : FRef := ⟨R.CAL_CTL.addr, 10, 0⟩
/-- CAL_RESTORE_STATUS, 04_return_timing.md R138. -/
abbrev R.CAL_RESTORE_STATUS.addr : Nat := 0x62000C
/-- CAL_RESTORE_STATUS[2:0]. -/
abbrev R.CAL_RESTORE_STATUS.RESULT : FRef := ⟨R.CAL_RESTORE_STATUS.addr, 2, 0⟩
/-- CAL_COUPLE, 04_return_timing.md R135. -/
abbrev R.CAL_COUPLE.addr : Nat := 0x620010
/-- CAL_COUPLE[26:16]. -/
abbrev R.CAL_COUPLE.WORST : FRef := ⟨R.CAL_COUPLE.addr, 26, 16⟩
/-- CAL_COUPLE[15:0]. -/
abbrev R.CAL_COUPLE.COUPLE : FRef := ⟨R.CAL_COUPLE.addr, 15, 0⟩
/-- CAL_STAGE, 04_return_timing.md R138. -/
abbrev R.CAL_STAGE.addr (w : Nat) : Nat := 0x620040 + w * 0x4
/-- CAL_STAGE[31:0]. -/
abbrev R.CAL_STAGE.WORD (w : Nat) : FRef := ⟨R.CAL_STAGE.addr w, 31, 0⟩
/-- CAL_CNT, 04_return_timing.md R140. -/
abbrev R.CAL_CNT.addr (k : Nat) : Nat := 0x620100 + k * 0x10
/-- CAL_CNT[31:0]. -/
abbrev R.CAL_CNT.VALUE (k : Nat) : FRef := ⟨R.CAL_CNT.addr k, 31, 0⟩
/-- CAL_DT_LO, 04_return_timing.md R140. -/
abbrev R.CAL_DT_LO.addr (k : Nat) : Nat := 0x620104 + k * 0x10
/-- CAL_DT_LO[31:0]. -/
abbrev R.CAL_DT_LO.VALUE (k : Nat) : FRef := ⟨R.CAL_DT_LO.addr k, 31, 0⟩
/-- CAL_DT_HI, 04_return_timing.md R140. -/
abbrev R.CAL_DT_HI.addr (k : Nat) : Nat := 0x620108 + k * 0x10
/-- CAL_DT_HI[31:0]. -/
abbrev R.CAL_DT_HI.VALUE (k : Nat) : FRef := ⟨R.CAL_DT_HI.addr k, 31, 0⟩
/-- INCFG, 04_return_timing.md R105. -/
abbrev R.INCFG.addr (i : Nat) : Nat := 0x630000 + i * 0x4
/-- INCFG[17:17]. -/
abbrev R.INCFG.INVERT (i : Nat) : FRef := ⟨R.INCFG.addr i, 17, 17⟩
/-- INCFG[16:16]. -/
abbrev R.INCFG.TERM (i : Nat) : FRef := ⟨R.INCFG.addr i, 16, 16⟩
/-- INCFG[15:14]. -/
abbrev R.INCFG.HYST (i : Nat) : FRef := ⟨R.INCFG.addr i, 15, 14⟩
/-- INCFG[13:6]. -/
abbrev R.INCFG.HOLD_OFF (i : Nat) : FRef := ⟨R.INCFG.addr i, 13, 6⟩
/-- INCFG[4:0]. -/
abbrev R.INCFG.HEAD (i : Nat) : FRef := ⟨R.INCFG.addr i, 4, 0⟩
/-- INSTAT_ACC, 04_return_timing.md R114. -/
abbrev R.INSTAT_ACC.addr (n : Nat) : Nat := 0x640000 + n * 0x20
/-- INSTAT_ACC[31:0]. -/
abbrev R.INSTAT_ACC.ACC (n : Nat) : FRef := ⟨R.INSTAT_ACC.addr n, 31, 0⟩
/-- INSTAT_OUT, 04_return_timing.md R114. -/
abbrev R.INSTAT_OUT.addr (n : Nat) : Nat := 0x640004 + n * 0x20
/-- INSTAT_OUT[31:0]. -/
abbrev R.INSTAT_OUT.OUT (n : Nat) : FRef := ⟨R.INSTAT_OUT.addr n, 31, 0⟩
/-- INSTAT_LOST, 04_return_timing.md R108. -/
abbrev R.INSTAT_LOST.addr (n : Nat) : Nat := 0x640008 + n * 0x20
/-- INSTAT_LOST[31:0]. -/
abbrev R.INSTAT_LOST.LOST (n : Nat) : FRef := ⟨R.INSTAT_LOST.addr n, 31, 0⟩
/-- INSTAT_BLANK, 04_return_timing.md R114. -/
abbrev R.INSTAT_BLANK.addr (n : Nat) : Nat := 0x64000C + n * 0x20
/-- INSTAT_BLANK[31:0]. -/
abbrev R.INSTAT_BLANK.BLANK (n : Nat) : FRef := ⟨R.INSTAT_BLANK.addr n, 31, 0⟩
/-- INSTAT_SAT, 04_return_timing.md R117. -/
abbrev R.INSTAT_SAT.addr (n : Nat) : Nat := 0x640010 + n * 0x20
/-- INSTAT_SAT[31:0]. -/
abbrev R.INSTAT_SAT.SAT (n : Nat) : FRef := ⟨R.INSTAT_SAT.addr n, 31, 0⟩
/-- INSTAT_HITS, 04_return_timing.md R125. -/
abbrev R.INSTAT_HITS.addr (n : Nat) : Nat := 0x640014 + n * 0x20
/-- INSTAT_HITS[31:0]. -/
abbrev R.INSTAT_HITS.HITS (n : Nat) : FRef := ⟨R.INSTAT_HITS.addr n, 31, 0⟩
/-- GRP_DEC, 05_histograms.md R150. -/
abbrev R.GRP_DEC.addr (g : Nat) : Nat := 0x650000 + g * 0x10
/-- GRP_DEC[14:12]. -/
abbrev R.GRP_DEC.DEC_SIF8 (g : Nat) : FRef := ⟨R.GRP_DEC.addr g, 14, 12⟩
/-- GRP_DEC[10:8]. -/
abbrev R.GRP_DEC.DEC_SIF4 (g : Nat) : FRef := ⟨R.GRP_DEC.addr g, 10, 8⟩
/-- GRP_DEC[6:4]. -/
abbrev R.GRP_DEC.DEC_SIF2 (g : Nat) : FRef := ⟨R.GRP_DEC.addr g, 6, 4⟩
/-- GRP_DEC[2:0]. -/
abbrev R.GRP_DEC.DEC_SIF1 (g : Nat) : FRef := ⟨R.GRP_DEC.addr g, 2, 0⟩
/-- GRP_ECC, 05_histograms.md R162. -/
abbrev R.GRP_ECC.addr (g : Nat) : Nat := 0x650004 + g * 0x10
/-- GRP_ECC[31:16]. -/
abbrev R.GRP_ECC.UNCORR (g : Nat) : FRef := ⟨R.GRP_ECC.addr g, 31, 16⟩
/-- GRP_ECC[15:0]. -/
abbrev R.GRP_ECC.CORR (g : Nat) : FRef := ⟨R.GRP_ECC.addr g, 15, 0⟩
/-- GRP_MQ, 05_histograms.md R161. -/
abbrev R.GRP_MQ.addr (g : Nat) : Nat := 0x650008 + g * 0x10
/-- GRP_MQ[31:16]. -/
abbrev R.GRP_MQ.SPILL_HELD (g : Nat) : FRef := ⟨R.GRP_MQ.addr g, 31, 16⟩
/-- GRP_MQ[5:0]. -/
abbrev R.GRP_MQ.MQ_USED (g : Nat) : FRef := ⟨R.GRP_MQ.addr g, 5, 0⟩

end Sys2Proof.Machine
end

