-- ==== Sys2Proof/Machine/RegMap.lean ====
section
/-! DEFINITION. The register map as a table: for every register of the spec its address, and for every field its
bits, access class (Table 0.5), reset value and legal encodings. The rows are the register tables of the owning
chapters; the blocks are those of Table 22.1. Reserved bits have no row: they read 0 (R8). -/

namespace Sys2Proof.Machine

/-- The access classes of Table 0.5. -/
inductive Access where
  | ro | rw | w1c | wo | seal | maint
deriving DecidableEq, Repr

/-- One field of a register: its bits, class, reset value and legal encodings (empty: every value). -/
structure FieldRow where
  hi : Nat
  lo : Nat
  acc : Access
  reset : Nat
  legal : List (Nat × Nat)
deriving DecidableEq, Repr

/-- One register or array of registers: offset in its block, up to two index dimensions (count, stride), fields. -/
structure RegRow where
  off : Nat
  dims : List (Nat × Nat)
  fields : List FieldRow
deriving DecidableEq, Repr

/-- Registers of block DEV. -/
def regRowsDev : List RegRow := [
  ⟨0x0, [],
   [⟨31, 16, .ro, 0x1536, []⟩, ⟨15, 8, .ro, 0xa1, []⟩]⟩,
  ⟨0x4, [],
   [⟨31, 0, .ro, 0, []⟩]⟩,
  ⟨0x8, [],
   [⟨2, 0, .ro, 0, []⟩]⟩,
  ⟨0x10, [],
   [⟨31, 16, .ro, 0, []⟩, ⟨10, 8, .ro, 0, []⟩, ⟨2, 0, .ro, 1, []⟩]⟩,
  ⟨0x14, [],
   [⟨23, 16, .seal, 0xa, [(1, 255)]⟩, ⟨1, 1, .ro, 0, []⟩, ⟨0, 0, .ro, 0, []⟩]⟩,
  ⟨0x18, [],
   [⟨31, 0, .ro, 0, []⟩]⟩,
  ⟨0x1C, [],
   [⟨31, 0, .ro, 0, []⟩]⟩,
  ⟨0x20, [],
   [⟨31, 0, .ro, 0, []⟩]⟩,
  ⟨0x24, [],
   [⟨31, 0, .ro, 0, []⟩]⟩,
  ⟨0x28, [],
   [⟨5, 4, .ro, 0, []⟩, ⟨3, 3, .ro, 0, []⟩, ⟨2, 0, .ro, 0, []⟩]⟩,
  ⟨0x40, [],
   [⟨31, 16, .ro, 0, []⟩, ⟨4, 4, .ro, 0, []⟩, ⟨3, 3, .ro, 0, []⟩, ⟨2, 2, .ro, 0, []⟩, ⟨1, 1, .ro, 0, []⟩, ⟨0, 0, .ro, 0, []⟩]⟩,
  ⟨0x44, [],
   [⟨31, 0, .rw, 0, []⟩]⟩,
  ⟨0x48, [],
   [⟨1, 0, .seal, 1, []⟩]⟩]
/-- Registers of block HEAD (part 1). -/
def regRowsHeadA : List RegRow := [
  ⟨0x0, [],
   [⟨4, 4, .seal, 0, []⟩, ⟨3, 3, .wo, 0, []⟩, ⟨2, 2, .rw, 0, []⟩, ⟨1, 1, .wo, 0, []⟩, ⟨0, 0, .wo, 0, []⟩]⟩,
  ⟨0x4, [],
   [⟨15, 8, .ro, 0, []⟩, ⟨3, 3, .ro, 0, []⟩, ⟨2, 0, .ro, 0, []⟩]⟩,
  ⟨0x8, [],
   [⟨11, 11, .ro, 1, []⟩, ⟨10, 10, .ro, 0, []⟩, ⟨9, 9, .ro, 0, []⟩, ⟨8, 8, .ro, 1, []⟩, ⟨7, 7, .ro, 0, []⟩, ⟨6, 6, .ro, 1, []⟩, ⟨5, 5, .ro, 1, []⟩, ⟨4, 4, .ro, 0, []⟩, ⟨3, 3, .ro, 0, []⟩, ⟨2, 2, .ro, 1, []⟩, ⟨1, 1, .ro, 1, []⟩, ⟨0, 0, .ro, 1, []⟩]⟩,
  ⟨0xC, [],
   [⟨11, 11, .w1c, 1, []⟩, ⟨10, 10, .w1c, 0, []⟩, ⟨9, 9, .w1c, 0, []⟩, ⟨8, 8, .w1c, 1, []⟩, ⟨7, 7, .w1c, 0, []⟩, ⟨6, 6, .w1c, 1, []⟩, ⟨5, 5, .w1c, 1, []⟩, ⟨4, 4, .w1c, 0, []⟩, ⟨3, 3, .w1c, 0, []⟩, ⟨2, 2, .w1c, 1, []⟩, ⟨1, 1, .w1c, 1, []⟩, ⟨0, 0, .w1c, 1, []⟩]⟩,
  ⟨0x400, [],
   [⟨2, 2, .seal, 0, []⟩, ⟨1, 1, .seal, 0, []⟩, ⟨0, 0, .seal, 0, []⟩]⟩,
  ⟨0x404, [],
   [⟨2, 2, .wo, 0, []⟩, ⟨1, 1, .wo, 0, []⟩, ⟨0, 0, .wo, 0, []⟩]⟩,
  ⟨0x408, [],
   [⟨4, 4, .w1c, 0, []⟩, ⟨3, 1, .ro, 0, []⟩, ⟨0, 0, .ro, 0, []⟩]⟩,
  ⟨0x40C, [],
   [⟨31, 16, .ro, 0, []⟩, ⟨7, 0, .ro, 0, []⟩]⟩,
  ⟨0x410, [],
   [⟨31, 0, .ro, 0, []⟩]⟩,
  ⟨0x414, [],
   [⟨31, 0, .ro, 0, []⟩]⟩,
  ⟨0x418, [],
   [⟨19, 19, .ro, 0, []⟩, ⟨18, 16, .ro, 0, []⟩, ⟨15, 0, .ro, 0, []⟩]⟩,
  ⟨0x41C, [],
   [⟨31, 0, .ro, 0, []⟩]⟩,
  ⟨0x420, [(2, 0x8)],
   [⟨31, 31, .ro, 0, []⟩, ⟨15, 0, .rw, 0, []⟩]⟩,
  ⟨0x424, [(2, 0x8)],
   [⟨29, 16, .rw, 0, []⟩, ⟨13, 0, .rw, 0, [(0, 10000)]⟩]⟩,
  ⟨0x430, [(4, 0x4)],
   [⟨31, 20, .seal, 0, []⟩, ⟨19, 12, .seal, 1, [(1, 255)]⟩, ⟨11, 0, .seal, 0, []⟩]⟩,
  ⟨0x440, [],
   [⟨16, 16, .rw, 0, []⟩, ⟨15, 0, .rw, 0, []⟩]⟩,
  ⟨0x444, [(16, 0x4)],
   [⟨31, 0, .wo, 0, []⟩]⟩,
  ⟨0x484, [],
   [⟨31, 0, .ro, 0, []⟩]⟩,
  ⟨0x488, [],
   [⟨31, 0, .ro, 0, []⟩]⟩,
  ⟨0x48C, [],
   [⟨31, 0, .ro, 0, []⟩]⟩,
  ⟨0x800, [],
   [⟨27, 24, .seal, 4, [(1, 15)]⟩, ⟨23, 16, .seal, 0x50, [(16, 248)]⟩, ⟨15, 8, .seal, 0, []⟩, ⟨7, 3, .seal, 8, [(4, 31)]⟩, ⟨2, 0, .seal, 0, [(0, 4)]⟩]⟩,
  ⟨0x804, [],
   [⟨15, 0, .seal, 0, []⟩]⟩,
  ⟨0x808, [],
   [⟨31, 31, .ro, 0, []⟩, ⟨29, 16, .seal, 0, []⟩, ⟨13, 0, .ro, 0, []⟩]⟩,
  ⟨0x80C, [],
   [⟨0, 0, .wo, 0, []⟩]⟩]
/-- Registers of block HEAD (part 2). -/
def regRowsHeadB : List RegRow := [
  ⟨0x810, [],
   [⟨31, 31, .ro, 0, []⟩, ⟨19, 16, .ro, 0, []⟩, ⟨11, 0, .ro, 0, []⟩]⟩,
  ⟨0x814, [],
   [⟨31, 0, .ro, 0, []⟩]⟩,
  ⟨0x818, [],
   [⟨31, 0, .ro, 0, []⟩]⟩,
  ⟨0x81C, [],
   [⟨31, 0, .ro, 0, []⟩]⟩,
  ⟨0x820, [],
   [⟨31, 0, .ro, 0, []⟩]⟩,
  ⟨0x824, [],
   [⟨31, 0, .ro, 0, []⟩]⟩,
  ⟨0xC00, [],
   [⟨24, 12, .seal, 0, [(0, 4096)]⟩, ⟨11, 6, .seal, 0, []⟩, ⟨5, 0, .seal, 0, []⟩]⟩,
  ⟨0xC04, [],
   [⟨13, 0, .seal, 0x3e8, [(100, 10000)]⟩]⟩,
  ⟨0xC08, [],
   [⟨28, 16, .ro, 0, []⟩, ⟨15, 4, .ro, 0, []⟩, ⟨2, 0, .ro, 0, []⟩]⟩,
  ⟨0xC0C, [],
   [⟨31, 16, .ro, 0, []⟩, ⟨5, 0, .ro, 0, []⟩]⟩,
  ⟨0xC10, [],
   [⟨5, 0, .rw, 0, []⟩]⟩,
  ⟨0xC14, [],
   [⟨31, 0, .ro, 0, []⟩]⟩,
  ⟨0xC18, [],
   [⟨31, 0, .ro, 0, []⟩]⟩,
  ⟨0xC1C, [],
   [⟨31, 0, .ro, 0, []⟩]⟩,
  ⟨0xC20, [],
   [⟨31, 0, .ro, 0, []⟩]⟩,
  ⟨0xC24, [],
   [⟨31, 0, .ro, 0, []⟩]⟩,
  ⟨0xC28, [],
   [⟨31, 0, .ro, 0, []⟩]⟩,
  ⟨0xC2C, [],
   [⟨31, 0, .ro, 0, []⟩]⟩,
  ⟨0xC30, [],
   [⟨31, 0, .ro, 0, []⟩]⟩,
  ⟨0x1000, [],
   [⟨15, 8, .seal, 0, []⟩, ⟨1, 1, .seal, 0, []⟩, ⟨0, 0, .seal, 0, []⟩]⟩,
  ⟨0x1004, [],
   [⟨25, 24, .seal, 1, []⟩, ⟨23, 16, .seal, 0x19, []⟩, ⟨7, 0, .seal, 0xf, [(2, 255)]⟩]⟩,
  ⟨0x1008, [],
   [⟨13, 0, .seal, 0x64, [(0, 10000)]⟩]⟩,
  ⟨0x100C, [],
   [⟨26, 16, .ro, 0, []⟩, ⟨10, 0, .ro, 0, []⟩]⟩,
  ⟨0x1010, [],
   [⟨31, 16, .ro, 0, []⟩]⟩]
/-- Registers of block HEAD (part 3). -/
def regRowsHeadC : List RegRow := [
  ⟨0x1014, [],
   [⟨31, 16, .seal, 0, []⟩, ⟨15, 0, .seal, 0, []⟩]⟩,
  ⟨0x1018, [],
   [⟨31, 0, .ro, 0, []⟩]⟩,
  ⟨0x1400, [],
   [⟨11, 8, .seal, 3, []⟩, ⟨5, 4, .seal, 0, [(0, 2)]⟩, ⟨3, 2, .seal, 1, [(1, 3)]⟩, ⟨0, 0, .seal, 0, []⟩]⟩,
  ⟨0x1404, [],
   [⟨23, 16, .ro, 0, []⟩, ⟨8, 8, .w1c, 0, []⟩, ⟨5, 0, .ro, 0, []⟩]⟩,
  ⟨0x1408, [],
   [⟨31, 0, .ro, 0, []⟩]⟩,
  ⟨0x140C, [],
   [⟨31, 0, .ro, 0, []⟩]⟩,
  ⟨0x1410, [],
   [⟨31, 0, .ro, 0, []⟩]⟩,
  ⟨0x1414, [],
   [⟨31, 0, .ro, 0, []⟩]⟩,
  ⟨0x1418, [],
   [⟨31, 0, .ro, 0, []⟩]⟩,
  ⟨0x1800, [],
   [⟨15, 8, .seal, 3, [(1, 255)]⟩, ⟨7, 0, .seal, 0x50, []⟩]⟩,
  ⟨0x1804, [],
   [⟨31, 16, .seal, 0x400, []⟩, ⟨2, 0, .seal, 0, [(0, 4)]⟩]⟩,
  ⟨0x1808, [],
   [⟨31, 16, .seal, 0x4000, []⟩, ⟨15, 0, .seal, 0x2000, []⟩]⟩,
  ⟨0x180C, [],
   [⟨31, 24, .seal, 0xc, []⟩, ⟨23, 16, .seal, 0x40, []⟩, ⟨3, 0, .seal, 4, [(1, 8)]⟩]⟩,
  ⟨0x1810, [],
   [⟨31, 24, .seal, 0x64, []⟩, ⟨23, 16, .seal, 0xa, []⟩, ⟨15, 8, .seal, 0x10, []⟩, ⟨7, 0, .seal, 0x1a, []⟩]⟩,
  ⟨0x1814, [],
   [⟨31, 24, .seal, 0xc, []⟩, ⟨23, 16, .seal, 8, []⟩, ⟨15, 8, .seal, 0x10, []⟩, ⟨7, 4, .seal, 4, [(1, 15)]⟩]⟩,
  ⟨0x1818, [],
   [⟨31, 16, .seal, 0xc8, []⟩, ⟨15, 8, .seal, 0x10, []⟩]⟩,
  ⟨0x181C, [],
   [⟨31, 0, .seal, 0x320, [(0, 65535)]⟩]⟩,
  ⟨0x1820, [],
   [⟨31, 0, .seal, 0, []⟩]⟩,
  ⟨0x1824, [],
   [⟨7, 0, .seal, 4, []⟩]⟩,
  ⟨0x1828, [],
   [⟨31, 16, .seal, 0xc8, []⟩, ⟨5, 4, .seal, 0, [(0, 2)]⟩, ⟨2, 0, .seal, 0, []⟩]⟩,
  ⟨0x182C, [],
   [⟨31, 16, .ro, 0, []⟩, ⟨8, 8, .ro, 0, []⟩, ⟨7, 7, .ro, 0, []⟩, ⟨6, 4, .ro, 0, []⟩, ⟨2, 0, .ro, 0, []⟩]⟩,
  ⟨0x1830, [(8, 0x4)],
   [⟨16, 16, .seal, 0, []⟩, ⟨15, 8, .seal, 0xfe, []⟩, ⟨7, 0, .seal, 0xfe, []⟩]⟩,
  ⟨0x1850, [(8, 0x4)],
   [⟨31, 16, .seal, 0, []⟩, ⟨3, 3, .seal, 0, []⟩, ⟨2, 0, .seal, 0, []⟩]⟩,
  ⟨0x1870, [],
   [⟨24, 24, .ro, 0, []⟩, ⟨23, 16, .ro, 0, []⟩, ⟨15, 0, .ro, 0xffff, []⟩]⟩]
/-- Registers of block HEAD (part 4). -/
def regRowsHeadD : List RegRow := [
  ⟨0x1874, [],
   [⟨31, 0, .ro, 0, []⟩]⟩,
  ⟨0x1878, [],
   [⟨31, 0, .ro, 0, []⟩]⟩,
  ⟨0x187C, [],
   [⟨31, 0, .ro, 0, []⟩]⟩,
  ⟨0x1880, [],
   [⟨31, 0, .ro, 0, []⟩]⟩,
  ⟨0x1884, [],
   [⟨31, 0, .ro, 0, []⟩]⟩,
  ⟨0x1C00, [],
   [⟨31, 24, .seal, 0x14, [(1, 255)]⟩, ⟨23, 20, .seal, 3, [(1, 8)]⟩, ⟨15, 8, .seal, 4, [(1, 255)]⟩, ⟨4, 4, .seal, 0, []⟩, ⟨3, 3, .seal, 0, []⟩, ⟨2, 0, .seal, 0, []⟩]⟩,
  ⟨0x1C04, [],
   [⟨15, 8, .seal, 2, [(1, 255)]⟩, ⟨7, 0, .seal, 0x50, []⟩]⟩,
  ⟨0x1C08, [],
   [⟨31, 28, .seal, 3, []⟩, ⟨27, 24, .seal, 3, [(1, 15)]⟩, ⟨23, 16, .seal, 0x14, []⟩, ⟨15, 0, .seal, 0x1f4, []⟩]⟩,
  ⟨0x1C0C, [],
   [⟨1, 1, .ro, 0, []⟩, ⟨0, 0, .ro, 0, []⟩]⟩,
  ⟨0x1C10, [],
   [⟨31, 0, .ro, 0, []⟩]⟩,
  ⟨0x1C14, [],
   [⟨31, 0, .ro, 0, []⟩]⟩,
  ⟨0x1C18, [],
   [⟨31, 0, .ro, 0, []⟩]⟩,
  ⟨0x1C1C, [],
   [⟨31, 0, .ro, 0, []⟩]⟩,
  ⟨0x1C20, [],
   [⟨31, 0, .ro, 0, []⟩]⟩,
  ⟨0x1C24, [],
   [⟨31, 0, .ro, 0, []⟩]⟩,
  ⟨0x1C28, [],
   [⟨31, 0, .ro, 0, []⟩]⟩,
  ⟨0x1C2C, [],
   [⟨31, 0, .seal, 0, []⟩]⟩,
  ⟨0x2000, [],
   [⟨9, 8, .rw, 1, [(0, 2)]⟩, ⟨3, 0, .maint, 0, []⟩]⟩,
  ⟨0x2004, [(2, 0x4)],
   [⟨19, 16, .seal, 0xc, [(8, 16)]⟩, ⟨15, 8, .seal, 0, []⟩, ⟨2, 0, .seal, 0, [(0, 5)]⟩]⟩,
  ⟨0x200C, [(2, 0x4)],
   [⟨31, 16, .seal, 0x7fff, []⟩, ⟨15, 0, .seal, 0x8001, []⟩]⟩,
  ⟨0x2014, [(2, 0x4)],
   [⟨31, 16, .seal, 0x7fff, []⟩, ⟨15, 0, .seal, 0x8001, []⟩]⟩,
  ⟨0x201C, [(2, 0x4)],
   [⟨31, 16, .seal, 0, []⟩, ⟨15, 0, .seal, 0, []⟩]⟩,
  ⟨0x2024, [],
   [⟨31, 20, .seal, 0x100, []⟩, ⟨19, 12, .seal, 0xa, [(1, 255)]⟩, ⟨11, 0, .seal, 0x40, [(1, 4095)]⟩]⟩,
  ⟨0x2028, [],
   [⟨31, 24, .seal, 2, [(1, 255)]⟩, ⟨23, 16, .seal, 0x40, [(1, 255)]⟩, ⟨11, 0, .seal, 0, []⟩]⟩]
/-- Registers of block HEAD (part 5). -/
def regRowsHeadE : List RegRow := [
  ⟨0x202C, [(3, 0x4)],
   [⟨31, 16, .seal, 0x8000, []⟩, ⟨15, 0, .seal, 0x8000, []⟩]⟩,
  ⟨0x2038, [],
   [⟨31, 24, .seal, 1, []⟩, ⟨15, 12, .seal, 0, []⟩, ⟨6, 2, .seal, 0, [(0, 16)]⟩, ⟨1, 0, .seal, 0, [(0, 2)]⟩]⟩,
  ⟨0x203C, [],
   [⟨23, 0, .seal, 0, []⟩]⟩,
  ⟨0x2040, [],
   [⟨31, 16, .seal, 0, []⟩, ⟨15, 0, .seal, 0, []⟩]⟩,
  ⟨0x2050, [],
   [⟨19, 18, .ro, 1, []⟩, ⟨17, 16, .ro, 0, []⟩, ⟨15, 13, .ro, 0, []⟩, ⟨12, 12, .ro, 0, []⟩, ⟨11, 11, .ro, 0, []⟩, ⟨10, 9, .ro, 0, []⟩, ⟨3, 0, .ro, 1, []⟩]⟩,
  ⟨0x2054, [(2, 0x4)],
   [⟨31, 0, .ro, 0, []⟩]⟩,
  ⟨0x205C, [(2, 0x4)],
   [⟨31, 0, .ro, 0, []⟩]⟩,
  ⟨0x2064, [],
   [⟨31, 0, .ro, 0, []⟩]⟩,
  ⟨0x2068, [],
   [⟨31, 0, .ro, 0, []⟩]⟩,
  ⟨0x206C, [],
   [⟨31, 0, .ro, 0, []⟩]⟩,
  ⟨0x2070, [],
   [⟨31, 0, .ro, 0, []⟩]⟩,
  ⟨0x2074, [],
   [⟨31, 0, .ro, 0, []⟩]⟩,
  ⟨0x2100, [(2, 0x40), (2, 0x20), (8, 0x4)],
   [⟨31, 0, .maint, 0, []⟩]⟩,
  ⟨0x2400, [(2, 0x200), (128, 0x4)],
   [⟨31, 16, .seal, 0, []⟩, ⟨15, 0, .seal, 0, []⟩]⟩,
  ⟨0x2800, [],
   [⟨31, 24, .seal, 0x64, [(20, 220)]⟩, ⟨23, 16, .seal, 8, [(1, 255)]⟩, ⟨15, 8, .seal, 0x40, []⟩]⟩,
  ⟨0x2804, [],
   [⟨31, 0, .seal, 0, []⟩]⟩,
  ⟨0x2808, [],
   [⟨13, 0, .ro, 0, []⟩]⟩,
  ⟨0x280C, [(2, 0x4)],
   [⟨28, 24, .seal, 0x10, [(8, 22)]⟩, ⟨23, 0, .seal, 0, []⟩]⟩,
  ⟨0x2814, [],
   [⟨23, 0, .seal, 0, []⟩]⟩,
  ⟨0x2820, [(4, 0x8)],
   [⟨24, 24, .seal, 0, []⟩, ⟨23, 0, .seal, 8, []⟩]⟩,
  ⟨0x2824, [(4, 0x8)],
   [⟨31, 0, .seal, 0, []⟩]⟩,
  ⟨0x2840, [(4, 0x4)],
   [⟨31, 0, .seal, 0, []⟩]⟩,
  ⟨0x2850, [],
   [⟨31, 16, .seal, 0, []⟩, ⟨15, 0, .seal, 0, []⟩]⟩,
  ⟨0x2854, [],
   [⟨0, 0, .wo, 0, []⟩]⟩]
/-- Registers of block HEAD (part 6). -/
def regRowsHeadF : List RegRow := [
  ⟨0x2858, [],
   [⟨6, 6, .ro, 1, []⟩, ⟨5, 5, .ro, 0, []⟩, ⟨4, 4, .ro, 0, []⟩, ⟨3, 3, .ro, 0, []⟩, ⟨2, 2, .ro, 0, []⟩, ⟨1, 1, .ro, 0, []⟩, ⟨0, 0, .ro, 0, []⟩]⟩,
  ⟨0x285C, [],
   [⟨13, 12, .ro, 0, []⟩, ⟨11, 0, .ro, 0, []⟩]⟩,
  ⟨0x2860, [],
   [⟨31, 0, .ro, 0, []⟩]⟩,
  ⟨0x2864, [],
   [⟨31, 0, .ro, 0, []⟩]⟩,
  ⟨0x2868, [],
   [⟨31, 0, .ro, 0, []⟩]⟩,
  ⟨0x286C, [],
   [⟨31, 0, .ro, 0, []⟩]⟩,
  ⟨0x2870, [],
   [⟨31, 0, .ro, 0, []⟩]⟩,
  ⟨0x2874, [],
   [⟨13, 12, .rw, 0, []⟩, ⟨11, 0, .rw, 0, []⟩]⟩,
  ⟨0x2878, [],
   [⟨31, 0, .ro, 0, []⟩]⟩]
/-- Registers of block HEAD. -/
def regRowsHead : List RegRow := regRowsHeadA ++ regRowsHeadB ++ regRowsHeadC ++ regRowsHeadD ++ regRowsHeadE ++ regRowsHeadF
/-- Registers of block SEC. -/
def regRowsSec : List RegRow := [
  ⟨0x0, [],
   [⟨23, 16, .ro, 0, []⟩, ⟨15, 8, .ro, 0, []⟩, ⟨7, 7, .ro, 0, []⟩, ⟨6, 6, .ro, 0, []⟩, ⟨5, 5, .ro, 0, []⟩, ⟨4, 4, .ro, 0, []⟩, ⟨2, 0, .ro, 0, []⟩]⟩,
  ⟨0x4, [],
   [⟨15, 8, .ro, 0, []⟩, ⟨7, 0, .ro, 0, []⟩]⟩,
  ⟨0x8, [],
   [⟨31, 0, .ro, 0, []⟩]⟩,
  ⟨0x10, [],
   [⟨31, 0, .ro, 0, []⟩]⟩,
  ⟨0x14, [],
   [⟨31, 0, .ro, 0, []⟩]⟩,
  ⟨0x18, [],
   [⟨7, 4, .ro, 0, []⟩, ⟨3, 0, .ro, 0, []⟩]⟩,
  ⟨0x1C, [],
   [⟨9, 8, .ro, 0, []⟩, ⟨7, 0, .ro, 0, []⟩]⟩,
  ⟨0x20, [],
   [⟨31, 0, .ro, 0, []⟩]⟩,
  ⟨0x24, [],
   [⟨31, 0, .ro, 0, []⟩]⟩,
  ⟨0x28, [],
   [⟨31, 0, .ro, 0, []⟩]⟩,
  ⟨0x2C, [],
   [⟨31, 0, .ro, 0, []⟩]⟩,
  ⟨0x30, [],
   [⟨31, 24, .seal, 0xa, [(1, 255)]⟩, ⟨17, 16, .seal, 0, []⟩, ⟨15, 0, .seal, 0, []⟩]⟩,
  ⟨0x40, [(16, 0x4)],
   [⟨31, 0, .ro, 0, []⟩]⟩,
  ⟨0x80, [(8, 0x4)],
   [⟨31, 0, .rw, 0, []⟩]⟩,
  ⟨0xA0, [],
   [⟨0, 0, .wo, 0, []⟩]⟩,
  ⟨0xA4, [],
   [⟨31, 16, .ro, 0, []⟩, ⟨1, 1, .ro, 0, []⟩, ⟨0, 0, .ro, 0, []⟩]⟩,
  ⟨0x1000, [(908, 0x4)],
   [⟨31, 0, .ro, 0, []⟩]⟩,
  ⟨0x2000, [(496, 0x4)],
   [⟨31, 0, .ro, 0, []⟩]⟩]
/-- Registers of block PWR. -/
def regRowsPwr : List RegRow := [
  ⟨0x0, [],
   [⟨31, 24, .seal, 0x64, [(10, 255)]⟩, ⟨19, 16, .seal, 8, [(0, 8)]⟩, ⟨9, 0, .seal, 0x208, [(160, 520)]⟩]⟩,
  ⟨0x4, [],
   [⟨9, 0, .seal, 0x140, [(160, 520)]⟩]⟩,
  ⟨0x8, [],
   [⟨31, 31, .ro, 0, []⟩, ⟨25, 16, .ro, 0, []⟩, ⟨9, 0, .ro, 0, []⟩]⟩,
  ⟨0xC, [],
   [⟨31, 16, .seal, 0, []⟩, ⟨15, 0, .seal, 0, []⟩]⟩,
  ⟨0x10, [],
   [⟨31, 0, .ro, 0, []⟩]⟩,
  ⟨0x14, [],
   [⟨31, 0, .ro, 0, []⟩]⟩,
  ⟨0x18, [],
   [⟨31, 0, .ro, 0, []⟩]⟩,
  ⟨0x1C, [],
   [⟨31, 0, .ro, 0, []⟩]⟩,
  ⟨0x20, [],
   [⟨31, 0, .ro, 0, []⟩]⟩]
/-- Registers of block THM. -/
def regRowsThm : List RegRow := [
  ⟨0x0, [],
   [⟨31, 24, .seal, 0x5f, []⟩, ⟨23, 20, .seal, 5, [(1, 15)]⟩, ⟨19, 16, .seal, 3, [(1, 15)]⟩, ⟨15, 8, .seal, 0x6e, [(0, 120)]⟩, ⟨7, 0, .seal, 0x64, []⟩]⟩,
  ⟨0x4, [],
   [⟨21, 16, .ro, 0, []⟩, ⟨15, 0, .ro, 0, []⟩]⟩,
  ⟨0x8, [],
   [⟨15, 0, .ro, 0, []⟩]⟩,
  ⟨0xC, [],
   [⟨31, 31, .ro, 0, []⟩, ⟨15, 0, .ro, 0, []⟩]⟩,
  ⟨0x10, [],
   [⟨3, 0, .seal, 0, []⟩]⟩,
  ⟨0x14, [],
   [⟨31, 0, .ro, 0, []⟩]⟩,
  ⟨0x40, [(16, 0x4)],
   [⟨31, 16, .seal, 0, []⟩, ⟨15, 0, .seal, 0, []⟩]⟩,
  ⟨0x100, [(48, 0x4)],
   [⟨16, 16, .ro, 0, []⟩, ⟨15, 0, .ro, 0, []⟩]⟩]
/-- Registers of block CLK. -/
def regRowsClk : List RegRow := [
  ⟨0x0, [],
   [⟨9, 9, .maint, 0, []⟩, ⟨8, 8, .maint, 0, []⟩, ⟨6, 5, .seal, 0, []⟩, ⟨4, 4, .seal, 0, []⟩, ⟨1, 0, .seal, 2, []⟩]⟩,
  ⟨0x4, [],
   [⟨16, 8, .ro, 0, []⟩, ⟨7, 7, .ro, 0, []⟩, ⟨6, 6, .ro, 0, []⟩, ⟨5, 5, .ro, 0, []⟩, ⟨4, 3, .ro, 0, []⟩, ⟨2, 2, .ro, 0, []⟩, ⟨1, 1, .ro, 0, []⟩, ⟨0, 0, .ro, 0, []⟩]⟩,
  ⟨0x8, [],
   [⟨22, 0, .seal, 0, []⟩]⟩,
  ⟨0xC, [],
   [⟨31, 24, .seal, 0xa, []⟩, ⟨23, 16, .seal, 0x32, [(1, 100)]⟩, ⟨15, 8, .seal, 1, [(1, 255)]⟩, ⟨7, 4, .seal, 6, []⟩, ⟨3, 0, .seal, 2, []⟩]⟩,
  ⟨0x10, [],
   [⟨31, 0, .ro, 0, []⟩]⟩,
  ⟨0x14, [],
   [⟨31, 0, .ro, 0, []⟩]⟩,
  ⟨0x18, [],
   [⟨31, 16, .ro, 0xffff, []⟩, ⟨4, 4, .ro, 0, []⟩, ⟨3, 3, .ro, 1, []⟩, ⟨2, 2, .ro, 0, []⟩, ⟨1, 1, .ro, 1, []⟩, ⟨0, 0, .ro, 0, []⟩]⟩,
  ⟨0x1C, [],
   [⟨31, 0, .ro, 0, []⟩]⟩,
  ⟨0x20, [],
   [⟨31, 0, .ro, 0, []⟩]⟩]
/-- Registers of block HK (part 1). -/
def regRowsHkA : List RegRow := [
  ⟨0x0, [],
   [⟨12, 8, .seal, 0, []⟩, ⟨1, 0, .seal, 0, [(0, 2)]⟩]⟩,
  ⟨0x4, [],
   [⟨11, 8, .rw, 0, []⟩, ⟨4, 4, .wo, 0, []⟩, ⟨3, 3, .maint, 0, []⟩, ⟨2, 2, .maint, 0, []⟩, ⟨0, 0, .maint, 0, []⟩]⟩,
  ⟨0x8, [],
   [⟨20, 16, .ro, 0, []⟩, ⟨15, 12, .ro, 0, []⟩, ⟨11, 11, .ro, 0, []⟩, ⟨10, 10, .ro, 0, []⟩, ⟨9, 9, .ro, 0, []⟩, ⟨2, 0, .ro, 0, []⟩]⟩,
  ⟨0x10, [(4, 0x4)],
   [⟨31, 0, .seal, 0, []⟩]⟩,
  ⟨0x100, [(16, 0x10)],
   [⟨31, 28, .seal, 0, []⟩, ⟨27, 27, .seal, 0, []⟩, ⟨26, 26, .seal, 0, []⟩, ⟨25, 24, .seal, 0, []⟩, ⟨22, 20, .seal, 0, []⟩, ⟨14, 8, .seal, 0x7f, []⟩, ⟨6, 0, .seal, 0, []⟩]⟩,
  ⟨0x104, [(16, 0x10)],
   [⟨20, 20, .seal, 0, []⟩, ⟨19, 16, .seal, 0, []⟩, ⟨14, 8, .seal, 1, [(1, 100)]⟩, ⟨2, 2, .seal, 0, []⟩, ⟨1, 0, .seal, 0, []⟩]⟩,
  ⟨0x108, [(16, 0x10)],
   [⟨31, 0, .seal, 0, []⟩]⟩,
  ⟨0x10C, [(16, 0x10)],
   [⟨31, 0, .seal, 0, []⟩]⟩,
  ⟨0x200, [(16, 0x10)],
   [⟨31, 31, .ro, 0, []⟩, ⟨30, 30, .ro, 0, []⟩, ⟨29, 29, .ro, 0, []⟩, ⟨28, 28, .ro, 0, []⟩, ⟨27, 27, .ro, 0, []⟩, ⟨26, 26, .ro, 0, []⟩, ⟨25, 25, .ro, 0, []⟩, ⟨24, 24, .ro, 0, []⟩, ⟨23, 0, .ro, 0, []⟩]⟩,
  ⟨0x204, [(16, 0x10)],
   [⟨23, 0, .ro, 0, []⟩]⟩,
  ⟨0x208, [(16, 0x10)],
   [⟨31, 16, .ro, 0, []⟩, ⟨15, 0, .ro, 0xffff, []⟩]⟩,
  ⟨0x20C, [(16, 0x10)],
   [⟨31, 0, .ro, 0, []⟩]⟩,
  ⟨0x300, [],
   [⟨31, 28, .maint, 0, [(0, 10)]⟩, ⟨27, 27, .maint, 0, []⟩, ⟨26, 26, .maint, 0, []⟩, ⟨25, 24, .maint, 0, []⟩, ⟨22, 20, .maint, 0, []⟩, ⟨14, 8, .maint, 0x7f, [(0, 73), (127, 127)]⟩, ⟨6, 0, .maint, 0, [(0, 73)]⟩]⟩,
  ⟨0x304, [],
   [⟨20, 20, .maint, 0, []⟩, ⟨19, 16, .maint, 0, []⟩, ⟨14, 8, .maint, 1, [(1, 100)]⟩, ⟨2, 2, .maint, 0, []⟩, ⟨1, 0, .maint, 0, []⟩]⟩,
  ⟨0x308, [],
   [⟨31, 0, .maint, 0, []⟩]⟩,
  ⟨0x30C, [],
   [⟨31, 0, .maint, 0, []⟩]⟩,
  ⟨0x310, [],
   [⟨31, 31, .ro, 0, []⟩, ⟨30, 30, .ro, 0, []⟩, ⟨29, 29, .ro, 0, []⟩, ⟨28, 28, .ro, 0, []⟩, ⟨27, 27, .ro, 0, []⟩, ⟨26, 26, .ro, 0, []⟩, ⟨25, 25, .ro, 0, []⟩, ⟨24, 24, .ro, 0, []⟩, ⟨23, 0, .ro, 0, []⟩]⟩,
  ⟨0x314, [],
   [⟨23, 0, .ro, 0, []⟩]⟩,
  ⟨0x318, [],
   [⟨31, 16, .ro, 0, []⟩, ⟨15, 0, .ro, 0xffff, []⟩]⟩,
  ⟨0x31C, [],
   [⟨31, 0, .ro, 0, []⟩]⟩,
  ⟨0x320, [],
   [⟨31, 0, .w1c, 0, []⟩]⟩,
  ⟨0x324, [],
   [⟨31, 0, .w1c, 0, []⟩]⟩,
  ⟨0x340, [(8, 0x4)],
   [⟨23, 0, .ro, 0x800000, []⟩]⟩,
  ⟨0x360, [],
   [⟨31, 0, .ro, 0, []⟩]⟩]
/-- Registers of block HK (part 2). -/
def regRowsHkB : List RegRow := [
  ⟨0x364, [],
   [⟨31, 0, .ro, 0, []⟩]⟩,
  ⟨0x368, [],
   [⟨31, 0, .ro, 0, []⟩]⟩]
/-- Registers of block HK. -/
def regRowsHk : List RegRow := regRowsHkA ++ regRowsHkB
/-- Registers of block SAFE. -/
def regRowsSafe : List RegRow := [
  ⟨0x0, [],
   [⟨31, 16, .ro, 0, []⟩, ⟨1, 1, .w1c, 0, []⟩, ⟨0, 0, .w1c, 0, []⟩]⟩,
  ⟨0x10, [],
   [⟨31, 16, .seal, 0xa, []⟩, ⟨15, 0, .seal, 0xc8, []⟩]⟩,
  ⟨0x14, [],
   [⟨15, 0, .seal, 0x64, []⟩]⟩,
  ⟨0x20, [(8, 0x4)],
   [⟨31, 24, .seal, 0xa, [(1, 200)]⟩, ⟨23, 18, .seal, 0xa, [(1, 50)]⟩, ⟨17, 15, .seal, 4, [(0, 4)]⟩, ⟨14, 12, .seal, 4, [(0, 4)]⟩, ⟨4, 4, .seal, 0, []⟩, ⟨3, 0, .seal, 0, [(0, 6)]⟩]⟩,
  ⟨0x40, [(8, 0x4)],
   [⟨15, 0, .seal, 0, []⟩]⟩,
  ⟨0x60, [],
   [⟨31, 24, .ro, 0, []⟩, ⟨23, 16, .ro, 0, []⟩, ⟨15, 8, .ro, 0, []⟩, ⟨7, 0, .ro, 0, []⟩]⟩,
  ⟨0x70, [],
   [⟨31, 16, .ro, 0, []⟩, ⟨2, 2, .ro, 0, []⟩, ⟨1, 0, .ro, 0, []⟩]⟩,
  ⟨0x80, [(4, 0x8)],
   [⟨31, 16, .seal, 0, []⟩, ⟨15, 8, .seal, 0xa, []⟩, ⟨1, 1, .seal, 0, []⟩, ⟨0, 0, .seal, 0, []⟩]⟩,
  ⟨0x84, [(4, 0x8)],
   [⟨9, 0, .seal, 0xc8, [(1, 1000)]⟩]⟩,
  ⟨0xA0, [],
   [⟨25, 16, .seal, 0x64, [(10, 1000)]⟩, ⟨8, 0, .seal, 0x64, [(50, 280)]⟩]⟩,
  ⟨0xA4, [],
   [⟨31, 16, .ro, 0x1111, []⟩, ⟨11, 8, .ro, 0, []⟩, ⟨7, 4, .ro, 0, []⟩, ⟨3, 0, .ro, 0, []⟩]⟩,
  ⟨0xC0, [(4, 0x10)],
   [⟨31, 0, .seal, 0, []⟩]⟩,
  ⟨0xC4, [(4, 0x10)],
   [⟨31, 31, .seal, 0, []⟩, ⟨30, 27, .seal, 1, []⟩, ⟨25, 16, .seal, 0x64, [(1, 1000)]⟩, ⟨15, 0, .seal, 0, []⟩]⟩,
  ⟨0xC8, [(4, 0x10)],
   [⟨23, 16, .seal, 1, [(1, 255)]⟩, ⟨15, 0, .seal, 0, []⟩]⟩,
  ⟨0xCC, [(4, 0x10)],
   [⟨31, 0, .ro, 0, []⟩]⟩,
  ⟨0x100, [],
   [⟨7, 0, .ro, 0, []⟩]⟩,
  ⟨0x104, [],
   [⟨31, 0, .seal, 0, []⟩]⟩,
  ⟨0x110, [],
   [⟨31, 0, .ro, 0, []⟩]⟩,
  ⟨0x114, [],
   [⟨31, 0, .ro, 0, []⟩]⟩,
  ⟨0x118, [],
   [⟨31, 0, .ro, 0, []⟩]⟩,
  ⟨0x11C, [],
   [⟨31, 0, .ro, 0, []⟩]⟩,
  ⟨0x120, [],
   [⟨31, 0, .ro, 0, []⟩]⟩]
/-- Registers of block PAIR. -/
def regRowsPair : List RegRow := [
  ⟨0x0, [],
   [⟨31, 31, .seal, 0, []⟩, ⟨23, 16, .seal, 0x64, [(1, 255)]⟩, ⟨15, 12, .seal, 4, []⟩, ⟨5, 0, .seal, 0xa, [(4, 40)]⟩]⟩,
  ⟨0x4, [],
   [⟨1, 1, .wo, 0, []⟩, ⟨0, 0, .wo, 0, []⟩]⟩,
  ⟨0x8, [],
   [⟨14, 12, .ro, 0, []⟩, ⟨11, 11, .ro, 0, []⟩, ⟨10, 10, .ro, 0, []⟩, ⟨9, 8, .ro, 0, []⟩, ⟨7, 6, .ro, 0, []⟩, ⟨5, 4, .ro, 0, []⟩, ⟨3, 3, .w1c, 0, []⟩, ⟨2, 2, .ro, 0, []⟩, ⟨1, 0, .ro, 2, []⟩]⟩,
  ⟨0xC, [],
   [⟨29, 16, .ro, 0, []⟩, ⟨13, 0, .ro, 0, []⟩]⟩,
  ⟨0x10, [],
   [⟨31, 0, .ro, 0, []⟩]⟩,
  ⟨0x14, [],
   [⟨31, 0, .ro, 0, []⟩]⟩,
  ⟨0x18, [],
   [⟨25, 24, .ro, 0, []⟩, ⟨19, 0, .ro, 0, []⟩]⟩,
  ⟨0x1C, [],
   [⟨31, 0, .ro, 0, []⟩]⟩,
  ⟨0x20, [],
   [⟨31, 0, .ro, 0, []⟩]⟩,
  ⟨0x24, [],
   [⟨31, 0, .ro, 0, []⟩]⟩,
  ⟨0x28, [],
   [⟨31, 0, .ro, 0, []⟩]⟩,
  ⟨0x2C, [],
   [⟨31, 0, .ro, 0, []⟩]⟩,
  ⟨0x30, [],
   [⟨31, 0, .ro, 0, []⟩]⟩,
  ⟨0x34, [],
   [⟨31, 0, .ro, 0, []⟩]⟩,
  ⟨0x38, [],
   [⟨31, 0, .ro, 0, []⟩]⟩,
  ⟨0x3C, [],
   [⟨31, 0, .ro, 0, []⟩]⟩,
  ⟨0x40, [],
   [⟨31, 0, .ro, 0, []⟩]⟩]
/-- Registers of block DOM. -/
def regRowsDom : List RegRow := [
  ⟨0x0, [],
   [⟨31, 31, .seal, 0, []⟩, ⟨30, 29, .seal, 0, [(0, 2)]⟩, ⟨28, 28, .seal, 0, []⟩, ⟨27, 27, .seal, 0, []⟩, ⟨16, 16, .seal, 1, []⟩, ⟨13, 0, .seal, 0, []⟩]⟩,
  ⟨0x4, [],
   [⟨31, 24, .seal, 1, [(1, 255)]⟩, ⟨23, 16, .seal, 0x18, [(16, 40)]⟩, ⟨15, 8, .seal, 0x3c, [(1, 255)]⟩, ⟨7, 0, .seal, 0xa, []⟩]⟩,
  ⟨0x10, [(4, 0x4)],
   [⟨31, 16, .seal, 0, []⟩, ⟨1, 0, .seal, 0, []⟩]⟩,
  ⟨0x20, [],
   [⟨31, 30, .ro, 0, []⟩, ⟨29, 27, .ro, 0, []⟩, ⟨26, 23, .ro, 0, []⟩, ⟨22, 21, .ro, 0, []⟩, ⟨20, 20, .ro, 0, []⟩, ⟨13, 0, .ro, 0, []⟩]⟩,
  ⟨0x24, [],
   [⟨31, 16, .ro, 0, []⟩, ⟨13, 0, .ro, 0, []⟩]⟩,
  ⟨0x28, [],
   [⟨14, 0, .ro, 0, []⟩]⟩,
  ⟨0x30, [(4, 0x4)],
   [⟨31, 0, .ro, 0, []⟩]⟩,
  ⟨0x40, [],
   [⟨31, 0, .ro, 0, []⟩]⟩,
  ⟨0x44, [],
   [⟨31, 0, .ro, 0, []⟩]⟩,
  ⟨0x60, [],
   [⟨31, 0, .ro, 0, []⟩]⟩,
  ⟨0x64, [],
   [⟨31, 0, .ro, 0, []⟩]⟩,
  ⟨0x68, [],
   [⟨31, 0, .ro, 0, []⟩]⟩,
  ⟨0x6C, [],
   [⟨31, 0, .ro, 0, []⟩]⟩,
  ⟨0x100, [(16, 0x10)],
   [⟨31, 0, .ro, 0, []⟩]⟩,
  ⟨0x104, [(16, 0x10)],
   [⟨31, 0, .ro, 0, []⟩]⟩,
  ⟨0x108, [(16, 0x10)],
   [⟨0, 0, .ro, 0, []⟩]⟩,
  ⟨0x200, [(16, 0x4)],
   [⟨31, 31, .seal, 0, []⟩, ⟨30, 30, .seal, 0, []⟩, ⟨29, 16, .seal, 0, []⟩, ⟨15, 12, .seal, 0, []⟩, ⟨6, 0, .seal, 0xa, [(2, 64)]⟩]⟩]
/-- Registers of block NET (part 1). -/
def regRowsNetA : List RegRow := [
  ⟨0x0, [(4, 0x20)],
   [⟨29, 16, .seal, 0x5dc, [(1280, 9000)]⟩, ⟨3, 3, .ro, 0, []⟩, ⟨2, 0, .seal, 0, [(0, 4)]⟩]⟩,
  ⟨0x104, [(4, 0x20), (6, 0x4)],
   [⟨16, 0, .seal, 0, []⟩]⟩,
  ⟨0x200, [],
   [⟨31, 16, .ro, 0, []⟩, ⟨15, 1, .seal, 0x3e8, []⟩, ⟨0, 0, .seal, 0, []⟩]⟩,
  ⟨0x204, [],
   [⟨31, 16, .seal, 0x3e8, []⟩, ⟨15, 8, .seal, 0xa, []⟩]⟩,
  ⟨0x210, [],
   [⟨31, 0, .seal, 0, []⟩]⟩,
  ⟨0x214, [],
   [⟨31, 0, .seal, 0, []⟩]⟩,
  ⟨0x218, [],
   [⟨31, 0, .seal, 0, []⟩]⟩,
  ⟨0x21C, [],
   [⟨31, 0, .seal, 0, []⟩]⟩,
  ⟨0x220, [],
   [⟨31, 0, .seal, 0, []⟩]⟩,
  ⟨0x224, [(4, 0x4)],
   [⟨31, 0, .seal, 0, []⟩]⟩,
  ⟨0x1000, [(16, 0x40)],
   [⟨31, 31, .rw, 0, []⟩, ⟨30, 26, .seal, 0, [(0, 3), (8, 11), (16, 19), (24, 27)]⟩, ⟨25, 25, .seal, 0, []⟩, ⟨24, 23, .seal, 0, []⟩, ⟨22, 20, .seal, 0, [(0, 6)]⟩, ⟨19, 17, .seal, 0, []⟩, ⟨16, 5, .seal, 1, [(1, 4094)]⟩]⟩,
  ⟨0x1004, [(16, 0x40)],
   [⟨31, 0, .seal, 0, []⟩]⟩,
  ⟨0x1008, [(16, 0x40)],
   [⟨31, 0, .seal, 0, []⟩]⟩,
  ⟨0x100C, [(16, 0x40), (4, 0x4)],
   [⟨31, 0, .seal, 0, []⟩]⟩,
  ⟨0x101C, [(16, 0x40)],
   [⟨31, 16, .seal, 0, []⟩, ⟨15, 0, .seal, 0, []⟩]⟩,
  ⟨0x1020, [(16, 0x40)],
   [⟨31, 16, .seal, 0, []⟩, ⟨15, 8, .seal, 0xfe, []⟩, ⟨7, 0, .seal, 0x40, []⟩]⟩,
  ⟨0x1024, [(16, 0x40)],
   [⟨19, 0, .seal, 0, []⟩]⟩,
  ⟨0x1028, [(16, 0x40)],
   [⟨19, 0, .seal, 0xfffff, []⟩]⟩,
  ⟨0x102C, [(16, 0x40)],
   [⟨31, 0, .seal, 0, []⟩]⟩,
  ⟨0x1030, [(16, 0x40)],
   [⟨31, 0, .seal, 0xfffffffe, []⟩]⟩,
  ⟨0x1034, [(16, 0x40)],
   [⟨31, 24, .seal, 0x32, [(1, 255)]⟩, ⟨23, 16, .seal, 0xa, []⟩, ⟨15, 8, .rw, 0, []⟩, ⟨7, 0, .seal, 0, []⟩]⟩,
  ⟨0x1038, [(16, 0x40)],
   [⟨31, 0, .ro, 0, []⟩]⟩,
  ⟨0x103C, [(16, 0x40)],
   [⟨31, 0, .ro, 0, []⟩]⟩,
  ⟨0x2000, [(16, 0x8)],
   [⟨4, 0, .seal, 0x14, [(16, 22)]⟩]⟩]
/-- Registers of block NET (part 2). -/
def regRowsNetB : List RegRow := [
  ⟨0x2004, [(16, 0x8)],
   [⟨31, 0, .ro, 0, []⟩]⟩,
  ⟨0x2100, [],
   [⟨31, 0, .ro, 0, []⟩]⟩]
/-- Registers of block NET. -/
def regRowsNet : List RegRow := regRowsNetA ++ regRowsNetB
/-- Registers of block CAP (part 1). -/
def regRowsCapA : List RegRow := [
  ⟨0x0, [],
   [⟨11, 8, .seal, 1, []⟩, ⟨7, 4, .seal, 0, []⟩, ⟨3, 0, .seal, 0, []⟩]⟩,
  ⟨0x4, [],
   [⟨15, 0, .seal, 0, []⟩]⟩,
  ⟨0x8, [],
   [⟨18, 18, .seal, 0, []⟩, ⟨17, 16, .seal, 0, []⟩, ⟨15, 0, .seal, 0, []⟩]⟩,
  ⟨0xC, [],
   [⟨31, 16, .seal, 0, []⟩, ⟨15, 8, .seal, 0, []⟩, ⟨2, 1, .seal, 0, []⟩, ⟨0, 0, .seal, 0, []⟩]⟩,
  ⟨0x40, [(4, 0x10)],
   [⟨31, 0, .ro, 0, []⟩]⟩,
  ⟨0x44, [(4, 0x10)],
   [⟨31, 0, .ro, 0, []⟩]⟩,
  ⟨0x48, [(4, 0x10)],
   [⟨31, 0, .ro, 0, []⟩]⟩,
  ⟨0x4C, [(4, 0x10)],
   [⟨12, 0, .ro, 0, []⟩]⟩,
  ⟨0x100, [(256, 0x4)],
   [⟨31, 31, .seal, 0, []⟩, ⟨13, 12, .seal, 0, []⟩, ⟨10, 0, .seal, 0, [(0, 1535)]⟩]⟩,
  ⟨0x800, [(4, 0x100)],
   [⟨31, 16, .rw, 1, [(1, 65535)]⟩, ⟨15, 8, .rw, 0xa, [(1, 255)]⟩, ⟨7, 7, .rw, 0, []⟩, ⟨6, 6, .rw, 0, []⟩, ⟨5, 4, .rw, 0, []⟩, ⟨3, 0, .rw, 0, []⟩]⟩,
  ⟨0x804, [(4, 0x100)],
   [⟨31, 16, .rw, 0xffff, []⟩, ⟨15, 0, .rw, 0, []⟩]⟩,
  ⟨0x808, [(4, 0x100)],
   [⟨1, 1, .wo, 0, []⟩, ⟨0, 0, .wo, 0, []⟩]⟩,
  ⟨0x80C, [(4, 0x100)],
   [⟨31, 8, .ro, 0, []⟩, ⟨4, 4, .ro, 0, []⟩, ⟨3, 0, .ro, 0, []⟩]⟩,
  ⟨0x810, [(4, 0x100)],
   [⟨31, 0, .ro, 0, []⟩]⟩,
  ⟨0x814, [(4, 0x100)],
   [⟨31, 0, .ro, 0, []⟩]⟩,
  ⟨0x818, [(4, 0x100)],
   [⟨31, 0, .ro, 0, []⟩]⟩,
  ⟨0x81C, [(4, 0x100)],
   [⟨31, 0, .ro, 0, []⟩]⟩,
  ⟨0x880, [(4, 0x100), (16, 0x8)],
   [⟨29, 23, .rw, 0, []⟩, ⟨22, 19, .rw, 0, []⟩, ⟨18, 17, .rw, 0, [(0, 2)]⟩, ⟨16, 16, .rw, 0, []⟩, ⟨15, 8, .rw, 0, []⟩, ⟨7, 0, .rw, 0, [(0, 11)]⟩]⟩,
  ⟨0x884, [(4, 0x100), (16, 0x8)],
   [⟨29, 26, .rw, 0, []⟩, ⟨25, 24, .rw, 0, []⟩, ⟨23, 0, .rw, 0, []⟩]⟩,
  ⟨0xC00, [(8, 0x10)],
   [⟨31, 16, .seal, 0, []⟩, ⟨15, 0, .seal, 0, []⟩]⟩,
  ⟨0xC04, [(8, 0x10)],
   [⟨31, 16, .seal, 0, []⟩, ⟨15, 0, .seal, 0, []⟩]⟩,
  ⟨0xC08, [(8, 0x10)],
   [⟨5, 4, .seal, 0, []⟩, ⟨3, 3, .seal, 0, []⟩, ⟨2, 0, .ro, 0, []⟩]⟩,
  ⟨0xC0C, [(8, 0x10)],
   [⟨31, 0, .ro, 0, []⟩]⟩,
  ⟨0xD00, [],
   [⟨4, 4, .wo, 0, []⟩, ⟨3, 3, .wo, 0, []⟩, ⟨2, 0, .wo, 0, []⟩]⟩]
/-- Registers of block CAP (part 2). -/
def regRowsCapB : List RegRow := [
  ⟨0xD04, [],
   [⟨31, 0, .wo, 0, []⟩]⟩,
  ⟨0xD08, [],
   [⟨2, 0, .ro, 0, []⟩]⟩]
/-- Registers of block CAP. -/
def regRowsCap : List RegRow := regRowsCapA ++ regRowsCapB
/-- Registers of block MEM. -/
def regRowsMem : List RegRow := [
  ⟨0x0, [],
   [⟨31, 24, .seal, 0x18, [(1, 255)]⟩, ⟨23, 16, .seal, 0x40, [(1, 255)]⟩, ⟨15, 15, .seal, 1, []⟩, ⟨13, 0, .seal, 0x64, [(1, 10000)]⟩]⟩,
  ⟨0x4, [],
   [⟨6, 6, .ro, 0, []⟩, ⟨5, 4, .ro, 0, []⟩, ⟨3, 3, .ro, 0, []⟩, ⟨2, 2, .ro, 0, []⟩, ⟨1, 0, .ro, 0, []⟩]⟩,
  ⟨0x8, [],
   [⟨1, 1, .maint, 0, []⟩, ⟨0, 0, .maint, 0, []⟩]⟩,
  ⟨0x40, [(10, 0x8)],
   [⟨31, 22, .seal, 0, []⟩, ⟨11, 0, .seal, 0, []⟩]⟩,
  ⟨0x44, [(10, 0x8)],
   [⟨31, 0, .ro, 0, []⟩]⟩,
  ⟨0x100, [(2, 0x4)],
   [⟨31, 16, .ro, 0, []⟩, ⟨15, 0, .ro, 0, []⟩]⟩,
  ⟨0x108, [],
   [⟨31, 0, .ro, 0, []⟩]⟩,
  ⟨0x10C, [],
   [⟨31, 0, .ro, 0, []⟩]⟩,
  ⟨0x110, [],
   [⟨31, 0, .ro, 0, []⟩]⟩,
  ⟨0x114, [],
   [⟨31, 0, .ro, 0, []⟩]⟩,
  ⟨0x118, [],
   [⟨31, 0, .ro, 0, []⟩]⟩]
/-- Registers of block LANE. -/
def regRowsLane : List RegRow := [
  ⟨0x0, [(36, 0x400)],
   [⟨8, 8, .seal, 1, []⟩, ⟨2, 0, .seal, 0, [(0, 2)]⟩]⟩,
  ⟨0x4, [(36, 0x400)],
   [⟨31, 24, .ro, 0, []⟩, ⟨23, 16, .ro, 0, []⟩, ⟨6, 4, .ro, 0, []⟩, ⟨0, 0, .ro, 0, []⟩]⟩,
  ⟨0x8, [(36, 0x400)],
   [⟨3, 0, .maint, 0, []⟩]⟩,
  ⟨0xC, [(36, 0x400)],
   [⟨31, 0, .ro, 0, []⟩]⟩,
  ⟨0x40, [(36, 0x400), (4, 0x20)],
   [⟨7, 7, .seal, 0, []⟩, ⟨6, 6, .seal, 0, []⟩, ⟨5, 4, .seal, 1, []⟩, ⟨3, 3, .seal, 0, []⟩, ⟨2, 2, .seal, 0, []⟩, ⟨1, 1, .rw, 1, []⟩, ⟨0, 0, .rw, 1, []⟩]⟩,
  ⟨0x44, [(36, 0x400), (4, 0x20)],
   [⟨19, 16, .seal, 0, []⟩, ⟨11, 8, .seal, 0, []⟩, ⟨6, 0, .seal, 0x50, [(40, 120)]⟩]⟩,
  ⟨0x48, [(36, 0x400), (4, 0x20)],
   [⟨11, 8, .ro, 0xf, []⟩, ⟨5, 5, .ro, 0, []⟩, ⟨4, 4, .ro, 0, []⟩, ⟨3, 3, .ro, 0, []⟩, ⟨2, 2, .ro, 0, []⟩, ⟨1, 1, .ro, 0, []⟩, ⟨0, 0, .ro, 0, []⟩]⟩,
  ⟨0x4C, [(36, 0x400), (4, 0x20)],
   [⟨31, 0, .ro, 0, []⟩]⟩,
  ⟨0x50, [(36, 0x400), (4, 0x20)],
   [⟨31, 0, .ro, 0, []⟩]⟩,
  ⟨0x54, [(36, 0x400), (4, 0x20)],
   [⟨31, 0, .ro, 0, []⟩]⟩]
/-- Registers of block BWIN. -/
def regRowsBwin : List RegRow := [
  ⟨0x10000, [],
   [⟨19, 4, .rw, 0, []⟩]⟩,
  ⟨0x10004, [],
   [⟨31, 24, .seal, 0x14, [(1, 100)]⟩, ⟨17, 16, .seal, 0, [(0, 2)]⟩, ⟨1, 0, .seal, 1, [(0, 2)]⟩]⟩,
  ⟨0x10008, [(2, 0x4)],
   [⟨25, 16, .maint, 0x64, [(1, 1023)]⟩, ⟨15, 0, .maint, 0x6e8c, []⟩]⟩,
  ⟨0x10010, [],
   [⟨31, 24, .seal, 0x3c, []⟩, ⟨23, 16, .seal, 0x14, []⟩, ⟨15, 8, .seal, 5, []⟩, ⟨7, 0, .seal, 0x64, [(1, 255)]⟩]⟩,
  ⟨0x10014, [],
   [⟨31, 24, .seal, 0x32, []⟩, ⟨23, 16, .seal, 0xa, []⟩, ⟨15, 8, .seal, 0x32, [(1, 255)]⟩]⟩,
  ⟨0x10018, [],
   [⟨31, 28, .ro, 1, []⟩, ⟨27, 26, .ro, 0, []⟩, ⟨16, 16, .ro, 0, []⟩, ⟨15, 0, .ro, 0, []⟩]⟩,
  ⟨0x1001C, [],
   [⟨31, 16, .ro, 0, []⟩, ⟨15, 0, .ro, 0, []⟩]⟩,
  ⟨0x10020, [],
   [⟨15, 0, .ro, 0, []⟩]⟩,
  ⟨0x10024, [],
   [⟨31, 0, .ro, 0, []⟩]⟩,
  ⟨0x10028, [],
   [⟨31, 0, .ro, 0, []⟩]⟩,
  ⟨0x1002C, [],
   [⟨31, 0, .ro, 0, []⟩]⟩]
/-- Registers of block EVENT. -/
def regRowsEvent : List RegRow := [
  ⟨0x0, [(16384, 0x4)],
   [⟨31, 0, .ro, 0, []⟩]⟩,
  ⟨0x10000, [],
   [⟨31, 0, .ro, 0, []⟩]⟩]
/-- Registers of block CAL (part 1). -/
def regRowsCalA : List RegRow := [
  ⟨0x0, [(1552, 0x40)],
   [⟨31, 16, .ro, 0, []⟩, ⟨13, 13, .ro, 0, []⟩, ⟨12, 12, .ro, 0, []⟩, ⟨11, 11, .ro, 0, []⟩, ⟨10, 9, .ro, 0, []⟩, ⟨8, 8, .ro, 0, []⟩, ⟨7, 0, .ro, 0, []⟩]⟩,
  ⟨0x4, [(1552, 0x40), (9, 0x4)],
   [⟨31, 0, .ro, 0, []⟩]⟩,
  ⟨0x28, [(1552, 0x40)],
   [⟨31, 16, .ro, 0, []⟩, ⟨15, 0, .ro, 0, []⟩]⟩,
  ⟨0x2C, [(1552, 0x40)],
   [⟨31, 16, .ro, 0, []⟩, ⟨15, 0, .ro, 0, []⟩]⟩,
  ⟨0x30, [(1552, 0x40)],
   [⟨31, 0, .ro, 0, []⟩]⟩,
  ⟨0x34, [(1552, 0x40)],
   [⟨31, 0, .ro, 0, []⟩]⟩,
  ⟨0x38, [(1552, 0x40)],
   [⟨31, 0, .ro, 0, []⟩]⟩,
  ⟨0x3C, [(1552, 0x40)],
   [⟨31, 24, .ro, 0, []⟩, ⟨15, 0, .ro, 0, []⟩]⟩,
  ⟨0x20000, [],
   [⟨31, 31, .maint, 0, []⟩, ⟨27, 24, .seal, 2, [(0, 4)]⟩, ⟨23, 16, .seal, 8, [(1, 255)]⟩, ⟨15, 8, .seal, 0x3c, [(1, 255)]⟩, ⟨7, 0, .seal, 0x28, []⟩]⟩,
  ⟨0x20004, [],
   [⟨31, 24, .seal, 0xa0, []⟩, ⟨23, 16, .seal, 0xa, []⟩, ⟨9, 0, .seal, 0x266, []⟩]⟩,
  ⟨0x20008, [],
   [⟨31, 31, .wo, 0, []⟩, ⟨10, 0, .wo, 0, []⟩]⟩,
  ⟨0x2000C, [],
   [⟨2, 0, .ro, 0, []⟩]⟩,
  ⟨0x20010, [],
   [⟨26, 16, .ro, 0, []⟩, ⟨15, 0, .ro, 0, []⟩]⟩,
  ⟨0x20040, [(16, 0x4)],
   [⟨31, 0, .rw, 0, []⟩]⟩,
  ⟨0x20100, [(5, 0x10)],
   [⟨31, 0, .ro, 0, []⟩]⟩,
  ⟨0x20104, [(5, 0x10)],
   [⟨31, 0, .ro, 0, []⟩]⟩,
  ⟨0x20108, [(5, 0x10)],
   [⟨31, 0, .ro, 0, []⟩]⟩,
  ⟨0x30000, [(1552, 0x4)],
   [⟨17, 17, .seal, 0, []⟩, ⟨16, 16, .seal, 1, []⟩, ⟨15, 14, .seal, 1, []⟩, ⟨13, 6, .seal, 0xa, [(2, 250)]⟩, ⟨4, 0, .seal, 0x1f, [(0, 15), (31, 31)]⟩]⟩,
  ⟨0x40000, [(1536, 0x20)],
   [⟨31, 0, .ro, 0, []⟩]⟩,
  ⟨0x40004, [(1536, 0x20)],
   [⟨31, 0, .ro, 0, []⟩]⟩,
  ⟨0x40008, [(1536, 0x20)],
   [⟨31, 0, .ro, 0, []⟩]⟩,
  ⟨0x4000C, [(1536, 0x20)],
   [⟨31, 0, .ro, 0, []⟩]⟩,
  ⟨0x40010, [(1536, 0x20)],
   [⟨31, 0, .ro, 0, []⟩]⟩,
  ⟨0x40014, [(1536, 0x20)],
   [⟨31, 0, .ro, 0, []⟩]⟩]
/-- Registers of block CAL (part 2). -/
def regRowsCalB : List RegRow := [
  ⟨0x50000, [(96, 0x10)],
   [⟨14, 12, .ro, 0, []⟩, ⟨10, 8, .ro, 0, []⟩, ⟨6, 4, .ro, 0, []⟩, ⟨2, 0, .ro, 0, []⟩]⟩,
  ⟨0x50004, [(96, 0x10)],
   [⟨31, 16, .ro, 0, []⟩, ⟨15, 0, .ro, 0, []⟩]⟩,
  ⟨0x50008, [(96, 0x10)],
   [⟨31, 16, .ro, 0, []⟩, ⟨5, 0, .ro, 0, []⟩]⟩]
/-- Registers of block CAL. -/
def regRowsCal : List RegRow := regRowsCalA ++ regRowsCalB

/-- Does offset `rel` fall on an element of an index array with these dimensions? -/
def RegRow.hits : List (Nat × Nat) → Nat → Bool
  | [], rel => rel == 0
  | (n, st) :: ds, rel => rel / st < n && RegRow.hits ds (rel % st)

/-- The register of a block at an offset. -/
def findRow (rows : List RegRow) (off : Nat) : Option RegRow :=
  rows.find? fun r => r.off ≤ off && RegRow.hits r.dims (off - r.off)

/-- The register at a word address, by Table 22.1 (R491); none: the address is unmapped or belongs to a window that
is read elsewhere (DEV_DT, BEARING_WIN records). -/
def regRow (a : Nat) : Option RegRow :=
  if a < 0x10000 then findRow regRowsDev a
  else if a < 0x20000 then findRow regRowsSec (a - 0x10000)
  else if a < 0x30000 then findRow regRowsPwr (a - 0x20000)
  else if a < 0x40000 then findRow regRowsThm (a - 0x30000)
  else if a < 0x50000 then findRow regRowsClk (a - 0x40000)
  else if a < 0x60000 then findRow regRowsHk (a - 0x50000)
  else if a < 0x70000 then findRow regRowsSafe (a - 0x60000)
  else if a < 0x80000 then findRow regRowsPair (a - 0x70000)
  else if a < 0x90000 then findRow regRowsDom (a - 0x80000)
  else if a < 0xA0000 then findRow regRowsNet (a - 0x90000)
  else if a < 0xB0000 then findRow regRowsCap (a - 0xA0000)
  else if a < 0xC0000 then findRow regRowsMem (a - 0xB0000)
  else if a < 0xC9000 then findRow regRowsLane (a - 0xC0000)
  else if a < 0x100000 then none
  else if a < 0x200000 then findRow regRowsHead ((a - 0x100000) % 0x10000)
  else if a < 0x400000 then none
  else if a < 0x420000 then findRow regRowsBwin (a - 0x400000)
  else if a < 0x500000 then none
  else if a < 0x520000 then findRow regRowsEvent (a - 0x500000)
  else if a < 0x600000 then none
  else if a < 0x660000 then findRow regRowsCal (a - 0x600000)
  else none

/-- The word a register holds at reset: the reset values of its fields, reserved bits 0. -/
def RegRow.resetWord (r : RegRow) : BitVec 32 :=
  BitVec.ofNat 32 (r.fields.foldl (fun acc f => acc + f.reset * 2 ^ f.lo) 0)

/-- The reset word of an address; unmapped addresses read 0 (R491). -/
def resetWord (a : Nat) : BitVec 32 :=
  match regRow a with
  | some r => r.resetWord
  | none => 0

end Sys2Proof.Machine
end

