-- ==== Sys2Proof/Machine/State.lean ====
section
/-! DEFINITION. The state of the block, plain data: every register word under its address, every memory, and the
state behind the registers, chapter by chapter of the spec; the reasons a step can stop; and the state right after
reset. What an unlisted key of a sparse map reads as is the reset value of that thing. -/

namespace Sys2Proof.Machine

/-- Reasons a command can stop the machine. The spec gives every command of the table an effect, so no meaning of this
model raises one; the type is here because the host's interface names it. [DESIGN CHOICE, log 8] -/
inductive Fault where
  /-- An access to an address that the spec says does not exist. No meaning raises it: the spec makes such accesses
  read 0 or report an access error (R491). Safe. -/
  | noSuchAddress
deriving DecidableEq, Repr

/-- Reasons a command has no meaning. [DESIGN CHOICE, log 8] -/
inductive Refusal where
  /-- Raised by an arm of `exec` whose command has no meaning yet. Safe: the model stops where the hardware goes on. -/
  | notModelled (mnemonic : String)
deriving DecidableEq, Repr

/-! ### Scan sequencer and fire scheduler of a head (02, 03) -/

/-- The sequencer of a head, beyond its registers (R31, R32, R49 to R65). Instants are DT nanoseconds. -/
structure Scan where
  /-- Armed for automatic start (R32). -/
  armed : Bool := false
  /-- A START is held until the calibrations at entry to PARKED end (R32); the interface that wrote it. -/
  startHeld : Option Iface := none
  /-- The servo offset calibration of R265 runs. -/
  calServo : Bool := false
  /-- The energy-monitor zero calibration of R285 runs. -/
  calZero : Bool := false
  /-- The vernier calibration of R73 runs. -/
  calVernier : Bool := false
  /-- PARK was written during the dwell phase and acts at its close (R58). -/
  parkPend : Bool := false
  /-- An ordinary park is under way (R280). -/
  parking : Bool := false
  /-- A frame has started and has not ended or been abandoned. -/
  inFrame : Bool := false
  /-- The first frame since entry to SCANNING has not started yet (R58). -/
  firstFrame : Bool := true
  /-- Actual start of the frame (R53). -/
  start : Nat := 0
  /-- Nominal start of the next frame (R54). -/
  nominal : Nat := 0
  /-- Actual start of the next frame as the pseudocode of R53 gives it. -/
  nextStart : Nat := 0
  /-- `t` of R53: nominal start of the dwell period, from the frame's start. -/
  tNom : Nat := 0
  /-- `S` of R53: accumulated slip. -/
  slip : Nat := 0
  /-- Next dwell of the frame. -/
  nextDwell : Nat := 0
  /-- Target open of the dwell (absolute DT). -/
  target : Nat := 0
  /-- Dwell open (absolute DT). -/
  openAt : Nat := 0
  /-- The dwell may fire shots. -/
  fire : Bool := false
  /-- DT of the last dwell close. -/
  closeAt : Nat := 0
  /-- Consecutive servo samples within tolerance (R52). -/
  settleRun : Nat := 0
  /-- DT at which the dwell settled. -/
  settledAt : Option Nat := none
  /-- The 16 descriptor words latched for the dwell (R49). -/
  desc : List Nat := []
  /-- The dwell is run as if SKIP were set (R51, R102). -/
  asSkip : Bool := false
  /-- Prefetched descriptors: dwell, slot, check passed, words (R51). -/
  prefetch : List (Nat × Nat × Bool × List Nat) := []
  /-- Target slot of the commit being checked or pending (R59 to R64). -/
  commitSlot : Nat := 0
  /-- The head parked with a commit pending: it takes effect at the next frame start (R61). -/
  commitDue : Bool := false
  /-- DT of the last acceptance of a commit (R59, R60). -/
  acceptAt : Option Nat := none
  /-- Open DT fixed ahead by a helper notice or by the owner (R370, R371). -/
  fixedOpen : Option Nat := none
  /-- The helper's notice was late or did not match: the dwell closes with no shots (R371). -/
  noticeBad : Bool := false
  /-- The last shot that a stop notice names (R371). -/
  stopShot : Option Nat := none
  /-- The breach of the dwell in progress is forced (R424). -/
  forced : Bool := false
deriving DecidableEq, Repr

/-- A shot of the dwell in progress (R79 to R81). Times in 1/256 ns. -/
structure Shot where
  k : Nat
  /-- The device launched it; else it is expected from the twin or the owner (R33, R369). -/
  launched : Bool
  /-- F_k: strobe time, launched or expected from the twin. -/
  fk : Nat
  /-- Phase set (R77). -/
  phase : Nat
  /-- Dither offset in 1/256 ns. -/
  ofs : Nat
  /-- E_k once matched (R80). -/
  ek : Option Nat
  /-- The echo window ended without an edge (R81). -/
  missed : Bool
deriving DecidableEq, Repr

/-- The fire scheduler of a head, beyond its registers. -/
structure Fire where
  /-- Dither seed of the dwell (R77). -/
  seed : Nat := 1
  /-- Shots launched or expected in the dwell, newest first. -/
  shots : List Shot := []
  /-- CLR_ECHO was written while SCANNING or INHIBITED (R82). -/
  clrPend : Bool := false
  /-- Sum of echo latencies of the dwell, 1/256 ns, and how many (R134). -/
  latSum : Nat := 0
  latN : Nat := 0
  /-- DT of the last strobe of a shot (R95, R292), and of the last proof strobe (R98, R292). -/
  lastStrobe : Option Nat := none
  lastProof : Option Nat := none
  /-- The last strobe: the edge of the timing clock and the vernier code that realise it (R71, R133). -/
  edge : Nat := 0
  vernier : Nat := 0
  /-- High end of the strobe pulse on FIRE (R72). -/
  fireUntil : Nat := 0
deriving DecidableEq, Repr

/-- The symbols of the emitter chain (R87). -/
inductive ChainSym where
  | zero | one | mark
deriving DecidableEq, Repr

/-- A chain frame in flight (R91). -/
structure ChainFlight where
  cmd : ChainCmd
  /-- Failures so far. -/
  fails : Nat
  sentAt : Nat
deriving DecidableEq, Repr

/-- One driver of the emitter chain as the device knows it (R90, R102). -/
structure Driver where
  mask : Nat := 0
  opens : Nat := 0
  shorts : Nat := 0
deriving DecidableEq, Repr

/-- Emitter chain of a head, beyond its registers. -/
structure Chain where
  flight : Option ChainFlight := none
  /-- Frames still to be sent, in order. -/
  queue : List ChainCmd := []
  /-- Frames of a takeover still to pass before EMITTER clears (R348). -/
  recover : Nat := 0
  /-- An unmasked emitter fault is being handled (R102). -/
  faultPend : Bool := false
  /-- EMITTER_LIMIT holds (R103). -/
  limitHeld : Bool := false
  /-- OVERTEMP of the last frame (R92). -/
  overtemp : Bool := false
  /-- The symbols of the frame last sent, one for each cell of 20 ns (R87, R88). -/
  sent : List ChainSym := []
  /-- The pattern in ACTIVE: none until the first SWAP after the load. Failures of the SWAP in hand so far. -/
  active : Option Nat := none
  swapFails : Nat := 0
  /-- The pattern in NEXT, when a PATTERN frame has been confirmed. -/
  nextPat : Option Nat := none
  /-- A SWAP for the dwell being prepared is still to be confirmed (R95). -/
  swapWait : Bool := false
  drivers : SMap Driver := []
  /-- DT of the last proof of each emitter index, in order (R101). -/
  proofs : SMap Nat := []
  /-- Proof steps still to run in this flyback. -/
  stepsDue : Nat := 0
deriving DecidableEq, Repr

/-! ### Mirror servo of a head (10) -/

/-- One loop: an axis of a head (R261 to R279). -/
structure Axis where
  /-- Sensor blocks received, newest first, 64 bits each, the newest bit in bit 63. -/
  blocks : List (BitVec 64) := []
  /-- Feedback valid and not frozen since this DT. -/
  goodSince : Option Nat := none
  /-- Blocks accepted since the last sample. -/
  fresh : Nat := 0
  runBit : Bool := false
  runLen : Nat := 0
  lost : Bool := false
  frozen : Bool := false
  /-- DC offset `o` of stage 4 (Q1.23). -/
  ofs : Int := 0
  est : Int := 0
  err : Int := 0
  e1 : Int := 0
  e2 : Int := 0
  e3 : Int := 0
  y1 : Int := 0
  y2 : Int := 0
  y3 : Int := 0
  /-- Last drive word sent. -/
  drive : Int := 0
  bank : Nat := 0
  holdUntil : Nat := 0
  /-- The computation of the last sample was not complete at its instant (R278). -/
  late : Bool := false
  ovr : Nat := 0
  /-- Follow term F and applied term F_app (R270, R272). -/
  fol : Int := 0
  fApp : Int := 0
  /-- Set-point in PU (R269). -/
  sp : Int := 0
deriving DecidableEq, Repr

/-- Servo of a head, beyond its registers. -/
structure Servo where
  x : Axis := {}
  y : Axis := {}
  /-- Step of the offset calibration (R265): 1 first T_hold, 2 unfrozen, 3 second T_hold. -/
  calStep : Nat := 0
  /-- DT at which that step began. -/
  calAt : Nat := 0
  /-- The fault park sequence is running (cause 0x2), and DT of its start (R279). -/
  faultPark : Bool := false
  faultAt : Nat := 0
  /-- Tracking cause 0x7. -/
  track : Bool := false
  /-- The follow source was invalid at the last sample. -/
  folBad : Bool := false
  /-- A sample of this dwell was clamped already (R269). -/
  clampSeen : Bool := false
  /-- Consecutive samples within PARK_TOL (R280). -/
  parkGood : Nat := 0
  /-- DT by which an ordinary park whose ramp has begun is to be complete (R280). -/
  parkDeadline : Option Nat := none
  /-- An EXC_LEVEL write waits for the next flyback or RUN command (R276). -/
  excPend : Bool := false
  /-- PROF_BANK in effect since the last move phase (R267, R268). -/
  profBank : Nat := 0
  /-- SEQ and DT of the last SD cell accepted, and its block counter (R400, R261). -/
  sdSeq : Nat := 0
  sdAt : Option Nat := none
  sdCtr : Option Nat := none
  /-- DT of the last sample, sent with the drive words (Table 16.3). -/
  sampleAt : Nat := 0
  /-- DRIVE cells sent, and the last one, on every lane of the link's set (R261, R399). -/
  cells : Nat := 0
  cell : List (BitVec 8) := []
deriving DecidableEq, Repr

/-! ### Eye-safety accountant of a head (11) -/

/-- The ring of one sector and window (R289, R293): nine buckets in nJ, the current one first, and the bucket periods for
which the sector still counts as standing at its limit after an uncorrectable error. -/
structure EyeRing where
  b : List Nat := [0, 0, 0, 0, 0, 0, 0, 0, 0]
  held : Nat := 0
deriving DecidableEq, Repr

/-- A rectangle of sectors: limits on X and on Y (R286). -/
structure Range where
  loX : Nat := 0
  hiX : Nat := 0
  loY : Nat := 0
  hiY : Nat := 0
deriving DecidableEq, Repr

/-- A strobe of a shot whose energy has not been judged yet (R282, R284, R290): its number and instant in 1/256 ns; its bound in nJ,
n_h and sector range; whether its echo has matched. -/
structure Pulse where
  k : Nat
  fk : Nat
  bound : Nat
  head : Nat
  range : Range
  matched : Bool := false
deriving DecidableEq, Repr

/-- Accountant of a head, beyond its registers and rings. -/
structure Eye where
  /-- Rings by window × 4096 + sector. -/
  rings : SMap EyeRing := []
  /-- Prefill still in the rings of every sector, by window: nine buckets, the current one first (R295). -/
  prefill : SMap (List Nat) := []
  /-- Number of the current bucket of each window, counted in its length from DT 0 (R289). -/
  bucket : SMap Nat := []
  /-- Sector range of the dwell in progress (R286) and of the last proof strobe (R288). -/
  range : Range := {}
  proof : Range := {}
  /-- Strobes of shots whose codes are to come, and DT of a proof strobe whose code is to come (R282). -/
  pulses : List Pulse := []
  proofAt : Option Nat := none
  /-- Consecutive low readings (R284). -/
  lowRun : Nat := 0
  /-- DT of the last setting of MON_FAIL or PULSE_HIGH, and of the last zero calibration that passed (R284). -/
  latchAt : Nat := 0
  zeroAt : Option Nat := none
  /-- EYE is set from entry to PARKED until the zero calibration passes, and DT of that entry (R285). -/
  zeroWait : Bool := false
  zeroFrom : Nat := 0
  /-- Motion anchor in EU and its DT (R292). -/
  anchorX : Int := 0
  anchorY : Int := 0
  anchorAt : Nat := 0
deriving DecidableEq, Repr

/-! ### Power of a head (18) -/

/-- A head's account with the steward (R433, R434). -/
structure HeadPower where
  /-- Units the dwell being prepared needs. -/
  need : Nat := 0
  /-- Units of the grant the head holds. -/
  units : Nat := 0
  /-- The dwell's leave is in place. -/
  granted : Bool := false
  /-- Energy of the dwell in 0.1 µJ, and whether it has been deducted. -/
  energy : Nat := 0
  covered : Bool := false
deriving DecidableEq, Repr

/-! ### Device, clocks, power, thermal (01, 17, 18, 21) -/

/-- A slow input's clamp (R506): whether it conducts, and the DT until which the input is read in its safe state. -/
structure Clamp where
  on : Bool := false
  until_ : Nat := 0
deriving DecidableEq, Repr

/-- The device beyond its registers (R25, R29, R221, R501). -/
structure Dev where
  /-- The configuration is sealed (R473). -/
  sealed : Bool := false
  /-- PORST_N is asserted; and the DT of its last release, until HBM training ends (R497). -/
  porst : Bool := false
  releasedAt : Option Nat := some 0
  /-- Every rail in tolerance for 100 µs and no thermal hold (R510). -/
  supplies : Bool := true
  /-- The event latch behind EVENT_N (R501). -/
  eventLatch : Bool := false
  /-- Active DEGRADE occurrence causes: event code and DT of the last occurrence (R29). -/
  degOcc : List (Nat × Nat) := []
  /-- Active condition causes: event code and the unit it concerns (R29). -/
  conds : List (Nat × Nat) := []
  /-- Active SAFE occurrence causes: event codes (R29). -/
  safeOcc : List Nat := []
  /-- Index of the first event record not yet sent in an event frame, and when it was logged (R221). -/
  evtSent : Nat := 0
  evtSince : Option Nat := none
  /-- DT of entry to RUN or DEGRADED from BOOT or SAFE (R471). -/
  runSince : Option Nat := none
  /-- Clamps of the slow inputs (R506), by input: TACH_A, TACH_B 0, 1; TRIG_IN 2 to 5; TOKEN_IN_A, _B 6, 7; SI_A[n] 8 + 2n,
  SI_B[n] 9 + 2n; SAFE_RST_A, _B 24, 25; OSSD_RB_A[m] 26 + 2m, OSSD_RB_B[m] 27 + 2m. -/
  clamps : SMap Clamp := []
  /-- Slew codes of the CMOS outputs, as the image gives them (R505). -/
  pads : List (BitVec 2) := []
deriving DecidableEq, Repr

/-- Clocks and Invar beyond their registers (R413 to R426). -/
structure Clk where
  /-- Integral term of R417. -/
  integ : Int := 0
  /-- The last 64 values of ADJ, newest first (R419). -/
  adjs : List Int := []
  holdSince : Option Nat := none
  /-- DT of the last offset sample. -/
  sampleAt : Option Nat := none
  /-- The logic PLL lost lock and has not regained it (R29, R424). -/
  lpllLost : Bool := false
  /-- Heads under a calibration hold (R130, R425), bit per head. -/
  calHold : Nat := 0xFFFF
  /-- DT of the last relock; epochs begun before it do not clear the hold (R425). -/
  relockAt : Nat := 0
  /-- Epochs of 2^20 hits are required to clear the hold (R425); else those of R130. -/
  relockHold : Bool := false
  /-- DT of the last loss of REFCLK, and of each lane reference pair (R413, R423). -/
  refLostAt : Option Nat := none
  lrefLostAt : SMap (Option Nat) := []
  /-- DT named by a SYNC_REQ for the divider reset (R361). -/
  syncAt : Option Nat := none
  /-- A SYNC_IN edge was stamped at this DT and the dividers are to be reset 20 ns later (R416). -/
  syncEdge : Option Nat := none
  /-- The dividers are to be aligned again after a step (R418). -/
  realign : Bool := false
  /-- After a step of DT: what is added to DT for the phase of the spread modulation, and until which DT (R420). -/
  modBase : Nat := 0
  modUntil : Nat := 0
deriving DecidableEq, Repr

/-- A leave request or grant with the steward (R429). -/
structure Leave where
  who : Requester
  units : Nat
  /-- Arrival of the request, or the step that granted it. -/
  at_ : Nat
  starved : Bool
deriving DecidableEq, Repr

/-- The power steward beyond its registers (R428 to R434). [DESIGN CHOICE, log 36] -/
structure Pwr where
  /-- Base load of the image's power model, in units (R428). -/
  base : Nat := 0
  /-- Units of a request of the other requesters in the image's power model (R429): retraining, wipe, scrub, snapshot
  readout, pair catch-up, maintenance loads. -/
  retrainUnits : Nat := 8
  wipeUnits : Nat := 8
  scrubUnits : Nat := 8
  snapUnits : Nat := 8
  catchUnits : Nat := 8
  maintUnits : Nat := 8
  /-- Requests waiting, oldest first. -/
  waiting : List Leave := []
  /-- Grants in force, oldest first. -/
  grants : List Leave := []
  /-- Released units not yet applied (P of R430). -/
  released : Nat := 0
  /-- Head-supply pool level in 0.1 µJ, and the DT up to which it has risen (R434). -/
  pool : Nat := 0
  poolAt : Nat := 0
  /-- DT of the steward's last step (R430). -/
  stepAt : Option Nat := none
deriving DecidableEq, Repr

/-- One ring-oscillator sensor (R436 to R438). -/
structure Sensor where
  /-- Last readings, newest first, up to 16, signed 1/16 °C. -/
  hist : List Int := []
  count : Nat := 0
  same : Nat := 0
  good : Nat := 0
deriving DecidableEq, Repr

/-- Nichrome beyond its registers (R436 to R444). -/
structure Thm where
  sensors : SMap Sensor := []
  /-- DT of the last round (R436). -/
  roundAt : Option Nat := none
  /-- Rounds with both stacks below the relief temperature less 5 °C. -/
  reliefCool : Nat := 0
  /-- Rounds with the rate at or below 5 °C/s. -/
  riseCool : Nat := 0
  /-- Every sensor has read below 100 °C since this DT (R441). -/
  coolSince : Option Nat := none
  /-- DT of the last index-0 HK_UP cell of each head (R444). -/
  headAt : SMap Nat := []
  /-- Heads whose temperature is out of range or missing, bit per head (R444). -/
  headBad : Nat := 0
  /-- Head temperatures as HK_UP carries them, signed 24 bits, 1/16 °C. -/
  headTemp : SMap Nat := []
  /-- A hardware shutdown is to be logged at the next boot (R441). -/
  tripLog : Bool := false
deriving DecidableEq, Repr

/-! ### Safety islands (12) -/

/-- One channel of a safety input or of the reset (R309, R310). -/
structure Channel where
  filt : Bool := false
  raw : Bool := false
  count : Nat := 0
  /-- Consecutive failed test pulses. -/
  fails : Nat := 0
  /-- The raw level was high at a tick of the tested part of the present pulse. -/
  testHigh : Bool := false
  /-- Its raw level has been low at a full filter run of ticks since seal (R309, reset channels). -/
  seenLow : Bool := false
  lowRun : Nat := 0
  /-- DT since which the filtered level is high (R319). -/
  highSince : Option Nat := none
deriving DecidableEq, Repr

/-- One safety input beyond its channels (R312, R313). -/
structure SafeInput where
  /-- Tick at which the discrepancy timer started. -/
  discAt : Option Nat := none
  /-- Clearing of a fault is under way; the channels still to be tested, bit 0 A, bit 1 B. -/
  clearing : Bool := false
  toTest : Nat := 0
  /-- The input was closed at the last tick (R314: opening edges). -/
  wasClosed : Bool := false
deriving DecidableEq, Repr

/-- Where a reset attempt stands (R317). -/
inductive RstPhase where
  /-- Both channels have not been open together since the last attempt. -/
  | wait
  /-- Both open: an attempt may begin. -/
  | ready
  /-- One channel has closed, at this DT. -/
  | first (at_ : Nat)
  /-- Both have closed: the press, at this DT. -/
  | pressed (at_ : Nat)
  /-- One has opened again: the release, at this DT. -/
  | released (at_ : Nat)
  /-- The attempt has failed a test and ends when both are open. -/
  | bad
deriving DecidableEq, Repr

/-- One safety connection beyond its registers (R323 to R325). -/
structure Conn where
  deadline : Nat := 0
  /-- Messages waiting: ingress stamp and bytes, oldest first. -/
  queue : List (Nat × List (BitVec 8)) := []
  /-- The plausibility value in force, in 0.01 m/s. -/
  plaus : Option Int := none
deriving DecidableEq, Repr

/-- Safety islands beyond their registers. What the islands may hold or decide differently stands here for each: their copies
of the configuration, their channels, with the conditions of R304; their breach states stand in `Head`. Inputs, reset and
connections, which both judge by the same rules from the same levels and messages, stand here once; where their judgements can
differ, the command that compares them says so. [DEDUCED, log 14] -/
structure Safe where
  /-- The sealed copies of islands A and B (R299): register words by address. -/
  copyA : SMap Word := []
  copyB : SMap Word := []
  /-- Safety input channels by n × 2 + channel; reset channels at 16 and 17. -/
  chans : SMap Channel := []
  inputs : SMap SafeInput := []
  rst : RstPhase := .wait
  /-- A reset attempt has just ended, valid or not; the islands still act on it (R317). -/
  rstDone : Option Bool := none
  /-- Field code of the inputs and the DT since which it holds (R315). -/
  code : Nat := 0
  codeAt : Nat := 0
  conns : SMap Conn := []
  /-- FIELD_SELECT in force by head (set + 1; 0 none). -/
  cmdSet : SMap Nat := []
  /-- DT since which conditions 1 to 3 of R304 hold for a channel, by 2 m + island. -/
  okSince : SMap (Option Nat) := []
  /-- Channels whose ON_DLY has elapsed (condition 4), bit 2 m + island. -/
  delayed : Nat := 0
  /-- Channels of MANUAL pairs off since their last valid reset (condition 5), bit 2 m + island. -/
  need : Nat := 0xFF
  /-- Channels in test: A bits 3..0, B bits 7..4; and the DT of the last change of each channel. -/
  testing : Nat := 0
  chanAt : SMap Nat := []
  /-- Start of the last test pulse of each supply that has been judged (R310). -/
  tpDone : SMap (Option Nat) := []
  /-- DT last seen by the islands, for R298. -/
  dtSeen : Nat := 0
deriving DecidableEq, Repr

/-- Breach state of a head in an island and what its present frame has shown (R302, R303). -/
structure Breach where
  prot : Bool := false
  warn : Bool := false
  frProt : Bool := false
  frWarn : Bool := false
  /-- No dwell that must fire has closed without shots in this frame. -/
  frOk : Bool := true
  /-- The decision of the frame's last dwell is due to clear the states. -/
  frEnd : Bool := false
  lastComplete : Option Nat := none
deriving DecidableEq, Repr

/-! ### Capture, sequencers, snapshot slots (09) -/

/-- An occurrence waiting for a sequencer (R247): its source in Table 9.5, argument, edge sense, and time in 1/256 ns. -/
structure Occ where
  src : Nat
  arg : Nat
  fall : Bool
  time : Nat
deriving DecidableEq, Repr

/-- A trigger sequencer beyond its registers (R246 to R250). -/
structure Seqr where
  /-- Occurrences not yet taken, in time order. -/
  waiting : List Occ := []
  /-- DT of entry to the state, 1/256 ns. -/
  entry : Nat := 0
  /-- REARM part of the end of re-arm, ns (R250). -/
  rearmAt : Nat := 0
  /-- Slots its last trigger moved to POST, bit per slot. -/
  slots : Nat := 0
  /-- Missed triggers of the 1 µs interval in progress: first time, number. -/
  missAt : Nat := 0
  missN : Nat := 0
  /-- CAP_MISSED has been raised in this re-arm. -/
  missRaised : Bool := false
deriving DecidableEq, Repr

/-- A snapshot slot beyond its registers (R251 to R256). -/
structure Slot where
  armAt : Nat := 0
  /-- Trigger time, 1/256 ns. -/
  trigAt : Nat := 0
  seqr : Nat := 0
  /-- Frames stored since ARM_DT, up to the length of the ring. -/
  stored : Nat := 0
  /-- Ring index at which the next frame is stored. -/
  wr : Nat := 0
  /-- The TRIGGER mark has not been stored yet. -/
  markPend : Bool := false
  trigFrame : Nat := 0
  /-- First frame and number of frames of the snapshot held. -/
  first : Nat := 0
  nFrames : Nat := 0
deriving DecidableEq, Repr

/-- A capture stream beyond its registers (R241 to R244). [DEDUCED, log 38] -/
structure CapStream where
  /-- Records of the open frame, newest first, and the queue behind it, oldest first. -/
  opened : List (BitVec 48) := []
  queue : List (BitVec 48) := []
  loss : Bool := false
  /-- Transmit credit in eighths of a frame. -/
  credit : Nat := 0
  /-- DT of the last lost record (R244), and of the last frame's close (R242). -/
  lostAt : Option Nat := none
  closedAt : Option Nat := none
deriving DecidableEq, Repr

/-- The capture engine beyond its registers. -/
structure Cap where
  streams : SMap CapStream := []
  seqs : SMap Seqr := []
  slots : SMap Slot := []
  /-- Return-list records that have entered the staging region of HBM and left it (R239), and those in it that are lost. -/
  stageWr : Nat := 0
  stageRd : Nat := 0
  stageBad : List Nat := []
  /-- The drain rate in 10^-7 record per ns, and the credit it has given (R245). -/
  rlRate : Nat := 0
  rlCredit : Nat := 0
  /-- Last recorded value of each status source; none before its first record (R240). -/
  status : SMap (Option Nat) := []
  /-- Number of the 2,048 ns tick whose status records have been formed (R240). -/
  statusTick : Option Nat := none
  /-- Ends of the pulses in progress on each TRIG_OUT ball, which is high while there is one (R249). -/
  trigOut : SMap (List Nat) := []
  /-- Last stamped edge of each TRIG_IN ball, 1/256 ns (R113). -/
  trigAt : SMap (Option Nat) := []
  /-- The frame each capture port last transmitted (R241, R244). -/
  onPort : SMap (List (BitVec 8)) := []
deriving DecidableEq, Repr

/-! ### Housekeeping (19) -/

/-- What the converter runs. -/
inductive HkRun where
  /-- Nothing. -/
  | idle
  /-- The step of the sequence, a single conversion. -/
  | step | single
  /-- An urgent conversion; the aborted step starts again after it (true), or the sequence goes on (R459). -/
  | urgent (again : Bool)
deriving DecidableEq, Repr

/-- The housekeeping converter beyond its registers. -/
structure Hk where
  /-- DT of the last completion of each entry (R457); the SINGLE result at 16. -/
  doneAt : SMap (Option Nat) := []
  run : HkRun := .idle
  /-- DT of the start of the running conversion. -/
  startAt : Nat := 0
  /-- A clamp of its channels has conducted in its steps 3 to 5 (R451). -/
  clamped : Bool := false
deriving DecidableEq, Repr

/-! ### Return inputs and delay lines (04) -/

/-- One of the 1,552 delay lines (R109, R125 to R131): the return inputs, then the ECHO inputs. Corrected times are
64-bit counts of 1/256 ns; a stamp is such a count modulo 2^32 (R111). -/
structure Line where
  /-- Selections of chain A and B (R110, R126). -/
  selA : BitVec 288 := 0
  selB : BitVec 288 := 0
  /-- Hits of the epoch by raw position, chain A and B (R125). -/
  histA : SMap Nat := []
  histB : SMap Nat := []
  hits : Nat := 0
  /-- DT at which the epoch began (R125). -/
  epochAt : Nat := 0
  /-- The first epoch, of 2^20 hits, has been evaluated since boot or since the last relock (R130, R425). -/
  evaluated : Bool := false
  /-- DT at which the selection in service last passed its measurement (R129). -/
  passAt : Nat := 0
  /-- Raw positions of the service chain in the rising and falling half of the spread triangle: sum, number (R135). -/
  riseSum : Nat := 0
  riseN : Nat := 0
  fallSum : Nat := 0
  fallN : Nat := 0
  /-- Failing epochs in a row: chain A, chain B, both (R128). -/
  failA : Nat := 0
  failB : Nat := 0
  failBoth : Nat := 0
  /-- A selection waiting to be applied: service chain, selections of A and B, and from a restore (R127, R138). -/
  pend : Option (Nat × BitVec 288 × BitVec 288 × Bool) := none
  /-- Skew of a restore that waits to be applied. -/
  pendSkew : Nat := 0
  /-- Coupling of the last epoch in 0.01 ps (R135). -/
  couple : Nat := 0
  /-- Arrival of the last stamped edge, 1/256 ns (R107). -/
  lastEdge : Option Nat := none
  /-- Corrected stamp of the rising edge of the present pulse, where it was stamped (R118). -/
  riseAt : Option Nat := none
  /-- The level is high beyond WIDTH (R117). -/
  sat : Bool := false
  /-- Start of the blanking interval of the present saturating pulse, in corrected time, and the intervals of the pulses
  before it that an edge may still meet (R118). -/
  satFrom : Nat := 0
  blanks : List (Nat × Nat) := []
deriving DecidableEq, Repr

/-! ### Bench (05) -/

/-- An input record of a bench buffer (Tables 5.2 to 5.4). Counters are sparse by their index in Table 5.2: COARSE b,
PBLK 8 m + p, ZBIN 64 z + f, ZPH 8 z + p, CSUM 3 z + i. -/
structure InRec where
  coarse : SMap Nat := []
  pblk : SMap Nat := []
  zbin : SMap Nat := []
  zph : SMap Nat := []
  csum : SMap Nat := []
  acc : Nat := 0
  out : Nat := 0
  lost : Nat := 0
  blank : Nat := 0
  coinc : Nat := 0
  shed : Nat := 0
  hyp : Nat := 0
  saturated : Bool := false
  blanked : Bool := false
  calStale : Bool := false
  failed : Bool := false
  wSat : Bool := false
  benchErr : Bool := false
  spilled : Bool := false
  dwell : Nat := 0
  head : Nat := 0
  binW : Nat := 0
  sif : Nat := 0
  dec : Nat := 0
  frame : Nat := 0
  bid : Nat := 0
  shots : Nat := 0
  nP : List Nat := [0, 0, 0, 0, 0, 0, 0, 0]
  zen : Nat := 0
  zs : List Nat := [0, 0, 0, 0]
  zoomLate : Bool := false
  dtOpen : Nat := 0
  dtClose : Nat := 0
  near : Nat := 0
  far : Nat := 0
  /-- The background prior delivered with the prefetch (R167, R204); none where it is invalid. -/
  prior : Option (List Nat) := none
deriving DecidableEq, Repr

/-- A hypothesis in the entry queue of a group (R152, R156): buffer, position, stamp, echo start, phase set. -/
structure Hyp where
  buf : Nat
  pos : Nat
  stamp : Nat
  echo : Nat
  phase : Nat
deriving DecidableEq, Repr

/-- What the coincidence filter and the decimation made of an ACC event (R148, R151). -/
inductive Fate where
  | waiting | rejected | shed | kept
deriving DecidableEq, Repr

/-- An ACC event of a group: position, corrected stamp, and its fate (R149). -/
structure Acc where
  pos : Nat
  stamp : Nat
  fate : Fate
deriving DecidableEq, Repr

/-- The GATE input of a head: the levels sampled at the last 512 edges of the timing clock, bit k that of the edge at DT
`at_` − k (R121). -/
structure Gate where
  at_ : Nat := 0
  levels : BitVec 512 := 0
deriving DecidableEq, Repr

/-! ### Detection results (06) -/

/-- A candidate of an input (R169 to R172, R180). -/
structure Cand where
  start : Nat
  len : Nat
  peak : Nat := 0
  /-- E_run, UQ.8. -/
  excess : Nat := 0
  /-- Be at the peak bin, and Lc at the start bin. -/
  be : Nat := 0
  lc : Nat := 0
  balNa : Bool := false
  balFail : Bool := false
  balRatio : Nat := 0
  balSets : Nat := 0
  /-- Class (Table 0.6). -/
  cls : Nat := 0
  prot : Bool := false
  warn : Bool := false
deriving DecidableEq, Repr

/-- A return slot (Table 6.5). -/
structure RetSlot where
  range : Nat := 0xFFFFFFFF
  cls : Nat := 0
  prot : Bool := false
  warn : Bool := false
  balNa : Bool := false
  path : Nat := 0
  widthCoarse : Bool := false
  shadowed : Bool := false
  zwin : Nat := 0
  peakBin : Nat := 0
  intensity : Nat := 0
  width : Nat := 0
  excess : Nat := 0
  bg : Nat := 0
  runStart : Nat := 0
  runLen : Nat := 0
  balRatio : Nat := 0
  balSets : Nat := 0
  /-- Fine time in 1/8,192 ns (R183, R209), and whether the class or the breach was decided on the slow path. -/
  fine : Int := 0
  slow : Bool := false
deriving DecidableEq, Repr

/-- Detection results of an input (Table 6.4), with its candidates (R182). -/
structure Det where
  bSeg : List Nat := []
  live : Nat := 0
  blind : Bool := false
  candOvf : Bool := false
  satNoRange : Bool := false
  fieldLate : Bool := false
  noEval : Bool := false
  /-- NO_EVAL is set because of FAILED or BENCH_ERR (R181). -/
  failed : Bool := false
  prot : Bool := false
  warn : Bool := false
  calStale : Bool := false
  ovfBin : Nat := 0xFFFF
  fset : Nat := 0
  ovrSet : Nat := 0
  ovr : Bool := false
  slots : List RetSlot := []
  cands : List Cand := []
deriving DecidableEq, Repr

/-- The field line of a bearing as it has reached the evaluator and the two safety islands (R176, R300): the dwells for which
it has come and which have not closed yet, its eight entries, and whether the check of each island matched. -/
structure FieldLine where
  fab : Nat := 0
  a : Nat := 0
  b : Nat := 0
  words : List Nat := []
  okA : Bool := true
  okB : Bool := true
deriving DecidableEq, Repr

/-- One bearing of a closed dwell: input, BID, its field line, its results, and how far its record has come. -/
structure Item where
  n : Nat
  bid : Nat
  /-- The input is assigned to no head (R164). -/
  un : Bool := false
  fab : Bool := false
  a : Bool := false
  b : Bool := false
  words : List Nat := []
  okA : Bool := true
  okB : Bool := true
  det : Option Det := none
  /-- WEAK_PERSISTENT candidates and SOLID_MOVING returns passed to the islands and not decided yet (R207, R208). -/
  slow : List Cand := []
  /-- Its record has been placed in the merge queue or the spill ring (R160). -/
  moved : Bool := false
  /-- Its record has been merged, dropped, or is not moved at all (R160). -/
  done : Bool := false
  dropped : Bool := false
deriving DecidableEq, Repr

/-- A dwell that has closed and is being evaluated, decided, moved and formatted (R18, R158). -/
structure Closed where
  dwell : Nat := 0
  slot : Nat := 0
  frame : Nat := 0
  desc : List Nat := []
  shots : List Shot := []
  openAt : Nat := 0
  closeAt : Nat := 0
  /-- Seed of the dwell (R151). -/
  seed : Nat := 1
  /-- Shots that opened a receive window (R20). -/
  fired : Nat := 0
  /-- It is left out of the digest comparison of a pair (R338, R339). -/
  excluded : Bool := false
  /-- It is the last dwell of its frame. -/
  last : Bool := false
  /-- Its breach is forced: a timing PLL lost lock during the dwell (R424), or an island's deadline passed (R22). -/
  forced : Bool := false
  /-- Odometer at the close in µm (R197, R200). -/
  od : Int := 0
  /-- Selection and override in force at the close (R179). -/
  fset : Nat := 0
  ovrSet : Nat := 0
  ovr : Bool := false
  /-- No result of the dwell is used (the third case of R164, taken at dwell close). -/
  quiet : Bool := false
  items : List Item := []
  /-- Groups whose close marker has passed, and which have been evaluated. -/
  complete : List Nat := []
  evaluated : List Nat := []
  /-- What islands A and B found on the fast path: BID, protective and warning breach. -/
  resA : List (Nat × Bool × Bool) := []
  resB : List (Nat × Bool × Bool) := []
  /-- The islands have decided the dwell on the fast path, on the slow path, and its records have been formatted. -/
  decided : Bool := false
  slowDone : Bool := false
  formatted : Bool := false
deriving DecidableEq, Repr

/-- A compacted record with its detection results, in a merge-queue slot or the spill ring (Table 5.6). -/
structure MqRec where
  /-- The merge-queue slot it lies in (Table 5.1), or its place in the spill ring (Table 15.1). -/
  place : Nat := 0
  n : Nat
  input : InRec
  det : Det
  /-- Program slot, descriptor and odometer of its dwell. -/
  slot : Nat
  desc : List Nat
  od : Int
deriving DecidableEq, Repr

/-- The selection and visibility of a head (06): the band in force (8 above every band, none while speed is invalid; R177),
and the contributions of the present frame: the sum of σ in 2^-40 per metre and their number (R187). -/
structure Sel where
  band : Option Nat := none
  visSum : Int := 0
  visN : Nat := 0
deriving DecidableEq, Repr

/-- A group island (05). -/
structure Group where
  /-- The buffer that takes the present dwell. -/
  use : Nat := 0
  /-- Input records by buffer × 16 + position. -/
  recs : SMap InRec := []
  /-- ACC events that the coincidence filter still needs, or that a saturation may still blank, in order of arrival. -/
  events : List Acc := []
  /-- Position and corrected stamp of the OUT edges that a saturation may still blank (R118). -/
  outs : List (Nat × Nat) := []
  /-- Passed events since dwell open, c[j] of R151, by buffer × 16 + position. -/
  passed : SMap Nat := []
  queue : List Hyp := []
  /-- Detection results of the closed dwell, by position. -/
  dets : SMap Det := []
  /-- Merge queue, oldest first. -/
  mq : List MqRec := []
deriving DecidableEq, Repr
/-! ### Bearings (07) -/

/-- A return track (Table 7.2). -/
structure Track where
  range : Nat := 0
  rate : Int := 0
  dt : Nat := 0
  hits : Nat := 0
  miss : Nat := 0
  movRun : Nat := 0
  used : Bool := false
  moving : Bool := false
deriving DecidableEq, Repr

/-- A bearing record (Tables 7.1 to 7.4). -/
structure Bear where
  pc : List Nat := []
  pz : List (List Nat) := []
  pzph : List (List Nat) := []
  ps0 : List Nat := []
  ps1 : List Int := []
  ps2 : List Nat := []
  bgs : List Nat := []
  tracks : List Track := []
  ux : Nat := 0
  uy : Nat := 0
  uz : Nat := 0
  cos : Nat := 0
  head : Nat := 0
  slot : Nat := 0
  binW : Nat := 0
  near : Nat := 0
  dwell : Nat := 0
  age : Nat := 0
  valid : Bool := false
  priorValid : Bool := false
  frozen : Bool := false
  invalid : Bool := false
  epoch : Nat := 0
  dtLast : Nat := 0
  odLast : Int := 0
  zsNext : List Nat := []
  zenNext : Nat := 0
  zsAlign : List Nat := []
  seq : Nat := 0
deriving DecidableEq, Repr

/-- Where a staging line stands (R192). -/
inductive StageAt where
  /-- Its read has been issued. -/
  | fetching
  /-- The record is staged. -/
  | staged
  /-- Its write-back has not completed yet. -/
  | writing
deriving DecidableEq, Repr

/-- A staging line of a return input (R192). -/
structure StageLine where
  bid : Nat
  at_ : StageAt
  bear : Bear := {}
  /-- A dwell that updates it has closed and its merge is still to come. -/
  pend : Bool := false
deriving DecidableEq, Repr

/-- The two staging lines of a return input, the bearings whose reads wait for a free one, first the one that comes first, and
the bearing that the next dwell shares with the present one (R192). -/
structure Staging where
  lines : List StageLine := []
  wanted : List Nat := []
  same : Option Nat := none
deriving DecidableEq, Repr

/-- One tachometer channel (R194, R195): stamps in 1/256 ns, newest first; its speed at the last gate end in µm/s. -/
structure TachCh where
  stamps : List Nat := []
  speed : Option Nat := none
deriving DecidableEq, Repr

/-- Speed logic (R194 to R199). Speeds in µm/s, signed. -/
structure Tach where
  a : TachCh := {}
  b : TachCh := {}
  /-- No gate has been evaluated since reset (cause START). -/
  start : Bool := true
  gateAt : Nat := 0
  v : Int := 0
  reverse : Bool := false
  /-- DT at which the last cause cleared. -/
  clearAt : Option Nat := none
  /-- Odometer at the last gate end, µm. -/
  od : Int := 0
deriving DecidableEq, Repr

/-- The bearing manager beyond its registers. `zenLast` holds the zoom windows of a bearing's last update, by BID. -/
structure Babbitt where
  stage : SMap Staging := []
  zenLast : SMap Nat := []
  tach : Tach := {}
deriving DecidableEq, Repr

/-! ### Output frames and network ports (08) -/

/-- The types of frame (Table 8.3); an alarm frame is island A's copy or island B's. Frames of no type: one that
is whole as it is queued, from the pair's shared address or from the node's (R227, R229); a message of IEEE 802.1AS (R232). -/
inductive FrameKind where
  | points | geometry | alarm (b : Bool) | event | status
  | raw (shared : Bool)
  | gptp (m : PtpMsg)
deriving DecidableEq, Repr

/-- A frame in an egress queue (R217, R230). Its role, its records of points and its CRC are formed when it is sent. -/
structure EgFrame where
  kind : FrameKind
  /-- Stream 0 to 15; 0 for a safety frame. -/
  stream : Nat
  head : Nat
  seq : Nat
  /-- DT at which it was queued. -/
  dt : Nat
  first : Nat
  count : Nat
  /-- Ring indices of the records of a point frame, in order; the body of a frame of another type; a frame of no type whole. -/
  recs : List Nat := []
  body : List (BitVec 8) := []
deriving DecidableEq, Repr

/-- The open point frame of a stream and head (R218): ring indices, newest first, DT of its first record, scan frame. -/
structure OpenFrame where
  recs : List Nat := []
  openAt : Nat := 0
  frame : Nat := 0
deriving DecidableEq, Repr

/-- A head's latest decision, as alarm frames carry it (Table 8.5). -/
structure Alarm where
  prot : Bool := false
  warn : Bool := false
  slow : Bool := false
  forced : Bool := false
  dwell : Nat := 0
  nProt : Nat := 0
  nWarn : Nat := 0
  close : Nat := 0
  frame : Nat := 0
  firstBid : Nat := 0xFFFFF
  /-- Selected set at the decision. -/
  set : Nat := 0
deriving DecidableEq, Repr

/-- The credit-based shaper of a queue (R230): credit in thousandths of a bit at DT `at_`. -/
structure Shaper where
  credit : Int := 0
  at_ : Nat := 0
deriving DecidableEq, Repr

/-- The IEEE 802.1AS instance of a port (R232), times in 1/256 ns: sequence numbers of its peer-delay requests; the sequence
number, departure and arrivals of the exchange in hand; the peer delay; the sequence number and ingress stamp of the last Sync. -/
structure Ptp where
  seq : Nat := 0
  t1 : Option Nat := none
  t2 : Option Nat := none
  t4 : Nat := 0
  delay : Option Int := none
  sync : Option (Nat × Nat) := none
deriving DecidableEq, Repr

/-- One entry of the duplicate table (R229): source, PRP sequence, DT. -/
structure PrpSeen where
  src : Nat
  seq : Nat
  at_ : Nat
deriving DecidableEq, Repr

/-- Output beyond its registers. -/
structure Net where
  /-- Open point frames by stream × 16 + head. -/
  opened : SMap OpenFrame := []
  /-- Egress queues by port × 8 + queue, oldest first. -/
  queues : SMap (List EgFrame) := []
  /-- Streams whose next point frame carries GAP, bit per stream (R216). -/
  gap : Nat := 0
  /-- The SEQ that all safety frames share (R225), last queued and last transmitted. -/
  safeSeq : Nat := 0
  safeSent : Nat := 0
  /-- Last SEQ transmitted of each stream (R226). -/
  sentSeq : SMap Nat := []
  /-- Geometry generation of each head (R219). -/
  geoGen : SMap Nat := []
  /-- Latest decision of each head in each island, by 2 h + island, and the DT of the head's last alarm frame (R220). -/
  alarms : SMap Alarm := []
  alarmAt : SMap (Option Nat) := []
  /-- DT at which a stream last sent the table of a head, by stream × 16 + head (R219); of the last status frame (R222); of the
  last supervision frame, with its sequence number (R229); and of the last PRP frame received on each plane (R234). -/
  geoAt : SMap Nat := []
  statusAt : Option Nat := none
  supAt : Option Nat := none
  supSeq : Nat := 0
  planeAt : SMap Nat := []
  /-- Shapers by port × 8 + queue, and the DT until which each port transmits (R230). -/
  shapers : SMap Shaper := []
  busyTo : SMap Nat := []
  /-- The IEEE 802.1AS instances of the ports (R232). -/
  ptp : SMap Ptp := []
  /-- Scan frame in which each ring last raised NET_RING_OVERRUN, plus 1 (R216). -/
  overrun : SMap Nat := []
  /-- The frame each network port last transmitted. -/
  onPort : SMap (List (BitVec 8)) := []
  /-- Received frames of the duplicate table, newest first (R229). -/
  seen : List PrpSeen := []
  /-- DT of the last dropped received frame (R234). -/
  dropAt : Option Nat := none
deriving DecidableEq, Repr

/-! ### Lanes and Nolaetus ports (16) -/

/-- A lane beyond its registers (R403, R407). -/
structure LaneSt where
  /-- A failure cause is present. -/
  failing : Bool := false
  /-- It has failed and has not been restored to RX_OK. -/
  failed : Bool := false
  /-- DT of its first failure and failures since (R407). -/
  firstAt : Nat := 0
  fails : Nat := 0
  /-- DT at which its training began, while its receiver is not locked (R401). -/
  trainAt : Option Nat := none
  /-- DT since which it runs without the cause of its last failure (R407). -/
  cleanAt : Nat := 0
  /-- DT of the last LANE_FEC_UNCORR (R398). -/
  badAt : Option Nat := none
deriving DecidableEq, Repr

/-- A Nolaetus port beyond its registers (R402, R404, R405, R408). -/
structure PortSt where
  /-- RX_OK of the far end's latest report. -/
  report : Option Nat := none
  /-- A transmit set that waits to be applied, and the DT of what called for it. -/
  pend : Option Nat := none
  pendAt : Nat := 0
  /-- Reports sent, the last one as sent, its DT, and the receive set it reported. -/
  reports : Nat := 0
  sent : List (BitVec 8) := []
  sentAt : Option Nat := none
  sentSet : Nat := 0
  /-- DT since which a direction of a head link has no lane. -/
  noLane : Option Nat := none
  /-- Exchanges of MARKERs whose offset is not to be passed on (R408). -/
  skip : Nat := 0
deriving DecidableEq, Repr

/-- Lanes, by quad × 4 + lane, ports H0 to H15, C0 to C3, K0 to K3, P0, P1, and the last management answer of each head:
status, data, tag (Table 16.3). -/
structure Lanes where
  lane : SMap LaneSt := []
  port : SMap PortSt := []
  mgmt : SMap (Nat × Nat × Nat) := []
deriving DecidableEq, Repr

/-! ### Twin pairs (13) -/

/-- The pair logic beyond its registers. Token-line codes are (A, B) of Table 13.1: 2 CLAIM, 1 RELEASE, 0 DEAD, 3 CONFLICT. -/
structure PairSt where
  /-- HB_SEQ of the next heartbeat, and the last frame sent on the pair ports. -/
  hbSeq : Nat := 0
  sent : List (BitVec 8) := []
  /-- DT of the seal (R332) and of the last heartbeat sent (R335, R351). -/
  sealAt : Nat := 0
  sentAt : Option Nat := none
  /-- HB_SEQ of the last heartbeat accepted, its deadline (R336), and what it said. -/
  rxSeq : Option Nat := none
  deadline : Option Nat := none
  partner : Option Heartbeat := none
  /-- The token has been released for handover (R344). -/
  handover : Bool := false
  /-- Both islands have decided to claim, and the claim takes the token over from a partner (R345, R346, R349). -/
  claim : Bool := false
  takeover : Bool := false
  /-- DT of the CLAIM driven whose read-back is still to come. -/
  claimAt : Option Nat := none
  /-- DT at which FIRE_INHIBIT.TOKEN has cleared (R347). -/
  tokenAt : Nat := 0
  /-- DT at which TOKEN_IN last read CLAIM or CONFLICT. -/
  busyAt : Option Nat := none
  /-- Retries after conflicts, and a retry is due (R346). -/
  retry : Nat := 0
  retryDue : Bool := false
  /-- The token has been released and may be claimed again only after rejoining (R349). -/
  released : Bool := false
  /-- Consecutive heartbeats in which the own lines, or the partner's, were not read as driven; faults found (R337). -/
  ownMis : Nat := 0
  parMis : Nat := 0
  ownFault : Bool := false
  parFault : Bool := false
  /-- The heartbeat was lost while the partner held the token (R350). -/
  linkLost : Bool := false
  /-- The pair has formed: PAIR_CID holds its code identity (R333). -/
  formed : Bool := false
  /-- CID and frame numbers are adopted at the next frame start of the heads of this mask (R333, R338). -/
  adopt : Nat := 0
  /-- Digests formed, each with its DT, and received that have not been compared yet, by head, oldest first (R342). -/
  own : SMap (List (Digest × Nat)) := []
  theirs : SMap (List Digest) := []
  /-- Heads whose dwell in progress is excluded from the comparison (R338, R339). -/
  excluded : Nat := 0
  /-- Results of the last 64 compared dwells of each head, newest first; true is a mismatch. -/
  history : SMap (List Bool) := []
  /-- BIDs requested again (R353). -/
  requested : List Nat := []
  /-- DT of the last echo seen, and the one from which PAIR_GAP is counted (R349). -/
  lastEcho : Nat := 0
  gapFrom : Option Nat := none
deriving DecidableEq, Repr

/-! ### Domains (14) -/

/-- A Svetne message as sent: type (Table 14.2), header, and the values of its body in the order Table 14.2 names them; the
spec does not lay the bodies out. [DESIGN CHOICE, log 88] -/
structure DomMsg where
  type : Nat
  hdr : DomHdr
  body : List Nat
deriving DecidableEq, Repr

/-- An admitted device in the master's table (R363, R365). -/
structure Member where
  did : Nat
  serial : Nat
  role : Nat := 0
  depth : Nat := 0
  heads : Nat := 0
  /-- It has answered the last ROLL; ROLLs it has not answered in a row. -/
  answered : Bool := true
  missed : Nat := 0
deriving DecidableEq, Repr

/-- A plan that waits for its effective DT (R366). -/
structure PlanPend where
  gen : Nat
  eff : Nat
  entries : List PlanEntry
deriving DecidableEq, Repr

/-- A released DID, the serial number it stays reserved for, and the DT of its release (R363). -/
structure Reserve where
  did : Nat
  serial : Nat
  at_ : Nat
deriving DecidableEq, Repr

/-- Domain logic beyond its registers. Port 4 stands for the network. -/
structure Dom where
  seq : Nat := 0
  /-- The DT at which a port last sent, and the bytes of the messages it sent then, in order. -/
  sent : SMap (Nat × List (List Byte)) := []
  /-- DT of the last BEACON and of the last ROLL sent (Table 14.2). -/
  beaconAt : Option Nat := none
  rollAt : Option Nat := none
  /-- Ports behind which a DID, or a serial number, has been seen. -/
  routes : List (Nat × Nat) := []
  serials : List (Nat × Nat) := []
  /-- Deadline of the BEACON on each port (R372). -/
  deadlines : SMap (Option Nat) := []
  /-- Admission table, oldest first, and released DIDs that stay reserved for their last serial (R363, R365). -/
  table : List Member := []
  reserved : List Reserve := []
  /-- Departure of the last MARKER and stamps of the last exchange by port, 1/256 ns: t1 (parent); t2 and t3 (child). -/
  t1 : SMap Nat := []
  t2 : SMap Nat := []
  t3 : SMap Nat := []
  /-- Ports whose hop delay has been computed (R363). -/
  hopKnown : SMap Bool := []
  /-- Plans received: the one due last, and those that wait for their effective DT (R366). -/
  plans : List PlanPend := []
  /-- A master's plan of the domain and its generation (R366). -/
  domPlan : List (Nat × PlanEntry) := []
  planGen : Nat := 0
  /-- DT of the last edge repeated on SYNC_OUT (R361). -/
  syncOut : Option Nat := none
deriving DecidableEq, Repr

/-! ### Memory controllers (15) -/

/-- A request with what it carries: the bytes to write; and the bytes read, once it has been issued (R382, R383). -/
structure MemJob where
  req : MemReq
  at_ : Nat
  data : List (BitVec 8) := []
deriving DecidableEq, Repr

/-- A pseudo-channel (R382, R385, R386): its read and write queues and the reads issued to the stack, oldest first. -/
structure Pc where
  reads : List MemJob := []
  writes : List MemJob := []
  out : List MemJob := []
  /-- A write drain begun at 48 entries continues. -/
  draining : Bool := false
  /-- DT of the last request it received. -/
  lastAt : Nat := 0
  /-- DT of its last retraining pause (R385). -/
  pausedAt : Option Nat := none
  /-- Stored settings of 6.4 Gb/s and of 4.8 Gb/s, and failed retrainings in a row. -/
  fast : BitVec 32 := 0
  slow : BitVec 32 := 0
  fails : Nat := 0
deriving DecidableEq, Repr

/-- A port (R379, R381): its bucket in quarter bytes, when it was last filled, the requests it holds, oldest first, and the
data of its last read. -/
structure MemPort where
  tokens : Nat := 0
  at_ : Nat := 0
  held : List MemJob := []
  data : List (BitVec 8) := []
  /-- The last read came with an error indication (R388). -/
  bad : Bool := false
deriving DecidableEq, Repr

/-- The memory controllers beyond their registers. -/
structure Mem where
  pcs : SMap Pc := []
  ports : SMap MemPort := []
  /-- Channels in self-refresh, bit 16 × stack + channel (R386). -/
  asleep : Nat := 0
  /-- Start of the retraining cycle (R385). -/
  cycleAt : Nat := 0
  /-- DTs of the uncorrectable errors of each stack within the last second, newest first (R390). -/
  ues : SMap (List Nat) := []
  /-- Next 64-byte unit of the scrubber, and the DT at which its pass began (R389). -/
  scrubAt : Nat := 0
  scrubFrom : Nat := 0
deriving DecidableEq, Repr

/-! ### Boot, sessions, flash (20), MSPI (22) -/

/-- An open session or handshake (R477 to R480). [DEDUCED, log 120] -/
structure Session where
  /-- It runs on the recovery port (R472). -/
  recovery : Bool := false
  /-- Signing root of the certificate, 0 to 3 in the order of Table 20.4. -/
  root : Nat := 0
  /-- PERM and NOT_AFTER of the certificate. -/
  perm : Nat := 0
  notAfter : Nat := 0
  /-- Next sequence number expected from the host; records sent; DT of the last valid record. -/
  rxSeq : Nat := 0
  txSeq : Nat := 0
  lastAt : Nat := 0
  /-- Heads that the session lets leave PARKED (R480). -/
  heads : Nat := 0
deriving DecidableEq, Repr

/-- The answer of a service (R480): performed or refused, and what it returns. -/
structure Answer where
  ok : Bool := false
  data : List (BitVec 8) := []
deriving DecidableEq, Repr

/-- Electrum beyond its registers. -/
structure Boot where
  fuses : Fuses := {}
  /-- The boot flash, byte by byte (R463). -/
  flash : SMap (BitVec 8) := []
  /-- Fuse load and HBM training of this boot are done. -/
  loaded : Bool := false
  trained : Bool := false
  /-- Candidates not tried yet, in the order of R469, and how many have been tried. -/
  cands : List (Nat × Manifest) := []
  tried : Nat := 0
  /-- The slot that has passed, waiting for its seal, or sealed. -/
  passed : Option (Nat × Manifest × Image) := none
  /-- AUTO_COMMIT of the sealed image, and the DT of the last automatic advance that was refused (R471). -/
  autoCommit : Bool := false
  triedAt : Option Nat := none
  session : Session := {}
  answer : Answer := {}
deriving DecidableEq, Repr

/-- The MSPI port beyond its registers (R497 to R500): the bytes of the last read, and the shadows of _HI halves by
interface (R5). -/
structure Mspi where
  out : List (BitVec 8) := []
  /-- High halves frozen by a read of a _LO register, by address, MSPI's and the session's. -/
  shadowM : SMap Nat := []
  shadowS : SMap Nat := []
deriving DecidableEq, Repr


/-! ### The whole state -/

/-- A head beyond its registers. -/
structure Head where
  scan : Scan := {}
  fire : Fire := {}
  chain : Chain := {}
  servo : Servo := {}
  eye : Eye := {}
  power : HeadPower := {}
  /-- The breach states of islands A and B. -/
  breachA : Breach := {}
  breachB : Breach := {}
  image : HeadImage := {}
  closed : Closed := {}
  sel : Sel := {}
  gate : Gate := {}
deriving DecidableEq, Repr

/-- The W1C bits that the device has set at the DT `at_`, as (address, bit): a clearing write at the same DT leaves them set
(R7). [DESIGN CHOICE, log 142] -/
structure Fresh where
  at_ : Nat := 0
  bits : List (Nat × Nat) := []
deriving DecidableEq, Repr

/-- The state of the block. -/
structure State where
  /-- Commands waiting, first in, first out. -/
  pending : List Instr
  /-- DT nanoseconds and the 8-bit fine part (R4). -/
  dt : Time
  fine : BitVec 8
  /-- Every register word, by address (Table 22.1). -/
  regs : SMap Word
  fresh : Fresh
  /-- The HBM stacks, byte by byte (Table 15.1). -/
  hbm : SMap Byte
  heads : SMap Head
  dev : Dev
  clk : Clk
  pwr : Pwr
  thm : Thm
  safe : Safe
  /-- Delay lines, groups and the bench spill ring, oldest record first. -/
  lines : SMap Line
  groups : SMap Group
  spill : List (Nat × MqRec)
  /-- Field lines that have come for dwells not yet closed, by BID. -/
  fields : SMap FieldLine
  babbitt : Babbitt
  cap : Cap
  net : Net
  lanes : Lanes
  pair : PairSt
  dom : Dom
  mem : Mem
  hk : Hk
  boot : Boot
  mspi : Mspi
  /-- Counter from which free values are drawn: the model's own field, not the spec's. -/
  free : Nat
deriving DecidableEq, Repr

/-- The machine right after reset: every register at its reset value, memories as unlisted, queues empty. [DESIGN CHOICE, log 3] -/
def State.reset : State where
  pending := []
  dt := 0
  fine := 0
  regs := []
  fresh := {}
  hbm := []
  heads := []
  dev := {}
  clk := {}
  pwr := {}
  thm := {}
  safe := {}
  lines := []
  groups := []
  spill := []
  fields := []
  babbitt := {}
  cap := {}
  net := {}
  lanes := {}
  pair := {}
  dom := {}
  mem := {}
  hk := {}
  boot := {}
  mspi := {}
  free := 0

end Sys2Proof.Machine
end

