-- ==== Sys2Proof/Machine/Ops.lean ====
section
/-! DEFINITION. The named operations over the registers, the memories, time, the event log and the device state, which
every meaning shares. -/

namespace Sys2Proof.Machine

/-! ### Time (R4, R416) -/

/-- The DT nanosecond count as a number. -/
def State.now (s : State) : Nat := s.dt.toNat

/-- DT at which a command comes: DT never runs back. [DESIGN CHOICE, log 4] -/
def State.upTo (s : State) (t : Time) : State :=
  { s with dt := if s.dt.toNat ≤ t.toNat then t else s.dt }

/-! ### Registers (R7, R491) -/

/-- The word at a register address, as a number. [DESIGN CHOICE, log 15] -/
def State.word (s : State) (a : Nat) : Nat := (SMap.get resetWord s.regs a).toNat

/-- Put a word at a register address. -/
def State.setWord (s : State) (a v : Nat) : State :=
  { s with regs := SMap.set resetWord s.regs a (BitVec.ofNat 32 v) }

/-- The value of a register field. -/
def State.rd (s : State) (f : FRef) : Nat := bits (s.word f.addr) f.hi f.lo

/-- Is a field other than 0? -/
def State.on (s : State) (f : FRef) : Bool := s.rd f != 0

/-- The value of a signed register field. -/
def State.rdS (s : State) (f : FRef) : Int := sext (f.hi - f.lo + 1) (s.rd f)

/-- Put a value (narrowed) in a register field; the other bits of the word stay. -/
def State.wr (s : State) (f : FRef) (v : Nat) : State :=
  s.setWord f.addr (putBits (s.word f.addr) f.hi f.lo v)

/-- Put a signed value in a register field, wrapping. -/
def State.wrS (s : State) (f : FRef) (v : Int) : State := s.wr f (wrapS (f.hi - f.lo + 1) v)

/-- Put a flag in a field. -/
def State.wrB (s : State) (f : FRef) (b : Bool) : State := s.wr f (flag b)

/-- Add to a counter that wraps (R487). -/
def State.add (s : State) (f : FRef) (n : Nat) : State := s.wr f (s.rd f + n)

/-- Advance a counter that wraps (R487). -/
def State.inc (s : State) (f : FRef) : State := s.add f 1

/-- Advance a counter that saturates (R487). -/
def State.incSat (s : State) (f : FRef) : State :=
  s.wr f (satU (f.hi - f.lo + 1) (s.rd f + 1))

/-- The 64-bit value of a _LO/_HI pair. -/
def State.rd64 (s : State) (lo hi : FRef) : Nat := s.rd lo + 2 ^ 32 * s.rd hi

/-- Write a 64-bit value to a _LO/_HI pair. -/
def State.wr64 (s : State) (lo hi : FRef) (v : Nat) : State :=
  (s.wr lo (v % 2 ^ 32)).wr hi (v / 2 ^ 32)

/-- Bit `i` of a mask field. -/
def State.bitOf (s : State) (f : FRef) (i : Nat) : Bool := bit (s.rd f) i

/-- Set or clear bit `i` of a mask field. -/
def State.wrBit (s : State) (f : FRef) (i : Nat) (b : Bool) : State :=
  s.wr ⟨f.addr, f.lo + i, f.lo + i⟩ (flag b)

/-- The device sets a W1C bit (R7). [DESIGN CHOICE, log 142] -/
def State.latch (s : State) (f : FRef) : State :=
  let s := s.wr f 1
  { s with fresh := ⟨s.now, (f.addr, f.lo) :: if s.fresh.at_ = s.now then s.fresh.bits else []⟩ }

/-- Has the device set a W1C bit at the present DT (R7)? -/
def State.latched (s : State) (a i : Nat) : Bool := s.fresh.at_ == s.now && s.fresh.bits.contains (a, i)

/-! ### Memories -/

/-- What an unlisted byte of the HBM reads as: 0, as the wipe leaves it (R391). [DESIGN CHOICE, log 5] -/
def hbmDefault (_ : Nat) : Byte := 0

/-- One byte of the HBM. -/
def State.hbmByte (s : State) (a : Nat) : Byte := SMap.get hbmDefault s.hbm a

/-- Bytes of the HBM from an address on. -/
def State.hbmBytes (s : State) (a n : Nat) : List Byte := (List.range n).map fun i => s.hbmByte (a + i)

/-- A number of `n` bytes of the HBM, least significant first (R3). -/
def State.hbmNat (s : State) (a n : Nat) : Nat := ofBytesLE (s.hbmBytes a n)

/-- Write bytes into a byte memory from an address on. -/
def writeBytes (d : Nat → Byte) : SMap Byte → Nat → List Byte → SMap Byte
  | m, _, [] => m
  | m, a, b :: bs => writeBytes d (SMap.set d m a b) (a + 1) bs

/-- Write bytes to the HBM. [DEDUCED, log 93] -/
def State.hbmWrite (s : State) (a : Nat) (bs : List Byte) : State :=
  { s with hbm := writeBytes hbmDefault s.hbm a bs }

/-- The pseudo-channel that serves an HBM address (R376). [DEDUCED, log 94] -/
def pcOf (a : Nat) : Nat := (a / 2 ^ 8 ^^^ a / 2 ^ 14 ^^^ a / 2 ^ 20) % 64

/-- The stack that serves an HBM address (R376). -/
def stackOf (a : Nat) : Nat := pcOf a / 32

/-- Has the stack of an address failed: every request to it completes as uncorrectable (R390)? [DEDUCED, log 96] -/
def State.stackLost (s : State) (a : Nat) : Bool := s.bitOf R.MEM_STATUS.STACK_FAIL (stackOf a)

/-! ### Heads -/

/-- What an unlisted head is: a head right after reset. -/
def headDefault (_ : Nat) : Head := {}

/-- Head `h` beyond its registers. -/
def State.head (s : State) (h : Nat) : Head := SMap.get headDefault s.heads h

/-- Change head `h`. -/
def State.updHead (s : State) (h : Nat) (f : Head → Head) : State :=
  { s with heads := SMap.upd headDefault s.heads h f }

def State.updScan (s : State) (h : Nat) (f : Scan → Scan) : State :=
  s.updHead h fun H => { H with scan := f H.scan }

def State.updFire (s : State) (h : Nat) (f : Fire → Fire) : State :=
  s.updHead h fun H => { H with fire := f H.fire }

def State.updChain (s : State) (h : Nat) (f : Chain → Chain) : State :=
  s.updHead h fun H => { H with chain := f H.chain }

def State.updServo (s : State) (h : Nat) (f : Servo → Servo) : State :=
  s.updHead h fun H => { H with servo := f H.servo }

def State.updEye (s : State) (h : Nat) (f : Eye → Eye) : State :=
  s.updHead h fun H => { H with eye := f H.eye }

def State.updPower (s : State) (h : Nat) (f : HeadPower → HeadPower) : State :=
  s.updHead h fun H => { H with power := f H.power }

/-- The breach states of head `h` in island A (false) or B (R302). -/
def State.breachOf (s : State) (h : Nat) (b : Bool) : Breach := if b then (s.head h).breachB else (s.head h).breachA

def State.updBreach (s : State) (h : Nat) (b : Bool) (f : Breach → Breach) : State :=
  s.updHead h fun H => if b then { H with breachB := f H.breachB } else { H with breachA := f H.breachA }

/-- Do something for island A, then for island B. -/
def State.eachIsland (s : State) (f : Bool → State → State) : State := f true (f false s)

/-- Change the device part of the state. -/
def State.updDev (s : State) (f : Dev → Dev) : State := { s with dev := f s.dev }

def State.updClk (s : State) (f : Clk → Clk) : State := { s with clk := f s.clk }

def State.updPwr (s : State) (f : Pwr → Pwr) : State := { s with pwr := f s.pwr }

def State.updThm (s : State) (f : Thm → Thm) : State := { s with thm := f s.thm }

def State.updSafe (s : State) (f : Safe → Safe) : State := { s with safe := f s.safe }

def State.updCap (s : State) (f : Cap → Cap) : State := { s with cap := f s.cap }

/-- Do something for each head, H0 first. -/
def State.eachHead (s : State) (f : Nat → State → State) : State :=
  (List.range 16).foldl (fun s h => f h s) s

/-- Do something for each index below `n`, the lowest first. -/
def State.each (s : State) (n : Nat) (f : Nat → State → State) : State :=
  (List.range n).foldl (fun s i => f i s) s

/-- Do something only when a condition holds. -/
def State.when (s : State) (c : Bool) (f : State → State) : State := if c then f s else s

/-! ### Free values -/

/-- Draw a free value of `w` bits: what the spec leaves open. [DESIGN CHOICE, log 2] -/
def State.freeVal (s : State) (w : Nat) : Nat := (Config.freeBits s.free).toNat % 2 ^ w

/-- Step past a free value that has been used. [DESIGN CHOICE, log 2] -/
def State.drawn (s : State) : State := { s with free := s.free + 1 }

/-- What is done every `n` ns is due again, `a` being the last time: `n` ns have passed, or DT has stepped back behind it (R418).
[DESIGN CHOICE, log 144] -/
def State.dueAgain (s : State) (a : Option Nat) (n : Nat) : Bool := a.all fun a => decide (a + n ≤ s.now) || decide (s.now < a)

/-! ### Memory ports (R379, R381) -/

def State.updMem (s : State) (f : Mem → Mem) : State := { s with mem := f s.mem }

def memPortDefault (_ : Nat) : MemPort := {}

/-- Memory port `p`. -/
def State.memPort (s : State) (p : Nat) : MemPort := SMap.get memPortDefault s.mem.ports p

def State.updMemPort (s : State) (p : Nat) (f : MemPort → MemPort) : State :=
  s.updMem fun m => { m with ports := SMap.upd memPortDefault m.ports p f }

/-- Fill the bucket of a port: RATE × 0.25 GB/s, up to BURST KiB (R379). [DEDUCED, log 94] -/
def State.fillBucket (s : State) (p : Nat) : State :=
  s.updMemPort p fun x => { x with
    tokens := min (x.tokens + (s.now - x.at_) * s.rd (R.MEM_PORT.RATE p)) (4096 * s.rd (R.MEM_PORT.BURST p))
    at_ := s.now }

/-- Is a port regulated (R379)? -/
def State.regulated (s : State) (p : Nat) : Bool := decide (2 ≤ p) && s.on (R.MEM_PORT.RATE p)

/-- A part asks at its own port for `n` bytes: the tokens go, or the port lacks them and counts the stall (R379, R381).
[DEDUCED, log 93] -/
def State.portTake (s : State) (p n : Nat) : State × Bool :=
  let s := s.fillBucket p
  if !s.regulated p then (s, true)
  else if 4 * n ≤ (s.memPort p).tokens then (s.updMemPort p fun x => { x with tokens := x.tokens - 4 * n }, true)
  else (s.inc (R.MEM_PORT_STALL.COUNT p), false)

/-! ### Sequencer occurrences (R247) -/

/-- What an unlisted sequencer is. -/
def seqDefault (_ : Nat) : Seqr := {}

def State.seqr (s : State) (q : Nat) : Seqr := SMap.get seqDefault s.cap.seqs q

def State.updSeqr (s : State) (q : Nat) (f : Seqr → Seqr) : State :=
  s.updCap fun c => { c with seqs := SMap.upd seqDefault c.seqs q f }

/-- Put an occurrence in time order; equal times in the order of Table 9.5 (R248). -/
def insertOcc (o : Occ) : List Occ → List Occ
  | [] => [o]
  | p :: ps =>
    if o.time < p.time ∨ (o.time = p.time ∧ o.src < p.src) then o :: p :: ps else p :: insertOcc o ps

/-- An occurrence reaches the four sequencers (R247, R248). -/
def State.occur (s : State) (o : Occ) : State :=
  s.each 4 fun q s => s.updSeqr q fun Q => { Q with waiting := insertOcc o Q.waiting }

/-- An occurrence at the present DT. -/
def State.occurNow (s : State) (src arg : Nat) : State := s.occur ⟨src, arg, false, s.now * 256⟩

/-! ### OSSD channels (R304) -/

/-- One bit of a 4-bit mask taken out. -/
def clearBit (m i : Nat) : Nat := if bit m i then m - 2 ^ i else m

/-- One bit of a mask put in. -/
def setBit (m i : Nat) : Nat := if bit m i then m else m + 2 ^ i

/-- The field that shows a channel on, and the number of a channel: island A (false) or B. -/
def onField (b : Bool) : FRef := if b then R.SAFE_OSSD_STATUS.ON_B else R.SAFE_OSSD_STATUS.ON_A
def chanIx (m : Nat) (b : Bool) : Nat := 2 * m + flag b
def testBit (m : Nat) (b : Bool) : Nat := if b then m + 4 else m

/-- Does R304 hold the channel of pair `m` in an island on: it is on, or in test? -/
def State.chanOn (s : State) (m : Nat) (b : Bool) : Bool := s.bitOf (onField b) m || bit s.safe.testing (testBit m b)

/-- Is a channel of pair `m` on? -/
def State.ossdOn (s : State) (m : Nat) : Bool := s.chanOn m false || s.chanOn m true

/-- The cause shown for pair `m`. -/
def ossdCause (m : Nat) : FRef := ⟨R.SAFE_OSSD_STATUS.addr, 4 * m + 19, 4 * m + 16⟩

/-- An island holds its channel of pair `m` off (R304): the hold of condition 4 starts anew, and a MANUAL pair waits for a
reset. A channel that is on goes off now. -/
def State.chanOff (s : State) (m : Nat) (b : Bool) : State :=
  let drop := s.bitOf (onField b) m
  (s.wrBit (onField b) m false).updSafe fun F => { F with
    okSince := SMap.set (fun _ => none) F.okSince (chanIx m b) none
    delayed := clearBit F.delayed (chanIx m b)
    need := setBit F.need (chanIx m b)
    testing := clearBit F.testing (testBit m b)
    chanAt := if drop then SMap.set (fun _ => 0) F.chanAt (chanIx m b) s.now else F.chanAt }

/-- Both channels of pair `m` off, with a cause (R304). A channel fault keeps its cause. -/
def State.pairOff (s : State) (m cause : Nat) : State :=
  let was := s.ossdOn m
  let s := s.eachIsland fun b s => s.chanOff m b
  let s := s.wr (ossdCause m) (if s.bitOf R.SAFE_OSSD_STATUS.FAULT m then 7 else cause)
  s.when was fun s => s.occurNow 0x08 m

/-- Every OSSD pair off (Table 1.4, R304 condition 1). -/
def State.ossdOff (s : State) (cause : Nat) : State := s.each 4 fun m s => s.pairOff m cause

/-! ### Device state (R25) -/

/-- The device states of DEV_STATE.STATE. -/
abbrev devReset : Nat := 0
abbrev devBoot : Nat := 1
abbrev devRun : Nat := 2
abbrev devDegraded : Nat := 3
abbrev devSafe : Nat := 4
abbrev devShutdown : Nat := 5
abbrev devMaint : Nat := 6

/-- The device state. -/
def State.devState (s : State) : Nat := s.rd R.DEV_STATE.STATE

/-- Is the device in RUN or DEGRADED? -/
def State.running (s : State) : Bool := s.devState == devRun || s.devState == devDegraded

/-! ### The token of a pair (R330, R344, R351) -/

def State.updPair (s : State) (f : PairSt → PairSt) : State := { s with pair := f s.pair }

/-- Does the device drive CLAIM? -/
def State.holdsToken (s : State) : Bool := s.rd R.PAIR_STATUS.TOKEN_OUT == 2

/-- FIRE_INHIBIT.TOKEN becomes set on every head. -/
def State.tokenSet (s : State) : State :=
  s.eachHead fun h s =>
    let a := R.FIRE_INHIBIT.addr h
    let was := bit (s.word a) 6
    let s := s.wr ⟨a, 6, 6⟩ 1
    let s := s.when (!was) fun s => s.latch ⟨R.FIRE_INHIBIT_LATCH.addr h, 6, 6⟩
    s.wrB (R.HEAD_STATE.TOKEN_ONLY h) (s.rd (R.HEAD_STATE.STATE h) == 2 && s.word a % 2 ^ 12 == 2 ^ 6)

/-- The token lines leave CLAIM for RELEASE (1) or DEAD (0); the twin is a shadow that has to rejoin (R330, R349).
[DEDUCED, log 79] -/
def State.tokenRelease (s : State) (code : Nat) : State :=
  let s := (s.wr R.PAIR_STATUS.TOKEN_OUT code).wr R.PAIR_STATUS.ROLE 2
  let s := (s.wr R.PAIR_STATUS.SYNC 0).wr R.PAIR_STATUS.FIT 0
  (s.updPair fun p => { p with claim := false, claimAt := none, released := true, takeover := false }).tokenSet

/-- What an event leaves of itself beside its reaction: record EVT_WR of the event log (R221, R489), the event latch
(R501), the sequencers' occurrence (R247). -/
def State.noteEvent (s : State) (e : Event) (head arg : Nat) : State :=
  let i := s.rd R.EVT_WR.WR % 4096
  let s := s.setWord (R.EVENT_LOG.addr (4 * i)) (e.code + 0x10000 * e.cls + 0x1000000 * (head % 256))
  let s := s.setWord (R.EVENT_LOG.addr (4 * i + 1)) arg
  let s := s.setWord (R.EVENT_LOG.addr (4 * i + 2)) (s.now % 2 ^ 32)
  let s := s.setWord (R.EVENT_LOG.addr (4 * i + 3)) (s.now / 2 ^ 32)
  let s := s.inc R.EVT_WR.WR
  let s := s.updDev fun d => { d with
    evtSince := d.evtSince.or (some s.now), eventLatch := d.eventLatch || s.rd R.DEV_EVT_CFG.MIN_CLASS ≤ e.cls }
  s.occurNow 0x04 e.code

/-- Is the shadow of an ACTIVE twin FIT, as its heartbeats say? -/
def State.shadowFit (s : State) : Bool :=
  s.on R.PAIR_CFG.EN && s.rd R.PAIR_STATUS.ROLE == 1 && s.on R.PAIR_STATUS.PARTNER &&
    match s.pair.partner with
    | some p => p.fit && p.role == 2
    | none => false

/-- An ACTIVE twin hands over to a FIT shadow (R344). [DEDUCED, log 13, 79] -/
def State.handover (s : State) : State :=
  if !s.shadowFit then s
  else
    let s := (s.tokenRelease 1).updPair fun p => { p with handover := true }
    (s.noteEvent .pairHandover 0xFF (s.freeVal 32)).drawn

/-- The device leaves RUN, DEGRADED and SAFE: a twin gives the token up (R330, R344, R351). [DEDUCED, log 13] -/
def State.tokenLeave (s : State) (st : Nat) : State :=
  if !s.on R.PAIR_CFG.EN then (if st < 2 ∨ st = 5 then (s.wr R.PAIR_STATUS.TOKEN_OUT 0).tokenSet else s)
  else
    let s := s.when (st == 6) State.handover
    let s := s.when s.holdsToken fun s => s.tokenRelease 1
    s.when (decide (st < 2) || st == 5) fun s => s.wr R.PAIR_STATUS.TOKEN_OUT 0

/-- Change the device state: PREV, CHG_CNT and the DT of the change are recorded; outside RUN and DEGRADED every OSSD
pair is off; entry to SAFE is a sequencer occurrence. [DEDUCED, log 13] -/
def State.setDev (s : State) (st : Nat) : State :=
  let old := s.devState
  if old = st then s else
  let s := ((s.wr R.DEV_STATE.PREV old).wr R.DEV_STATE.STATE st).inc R.DEV_STATE.CHG_CNT
  let s := s.wr64 R.DEV_STATE_DT_LO.VALUE R.DEV_STATE_DT_HI.VALUE s.now
  let was := old == devRun || old == devDegraded
  let is := st == devRun || st == devDegraded
  let s := s.updDev fun d => { d with runSince := if is then (if was then d.runSince else some s.now) else none }
  let s := s.when (!is) fun s => s.ossdOff 1
  let s := s.when (!is && st != devSafe) fun s => s.tokenLeave st
  s.when (st == devSafe) fun s => s.occurNow 0x0B 0

/-- Events whose owning rule sets a condition that persists and is cleared again (R29). [DEDUCED, log 12] -/
def Event.isCondition : Event → Bool
  | .pwrCut | .thmSensorFail | .clkLpllLol | .safeOssdFault | .siEstop | .siDiscrepancy | .siCross
  | .rstStuck | .connTimeout | .speedInvalid | .memStackFail | .portRestripe | .portDown | .bootNoImage
  | .tdcCalStale | .tdcChainFail | .tdcInputFail | .detVisLow | .netLinkDown | .netPrpPlane
  | .pairHbLost | .pairTokenFault | .pairConfigMismatch | .pairLinkLost
  | .domainFull | .domHopLimit | .domMasterLost | .domHoldoverLong => true
  | _ => false

/-- The event codes of class SAFE among the condition causes. -/
def safeConds : List Nat := [0x0103, 0x0403, 0x0603, 0x0604, 0x0B04]

/-- Is a SAFE cause active (R29)? The absence of a sealed configuration is one. [DEDUCED, log 87] -/
def State.safeActive (s : State) : Bool :=
  !s.dev.sealed || !s.dev.safeOcc.isEmpty || s.dev.conds.any fun c => safeConds.contains c.1

/-- Is a DEGRADE cause active (R29)? An INVALID speed is one whether or not its event has been raised. -/
def State.degActive (s : State) : Bool :=
  s.rd R.SPEED_STATUS.STATE == 0 || !s.dev.degOcc.isEmpty ||
    s.dev.conds.any fun c => !safeConds.contains c.1

/-- Show the active causes in DEV_CAUSE and take the transitions between RUN and DEGRADED (Table 1.4). -/
def State.settleDev (s : State) : State :=
  let s := (s.wrB R.DEV_CAUSE.SAFE_ACT s.safeActive).wrB R.DEV_CAUSE.DEG_ACT s.degActive
  if s.devState = devRun ∧ s.degActive then s.setDev devDegraded
  else if s.devState = devDegraded ∧ ¬ s.degActive then s.setDev devRun
  else s

/-- A condition cause begins (R29). [DEDUCED, log 12] -/
def State.condOn (s : State) (e : Event) (unit : Nat) : State :=
  (s.updDev fun d => { d with
    conds := if d.conds.contains (e.code, unit) then d.conds else (e.code, unit) :: d.conds }).settleDev

/-- A condition cause ends (R29). [DEDUCED, log 12] -/
def State.condOff (s : State) (e : Event) (unit : Nat) : State :=
  (s.updDev fun d => { d with conds := d.conds.filter (· != (e.code, unit)) }).settleDev

/-! ### Events (R12, R221, R489, R501) -/

/-- The head number of a device event (R221). -/
abbrev noHead : Nat := 0xFF

/-- The cause an event makes active (R29). -/
def State.causeOf (s : State) (e : Event) (unit : Nat) : State :=
  if e.cls = 0 ∨ e.cls = 2 then s
  else if e.isCondition then
    s.updDev fun d => { d with
      conds := if e = .speedInvalid ∨ e = .bootNoImage ∨ d.conds.contains (e.code, unit) then d.conds
        else (e.code, unit) :: d.conds }
  else if e.cls = 1 then
    s.updDev fun d => { d with degOcc := (e.code, s.now) :: d.degOcc.filter (·.1 != e.code) }
  else s.updDev fun d => { d with safeOcc := e.code :: d.safeOcc.filter (· != e.code) }

/-- The reaction of the device state to an event (Table 0.8, Table 1.4): SAFE switches the OSSD outputs off and takes
BOOT, RUN and DEGRADED to SAFE; DEGRADE takes RUN to DEGRADED. [DEDUCED, log 13] -/
def State.react (s : State) (e : Event) : State :=
  let s := s.settleDev
  if e.cls = 3 then
    let s := s.handover.ossdOff 1
    if s.devState = devBoot ∨ s.devState = devRun ∨ s.devState = devDegraded then s.setDev devSafe else s
  else if e.cls = 1 ∧ s.devState = devRun then s.setDev devDegraded
  else s

/-- The device raises an event with a stated argument: it is logged, the latch is set, its cause becomes active, the
sequencers see it and the device state reacts. `unit` names what a condition cause concerns. [DEDUCED, log 11] -/
def State.raiseArg (s : State) (e : Event) (head arg unit : Nat) : State :=
  ((s.noteEvent e head arg).causeOf e unit).react e

/-- Raise an event whose argument the spec does not state: the argument is a free value. [DEDUCED, log 11] -/
def State.raiseU (s : State) (e : Event) (head unit : Nat) : State :=
  s.drawn.raiseArg e head (s.freeVal 32) unit

/-- Raise an event of a head (or `noHead`). [DEDUCED, log 11] -/
def State.raise (s : State) (e : Event) (head : Nat) : State := s.raiseU e head head

/-! ### The form of every meaning -/

/-- The outcome of a command at DT `t` with the effect `f` on everything but the queue.
[DESIGN CHOICE, log 4, 140; DEDUCED, log 9] -/
def State.run (s : State) (t : Time) (f : State → State) : Host.Outcome State Fault Refusal :=
  .next { f (s.upTo t) with pending := s.pending }

/-! ### Allocation (R393, Table 16.1) -/

/-- The first quad of a port. -/
def portQuad (p : Nat) : Nat :=
  if p < 16 then p else if p < 20 then 16 + 2 * (p - 16) else if p < 24 then 24 + 2 * (p - 20) else 32 + (p - 24)

/-- The Nolaetus port of a quad; none for the network quads. -/
def quadPort (q : Nat) : Option Nat :=
  if q < 16 then some q else if q < 24 then some (16 + (q - 16) / 2) else if q < 32 then some (20 + (q - 24) / 2)
  else if q < 34 then some (24 + (q - 32)) else none

/-- Port lanes used for transmission and for reception. -/
def txLanes (p : Nat) : Nat := if p < 16 then 0b0011 else if p < 24 then 0xFF else 0xF
def rxLanes (p : Nat) : Nat := if p < 16 then 0b1100 else if p < 20 then 0xFF else if p < 24 then 0 else 0xF

/-- The network port of lane `l` of quad 34 or 35 (R393). -/
def netPort (q l : Nat) : Nat := 2 * (q - 34) + l / 2

/-- Does the mode of its network port use a lane of quad 34 or 35 (R228)? -/
def State.netLane (s : State) (q l : Nat) : Bool :=
  match s.rd (R.NET_PORT.MODE (netPort q l)) with
  | 0 => false
  | 4 => true
  | _ => l % 2 == 0

/-- Port lane index of lane `l` of quad `q`, and back. -/
def portLane (p q l : Nat) : Nat := (q - portQuad p) * 4 + l
def laneQuad (p i : Nat) : Nat := portQuad p + i / 4

def laneDefault (_ : Nat) : LaneSt := {}

def State.lane (s : State) (q l : Nat) : LaneSt := SMap.get laneDefault s.lanes.lane (4 * q + l)

def State.updLane (s : State) (q l : Nat) (f : LaneSt → LaneSt) : State :=
  { s with lanes := { s.lanes with lane := SMap.upd laneDefault s.lanes.lane (4 * q + l) f } }

/-- Is a cell or frame delivered: codeword decoded, CRC right? -/
def linkGood (rx : LinkRx) : Bool := rx.codeword != .uncorrectable && rx.crcOk

/-- Codewords of port `p` are counted; an uncorrectable one raises its event once per second and lane (R398). -/
def State.codeword (s : State) (p : Nat) (rx : LinkRx) : State :=
  let q := laneQuad p rx.lane
  let l := rx.lane.val % 4
  match rx.codeword with
  | .clean => s
  | .corrected => s.inc (R.LANE_CNT_CORR.COUNT q l)
  | .uncorrectable =>
    let s := s.inc (R.LANE_CNT_UNCORR.COUNT q l)
    let recent := match (s.lane q l).badAt with
      | some a => decide (s.now < a + 1000000000)
      | none => false
    if recent then s
    else (s.updLane q l fun x => { x with badAt := some s.now }).raiseU .laneFecUncorr noHead (4 * q + l)

/-! ### Access errors (R496) -/

/-- Record an access error: counted, with its address, cause (Table 22.3), direction and interface. -/
def State.accessError (s : State) (i : Iface) (write : Bool) (addr cause : Nat) : State :=
  let s := s.inc R.DEV_ACC_CNT.COUNT
  let s := s.wr R.DEV_ACC_ADDR.ADDR addr
  let s := s.wr R.DEV_ACC_INFO.IF (match i with | .mspi => 0 | .session => 1)
  (s.wrB R.DEV_ACC_INFO.WRITE write).wr R.DEV_ACC_INFO.CAUSE cause

/-- A write refused by a condition of the owning chapter (cause 0x5). -/
def State.refuse (s : State) (i : Iface) (addr : Nat) : State := s.accessError i true addr 5

/-- May an interface change MAINT fields: a session whose PERM holds CONFIG (R480, R494)? -/
def State.mayConfig (s : State) (i : Iface) : Bool :=
  i == .session && s.rd R.SEC_SESSION.STATE == 2 && s.bitOf R.SEC_SESSION.PERM 1

/-! ### Rounding that the spec does not state -/

/-- A quotient rounded to one of the two whole numbers next to it; which one is a free value. An exact quotient is
itself. [DEDUCED, log 133] -/
def State.roundFree (s : State) (num : Int) (den : Nat) : Int :=
  let q := floorDiv num den
  if q * den = num then q else q + (s.freeVal 1 : Nat)

/-- A quotient rounded to nearest; between two equally near whole numbers the choice is a free value. [DEDUCED, log 133] -/
def State.nearest (s : State) (num : Int) (den : Nat) : Int :=
  let q := floorDiv num den
  let r := 2 * (num - q * den)
  if r < den then q else if (den : Int) < r then q + 1 else q + (s.freeVal 1 : Nat)

/-- A calibration of kind `k` is counted and dated (R140): 0 TDC, 1 echo skew, 2 servo, 3 housekeeping, 4 energy
monitor. [DEDUCED, log 47] -/
def State.calDone (s : State) (k : Nat) : State :=
  (s.inc (R.CAL_CNT.VALUE k)).wr64 (R.CAL_DT_LO.VALUE k) (R.CAL_DT_HI.VALUE k) s.now

/-- The age of the result of housekeeping entry `e` in ns; none before its first completion (R457). -/
def State.hkAge (s : State) (e : Nat) : Option Nat :=
  (SMap.get (fun _ => none) s.hk.doneAt e).map (s.now - ·)

/-- Is the result of housekeeping entry `e` older than `ms` milliseconds (R271, R443, R455)? -/
def State.hkOlder (s : State) (e ms : Nat) : Bool :=
  match s.hkAge e with
  | none => true
  | some a => decide (ms * 1000000 < a)

/-- Show a rounded quotient in a register field. [DEDUCED, log 133] -/
def State.wrRound (s : State) (f : FRef) (num : Int) (den : Nat) : State :=
  (s.wrS f (s.roundFree num den)).drawn

/-! ### Shared by several chapters -/

/-- The integration period T_P of the housekeeping converter, which is the thermal round length (R448, R436), in ns. -/
def State.periodTP (s : State) : Nat :=
  match s.rd R.HK_CFG.PERIOD with
  | 0 => 20000000
  | 1 => 16666667
  | _ => 60000000

/-- Request an HBM data rate: 0 6.4 Gb/s, 1 4.8 Gb/s (R387). A request while one is pending replaces the target; when
both stacks run at the target nothing is pending. -/
def State.rateRequest (s : State) (sel : Nat) : State :=
  let s := s.wr R.MEM_STATUS.TARGET sel
  s.wrB R.MEM_STATUS.RATE_PEND (s.rd R.MEM_STATUS.RATE != (if sel = 0 then 0 else 3))

/-- The image table of a head. -/
def State.image (s : State) (h : Nat) : HeadImage := (s.head h).image

/-- A pattern of a head, where the image has it (R93). -/
def State.pattern (s : State) (h p : Nat) : Option Pattern := SMap.get (fun _ => none) (s.image h).patterns p

end Sys2Proof.Machine
end

