-- ==== Sys2Proof/Machine/Flags.lean ====
section
/-! DEFINITION. The firing permissions (FIRE_INHIBIT, R31 to R35, Table 3.1) and the head states (R31, Table 1.5). -/

namespace Sys2Proof.Machine

/-- The bits of FIRE_INHIBIT. -/
inductive Inh where
  | config | timing | servo | eye | thermal | safetyIn | token | leave | headlink | emitter | host | supply
deriving DecidableEq, Repr

/-- The bit number of a permission in FIRE_INHIBIT and FIRE_INHIBIT_LATCH. -/
def Inh.bit : Inh → Nat
  | .config => 0 | .timing => 1 | .servo => 2 | .eye => 3 | .thermal => 4 | .safetyIn => 5
  | .token => 6 | .leave => 7 | .headlink => 8 | .emitter => 9 | .host => 10 | .supply => 11

/-- The field of a permission of head `h` in FIRE_INHIBIT. -/
def inhField (h : Nat) (b : Inh) : FRef := ⟨R.FIRE_INHIBIT.addr h, b.bit, b.bit⟩

/-- The field of a permission of head `h` in FIRE_INHIBIT_LATCH. -/
def latchField (h : Nat) (b : Inh) : FRef := ⟨R.FIRE_INHIBIT_LATCH.addr h, b.bit, b.bit⟩

/-- Is a FIRE_INHIBIT bit of head `h` set? -/
def State.inh (s : State) (h : Nat) (b : Inh) : Bool := s.on (inhField h b)

/-- All twelve FIRE_INHIBIT bits of head `h`. -/
def State.inhWord (s : State) (h : Nat) : Nat := s.word (R.FIRE_INHIBIT.addr h) % 2 ^ 12

/-- Is a FIRE_INHIBIT bit other than TOKEN set (R31)? -/
def State.blocked (s : State) (h : Nat) : Bool := clearBit (s.inhWord h) 6 != 0

/-- The head states of HEAD_STATE.STATE. -/
abbrev hsOff : Nat := 0
abbrev hsParked : Nat := 1
abbrev hsScanning : Nat := 2
abbrev hsInhibited : Nat := 3
abbrev hsFault : Nat := 4

/-- The state of head `h`. -/
def State.headState (s : State) (h : Nat) : Nat := s.rd (R.HEAD_STATE.STATE h)

/-- Is head `h` SCANNING or INHIBITED? -/
def State.scanning (s : State) (h : Nat) : Bool :=
  s.headState h == hsScanning || s.headState h == hsInhibited

/-- Show TOKEN_ONLY: SCANNING with only TOKEN set (R33). -/
def State.showTokenOnly (s : State) (h : Nat) : State :=
  s.wrB (R.HEAD_STATE.TOKEN_ONLY h) (s.headState h == hsScanning && s.inhWord h == 2 ^ 6)

/-- Has a domain admitted the device (R76, R374)? -/
def State.admitted (s : State) : Bool :=
  s.on R.DOM_CFG.EN && (s.rd R.DOM_STATUS.STATE == 2 || s.rd R.DOM_STATUS.STATE == 3)

/-- Is head `h` a helper of multiply, which shows only TOKEN (R369)? [DEDUCED, log 91] -/
def State.isHelper (s : State) (h : Nat) : Bool :=
  s.dev.sealed && s.on (R.DOM_MULT.EN h) && s.on (R.DOM_MULT.ROLE h)

/-- Set or clear one FIRE_INHIBIT bit of a head (R34, R35, R369). A bit that becomes set is latched, and a bit other than TOKEN
takes a SCANNING head to INHIBITED (R31). [DEDUCED, log 91] -/
def State.setInh (s : State) (h : Nat) (b : Inh) (v : Bool) : State :=
  let v := if s.isHelper h then b == .token else v
  let was := s.inh h b
  let s := s.wrB (inhField h b) v
  let s := s.when (v && !was) fun s => s.latch (latchField h b)
  let s := s.when (v && b != .token && s.headState h == hsScanning) fun s =>
    s.wr (R.HEAD_STATE.STATE h) hsInhibited
  s.showTokenOnly h

/-- FIRE_INHIBIT.EYE is the OR of the accountant's causes (R284, R285, R287, R290 to R292). -/
def State.refreshEye (s : State) (h : Nat) : State :=
  s.setInh h .eye (s.on (R.EYE_STATUS.LIMIT h) || s.on (R.EYE_STATUS.PULSE_HIGH h) ||
    s.on (R.EYE_STATUS.MON_FAIL h) || s.on (R.EYE_STATUS.POSITION h) || s.on (R.EYE_STATUS.MOTION h) ||
    (s.head h).eye.zeroWait)

/-- FIRE_INHIBIT.THERMAL is the OR of the cut (R440), the head temperature (R444) and driver over-temperature (R92). -/
def State.refreshThermal (s : State) (h : Nat) : State :=
  s.setInh h .thermal (s.on R.PWR_STATUS.CUT || bit s.thm.headBad h || (s.head h).chain.overtemp)

/-- FIRE_INHIBIT.EMITTER: chain not loaded and verified (R94), echo lost (R82), unmasked emitter fault (R102), emitter
limit (R103), ECHO input FAILED (R128). -/
def State.refreshEmitter (s : State) (h : Nat) : State :=
  let c := (s.head h).chain
  let st := s.rd (R.EMT_STATUS.CHAIN h)
  s.setInh h .emitter (st == 1 || st == 2 || st == 4 || c.faultPend || c.recover != 0 || c.limitHeld || s.on (R.FIRE_STATUS.ECHO_LOST h) ||
    s.on (R.CAL_REC0.INPUT_FAIL (1536 + h)))

/-- The first active cause of Table 10.3. -/
def State.servoCause (s : State) (h : Nat) : Nat :=
  let v := (s.head h).servo
  if s.headState h = hsOff ∨ s.headState h = hsFault then 1
  else if v.faultPark then 2
  else if v.x.lost ∨ v.y.lost then 3
  else if v.x.frozen ∨ v.y.frozen then 4
  else if v.calStep ≠ 0 then 5
  else if v.x.holdUntil > s.now ∨ v.y.holdUntil > s.now then 6
  else if v.track then 7
  else 0

/-- SRV_STATUS.CAUSE and HOLD, and FIRE_INHIBIT.SERVO while the servo is not valid (R273). -/
def State.refreshServo (s : State) (h : Nat) : State :=
  let c := s.servoCause h
  let v := (s.head h).servo
  let s := s.wr (R.SRV_STATUS.CAUSE h) c
  let s := s.wrB (R.SRV_STATUS.HOLD h) (v.x.holdUntil > s.now || v.y.holdUntil > s.now)
  s.setInh h .servo (c != 0)

/-- Does a timing cause apply to head `h` (R426)? -/
def State.timingCause (s : State) (h : Nat) : Bool :=
  s.on R.CLK_TIMING_CAUSE.REFCLK || s.on R.CLK_TIMING_CAUSE.TPLL || s.on R.CLK_TIMING_CAUSE.ALIGN ||
    bit s.clk.calHold h || (s.on R.CLK_TIMING_CAUSE.HOLD && s.on (R.SCAN_CTL.ALIGN h))

/-- CLK_TIMING_CAUSE.CAL and HEADS, and FIRE_INHIBIT.TIMING of every head (R426). -/
def State.refreshTiming (s : State) : State :=
  let s := s.wrB R.CLK_TIMING_CAUSE.CAL (s.clk.calHold != 0)
  let s := s.wr R.CLK_TIMING_CAUSE.HEADS (maskOf 16 s.timingCause)
  s.eachHead fun h s => s.setInh h .timing (s.timingCause h)

/-- Is input `n` closed (SAFE_SI_STATE.CLOSED)? -/
def State.siClosed (s : State) (n : Nat) : Bool := s.bitOf R.SAFE_SI_STATE.CLOSED n

/-- FIRE_INHIBIT.SAFETY_IN of a head: an open LASER_ENABLE or MAINT_DOOR input that names it, or no LASER_ENABLE that names it,
as before seal (R314, Table 3.1). -/
def State.refreshSafetyIn (s : State) (h : Nat) : State :=
  let names (f n : Nat) : Bool := s.rd (R.SAFE_SI_CFG.FUNC n) == f && bit (s.rd (R.SAFE_SI_HEADS.HEAD_MASK n)) h
  let stops := (List.range 8).any fun n => (names 1 n || names 2 n) && !s.siClosed n
  s.setInh h .safetyIn (!s.dev.sealed || !(List.range 8).any (names 1) || stops)

end Sys2Proof.Machine
end

