-- ==== Sys2Proof/Machine/Operands.lean ====
section
/-! DEFINITION. The operand forms that several meanings read: the dwell descriptor (Table 2.1), CRC-32C (R46), the
dither code (R77, R78) and the bearing indices of a dwell (R48). -/

namespace Sys2Proof.Machine

/-! ### CRC-32C (R46) -/

/-- One bit step of the reflected CRC-32C, polynomial 0x1EDC6F41. -/
def crc32cBit (c : Nat) : Nat := if c % 2 = 1 then (c / 2) ^^^ 0x82F63B78 else c / 2

/-- The CRC-32C register over bytes, from a start value. -/
def crc32cFrom : Nat → List Byte → Nat
  | c, [] => c
  | c, b :: bs =>
    let c0 := c ^^^ b.toNat
    crc32cFrom (crc32cBit (crc32cBit (crc32cBit (crc32cBit (crc32cBit (crc32cBit (crc32cBit (crc32cBit c0)))))))) bs

/-- CRC-32C with the parameters of R46. -/
def crc32c (bs : List Byte) : Nat := crc32cFrom 0xFFFFFFFF bs ^^^ 0xFFFFFFFF

/-- Bytes built from (width in bytes, value) pairs, each least significant byte first (R3). -/
def pack : List (Nat × Nat) → List Byte
  | [] => []
  | (n, v) :: fs => bytesLE n v ++ pack fs

/-! ### The dwell descriptor (R46, Table 2.1) -/

/-- Word `i` of a descriptor. -/
def descWord (d : List Nat) (i : Nat) : Nat := d.getD i 0

def Desc.mirrorX (d : List Nat) : Int := sext 16 (descWord d 0)
def Desc.mirrorY (d : List Nat) : Int := sext 16 (descWord d 0 / 2 ^ 16)
def Desc.pattern (d : List Nat) : Nat := bits (descWord d 1) 11 0
def Desc.settleProf (d : List Nat) : Nat := bits (descWord d 1) 13 12
/-- Move allowance in ns. -/
def Desc.moveT (d : List Nat) : Nat := bits (descWord d 1) 27 16 * 100
def Desc.shotCntM1 (d : List Nat) : Nat := bits (descWord d 2) 11 0
/-- Shots in flight: 1, 2, 4 or 8. -/
def Desc.sif (d : List Nat) : Nat := 2 ^ bits (descWord d 2) 13 12
/-- The exponent of the coarse bin width: 2^value ns. -/
def Desc.binLog2 (d : List Nat) : Nat := bits (descWord d 2) 16 14
def Desc.binW (d : List Nat) : Nat := 2 ^ Desc.binLog2 d
def Desc.fsPolicy (d : List Nat) : Nat := bits (descWord d 2) 18 17
def Desc.fsIdx (d : List Nat) : Nat := bits (descWord d 2) 21 19
def Desc.zoomReset (d : List Nat) : Bool := bit (descWord d 2) 22
def Desc.skip (d : List Nat) : Bool := bit (descWord d 2) 23
def Desc.trig (d : List Nat) : Bool := bit (descWord d 2) 24
def Desc.shotInt (d : List Nat) : Nat := bits (descWord d 3) 19 0
def Desc.near (d : List Nat) : Nat := bits (descWord d 4) 15 0
def Desc.far (d : List Nat) : Nat := bits (descWord d 4) 31 16
def Desc.bbase (d : List Nat) : Nat := bits (descWord d 5) 19 0
/-- GROUP_MASK: bit g enables group g. -/
def Desc.groupMask (d : List Nat) : Nat := descWord d 6 + 2 ^ 32 * descWord d 7 + 2 ^ 64 * descWord d 8
def Desc.tag (d : List Nat) : Nat := bits (descWord d 9) 15 0
def Desc.check (d : List Nat) : Nat := descWord d 15

/-- T_nom: SHOT_CNT_M1 × SHOT_INT + FAR (02, Frame timing). -/
def Desc.tNom (d : List Nat) : Nat := Desc.shotCntM1 d * Desc.shotInt d + Desc.far d

/-- P_d: MOVE_T + T_nom + 512 ns (02, Frame timing). -/
def Desc.period (d : List Nat) : Nat := Desc.moveT d + Desc.tNom d + 512

/-- The bytes of descriptor words 0 to 14, which CHECK covers. -/
def Desc.checked (d : List Nat) : List Byte := (List.range 15).flatMap fun i => bytesLE 4 (descWord d i)

/-- Every reserved bit of a descriptor is 0 (Table 2.1). -/
def Desc.reservedZero (d : List Nat) : Bool :=
  bits (descWord d 1) 15 14 == 0 && bits (descWord d 1) 31 28 == 0 && bits (descWord d 2) 31 25 == 0 &&
  bits (descWord d 3) 31 20 == 0 && bits (descWord d 5) 31 20 == 0 && bits (descWord d 9) 31 16 == 0 &&
  descWord d 10 == 0 && descWord d 11 == 0 && descWord d 12 == 0 && descWord d 13 == 0 && descWord d 14 == 0

/-- CHECK matches and the reserved bits are 0 (R51). -/
def Desc.passes (d : List Nat) : Bool := Desc.reservedZero d && crc32c (Desc.checked d) == Desc.check d

/-- Where descriptor `d` of slot `sl` of head `h` starts in the HBM (R43, Table 15.1). -/
def descAddr (h sl d : Nat) : Nat := 0x104000000 + (2 * h + sl) * 0x400000 + d * 64

/-- The descriptor words stored for a dwell (R43, R46). -/
def State.descAt (s : State) (h sl d : Nat) : List Nat :=
  (List.range 16).map fun i => s.hbmNat (descAddr h sl d + 4 * i) 4

/-- Is group `g` enabled by a descriptor? -/
def Desc.enables (d : List Nat) (g : Nat) : Bool := bit (Desc.groupMask d) g

/-- Enabled groups below `g` (k of R48). -/
def Desc.rank (d : List Nat) (g : Nat) : Nat := popcount g (Desc.groupMask d)

/-- The bearing of input `n` in a dwell (R48). -/
def Desc.bid (d : List Nat) (n : Nat) : Nat := Desc.bbase d + 16 * Desc.rank d (n / 16) + n % 16

/-- Is the sequence number `b` of `n` bits later than `a` (R486)? -/
def seqLater (n b a : Nat) : Bool :=
  let d := (b + 2 ^ n - a % 2 ^ n) % 2 ^ n
  decide (1 ≤ d) && decide (d < 2 ^ (n - 1))

/-- The head to which an input is assigned, 0x1F when to none (Table 4.1). -/
def State.headOf (s : State) (n : Nat) : Nat := s.rd (R.INCFG.HEAD n)

/-- The inputs that a descriptor of head `h` enables and that are assigned to it, in ascending order (R48). -/
def State.dwellInputs (s : State) (h : Nat) (d : List Nat) : List Nat :=
  (List.range 96).flatMap fun g =>
    if Desc.enables d g then ((List.range 16).map (16 * g + ·)).filter fun n => s.headOf n == h else []

/-- The inputs of the enabled groups of a descriptor, which have its bearings, assigned or not (R48). -/
def dwellBearings (d : List Nat) : List Nat :=
  (List.range 96).flatMap fun g => if Desc.enables d g then (List.range 16).map (16 * g + ·) else []

/-! ### The dither code (R77, R78) -/

/-- One step of the 31-bit shift register with taps at x^31 and x^28: the bit drawn and the next state. -/
def lfsrBit (x : Nat) : Nat × Nat :=
  let b := (x / 2 ^ 30 + x / 2 ^ 27) % 2
  (b, (2 * x + b) % 2 ^ 31)

/-- `n` bits, first drawn most significant, and the next state. -/
def lfsrDraw : Nat → Nat → Nat → Nat × Nat
  | 0, x, v => (v, x)
  | n + 1, x, v => let (b, x') := lfsrBit x; lfsrDraw n x' (2 * v + b)

/-- The seed of a dwell from CID, head, frame number and dwell index (R77). -/
def ditherSeed (cid h frame d : Nat) : Nat :=
  let m := 2 ^ 64
  let x := (frame % 2 ^ 32 * 2 ^ 32) ^^^ (d % 2 ^ 16 * 2 ^ 16) ^^^ (h % 16 * 2 ^ 12)
  let x := x ^^^ (cid * 0x9E3779B97F4A7C15 % m)
  let x := (x ^^^ (x / 2 ^ 30)) * 0xBF58476D1CE4E5B9 % m
  let x := (x ^^^ (x / 2 ^ 27)) * 0x94D049BB133111EB % m
  let x := x ^^^ (x / 2 ^ 31)
  if x % 2 ^ 31 = 0 then 1 else x % 2 ^ 31

/-- Swap two places of a list. -/
def swapAt (l : List Nat) (i j : Nat) : List Nat := (l.set i (l.getD j 0)).set j (l.getD i 0)

/-- The draws of a new block of 8 shots: the permutation of the phase sets and the next state. -/
def ditherPerm : Nat → Nat → List Nat → List Nat × Nat
  | 0, x, p => (p, x)
  | i + 1, x, p =>
    let (v, x') := lfsrDraw 8 x 0
    ditherPerm i x' (swapAt p (i + 1) (v * (i + 2) / 256))

/-- The code of shot `k` steps ahead: state, permutation and index within the block. -/
def ditherAt : Nat → Nat → Nat → List Nat → Nat × Nat
  | 0, j, x, p =>
    let (p, x) := if j % 8 = 0 then ditherPerm 7 x [0, 1, 2, 3, 4, 5, 6, 7] else (p, x)
    let ph := p.getD (j % 8) 0
    (ph, ph * 2 ^ 13 + (lfsrDraw 13 x 0).1)
  | k + 1, j, x, p =>
    let (p, x) := if j % 8 = 0 then ditherPerm 7 x [0, 1, 2, 3, 4, 5, 6, 7] else (p, x)
    ditherAt k (j + 1) (lfsrDraw 13 x 0).2 p

/-- Phase set and 16-bit code of shot `k` of a dwell with a seed (R77). -/
def shotCode (seed k : Nat) : Nat × Nat := ditherAt k 0 seed []

/-- The shift of a span (R78): 0, 1, 2, 3 for 256, 128, 64, 32 ns and 16 for 0 ns. -/
def spanShift (span : Nat) : Nat := if span < 4 then span else 16

/-- The span in ns (FIRE_CFG.SPAN). -/
def spanNs (span : Nat) : Nat := if span < 4 then 256 / 2 ^ span else 0

end Sys2Proof.Machine
end

