-- ==== Sys2Proof/Machine/Capture.lean ====
section
/-! DEFINITION. Raw capture, trigger sequencers and incident snapshots (09_capture.md, R235 to R258). -/

namespace Sys2Proof.Machine

/-! ### Streams and records (R235, R236, R244) -/

def streamDefault (_ : Nat) : CapStream := {}
def slotDefault (_ : Nat) : Slot := {}

/-- Stream `k`. -/
def State.stream (s : State) (k : Nat) : CapStream := SMap.get streamDefault s.cap.streams k

def State.updStream (s : State) (k : Nat) (f : CapStream → CapStream) : State :=
  s.updCap fun c => { c with streams := SMap.upd streamDefault c.streams k f }

/-- Slot `i`. -/
def State.slot (s : State) (i : Nat) : Slot := SMap.get slotDefault s.cap.slots i

def State.updSlot (s : State) (i : Nat) (f : Slot → Slot) : State :=
  s.updCap fun c => { c with slots := SMap.upd slotDefault c.slots i f }

/-- Capture runs in RUN, DEGRADED, SAFE and MAINT (R257). -/
def State.capturing (s : State) : Bool :=
  s.running || s.devState == devSafe || s.devState == devMaint

/-- The slot states of CAP_SLOT[s].STATE (R252). -/
abbrev slIdle : Nat := 0
abbrev slWait : Nat := 1
abbrev slPre : Nat := 2
abbrev slPost : Nat := 3
abbrev slFull : Nat := 4

def State.slotState (s : State) (i : Nat) : Nat := s.rd (R.CAP_SLOT2.STATE i)
def State.slotStream (s : State) (i : Nat) : Nat := s.rd (R.CAP_SLOT2.STREAM i)

/-- The slot of a stream that is in PRE or POST (R252: at most one). -/
def State.activeSlot (s : State) (k : Nat) : Option Nat :=
  (List.range 8).find? fun i => s.slotStream i == k && (s.slotState i == slPre || s.slotState i == slPost)

/-- Move what the open frame has room for out of the queue (R242). -/
def CapStream.fill (c : CapStream) : CapStream :=
  let n := 166 - c.opened.length
  { c with opened := (c.queue.take n).reverse ++ c.opened, queue := c.queue.drop n }

/-- A record of stream `k` is lost (R244). -/
def State.capLost (s : State) (k : Nat) : State :=
  ((s.inc (R.CAP_STREAM_LOSS.CNT_LOSS k)).updStream k fun c => { c with loss := true, lostAt := some s.now }).raise .capLoss noHead

/-- A record is formed for stream `k` (R235, R242, R244): it joins the queue, or is dropped where the queue is full. -/
def State.capRecord (s : State) (k : Nat) (r : Nat) : State :=
  if !s.capturing || !s.bitOf R.CAP_CFG.STREAM_EN k then s
  else
    let c := s.stream k
    if 4096 ≤ c.queue.length then s.capLost k
    else
      let q := c.queue ++ [BitVec.ofNat 48 r]
      let s := s.wr (R.CAP_STREAM_QMAX.Q_MAX k) (max (s.rd (R.CAP_STREAM_QMAX.Q_MAX k)) q.length)
      s.updStream k fun c => { c with queue := q }.fill

/-- The record of a kind with its 45 bits (Table 9.1). -/
def capRec (kind body : Nat) : Nat := kind * 2 ^ 45 + body % 2 ^ 45

/-- The selection entries in use for input `n` (R237). -/
def State.selOf (s : State) (n : Nat) : List Nat :=
  indices 256 fun e => s.on (R.CAP_SEL.EN e) && s.rd (R.CAP_SEL.INPUT e) == n

/-- EVENT record of a stamped edge of input `n` with disposition `disp` (R237). -/
def State.captureEvent (s : State) (n disp stamp : Nat) : State :=
  if !s.bitOf R.CAP_CFG.DISP_MASK disp then s
  else (s.selOf n).foldl (fun s e =>
    s.capRecord (s.rd (R.CAP_SEL.STREAM e)) (capRec 0 (e * 2 ^ 37 + disp * 2 ^ 34 + stamp % 2 ^ 32))) s

/-- The enabled streams that hold a selection entry of an input of head `h` (R238). -/
def State.shotStreams (s : State) (h : Nat) : List Nat :=
  indices 4 fun k => (List.range 256).any fun e =>
    s.on (R.CAP_SEL.EN e) && s.rd (R.CAP_SEL.STREAM e) == k && s.headOf (s.rd (R.CAP_SEL.INPUT e)) == h

/-- SHOT record of a shot that opens a receive window (R238). [DEDUCED, log 38] -/
def State.captureShot (s : State) (h phase k ek : Nat) : State :=
  if !s.bitOf R.CAP_SHOT.SHOT_EN h then s
  else (s.shotStreams h).foldl (fun s st =>
    s.capRecord st (capRec 1 (h * 2 ^ 41 + phase % 8 * 2 ^ 38 + k % 64 * 2 ^ 32 + ek % 2 ^ 32))) s

/-- Place of return-list record `i` in the capture-staging region (Table 15.1): 8 bytes each, in turn. [DESIGN CHOICE, log 163] -/
def stageAddr (i : Nat) : Nat := 0x110000000 + i % 0x800000 * 8

/-- A return-list record enters the staging region through its port, or is lost where the region is full or the port lacks
tokens (R239, R244, R381). [DESIGN CHOICE, log 163] -/
def State.stageReturn (s : State) (r : Nat) : State :=
  if 0x800000 ≤ s.cap.stageWr - s.cap.stageRd then s.capLost (s.rd R.CAP_RL.STREAM)
  else match s.portTake 6 8 with
    | (s, false) => s.capLost (s.rd R.CAP_RL.STREAM)
    | (s, true) => (s.hbmWrite (stageAddr s.cap.stageWr) (bytesLE 8 r)).updCap fun c => { c with stageWr := c.stageWr + 1 }

/-- Return-list records enter the staging region (R239). -/
def State.stageReturns (s : State) (rs : List Nat) : State :=
  if !s.capturing then s else rs.foldl State.stageReturn s

/-- The oldest record of the staging region is read and enters its stream, unless it is lost (R239). [DESIGN CHOICE, log 163] -/
def State.drainOne (s : State) : State :=
  if s.cap.stageWr ≤ s.cap.stageRd ∨ s.cap.rlCredit < 10000000 then s
  else match s.portTake 6 8 with
    | (s, false) => s
    | (s, true) =>
      let i := s.cap.stageRd
      let lost := s.cap.stageBad.contains i
      let s := s.updCap fun c => { c with
        stageRd := i + 1, rlCredit := c.rlCredit - 10000000, stageBad := c.stageBad.filter (· != i) }
      s.when (!lost) fun s => s.capRecord (s.rd R.CAP_RL.STREAM) (s.hbmNat (stageAddr i) 6)

/-- Drain the staging region into its stream at no more than the return-list term of R245, for one frame time. [DEDUCED, log 44] -/
def State.drainReturns (s : State) : State :=
  let s := s.updCap fun c => { c with rlCredit := c.rlCredit + c.rlRate * 204 / 10 }
  let s := s.each (s.cap.rlCredit / 10000000) fun _ s => s.drainOne
  s.when (decide (s.cap.stageWr ≤ s.cap.stageRd)) fun s => s.updCap fun c => { c with rlCredit := 0 }

/-! ### Missed triggers and marks (R249, R250) -/

/-- MARK record (Table 9.1): sequencer, kind, slot, number merged, time in 1/256 ns. -/
def markRec (q kind slot n time : Nat) : Nat :=
  capRec 5 (q * 2 ^ 43 + kind * 2 ^ 40 + slot * 2 ^ 37 + n * 2 ^ 32 + time % 2 ^ 32)

/-- The enabled streams that sequencer `q` marks. -/
def State.markStreams (s : State) (q : Nat) : List Nat :=
  indices 4 fun k => s.bitOf (R.SEQ_CFG.STREAM_MASK q) k && s.bitOf R.CAP_CFG.STREAM_EN k

/-- Insert the MISSED mark of the interval in progress, if there is one (R250). [DEDUCED, log 39] -/
def State.flushMissed (s : State) (q : Nat) : State :=
  let Q := s.seqr q
  if Q.missN = 0 then s
  else
    let s := (s.markStreams q).foldl (fun s k => s.capRecord k (markRec q 1 0 (min Q.missN 31) Q.missAt)) s
    s.updSeqr q fun Q => { Q with missN := 0 }

/-- The MISSED marks whose 1 µs interval can take no more occurrences: it ended 2.5 µs ago (R248, R250). [DEDUCED, log 39] -/
def State.flushOldMissed (s : State) : State :=
  s.each 4 fun q s =>
    if ((s.seqr q).missAt / 256000 + 1) * 1000 + 2500 ≤ s.now then s.flushMissed q else s

/-! ### Snapshot slots (R251 to R256) -/

/-- Frames the ring of slot `i` holds. [DEDUCED, log 41] -/
def State.ringLen (s : State) (i : Nat) : Nat := s.rd (R.CAP_SLOT0.SIZE i) * 1024 - 4

/-- Address of the header of slot `i` in HBM (R251, Table 15.1). [DEDUCED, log 41] -/
def State.slotAddr (s : State) (i : Nat) : Nat := 0x200000000 + s.rd (R.CAP_SLOT0.BASE i) * 0x100000

/-- Address of ring frame `f` of slot `i`. -/
def State.frameAddr (s : State) (i f : Nat) : Nat := s.slotAddr i + 4096 + 1024 * f

/-- The lowest WAIT slot of stream `k` enters PRE where no slot of the stream is in PRE or POST (R252). -/
def State.slotNext (s : State) (k : Nat) : State :=
  match s.activeSlot k with
  | some _ => s
  | none =>
    match (List.range 8).find? fun i => s.slotStream i == k && s.slotState i == slWait with
    | none => s
    | some i =>
      (s.wr (R.CAP_SLOT2.STATE i) slPre).updSlot i fun _ => { armAt := s.now }

/-- SLOT_ARM (R252): IDLE to WAIT, and to PRE where it may. -/
def execSlotArm (t : Time) (i : Fin 8) (s : State) : Host.Outcome State Fault Refusal :=
  s.run t fun s =>
    if s.slotState i = slIdle then
      ((s.wr (R.CAP_SLOT2.STATE i) slWait).wr R.CAP_SLOT_RESULT.RESULT 2).slotNext (s.slotStream i)
    else s.wr R.CAP_SLOT_RESULT.RESULT 5

/-- SLOT_RELEASE (R255) with the generation in CAP_SLOT_GEN. -/
def execSlotRelease (t : Time) (i : Fin 8) (s : State) : Host.Outcome State Fault Refusal :=
  s.run t fun s =>
    if s.slotState i ≠ slFull then (s.wr R.CAP_SLOT_RESULT.RESULT 3).raise .capRelRefused noHead
    else if s.rd (R.CAP_SLOT3.GEN i) ≠ s.rd R.CAP_SLOT_GEN.GEN then
      (s.wr R.CAP_SLOT_RESULT.RESULT 4).raise .capRelRefused noHead
    else
      ((s.wr (R.CAP_SLOT2.STATE i) (if s.on (R.CAP_SLOT2.REARM i) then slWait else slIdle)).wr
        R.CAP_SLOT_RESULT.RESULT 1).slotNext (s.slotStream i)

/-- ACT_PRE of a slot in ns (R253). -/
def State.actPre (s : State) (i : Nat) : Nat :=
  min (s.rd (R.CAP_SLOT1.PRE i) * 1000) ((s.slot i).trigAt / 256 - (s.slot i).armAt)

/-- How many of the newest stored frames have a DT at or after `lim`, in 1/256 ns: walk back over the ring from index `f`. -/
def State.countBack (s : State) (i lim : Nat) : Nat → Nat → Nat
  | 0, _ => 0
  | n + 1, f =>
    let f := if f = 0 then s.ringLen i - 1 else f - 1
    if lim ≤ 256 * s.hbmNat (s.frameAddr i f + 0x0C) 8 then 1 + s.countBack i lim n f else 0

/-- Start of the window of slot `i` in 1/256 ns: the trigger time less PRE (R253). -/
def State.slotBegin (s : State) (i : Nat) : Nat := (s.slot i).trigAt - s.rd (R.CAP_SLOT1.PRE i) * 256000

/-- End of the post-trigger of slot `i` in 1/256 ns (R252). -/
def State.slotEnd (s : State) (i : Nat) : Nat := (s.slot i).trigAt + (s.rd (R.CAP_SLOT1.POST i) + 2) * 256000

/-- Has the stream of slot `i` lost a record in its window (R244, Table 9.6)? -/
def State.slotLoss (s : State) (i : Nat) : Bool :=
  match (s.stream (s.slotStream i)).lostAt with
  | some a => decide ((s.slot i).armAt ≤ a) && decide (s.slotBegin i ≤ 256 * a) && decide (256 * a ≤ s.slotEnd i)
  | none => false

/-- The header of slot `i` (Table 9.6). -/
def State.slotHeader (s : State) (i : Nat) : List Byte :=
  let x := s.slot i
  let act := s.actPre i
  let trunc := flag (decide (act < s.rd (R.CAP_SLOT1.PRE i) * 1000))
  let b := pack [(4, s.rd (R.CAP_SLOT3.GEN i)),
    (4, s.slotStream i + 4 * i + 32 * x.seqr + 128 * trunc + 256 * flag (s.slotLoss i)),
    (8, x.trigAt / 256), (4, x.trigAt % 256), (4, act), (4, x.first), (4, x.nFrames), (4, x.trigFrame),
    (8, x.armAt), (8, 0), (8, 0)]
  b ++ bytesLE 4 (crc32c b)

/-- SLOT_FULL (R250, R252, R254): at the end of post-trigger the snapshot's frames are fixed, the header is written, the re-arm of
the sequencer that took the slot waits for it no longer, and the next WAIT slot may enter. [DEDUCED, log 41] -/
def execSlotFull (t : Time) (i : Fin 8) (s : State) : Host.Outcome State Fault Refusal :=
  s.run t fun s =>
    if s.slotState i ≠ slPost ∨ s.now * 256 < s.slotEnd i then s
    else
      let x := s.slot i
      let n := s.countBack i (s.slotBegin i) x.stored x.wr
      let s := s.each 4 fun q s => s.updSeqr q fun Q => { Q with slots := clearBit Q.slots i }
      let first := (x.wr + s.ringLen i - n) % max 1 (s.ringLen i)
      let s := if x.markPend then (s.updSlot i fun x => { x with trigFrame := s.freeVal 32 }).drawn else s
      let s := s.updSlot i fun x => { x with first := first, nFrames := n }
      let s := s.hbmWrite (s.slotAddr i) (s.slotHeader i)
      let s := (s.wr (R.CAP_SLOT2.STATE i) slFull).raise .capSlotFull noHead
      s.slotNext (s.slotStream i)

/-! ### Frames (R241 to R244) -/

/-- Lanes of capture port `k` that carry frames: those of its transmit set without a fault while it is UP or DEGRADED (R244). -/
def State.capLanes (s : State) (k : Nat) : Nat :=
  let q := 24 + 2 * k
  let st := s.rd (R.LANE_QSTATUS.PORT_STATE q)
  let set := s.rd (R.LANE_QSTATUS.TX_SET q)
  if st = 2 ∨ st = 3 then
    ((List.range 8).filter fun i => bit set i && !s.on (R.LANE_STATUS.TX_FAULT (q + i / 4) (i % 4))).length
  else 0

/-- The bytes of a stream frame (Table 9.3) with its records, oldest first. -/
def State.capFrame (s : State) (k seq : Nat) (loss : Bool) (rs : List (BitVec 48)) : List Byte :=
  let b := pack [(2, 0x4E4B), (1, 1), (1, k + 4 * flag loss), (4, seq), (2, s.rd R.DOM_STATUS.DID), (2, rs.length),
      (8, s.now), (4, 0)] ++ rs.flatMap (fun r => bytesLE 6 r.toNat) ++
    List.replicate (6 * (166 - rs.length)) 0xFF
  b ++ bytesLE 4 (crc32c b)

/-- Does a frame hold the TRIGGER mark that took slot `i`? -/
def holdsMark (i : Nat) (rs : List (BitVec 48)) : Bool :=
  rs.any fun r => bits r.toNat 47 45 == 5 && bits r.toNat 42 40 == 0 && bits r.toNat 39 37 == i

/-- A slot in PRE or POST stores a frame that holds records (R252). -/
def State.storeFrame (s : State) (i : Nat) (rs : List (BitVec 48)) (frame : List Byte) : State :=
  let x := s.slot i
  let s := s.hbmWrite (s.frameAddr i x.wr) frame
  let mark := x.markPend && holdsMark i rs
  s.updSlot i fun x => { x with
    stored := min (x.stored + 1) (s.ringLen i)
    wr := if x.wr + 1 < s.ringLen i then x.wr + 1 else 0
    trigFrame := if mark then x.wr else x.trigFrame
    markPend := x.markPend && !mark }

/-- A frame formed is put on its port, or not transmitted where the port cannot carry every frame (R244). -/
def State.sendFrame (s : State) (k count : Nat) (frame : List Byte) : State :=
  if !s.bitOf R.CAP_CFG.PORT_EN k then s
  else
    let n := s.capLanes k
    let credit := if n = 0 then 0 else min ((s.stream k).credit + n) 15
    let send := decide (8 ≤ credit) && (n == 8 || count != 0)
    let s := s.updStream k fun c => { c with credit := if send then credit - 8 else credit }
    if send then s.updCap fun c => { c with onPort := SMap.set (fun _ => []) c.onPort k frame }
    else s.inc (R.CAP_STREAM_FDROP.CNT_FDROP k)

/-- Is the frame time of stream `k` over (R242): 20.4 ns since its last frame closed? [DESIGN CHOICE, log 144] -/
def State.capFrameDue (s : State) (k : Nat) : Bool :=
  match (s.stream k).closedAt with
  | some a => decide (a + 20 ≤ s.now)
  | none => true

/-- CAPTURE_FRAME_CLOSE (R242, R244): the open frame of stream `k` closes, is sent or dropped, and is offered to slots.
[DEDUCED, log 38] -/
def execCaptureFrameClose (t : Time) (k : Fin 4) (s : State) : Host.Outcome State Fault Refusal :=
  s.run t fun s =>
    if !s.capturing || !s.bitOf R.CAP_CFG.STREAM_EN k || !s.capFrameDue k then s
    else
      let s := s.flushOldMissed
      let s := s.when (s.on R.CAP_RL.EN && s.rd R.CAP_RL.STREAM == k) State.drainReturns
      let c := s.stream k
      let rs := c.opened.reverse
      let s := s.inc (R.CAP_STREAM_FSEQ.FSEQ k)
      let frame := s.capFrame k (s.rd (R.CAP_STREAM_FSEQ.FSEQ k)) c.loss rs
      let s := s.updStream k fun c => { c with opened := [], loss := false, closedAt := some s.now }.fill
      let s := s.sendFrame k rs.length frame
      match s.activeSlot k with
      | some i =>
        let ended := s.slotState i == slPost && decide (s.slotEnd i < s.now * 256)
        if rs.isEmpty || ended then s else s.storeFrame i rs frame
      | none => s

/-! ### Trigger sequencers (R246 to R250) -/

/-- Sequencer `q` enters state `i` at a time in 1/256 ns: the counter clears, the timer starts, and Always is an occurrence
(R246, R247). -/
def State.seqEnter (s : State) (q i time : Nat) : State :=
  let s := (s.wr (R.SEQ_STAT.STATE q) i).wr (R.SEQ_STAT.COUNT q) 0
  s.updSeqr q fun Q => { Q with
    entry := time
    waiting :=
      let rest := Q.waiting.filter (·.src != 1)
      if s.rd (R.SEQ_ST0.COND q i) = 1 then insertOcc ⟨1, 0, false, time⟩ rest else rest }

/-- When the timer of a WITHIN or DELAY state of sequencer `q` expires, 1/256 ns (R246). -/
def State.seqTimer (s : State) (q : Nat) : Option Nat :=
  let i := s.rd (R.SEQ_STAT.STATE q)
  if !s.on (R.SEQ_CFG.EN q) || s.on (R.SEQ_STAT.REARMING q) then none
  else match s.rd (R.SEQ_ST1.TMODE q i) with
    | 1 | 3 => some ((s.seqr q).entry + s.rd (R.SEQ_ST1.T q i) * 256000)
    | _ => none

/-- The time of the next thing that sequencer `q` decides: its first occurrence, or its timer where that is earlier. -/
def State.seqNext (s : State) (q : Nat) : Option Nat :=
  let o := (s.seqr q).waiting.head?.map (·.time)
  match o, s.seqTimer q with
  | some a, some b => some (min a b)
  | a, none => a
  | none, b => b

/-- May sequencer `q` decide what carries a time: 2.5 µs after it, and after the sequencers below `q` have decided what they have
at that time (R248, R249)? [DEDUCED, log 164] -/
def State.seqMay (s : State) (q time : Nat) : Bool :=
  decide (time + 640000 ≤ s.now * 256) &&
    (List.range q).all fun p => !s.on (R.SEQ_CFG.EN p) || s.seqNext p != some time

/-- Does an occurrence match the condition of state `i` of sequencer `q` (Table 9.5)? -/
def State.occMatches (s : State) (q i : Nat) (o : Occ) : Bool :=
  let arg := s.rd (R.SEQ_ST0.ARG q i)
  let anyHead := arg == 0x10 || arg == o.arg
  o.src == s.rd (R.SEQ_ST0.COND q i) &&
    match o.src with
    | 0x01 | 0x0A | 0x0B => true
    | 0x02 => o.arg == arg && o.fall == s.on (R.SEQ_ST0.FALL q i)
    | 0x03 | 0x05 | 0x06 => anyHead
    | 0x04 => (o.arg ^^^ s.rd (R.SEQ_EVT.CODE q)) &&& s.rd (R.SEQ_EVT.MASK q) == 0
    | 0x07 => o.arg % 8 == arg % 8 && (bit arg 3 || o.arg / 16 == arg / 16)
    | 0x08 => o.arg == arg
    | 0x09 => o.arg == arg && arg != q
    | _ => false

/-- Is an occurrence at `time` admitted by the timer mode of the state (R246)? -/
def State.occAdmitted (s : State) (q i time : Nat) : Bool :=
  match s.rd (R.SEQ_ST1.TMODE q i) with
  | 2 => decide ((s.seqr q).entry + s.rd (R.SEQ_ST1.T q i) * 256000 ≤ time)
  | 3 => false
  | _ => true

/-- The slot of stream `k` that is in PRE at a trigger time in 1/256 ns: one whose ARM_DT is later is not (R253).
[DEDUCED, log 42] -/
def State.preSlot (s : State) (k time : Nat) : Option Nat :=
  (List.range 8).find? fun i => s.slotStream i == k && s.slotState i == slPre && decide ((s.slot i).armAt ≤ time / 256)

/-- Sequencer `q` triggers with a trigger time in 1/256 ns (R249, R253): marks, slots, TRIG_OUT, CAP_TRIGGER, re-arm. -/
def State.seqTrigger (s : State) (q time : Nat) : State :=
  let taken := (s.markStreams q).filterMap fun k => s.preSlot k time
  let s := (s.markStreams q).foldl (fun s k =>
    match s.preSlot k time with
    | some i =>
      let s := s.capRecord k (markRec q 0 i 0 time)
      let s := (s.wr (R.CAP_SLOT2.STATE i) slPost).inc (R.CAP_SLOT3.GEN i)
      s.updSlot i fun x => { x with trigAt := time, seqr := q, markPend := true }
    | none => (s.capRecord k (markRec q 2 0 0 time)).raise .capNoSlot noHead) s
  let s := s.when (s.on (R.SEQ_CFG.OUT_EN q)) fun s => s.updCap fun c => { c with
    trigOut := SMap.upd (fun _ => []) c.trigOut (s.rd (R.SEQ_CFG.OUT_IDX q)) (· ++ [s.now + 10 * s.rd (R.SEQ_CFG.OUT_W q)]) }
  let s := (s.raise .capTrigger noHead).inc (R.SEQ_TRIGS.TRIGS q)
  let s := s.wr64 (R.SEQ_TRIG_DT_LO.VALUE q) (R.SEQ_TRIG_DT_HI.VALUE q) (time / 256)
  let s := s.occur ⟨0x09, q, false, time⟩
  let s := (s.wr (R.SEQ_STAT.REARMING q) 1).wr (R.SEQ_STAT.COUNT q) 0
  s.updSeqr q fun Q => { Q with
    rearmAt := time / 256 + s.rd (R.SEQ_CFG.REARM q) * 1000
    slots := maskOf 8 fun i => taken.contains i
    missN := 0, missRaised := false }

/-- The action of state `i` for a time in 1/256 ns (Table 9.4); another state is entered at `entry`. -/
def State.seqAct (s : State) (q i time entry : Nat) : State :=
  match s.rd (R.SEQ_ST0.ACTION q i) with
  | 0 => s.seqEnter q ((i + 1) % 16) entry
  | 1 => s.seqEnter q (s.rd (R.SEQ_ST0.GOTO q i)) entry
  | 2 => s.seqTrigger q time
  | _ => s

/-- A missed trigger at a time (R250). [DEDUCED, log 39] -/
def State.seqMissed (s : State) (q time : Nat) : State :=
  let s := s.inc (R.SEQ_MISSED.MISSED q)
  let s := s.when ((s.seqr q).missN != 0 && (s.seqr q).missAt / 256000 != time / 256000) fun s => s.flushMissed q
  let first := (s.seqr q).missN == 0
  let s := s.updSeqr q fun Q => { Q with missN := Q.missN + 1, missAt := if first then time else Q.missAt }
  if (s.seqr q).missRaised then s
  else (s.updSeqr q fun Q => { Q with missRaised := true }).raise .capMissed noHead

/-- Sequencer `q` takes an occurrence (R246, R250): the state that it leads to is entered now. [DEDUCED, log 164] -/
def State.seqTake (s : State) (q : Nat) (o : Occ) : State :=
  let i := s.rd (R.SEQ_STAT.STATE q)
  if !s.on (R.SEQ_CFG.EN q) || !s.occMatches q i o || !s.occAdmitted q i o.time then s
  else
    let full := decide (s.rd (R.SEQ_ST0.COUNT_M1 q i) ≤ s.rd (R.SEQ_STAT.COUNT q))
    if s.on (R.SEQ_STAT.REARMING q) then
      if full then (s.wr (R.SEQ_STAT.COUNT q) 0).seqMissed q o.time else s.inc (R.SEQ_STAT.COUNT q)
    else
      let s := s.inc (R.SEQ_STAT.COUNT q)
      if full then s.seqAct q i o.time (s.now * 256) else s

/-- SEQUENCER_OCCURRENCE (R246, R248, R249): sequencer `q` takes the first occurrence that waits for it, unless its timer expires
before the occurrence. [DEDUCED, log 164] -/
def execSequencerOccurrence (t : Time) (q : Fin 4) (s : State) : Host.Outcome State Fault Refusal :=
  s.run t fun s =>
    match (s.seqr q).waiting with
    | [] => s
    | o :: os =>
      let expired := match s.seqTimer q with
        | some e => decide (e < o.time)
        | none => false
      if expired || !s.seqMay q o.time then s
      else
        let s := s.updSeqr q fun Q => { Q with waiting := os }
        if s.capturing then s.seqTake q o else s

/-- SEQUENCER_TIMER_EXPIRY (R246): WITHIN goes to TO_STATE and DELAY takes the action, at entry + T, once every occurrence up to
that time has been taken. [DEDUCED, log 164] -/
def execSequencerTimerExpiry (t : Time) (q : Fin 4) (s : State) : Host.Outcome State Fault Refusal :=
  s.run t fun s =>
    let i := s.rd (R.SEQ_STAT.STATE q)
    match s.seqTimer q with
    | none => s
    | some e =>
      let first := (s.seqr q).waiting.all fun o => decide (e < o.time)
      if !s.capturing || !first || !s.seqMay q e then s
      else if s.rd (R.SEQ_ST1.TMODE q i) = 1 then s.seqEnter q (s.rd (R.SEQ_ST1.TO_STATE q i)) e
      else s.seqAct q i e e

/-- TRIG_OUT_PULSE_END (R249): the pulses on TRIG_OUT[idx] that have lasted OUT_W end. [DESIGN CHOICE, log 144] -/
def execTrigOutPulseEnd (t : Time) (idx : Fin 4) (s : State) : Host.Outcome State Fault Refusal :=
  s.run t fun s => s.updCap fun c => { c with
    trigOut := SMap.upd (fun _ => []) c.trigOut idx (·.filter fun e => decide (s.now < e)) }

/-- Is TRIG_OUT[idx] high? -/
def State.trigOutHigh (s : State) (idx : Nat) : Bool := SMap.get (fun _ => []) s.cap.trigOut idx != []

/-- Re-arm ends: the sequencer enters state 0 (R250). -/
def State.seqRearmed (s : State) (q : Nat) : State :=
  ((s.flushMissed q).wr (R.SEQ_STAT.REARMING q) 0).seqEnter q 0 (s.now * 256)

/-- REARM_END (R250): from REARM after the trigger, and not while a slot its trigger moved to POST is still in it.
[DESIGN CHOICE, log 144] -/
def execRearmEnd (t : Time) (q : Fin 4) (s : State) : Host.Outcome State Fault Refusal :=
  s.run t fun s =>
    if !s.on (R.SEQ_STAT.REARMING q) || s.now < (s.seqr q).rearmAt || (s.seqr q).slots != 0 then s else s.seqRearmed q

/-- SEQUENCER_FORCE (R247): an occurrence of source 0x0A for sequencer `q`. -/
def execSequencerForce (t : Time) (q : Fin 4) (s : State) : Host.Outcome State Fault Refusal :=
  s.run t fun s => s.updSeqr q fun Q => { Q with waiting := insertOcc ⟨0x0A, 0, false, s.now * 256⟩ Q.waiting }

/-- SEQUENCER_RESTART (R250): to state 0, ending any re-arm. -/
def execSequencerRestart (t : Time) (q : Fin 4) (s : State) : Host.Outcome State Fault Refusal :=
  s.run t fun s => s.seqRearmed q

/-- A write of CAP_SEQ_CFG.EN: 1 runs the sequencer from state 0, 0 holds it there (sequencer registers of 09). -/
def State.seqEnable (s : State) (q : Nat) : State :=
  (s.updSeqr q fun Q => { Q with waiting := [] }).seqRearmed q

/-! ### Status records (R240) -/

/-- Lane `l` of quad `q`: up, LOS, LOL, asleep (Table 9.2). [DEDUCED, log 40] -/
def State.laneStatusBits (s : State) (q l : Nat) : Nat :=
  flag (s.on (R.LANE_STATUS.CW_LOCK q l)) + 2 * s.rd (R.LANE_STATUS.LOS q l) + 4 * s.rd (R.LANE_STATUS.LOL q l) +
    8 * flag (s.on (R.LANE_CFG.RX_SLEEP q l) && s.on (R.LANE_CFG.TX_SLEEP q l))

/-- A channel's filtered level: safety inputs n × 2 + channel, reset channels at 16 and 17. [DEDUCED, log 40] -/
def State.chanLevel (s : State) (i : Nat) : Bool := (SMap.get (fun _ => ({} : Channel)) s.safe.chans i).filt

/-- The value of a status source (Table 9.2). [DEDUCED, log 40] -/
def State.statusValue (s : State) (src : Nat) : Nat :=
  if src < 0x20 then
    let v := (s.head (src / 2)).servo
    wrapS 24 (if src % 2 = 0 then v.x.err else v.y.err)
  else if src < 0x30 then s.rd (R.HK_RES0.RESULT (src - 0x20))
  else if src = 0x30 then
    (maskOf 8 fun n => s.chanLevel (2 * n)) + 2 ^ 8 * (maskOf 8 fun n => s.chanLevel (2 * n + 1)) +
      2 ^ 16 * (maskOf 4 s.ossdOn) + 2 ^ 20 * (maskOf 2 fun c => s.chanLevel (16 + c))
  else if src < 0x64 then sumTo 4 fun l => s.laneStatusBits (src - 0x40) l * 16 ^ l
  else if src = 0x70 then
    s.rd R.PAIR_STATUS.ROLE + 4 * flag (s.rd R.PAIR_STATUS.TOKEN_OUT == 2) + 8 * s.rd R.PAIR_STATUS.PARTNER
  else if src = 0x71 then s.devState
  else s.rd (R.HEAD_STATE.STATE (src - 0x80)) + 8 * s.inhWord (src - 0x80)

/-- The status sources, in the order of Table 9.2. -/
def statusSources : List Nat :=
  (List.range 0x31) ++ (List.range 36).map (0x40 + ·) ++ [0x70, 0x71] ++ (List.range 16).map (0x80 + ·)

/-- Does a change from `old` to `v` form a record (R240)? -/
def State.statusDiffers (s : State) (src old v : Nat) : Bool :=
  let d := (sext 24 v - sext 24 old).natAbs
  if src < 0x20 then decide (0 < d) && decide (s.rd R.CAP_STAT.SERVO_DB ≤ d)
  else if src < 0x30 then decide (0 < d) && decide (s.rd R.CAP_STAT.HK_DB ≤ d)
  else v != old

/-- CAPTURE_STATUS_TICK (R240): once in each 2,048 ns. [DESIGN CHOICE, log 144] -/
def execCaptureStatusTick (t : Time) (s : State) : Host.Outcome State Fault Refusal :=
  s.run t fun s =>
    let s := s.flushOldMissed
    let tick := s.now / 2048
    if !s.capturing || !s.on R.CAP_STAT.EN || !s.dev.sealed || s.cap.statusTick == some tick then s
    else statusSources.foldl (fun s src =>
      let v := s.statusValue src
      let due := match SMap.get (fun _ => none) s.cap.status src with
        | none => true
        | some old => s.statusDiffers src old v
      if due then
        (s.updCap fun c => { c with status := SMap.set (fun _ => none) c.status src (some v) }).capRecord
          (s.rd R.CAP_STAT.STREAM) (capRec 4 (src * 2 ^ 37 + v % 2 ^ 24 * 2 ^ 13 + s.now / 2 ^ 11 % 2 ^ 13))
      else s) (s.updCap fun c => { c with statusTick := some tick })

end Sys2Proof.Machine
end

