-- ==== Sys2Proof/Machine/Coding.lean ====
section
/-! DEFINITION. Formulas of the clocks and lanes that no command runs step by step: the spread modulation and the timing PLL
(17_clocks.md, R414, R420), the line coding of lanes (16_lanes.md, R395 to R397) and the copies of the tables in the HBM
(15_memory.md, R378). -/

namespace Sys2Proof.Machine

/-! ### Spread modulation (R135, R420) -/

/-- Where in its period of 32,000 ns the spread modulation is. It is aligned to DT; after a step of DT it takes the new alignment
at the start of its next period. [DEDUCED, log 134] -/
def State.spreadPhase (s : State) : Nat :=
  if s.now < s.clk.modUntil then (s.now + s.clk.modBase) % 32000 else s.now % 32000

/-- Is the frequency in the rising half of the triangle? The falling half is [0, 16,000) ns. -/
def State.spreadRising (s : State) : Bool := decide (16000 ≤ s.spreadPhase)

/-- SPREAD as a fraction. -/
def spreadDepth : Nat → Rat
  | 0 => 0
  | 1 => 5 / 1000
  | 2 => 10 / 1000
  | _ => 20 / 1000

/-- The frequency of the clocks of the logic PLL as a fraction of nominal: triangular between 1 and 1 − SPREAD. -/
def State.spreadFactor (s : State) : Rat :=
  let p := s.spreadPhase
  let x := if p < 16000 then p else 32000 - p
  1 - spreadDepth (s.rd R.CLK_CFG.SPREAD) * (x : Nat) / 16000

/-! ### Timing PLL (R414) -/

/-- The divider ratio: 40 × (1 + ADJ × 2^-16 × 10^-6). -/
def State.tpllRatio (s : State) : Rat := 40 * (1 + (s.rdS R.CLK_FREQ_ADJ.ADJ : Rat) / 65536 / 1000000)

/-- The seed of the dither of the divider's least significant bit. -/
def State.tpllSeed (s : State) : Nat :=
  let x := s.rd R.CLK_TPLL.SEED
  if x = 0 then s.rd R.SEC_SERIAL_LO.SERIAL % 2 ^ 23 else x

/-- One step of the 23-bit shift register of the dither, with taps at x^23 and x^18: the bit and the next state.
[DEDUCED, log 135] -/
def tpllDither (x : Nat) : Nat × Nat :=
  let b := (x / 2 ^ 22 + x / 2 ^ 17) % 2
  (b, (2 * x + b) % 2 ^ 23)

/-! ### Line coding of lanes (R395 to R397) -/

/-- The PAM4 level of a pair of bits, MSB first (Gray coding). -/
def gray : Nat → Nat
  | 0 => 0
  | 1 => 1
  | 3 => 2
  | _ => 3

/-- The amplitude of a level. -/
def level (g : Nat) : Int := 2 * (g : Int) - 3

/-- Precoding: P(j) = (G(j) − P(j − 1)) mod 4, after `last`. [DEDUCED, log 135] -/
def precode : Nat → List Nat → List Nat
  | _, [] => []
  | last, g :: gs => let p := (g + 4 - last % 4) % 4; p :: precode p gs

/-- The receiver's inverse of the precoding. -/
def unprecode : Nat → List Nat → List Nat
  | _, [] => []
  | last, p :: ps => (p + last) % 4 :: unprecode p ps

/-- The self-synchronising scrambler x^58 + x^39 + 1 over bits, from its last 58 output bits, newest in bit 0.
[DEDUCED, log 135] -/
def scramble : Nat → List Bool → List Bool
  | _, [] => []
  | x, b :: bs =>
    let y := (b ^^ bit x 38) ^^ bit x 57
    y :: scramble ((2 * x + flag y) % 2 ^ 58) bs

/-- `n` successive values draw(&s, 10) of R77. -/
def draws10 : Nat → Nat → List Nat
  | 0, _ => []
  | n + 1, x => let (v, x') := lfsrDraw 10 x 0; v :: draws10 n x'

/-- The mask of the 30 parity symbols of a codeword: logical position, lanes of the stripe, row count. [DEDUCED, log 135] -/
def codewordMask (p n c : Nat) : List Nat := draws10 30 (0x2A000000 + p * 2 ^ 12 + (n - 1) * 2 ^ 8 + c % 64)

/-- The logical position of port lane `l` in a set: ascending by index; 0xF outside the set. -/
def stripePos (set l : Nat) : Nat := if bit set l then popcount l set else 0xF

/-- The block of the payload stream that a logical position carries in a row of `n` lanes. -/
def stripeBlock (n row p : Nat) : Nat := row * n + p

/-! ### Code and calibration tables (R377, R378) -/

/-- Does a byte address of the table region belong to copy `st`? [DEDUCED, log 136] -/
def inCopy (st a : Nat) : Bool := decide (0x10E000000 ≤ a) && decide (a < 0x10F000000) && pcOf a / 32 == st

end Sys2Proof.Machine
end

