-- ==== Sys2Proof/Machine/ChainCode.lean ====
section
/-! DEFINITION. The coding of the emitter chain (03_firing.md, R87 to R91): symbols and their cells, the frame that the device
sends, and what it reads from the pulses that return on CHAIN_RX. -/

namespace Sys2Proof.Machine

/-! ### Symbols (R87, Table 3.2) -/

/-- The length of a cell in ns. -/
def chainCell : Nat := 20

/-- The high time of a symbol in ns; the line is low for the rest of the cell. -/
def ChainSym.high : ChainSym → Nat
  | .zero => 5
  | .one => 10
  | .mark => 15

/-- The symbol that a receiver decides from a high time in units of 0.1 ns. -/
def chainDecide (high : Nat) : ChainSym := if high < 75 then .zero else if high ≤ 125 then .one else .mark

/-- The level of a line that carries symbols, `a` ns after the start of the first cell. -/
def chainLevel (syms : List ChainSym) (a : Nat) : Bool :=
  match syms[a / chainCell]? with
  | some x => decide (a % chainCell < x.high)
  | none => false

/-- The symbols of a byte, MSB first (R88). -/
def byteSyms (b : Byte) : List ChainSym :=
  [7, 6, 5, 4, 3, 2, 1, 0].map fun i => if bit b.toNat i then .one else .zero

/-- The symbols of bytes. -/
def chainSyms (bs : List Byte) : List ChainSym := bs.flatMap byteSyms

/-! ### Fields and frames (R88, Table 3.3) -/

/-- One bit step of CRC-8, polynomial 0x07 (R88). -/
def crc8Bit (c : Nat) : Nat := if 128 ≤ c then (2 * c % 256) ^^^ 7 else 2 * c

/-- CRC-8 over bytes, initial value 0xFF, no final XOR (R88). -/
def crc8 (bs : List Byte) : Nat :=
  bs.foldl (fun c b => crc8Bit (crc8Bit (crc8Bit (crc8Bit (crc8Bit (crc8Bit (crc8Bit (crc8Bit (c ^^^ b.toNat))))))))) 0xFF

/-- A field with its CRC-8 (R88). [DEDUCED, log 143] -/
def chainField (bs : List Byte) : List Byte := bs ++ bytesLE 1 (crc8 bs)

/-- TYPE of a frame. -/
def chainType : ChainCmd → Nat
  | .pattern _ => 0x11
  | .swap => 0x12
  | .proof _ => 0x13
  | .verify => 0x14
  | .diag => 0x15
  | .config => 0x21
  | .load _ => 0x22
  | .mask => 0x23

/-- The header of a frame: TYPE and its CRC-8. -/
def chainHeader (c : ChainCmd) : List Byte := chainField (bytesLE 1 (chainType c))

/-- The bytes of a status tail. -/
def chainTail : ChainCmd → Nat
  | .verify => 2
  | .diag => 16
  | _ => 0

/-- A frame as the device sends it: open MARK, header, payload, mid MARK, and the close MARK, before which the drivers put
their status entries (R88, R89). -/
def chainSent (c : ChainCmd) (payload : List Byte) : List ChainSym :=
  .mark :: chainSyms (chainHeader c) ++ chainSyms payload ++ [.mark, .mark]

/-- The length of a frame with a payload of `n` bytes and the status entries of `d` drivers, in ns. [DEDUCED, log 143] -/
def chainNs (c : ChainCmd) (n d : Nat) : Nat := (19 + 8 * n + d * 8 * (chainTail c + 2)) * chainCell

/-! ### A returned frame (R89 to R91) -/

/-- One status entry (R90): the bits of the status byte, whether the CRC-8 over byte and tail is right, and the tail: open and
short mask, or the memory CRC of VERIFY. -/
structure ChainEntry where
  crcOk : Bool
  rxErr : Bool
  fault : Bool
  overtemp : Bool
  nextValid : Bool
  act : Bool
  opens : Nat
  shorts : Nat
  memCrc : Nat
deriving DecidableEq, Repr

/-- A frame as it returns on CHAIN_RX: its header as sent, its status section in whole entries, and the entries. -/
structure ChainReturn where
  headerIntact : Bool
  whole : Bool
  entries : List ChainEntry
deriving DecidableEq, Repr

/-- The entry that its bytes spell (R90); bits [2:0] of the status byte are reserved. [DEDUCED, log 143] -/
def chainEntry (tail : Nat) (bs : List Byte) : ChainEntry :=
  let b := ofBytesLE (bs.take 1)
  { crcOk := crc8 (bs.take (tail + 1)) == ofBytesLE (bs.drop (tail + 1))
    rxErr := bit b 7, fault := bit b 6, overtemp := bit b 5, nextValid := bit b 4, act := bit b 3
    opens := if tail = 16 then ofBytesLE ((bs.drop 1).take 8) else 0
    shorts := if tail = 16 then ofBytesLE ((bs.drop 9).take 8) else 0
    memCrc := if tail = 2 then ofBytesLE ((bs.drop 1).take 2) else 0 }

/-- The bits before the next MARK, and what follows it; none where no MARK follows. -/
def toMark : List ChainSym → List Bool × Option (List ChainSym)
  | [] => ([], none)
  | .mark :: xs => ([], some xs)
  | .one :: xs => let (bs, r) := toMark xs; (true :: bs, r)
  | .zero :: xs => let (bs, r) := toMark xs; (false :: bs, r)

/-- The number that bits spell, MSB first. -/
def ofBits (bs : List Bool) : Nat := bs.foldl (fun n b => 2 * n + flag b) 0

/-- Byte `i` of bits. -/
def bitsByte (bs : List Bool) (i : Nat) : Byte := BitVec.ofNat 8 (ofBits ((bs.drop (8 * i)).take 8))

/-- The status entries that bits spell, in driver order. -/
def chainEntries (tail : Nat) (bs : List Bool) : List ChainEntry :=
  let n := tail + 2
  (List.range (bs.length / (8 * n))).map fun k => chainEntry tail ((List.range n).map fun i => bitsByte bs (n * k + i))

/-- The frame that high times on CHAIN_RX spell, in units of 0.1 ns; none before the close MARK has returned. -/
def chainRead (c : ChainCmd) (highs : List Nat) : Option ChainReturn :=
  match highs.map chainDecide with
  | .mark :: xs =>
    match (toMark (xs.drop 16)).2 with
    | none => none
    | some st =>
      match toMark st with
      | (_, none) => none
      | (bs, some _) => some
        { headerIntact := xs.take 16 == chainSyms (chainHeader c), whole := bs.length % (8 * (chainTail c + 2)) == 0
          entries := chainEntries (chainTail c) bs }
  | _ => none

end Sys2Proof.Machine
end

