-- ==== Sys2Proof/Machine/HeadOps.lean ====
section
/-! DEFINITION. What happens at the changes of head state (Table 1.5) and the leave and head-supply accounts of a head
(R429 to R434), which the sequencer, the servo, the steward and the boot all use. -/

namespace Sys2Proof.Machine

/-! ### Leave (R429 to R433) -/

/-- The requester of head `h`'s dwells. -/
def headDwell (h : Nat) : Requester := .dwell (Fin.ofNat 16 h)

/-- Units of the non-SAFETY grants in force (granted of R430). -/
def Pwr.granted (p : Pwr) : Nat :=
  (p.grants.filter fun l => l.who.cls != 0).foldl (fun a l => a + l.units) 0

/-- The budget in force, B (R428, R440). -/
def State.budget (s : State) : Nat :=
  if s.on R.PWR_STATUS.CUT then min (s.rd R.PWR_CFG.BUDGET) (s.rd R.PWR_CUT.CUT) else s.rd R.PWR_CFG.BUDGET

/-- Show granted + P and B in PWR_STATUS. -/
def State.showPower (s : State) : State :=
  (s.wr R.PWR_STATUS.GRANTED (s.pwr.granted + s.pwr.released)).wr R.PWR_STATUS.B s.budget

/-- A requester asks for leave; it has at most one request outstanding (R429). -/
def State.leaveRequest (s : State) (who : Requester) (units : Nat) : State :=
  if units = 0 ∨ s.pwr.waiting.any (·.who == who) then s
  else s.updPwr fun p => { p with waiting := p.waiting ++ [⟨who, units, s.now, false⟩] }

/-- A requester withdraws its request (R433). -/
def State.leaveWithdraw (s : State) (who : Requester) : State :=
  s.updPwr fun p => { p with waiting := p.waiting.filter (·.who != who) }

/-- Take `n` units out of a requester's grants. -/
def takeUnits (who : Requester) : Nat → List Leave → List Leave
  | _, [] => []
  | n, l :: ls =>
    if l.who = who then
      if l.units ≤ n then takeUnits who (n - l.units) ls else { l with units := l.units - n } :: ls
    else l :: takeUnits who n ls

/-- A requester releases `n` units: they enter P (R432). -/
def State.leaveRelease (s : State) (who : Requester) (n : Nat) : State :=
  let had := (s.pwr.grants.filter (·.who == who)).foldl (fun a l => a + l.units) 0
  let n := min n had
  (s.updPwr fun p => { p with grants := takeUnits who n p.grants, released := p.released + n }).showPower

/-- A requester releases everything it holds and withdraws what it asks (R432). -/
def State.leaveEnd (s : State) (who : Requester) : State :=
  (s.leaveWithdraw who).leaveRelease who ((s.pwr.grants.map (·.units)).sum)

/-! ### Head-supply pool (R434) -/

/-- The pool has risen by P_HS × 0.1 µJ in every µs of DT since it was last looked at, up to DEPTH × 100 µJ (R434).
[DEDUCED, log 37] -/
def State.refillPool (s : State) : State :=
  let n := s.now / 1000 - s.pwr.poolAt / 1000
  let s := s.updPwr fun p => { p with
    poolAt := s.now
    pool := min (p.pool + n * s.rd R.PWR_HS_CFG.P_HS) (max p.pool (1000 * s.rd R.PWR_HS_CFG.DEPTH)) }
  s.wrRound R.PWR_HS_LEVEL.LEVEL s.pwr.pool 10

/-- Deduct the energy of the dwell being prepared, once, when the pool holds it. -/
def State.coverDwell (s : State) (h : Nat) : State :=
  let s := s.refillPool
  let p := (s.head h).power
  if p.covered ∨ s.pwr.pool < p.energy then s
  else
    let s := s.updPwr fun w => { w with pool := w.pool - p.energy }
    let s := s.wrRound R.PWR_HS_LEVEL.LEVEL s.pwr.pool 10
    s.updPower h fun p => { p with covered := true }

/-- The leave of a head's dwell is in place (R433): the pool is tested (R434). -/
def State.dwellGranted (s : State) (h : Nat) : State :=
  (s.updPower h fun p => { p with granted := true }).coverDwell h

/-- Units a descriptor of head `h` needs: none for SKIP (R53), else what the power model gives (R433). -/
def State.unitsOf (s : State) (h : Nat) (d : List Nat) (asSkip : Bool) : Nat :=
  if asSkip || Desc.skip d then 0
  else match s.pattern h (Desc.pattern d) with
    | some p => p.units
    | none => 0

/-- Supply energy of a descriptor's dwell in 0.1 µJ (R86). -/
def State.energyOf (s : State) (h : Nat) (d : List Nat) : Nat :=
  match s.pattern h (Desc.pattern d) with
  | some p => (Desc.shotCntM1 d + 1) * p.supply
  | none => 0

/-- Ask for the leave of the dwell whose move phase begins: keep what serves, release the rest, request the difference
(R53, R433). -/
def State.dwellLeave (s : State) (h : Nat) (d : List Nat) (asSkip : Bool) : State :=
  let need := s.unitsOf h d asSkip
  let energy := s.energyOf h d
  let s := s.updPower h fun p => { p with need := need, granted := false, covered := false, energy := energy }
  let held := (s.head h).power.units
  if need ≤ held then
    let s := (s.leaveRelease (headDwell h) (held - need)).updPower h fun p => { p with units := need }
    s.dwellGranted h
  else s.leaveRequest (headDwell h) (need - held)

/-- The head's FIRING leave ends: nothing is kept, and LEAVE and SUPPLY clear (R433, R434). -/
def State.firingEnd (s : State) (h : Nat) : State :=
  let s := (s.leaveEnd (headDwell h)).leaveEnd (.flyback (Fin.ofNat 16 h))
  let s := s.updPower h fun p => { p with units := 0, granted := false, covered := false, need := 0 }
  (s.setInh h .leave false).setInh h .supply (s.inh h .supply && !s.dev.sealed)

/-! ### Excitation (R261, R276) -/

/-- T_hold of a response in samples (Table 10.1). -/
def tHold (resp : Nat) : Nat :=
  match resp with
  | 1 | 5 => 6
  | 4 => 7
  | _ => 8

/-- T_hold of axis `a` of head `h` in ns. -/
def State.tHoldNs (s : State) (h a : Nat) : Nat := tHold (s.rd (R.SRV_CFG.RESP h a)) * 10000

/-- Change excitation mode (0 OFF, 1 NULL, 2 RUN) and level: both axes hold their estimate for T_hold (R276). -/
def State.excite (s : State) (h mode level : Nat) : State :=
  let s := (s.wr (R.SRV_STATUS.MODE h) mode).wr (R.SRV_STATUS.LEVEL h) level
  let s := s.updServo h fun v => { v with
    x := { v.x with holdUntil := s.now + s.tHoldNs h 0 }
    y := { v.y with holdUntil := s.now + s.tHoldNs h 1 } }
  s.refreshServo h

/-- The commanded excitation level. -/
def State.excLevel (s : State) (h : Nat) : Nat := s.rd (R.SRV_CTL.EXC_LEVEL h)

/-! ### Sector ranges (R286, R288) -/

/-- The sectors of a range, lowest first (sy × 64 + sx). -/
def Range.sectors (r : Range) : List Nat :=
  (List.range 64).flatMap fun sy => (List.range 64).filterMap fun sx =>
    if r.loX ≤ sx ∧ sx ≤ r.hiX ∧ r.loY ≤ sy ∧ sy ≤ r.hiY then some (sy * 64 + sx) else none

/-- The sector index of a position in EU on axis `a` of head `h`, before the footprint. -/
def State.sectorOf (s : State) (h a : Nat) (eu : Int) : Int :=
  asr (eu - s.rdS (R.EYE_GRID.ORIGIN h a)) (s.rd (R.EYE_GRID.W_LOG2 h a))

/-- Held to 0 to 63. -/
def held63 (v : Int) : Nat := (clampI 0 63 v).toNat

/-- The range about positions from `lo` to `hi` EU on each axis with footprint offsets. -/
def State.rangeOf (s : State) (h : Nat) (loX hiX loY hiY f0x f1x f0y f1y : Int) : Range :=
  let g : Int := s.rd (R.EYE_GUARD.GUARD h)
  { loX := held63 (s.sectorOf h 0 (loX - g) + f0x), hiX := held63 (s.sectorOf h 0 (hiX + g) + f1x)
    loY := held63 (s.sectorOf h 1 (loY - g) + f0y), hiY := held63 (s.sectorOf h 1 (hiY + g) + f1y) }

/-- The range of a dwell with set-points in PU and a pattern (R286). -/
def State.dwellRange (s : State) (h : Nat) (spX spY : Int) (p : Pattern) : Range :=
  s.rangeOf h (spX * 256) (spX * 256) (spY * 256) (spY * 256) p.f0x p.f1x p.f0y p.f1y

/-- The range of a proof pulse: set-point in force and estimate of the last sample (R288). -/
def State.proofRange (s : State) (h : Nat) : Range :=
  let v := (s.head h).servo
  let i := s.image h
  let x := v.x.sp * 256
  let y := v.y.sp * 256
  s.rangeOf h (min x v.x.est) (max x v.x.est) (min y v.y.est) (max y v.y.est) i.p0x i.p1x i.p0y i.p1y

/-! ### The emitter chain (R87 to R93) -/

/-- Drivers in the chain, D. -/
def State.drivers (s : State) (h : Nat) : Nat := s.rd (R.EMT_CFG.DRIVERS_M1 h) + 1

/-- Emitters per driver, E. -/
def State.emitters (s : State) (h : Nat) : Nat := s.rd (R.EMT_CFG.EMIT_M1 h) + 1

def driverDefault (_ : Nat) : Driver := {}

/-- Driver `i` of the chain of head `h`, as the device knows it. -/
def State.driver (s : State) (h i : Nat) : Driver := SMap.get driverDefault (s.head h).chain.drivers i

/-- Enable mask and current code of driver `i` in a pattern of the image (R93). -/
def State.patternOf (s : State) (h p i : Nat) : Nat × Nat :=
  match s.pattern h p with
  | some x => x.drivers.getD i (0, 0)
  | none => (0, 0)

/-- The payload of a frame, each field with its CRC-8 (R88, Table 3.3); a share frame has one field for each driver. Bytes go
as R3 orders them, the bits of a byte MSB first. [DEDUCED, log 143] -/
def State.chainPayload (s : State) (h : Nat) (c : ChainCmd) : List Byte :=
  let share (f : Nat → List Byte) : List Byte := (List.range (s.drivers h)).flatMap fun i => chainField (f i)
  match c with
  | .pattern p => chainField (bytesLE 2 (p % 2 ^ 12))
  | .proof e => chainField (bytesLE 2 (e % 2 ^ 6))
  | .swap | .verify | .diag => []
  | .config => share fun _ => bytesLE 2 (256 * s.rd (R.EMT_CFG.EMIT_M1 h) + (s.image h).pulseWidth % 256)
  | .load p => share fun i =>
      let (m, k) := s.patternOf h p i
      bytesLE 2 p ++ bytesLE 8 m ++ bytesLE 2 (k % 16)
  | .mask => share fun i => bytesLE 8 (s.driver h i).mask

/-- Does every permission of the fire gate hold (R85)? No strobe leaves during the vernier calibration (R73). -/
def State.gateOpen (s : State) (h : Nat) : Bool := s.inhWord h == 0 && !(s.head h).scan.calVernier

/-- A strobe at `f` (1/256 ns): the edge of the timing clock and the code of the fine vernier that place it there, with the offset
and the gain of the last calibration; before the first one the code is the fine part (R71, R133). [DEDUCED, log 148] -/
def State.vernier (s : State) (h f : Nat) : State :=
  let cal := R.CAL_REC_HITS.addr (1536 + h)
  let gain := s.rd ⟨cal, 31, 16⟩
  let x : Int := f - s.rdS ⟨cal, 15, 0⟩
  let fine := (x % 256).toNat
  s.updFire h fun y => { y with
    edge := (x / 256).toNat, vernier := if gain = 0 then fine else min 255 ((fine * 2 ^ 15 + gain / 2) / gain) }

/-- The proof strobe of a PROOF frame for emitter `e`, past the fire gate, and the emitter's proof (R85, R98, R288, R292).
[DEDUCED, log 106] -/
def State.proofStrobe (s : State) (h e : Nat) : State :=
  let r := s.proofRange h
  let s := s.when (!s.blocked h) fun s => s.updChain h fun x => { x with proofs := SMap.set (fun _ => 0) x.proofs e s.now }
  s.when (s.gateOpen h) fun s =>
    let s := s.updEye h fun y => { y with proof := r, proofAt := some s.now }
    let s := s.updFire h fun f => { f with
      lastProof := some s.now, fireUntil := s.now + s.rd (R.FIRE_CFG.STROBE_W h) }
    let s := s.vernier h (s.now * 256)
    s.wr64 (R.FIRE_LAST_DT_LO.VALUE h) (R.FIRE_LAST_DT_HI.VALUE h) s.now

/-- Send a frame that has failed `fails` times before. A PROOF frame has its strobe, at each sending (R98). -/
def State.chainStart (s : State) (h : Nat) (c : ChainCmd) (fails : Nat) : State :=
  let xs := chainSent c (s.chainPayload h c)
  let s := s.updChain h fun x => { x with flight := some ⟨c, fails, s.now⟩, sent := xs }
  match c with
  | .proof e => s.proofStrobe h e
  | .verify => s.when (s.rd (R.EMT_STATUS.CHAIN h) == 1) fun s => s.wr (R.EMT_STATUS.CHAIN h) 2
  | _ => s

/-- Send the next frame of the queue when the chain is free. -/
def State.chainNext (s : State) (h : Nat) : State :=
  let x := (s.head h).chain
  match x.flight, x.queue with
  | none, c :: cs =>
    (s.updChain h fun x => { x with queue := cs }).chainStart h c (if c = .swap then x.swapFails else 0)
  | _, _ => s

/-- Put a frame at the end of the queue. -/
def State.chainPut (s : State) (h : Nat) (c : ChainCmd) : State :=
  (s.updChain h fun x => { x with queue := x.queue ++ [c] }).chainNext h

/-! ### Head states (Table 1.5) -/

/-- The frame of a head is abandoned (R58): no dwell, no flyback, the sequencer idle. -/
def State.abandonFrame (s : State) (h : Nat) : State :=
  let s := s.updScan h fun c => { c with
    inFrame := false, firstFrame := true, parkPend := false, fire := false, settledAt := none, settleRun := 0,
    fixedOpen := none, noticeBad := false
    commitDue := c.commitDue || s.rd (R.SCAN_STATUS.COMMIT_STATE h) == 2 || s.rd (R.SCAN_STATUS.COMMIT_STATE h) == 3 }
  let s := (s.wr (R.SCAN_POS.PHASE h) 0).wr (R.SCAN_POS.FENCE h) 0
  s.firingEnd h

/-- Set the head state and what follows from it at once. -/
def State.setHead (s : State) (h st : Nat) : State :=
  ((s.wr (R.HEAD_STATE.STATE h) st).showTokenOnly h).refreshServo h

/-- The head enters OFF: its masks and holds clear (R103), the eye-safety latches clear (R284), excitation is OFF (R276). EYE stays
set where no zero calibration has passed since the last entry to PARKED (R285). -/
def State.headOff (s : State) (h : Nat) : State :=
  let s := (s.abandonFrame h).leaveEnd (.park (Fin.ofNat 16 h))
  let s := s.updScan h fun c => { c with startHeld := none, calServo := false, calZero := false, calVernier := false,
                                          parking := false }
  let s := s.updChain h fun x => { overtemp := x.overtemp }
  let s := (s.wr (R.EMT_STATUS.CHAIN h) 0).wr (R.EMT_STATUS.MASKED h) 0
  let s := (s.wrB (R.EYE_STATUS.MON_FAIL h) false).wrB (R.EYE_STATUS.PULSE_HIGH h) false
  let s := s.updEye h fun e => { e with lowRun := 0 }
  let s := s.updServo h fun v => { v with calStep := 0, faultPark := false, track := false, excPend := false }
  let s := s.when (s.rd (R.SRV_STATUS.MODE h) != 0) fun s => s.excite h 0 (s.rd (R.SRV_STATUS.LEVEL h))
  let s := (s.wr (R.SRV_STATUS.SEQ h) 0).setHead h hsOff
  ((s.refreshEmitter h).refreshEye h).refreshThermal h

/-- The head enters PARKED: the frame is abandoned and the calibrations of R265, R285 and R73 begin (R32).
[DESIGN CHOICE, log 36] -/
def State.headPark (s : State) (h : Nat) : State :=
  let wasOff := s.headState h == hsOff
  let s := (s.abandonFrame h).leaveEnd (.park (Fin.ofNat 16 h))
  let s := s.updScan h fun c => { c with calServo := true, calZero := true, calVernier := true, parking := false }
  let s := s.when (wasOff || s.rd (R.EMT_STATUS.CHAIN h) == 4) fun s => (s.wr (R.EMT_STATUS.CHAIN h) 1).refreshEmitter h
  let s := (s.wrB (R.EYE_STATUS.ZERO_PEND h) true).updEye h fun e => { e with zeroWait := true, zeroFrom := s.now }
  let s := s.wr (R.HEAD_STATE.FAULT_CAUSE h) 0
  let s := s.updServo h fun v => { v with calStep := 1, calAt := s.now, faultPark := false, track := false, parkGood := 0 }
  let s := (s.wr (R.SRV_STATUS.SEQ h) 1).wr (R.HEAD_STATE.STATE h) hsParked
  let s := s.excite h 1 (s.rd (R.SRV_STATUS.LEVEL h))
  ((s.showTokenOnly h).refreshServo h).refreshEye h

/-- The head enters FAULT with a cause: 1 head link, 2 emitter chain, 3 servo park not reached. -/
def State.headFault (s : State) (h cause : Nat) : State :=
  let st := s.headState h
  if ¬ (st = hsParked ∨ st = hsScanning ∨ st = hsInhibited) then s
  else
    let s := (s.abandonFrame h).leaveEnd (.park (Fin.ofNat 16 h))
    let s := s.updScan h fun c => { c with startHeld := none, calServo := false, calZero := false, calVernier := false,
                                            parking := false }
    let s := s.updServo h fun v => { v with calStep := 0, faultPark := false }
    ((s.wr (R.HEAD_STATE.FAULT_CAUSE h) cause).wr (R.SRV_STATUS.SEQ h) 0).setHead h hsFault

/-- Time of one proof step in ns (R98). -/
def State.tStep (s : State) (h : Nat) : Nat := 4000 + 320 * (s.rd (R.EMT_CFG.DRIVERS_M1 h) + 1)

/-- Do the frames of a head start at the slots of the domain plan (R54, R366)? -/
def State.onPlan (s : State) (h : Nat) : Bool :=
  s.on (R.SCAN_CTL.ALIGN h) && s.admitted && s.on (R.DOM_PLAN2.VALID h)

/-- The first slot of a plan at or after DT `a` (R366). [DEDUCED, log 30] -/
def slotFrom (period phase a : Nat) : Nat := if a ≤ phase then phase else phase + ceilDiv (a - phase) (max 1 period) * period

/-- The first slot of a head's plan at or after DT `a`. -/
def State.slotAt (s : State) (h a : Nat) : Nat := slotFrom (s.rd (R.DOM_PLAN0.PERIOD h)) (s.rd (R.DOM_PLAN1.PHASE h)) a

/-- The head enters SCANNING from PARKED: the E steps of a full proof cycle are due before dwell 0, which delays the frame start
(R99), and the frame starts at once after them, or at the next slot of the plan (R58). A head that shows TOKEN drives no strobe
and runs none. [DEDUCED, log 105] -/
def State.headScan (s : State) (h : Nat) : State :=
  let cycle := !s.inh h .token
  let first := s.now + if cycle then s.emitters h * s.tStep h else 0
  let s := s.updScan h fun c => { c with
    startHeld := none, firstFrame := true, inFrame := false, nextDwell := 0
    nextStart := if s.onPlan h then s.slotAt h first else first }
  let s := s.updChain h fun c => { c with stepsDue := if cycle then s.emitters h else 0 }
  s.setHead h hsScanning

/-- Do the calibrations at entry to PARKED still run (R32)? -/
def State.calibrating (s : State) (h : Nat) : Bool :=
  let c := (s.head h).scan
  c.calServo || c.calZero || c.calVernier

/-- At the end of the last calibration a held START acts, or is reported as an access error (R32). [DEDUCED, log 23] -/
def State.releaseHeldStart (s : State) (h : Nat) : State :=
  match (s.head h).scan.startHeld with
  | none => s
  | some i =>
    if s.calibrating h then s
    else
      let s := s.updScan h fun c => { c with startHeld := none }
      if s.blocked h then s.refuse i (R.HEAD_CTL.addr h) else s.headScan h

/-- Does a slot of the head hold a valid program (Table 1.5)? -/
def State.hasProgram (s : State) (h : Nat) : Bool :=
  s.on (R.SCAN_LEN.VALID h 0) || s.on (R.SCAN_LEN.VALID h 1)

/-- A head that has no program in either slot goes OFF (Table 1.5). -/
def State.dropEmpty (s : State) (h : Nat) : State := s.when (!s.hasProgram h && s.headState h != hsOff) fun s => s.headOff h

/-- OFF to PARKED: configuration sealed, head link up and a valid program present (Table 1.5), with the device in RUN,
DEGRADED, SAFE or MAINT. -/
def State.tryLeaveOff (s : State) (h : Nat) : State :=
  let st := s.devState
  if s.headState h = hsOff ∧ s.dev.sealed ∧ s.hasProgram h ∧ ¬ s.inh h .headlink ∧
      (st = devRun ∨ st = devDegraded ∨ st = devSafe ∨ st = devMaint) then s.headPark h
  else s

/-- Every head goes OFF: the device leaves RUN, DEGRADED, SAFE and MAINT (Table 1.5). [DEDUCED, log 123] -/
def State.headsOff (s : State) : State := s.eachHead fun h s => s.headOff h

end Sys2Proof.Machine
end

