-- ==== Sys2Proof/Machine/Eye.lean ====
section
/-! DEFINITION. Eye-safety energy accountant (11_eye_safety.md, R282 to R297). -/

namespace Sys2Proof.Machine

def ringDefault (_ : Nat) : EyeRing := {}
def prefillDefault (_ : Nat) : List Nat := [0, 0, 0, 0, 0, 0, 0, 0, 0]

/-- The key of the ring of a window and sector. -/
def ringKey (w sector : Nat) : Nat := w * 4096 + sector

def State.eye (s : State) (h : Nat) : Eye := (s.head h).eye

/-- Sums are 32-bit nJ and saturate (R289). -/
def satSum (n : Nat) : Nat := satU 32 n

/-- S_w of a sector (R289, R293, R295). -/
def State.eyeSum (s : State) (h w sector : Nat) : Nat :=
  let r := SMap.get ringDefault (s.eye h).rings (ringKey w sector)
  let sum := satSum (r.b.sum + (SMap.get prefillDefault (s.eye h).prefill w).sum)
  if r.held = 0 then sum else max sum (s.rd (R.EYE_WIN_LIMIT.LIMIT h w))

/-- Is window `w` enabled? -/
def State.winOn (s : State) (h w : Nat) : Bool := s.on (R.EYE_WIN.EN h w)

/-! ### Buckets (R289) -/

/-- A ring moves on by `n` buckets. -/
def EyeRing.turn (g : EyeRing) (n : Nat) : EyeRing := { b := (List.replicate (min n 9) 0 ++ g.b).take 9, held := g.held - n }

/-- Length of a bucket of window `w` in ns: L_w ÷ 8. -/
def State.bucketLen (s : State) (h w : Nat) : Nat := s.rd (R.EYE_WIN.LEN h w) * 1250

/-- Is any ring of a head held at its limit (R293)? -/
def State.showEcc (s : State) (h : Nat) : State :=
  s.wrB (R.EYE_STATUS.ECC h) ((s.eye h).rings.any fun r => r.2.held != 0)

/-- The rings of window `w` stand at the bucket that DT is in: the buckets are aligned to DT (R289). -/
def State.eyeTurn (s : State) (h w : Nat) : State :=
  let k := s.now / max 1 (s.bucketLen h w)
  let n := k - SMap.get (fun _ => 0) (s.eye h).bucket w
  if n = 0 then s
  else
    let s := s.updEye h fun e => { e with
      bucket := SMap.set (fun _ => 0) e.bucket w k
      rings := e.rings.filterMap fun (key, g) =>
        if key / 4096 = w then (if g.turn n = {} then none else some (key, g.turn n)) else some (key, g)
      prefill := SMap.upd prefillDefault e.prefill w fun b => (List.replicate (min n 9) 0 ++ b).take 9 }
    s.showEcc h

/-! ### Charges and tests (R289 to R291) -/

/-- The enabled windows of head `h`. -/
def State.windows (s : State) (h : Nat) : List Nat := indices 4 fun w => s.winOn h w

/-- Add a charge in nJ to the current bucket of every enabled window of every sector of a range (R290). -/
def State.charge (s : State) (h : Nat) (r : Range) (nJ : Nat) : State :=
  let ws := s.windows h
  let s := ws.foldl (fun s w => s.eyeTurn h w) s
  let s := s.updEye h fun e => { e with
    rings := r.sectors.foldl (fun m sec => ws.foldl (fun m w =>
      SMap.upd ringDefault m (ringKey w sec) fun g => { g with b := match g.b with
        | b :: bs => satSum (b + nJ) :: bs
        | [] => [satSum nJ] }) m) e.rings }
  s.wr64 (R.EYE_ENERGY_LO.VALUE h) (R.EYE_ENERGY_HI.VALUE h)
    (s.rd64 (R.EYE_ENERGY_LO.VALUE h) (R.EYE_ENERGY_HI.VALUE h) + nJ)

/-- The lowest window, then the lowest sector, whose test S_w + n_h × E_bound > LIMIT_w holds (R290, R291). -/
def State.windowTest (s : State) (h : Nat) (r : Range) (head room : Nat) : Option (Nat × Nat) :=
  ((s.windows h).flatMap fun w => r.sectors.map fun sec => (w, sec)).find? fun (w, sec) =>
    decide (s.rd (R.EYE_WIN_LIMIT.LIMIT h w) < s.eyeSum h w sec + head * room)

/-- n_h of a dwell (R290). -/
def State.nHead (s : State) (h shotInt : Nat) : Nat :=
  1 + ceilDiv (s.rd (R.EYE_CFG.CAP_DLY h) + 120) (max 1 shotInt)

/-- A window test holds: EYE and EYE_LIMIT, and where (R290, R291). -/
def State.eyeBlocked (s : State) (h w sector : Nat) : State :=
  let s := (s.wr (R.EYE_BLOCK.WIN h) w).wr (R.EYE_BLOCK.SECTOR h) sector
  ((s.wr (R.EYE_STATUS.LIMIT h) 1).raise .eyeLimit h).refreshEye h

/-- The eye-safety test of a dwell open (R291), with the range it uses (R286); POSITION and MOTION clear as R287 and R292
say. -/
def State.eyeDwellTest (s : State) (h : Nat) (d : List Nat) : State :=
  let s := (s.windows h).foldl (fun s w => s.eyeTurn h w) s
  let v := (s.head h).servo
  let e := s.eye h
  let box : Int := s.rd (R.EYE_MOTION.BOX h) * 128
  let away := decide (box < (v.x.sp * 256 - e.anchorX).natAbs) || decide (box < (v.y.sp * 256 - e.anchorY).natAbs)
  let s := s.wr (R.EYE_STATUS.POSITION h) 0
  let s := s.when away fun s => s.wr (R.EYE_STATUS.MOTION h) 0
  match s.pattern h (Desc.pattern d) with
  | none => (s.wr (R.EYE_STATUS.LIMIT h) 0).refreshEye h
  | some p =>
    let r := s.dwellRange h v.x.sp v.y.sp p
    let s := s.updEye h fun e => { e with range := r }
    match s.windowTest h r (s.nHead h (Desc.shotInt d)) p.eOptMax with
    | some (w, sec) => s.eyeBlocked h w sec
    | none => (s.wr (R.EYE_STATUS.LIMIT h) 0).refreshEye h

/-! ### Accountant memory (R293) -/

/-- What an access to the accountant memory shows: an uncorrectable error holds the ring until it has turned once from now. -/
def State.eyeMemory (s : State) (h : Nat) (ecc : EyeEcc) : State :=
  match ecc with
  | .ok => s
  | .corrected => s.inc (R.EYE_CNT_ECC.COUNT h)
  | .uncorrectable sector w =>
    let s := (s.eyeTurn h w).updEye h fun e => { e with
      rings := SMap.upd ringDefault e.rings (ringKey w sector.toNat) fun g => { g with held := 9 } }
    (s.showEcc h).raise .eyeEcc h

/-! ### The energy monitor (R282 to R285) -/

/-- The measured energy of a code in pJ (R283). -/
def State.energyPJ (s : State) (h code : Nat) : Nat :=
  (asr (((code : Int) - s.rd (R.EYE_ZERO.ZERO h)) * s.rd (R.EYE_GAIN.GAIN h) + 2 ^ 15) 16).toNat

/-- Latch MON_FAIL and raise EYE_MON_FAIL. -/
def State.monFail (s : State) (h : Nat) : State :=
  let s := (s.wr (R.EYE_STATUS.MON_FAIL h) 1).updEye h fun e => { e with latchAt := s.now }
  (s.raise .eyeMonFail h).refreshEye h

/-- A pulse's code is judged against its bound in nJ and charged (R284, R290): `matched` is whether its echo matched. -/
def State.judgePulse (s : State) (h code bound : Nat) (matched : Bool) (r : Range) : State :=
  let e := s.energyPJ h code
  if bound * 1000 < e ∨ code = 0x3FFF then
    let s := (s.inc (R.EYE_CNT_HIGH.COUNT h)).wr (R.EYE_STATUS.PULSE_HIGH h) 1
    let s := s.updEye h fun y => { y with lowRun := 0, latchAt := s.now }
    let s := s.charge h r (ceilDiv (2 * e) 1000)
    (s.raise .eyePulseHigh h).refreshEye h
  else if matched ∧ e * 256 < s.rd (R.EYE_CFG.LOW h) * bound * 1000 then
    let s := s.inc (R.EYE_CNT_LOW.COUNT h)
    let s := (s.charge h r bound).updEye h fun y => { y with lowRun := y.lowRun + 1 }
    if s.rd (R.EYE_CFG.MON_N h) ≤ (s.eye h).lowRun then (s.updEye h fun y => { y with lowRun := 0 }).monFail h else s
  else (s.charge h r (ceilDiv e 1000)).updEye h fun y => { y with lowRun := 0 }

/-- The window tests after a charge (R290). -/
def State.testPulse (s : State) (h : Nat) (r : Range) (n bound : Nat) : State :=
  match s.windowTest h r n bound with
  | some (w, sec) => s.eyeBlocked h w sec
  | none => s

/-- Has the code of a strobe at an instant in 1/256 ns become ready: CAP_DLY + 40 ns after it (Table 11.1)? -/
def State.codeReady (s : State) (h fk : Nat) : Bool :=
  decide (fk + (s.rd (R.EYE_CFG.CAP_DLY h) + 40) * 256 ≤ s.now * 256)

/-- A strobe of a shot is launched, or expected of a twin: its code is to come (R282). It carries the range of its dwell, which
before the dwell is open is that of the set-point in force (R286). A helper's accountant charges nothing (R369). -/
def State.eyePulse (s : State) (h k fk : Nat) : State :=
  let d := (s.head h).scan.desc
  match s.isHelper h, s.pattern h (Desc.pattern d) with
  | false, some p =>
    let v := (s.head h).servo
    let r := if s.rd (R.SCAN_POS.PHASE h) = 3 then (s.eye h).range else s.dwellRange h v.x.sp v.y.sp p
    s.updEye h fun e => { e with
      pulses := ⟨k, fk, p.eOptMax, s.nHead h (Desc.shotInt d), r, false⟩ :: e.pulses.filter fun x => x.k != k }
  | _, _ => s

/-- ENERGY_MONITOR_SAMPLE (R282 to R284, R290): the code of a strobe, which it has once, becomes ready. [DESIGN CHOICE, log 144] -/
def execEnergyMonitorSample (t : Time) (h : HeadIx) (shot : Option (BitVec 12)) (code : BitVec 14) (ecc : EyeEcc)
    (s : State) : Host.Outcome State Fault Refusal :=
  s.run t fun s =>
    match shot with
    | none => match (s.eye h).proofAt with
      | none => s
      | some f =>
        if !s.codeReady h (f * 256) then s
        else
          let s := (s.eyeMemory h ecc).updEye h fun e => { e with proofAt := none }
          let bound := (s.image h).eProof
          (s.judgePulse h code.toNat bound false (s.eye h).proof).testPulse h (s.eye h).proof 2 bound
    | some k => match (s.eye h).pulses.find? fun x => x.k == k.toNat with
      | none => s
      | some x =>
        if !s.codeReady h x.fk then s
        else
          let s := (s.eyeMemory h ecc).updEye h fun e => { e with pulses := e.pulses.filter fun y => y.k != x.k }
          (s.judgePulse h code.toNat x.bound x.matched x.range).testPulse h x.range x.head x.bound

/-- EYE_BUCKET_ADVANCE (R289): the rings of a window move on to the bucket that DT is in. -/
def execEyeBucketAdvance (t : Time) (h : HeadIx) (w : Fin 4) (ecc : EyeEcc) (s : State) :
    Host.Outcome State Fault Refusal :=
  s.run t fun s => (s.eyeMemory h ecc).eyeTurn h w

/-- EYE_LATCH_CLEAR (R284): in PARKED after a zero calibration that passed at or after the latest setting. -/
def execEyeLatchClear (t : Time) (h : HeadIx) (s : State) : Host.Outcome State Fault Refusal :=
  s.run t fun s =>
    let e := s.eye h
    let calibrated : Bool := match e.zeroAt with
      | none => false
      | some z => decide (e.latchAt ≤ z)
    if s.headState h = hsParked ∧ calibrated then
      (((s.wr (R.EYE_STATUS.MON_FAIL h) 0).wr (R.EYE_STATUS.PULSE_HIGH h) 0).updEye h fun e => { e with lowRun := 0 }).refreshEye h
    else s

/-- ZERO_CAL_COMPLETE (R285): the mean of the codes becomes ZERO where they lie within 64 LSB; else MON_FAIL. The last of the 256
cycles begins 255 µs after the entry to PARKED. [DESIGN CHOICE, log 144] -/
def execZeroCalComplete (t : Time) (h : HeadIx) (codes : List (BitVec 14)) (s : State) :
    Host.Outcome State Fault Refusal :=
  s.run t fun s =>
    if !(s.head h).scan.calZero || !s.codeReady h (((s.eye h).zeroFrom + 255000) * 256) then s
    else
      let ns := codes.map (·.toNat)
      let hi := ns.foldl max 0
      let lo := ns.foldl min 0x3FFF
      let s := s.updScan h fun c => { c with calZero := false }
      let s :=
        if 64 < hi - lo then s.monFail h
        else
          let s := (s.wrS (R.EYE_ZERO.ZERO h) (s.nearest (ns.sum : Nat) (max 1 ns.length))).drawn
          let s := (s.calDone 4).wr (R.EYE_STATUS.ZERO_PEND h) 0
          (s.updEye h fun e => { e with zeroWait := false, zeroAt := some s.now }).refreshEye h
      s.releaseHeldStart h

/-! ### Position and motion (R287, R292) -/

/-- The checks at a servo sample. -/
def State.eyeSample (s : State) (h : Nat) : State :=
  let v := (s.head h).servo
  let e := s.eye h
  let s :=
    if s.rd (R.SCAN_POS.PHASE h) ≠ 3 then s
    else match s.pattern h (Desc.pattern (s.head h).scan.desc) with
      | none => s
      | some p =>
        let inside (a : Nat) (est f0 f1 : Int) (lo hi : Nat) : Bool :=
          decide (lo ≤ held63 (s.sectorOf h a est + f0)) && decide (held63 (s.sectorOf h a est + f1) ≤ hi)
        if inside 0 v.x.est p.f0x p.f1x e.range.loX e.range.hiX && inside 1 v.y.est p.f0y p.f1y e.range.loY e.range.hiY then s
        else if s.on (R.EYE_STATUS.POSITION h) then s
        else ((s.wr (R.EYE_STATUS.POSITION h) 1).raise .eyePosition h).refreshEye h
  if s.rd (R.EYE_MOTION.T h) = 0 then s
  else
    let box : Int := s.rd (R.EYE_MOTION.BOX h) * 128
    if box < (v.x.est - e.anchorX).natAbs ∨ box < (v.y.est - e.anchorY).natAbs then
      s.updEye h fun e => { e with anchorX := v.x.est, anchorY := v.y.est, anchorAt := s.now }
    else
      let since (f : Option Nat) : Bool := match f with
        | none => false
        | some f => decide (e.anchorAt ≤ f)
      let fired := since (s.head h).fire.lastStrobe || since (s.head h).fire.lastProof
      if fired ∧ e.anchorAt + s.rd (R.EYE_MOTION.T h) * 1000000 ≤ s.now ∧ ¬ s.on (R.EYE_STATUS.MOTION h) then
        ((s.wr (R.EYE_STATUS.MOTION h) 1).raise .eyeMotion h).refreshEye h
      else s

/-- At seal every bucket of every sector starts with the prefill (R295). -/
def State.eyePrefill (s : State) (h : Nat) : State :=
  s.updEye h fun e => { e with
    rings := []
    bucket := (List.range 4).foldl (fun m w => SMap.set (fun _ => 0) m w (s.now / max 1 (s.bucketLen h w))) []
    prefill := (List.range 4).foldl (fun m w =>
      SMap.set prefillDefault m w (List.replicate 9 (ceilDiv (s.rd (R.EYE_PREFILL.PREFILL h w)) 8))) [] }

end Sys2Proof.Machine
end

