-- ==== Sys2Proof/Machine/Servo.lean ====
section
/-! DEFINITION. Mirror sensing and the servo engine (10_mirror_servo.md, R259 to R281), with the head temperature and the
other cells that a head sends up (R399, R400, R444). -/

namespace Sys2Proof.Machine

/-! ### Decimation chain (R263) -/

/-- The product of two polynomials given by their coefficients. -/
def polyMul (a b : List Int) : List Int :=
  (List.range (a.length + b.length - 1)).map fun k => sumToI (k + 1) fun i => a.getD i 0 * b.getD (k - i) 0

/-- The impulse response of a CIC filter of order `n`, ratio `r` and differential delay 1. -/
def cicTaps (r : Nat) : Nat → List Int
  | 0 => [1]
  | n + 1 => polyMul (cicTaps r n) (List.replicate r 1)

/-- The sum of products of two lists, as long as the shorter. -/
def dot : List Int → List Int → Int
  | a :: as, x :: xs => a * x + dot as xs
  | _, _ => 0

/-- `n` outputs of a filter that keeps every `m`-th one, on a sequence with the newest value first. -/
def firOut (taps : List Int) (m n : Nat) (xs : List Int) : List Int :=
  (List.range n).map fun j => dot taps (xs.drop (j * m))

/-- Half-band kernels: d and the coefficients (Table 10.2). -/
def hb7 : Nat × List Int := (5, [-1, 0, 9, 16, 9, 0, -1])
def hb11 : Nat × List Int := (9, [3, 0, -25, 0, 150, 256, 150, 0, -25, 0, 3])
def hb19 : Nat × List Int :=
  (12, [16, 0, -57, 0, 152, 0, -360, 0, 1273, 2048, 1273, 0, -360, 0, 152, 0, -57, 0, 16])

/-- CIC order, CIC ratio and half-band stages of a response (Table 10.1). -/
def response (resp : Nat) : Nat × Nat × List (Nat × List Int) :=
  match resp with
  | 0 => (4, 8, [hb19, hb19, hb11, hb7, hb7])
  | 1 => (4, 8, [hb7, hb7, hb7, hb7, hb7])
  | 2 => (5, 16, [hb19, hb11, hb7, hb7])
  | 3 => (4, 4, [hb19, hb19, hb19, hb11, hb7, hb7])
  | 4 => (5, 32, [hb11, hb7, hb7])
  | _ => (5, 64, [hb7, hb7])

/-- Inputs that half-band stages need for one output. -/
def hbNeed : List (Nat × List Int) → Nat
  | [] => 1
  | (_, c) :: ks => 2 * (hbNeed ks - 1) + c.length

/-- The half-band stages on a sequence with the newest value first: the newest output. -/
def hbRun : List (Nat × List Int) → List Int → Int
  | [], xs => xs.headD 0
  | (d, c) :: ks, xs =>
    hbRun ks ((firOut c 2 (hbNeed ks) xs).map fun v => satS 24 (asr (v + 2 ^ (d - 1)) d))

/-- The base-2 logarithm of a CIC ratio. -/
def log2Ratio (r : Nat) : Nat := if r = 4 then 2 else if r = 8 then 3 else if r = 16 then 4 else if r = 32 then 5 else 6

/-- A CIC output of order `n` and ratio `r` normalised to Q1.23. -/
def cicNorm (n r : Nat) (v : Int) : Int :=
  let k := n * log2Ratio r
  if k ≤ 23 then v * 2 ^ (23 - k) else asr v (k - 23)

/-- The bits of received blocks as ±1, newest first (R261). -/
def streamBits (blocks : List (BitVec 64)) : List Int :=
  blocks.flatMap fun b => (List.range 64).map fun i => if b.getLsbD (63 - i) then 1 else -1

/-- The newest output of stages 1 to 3 in Q1.23 (R263); what came before the first accepted block counts as 0. -/
def chainOut (resp phase : Nat) (blocks : List (BitVec 64)) : Int :=
  let (n, r, hbs) := response resp
  let xs := (streamBits blocks).drop phase
  hbRun hbs ((firOut (cicTaps r n) r (hbNeed hbs) xs).map (cicNorm n r))

/-- EU and errors: signed 24 bits, saturating at ±(2^23 − 1) (R259). -/
def satEU (v : Int) : Int := clampI (-(2 ^ 23 - 1)) (2 ^ 23 - 1) v

/-! ### One axis -/

def Servo.axis (v : Servo) (a : Nat) : Axis := if a = 0 then v.x else v.y

def State.updAxis (s : State) (h a : Nat) (f : Axis → Axis) : State :=
  s.updServo h fun v => if a = 0 then { v with x := f v.x } else { v with y := f v.y }

/-- The scale of axis `a` at the level in force (R264). -/
def State.scale (s : State) (h a : Nat) : Nat :=
  let l := s.rd (R.SRV_STATUS.LEVEL h)
  if a = 0 then s.rd (R.SRV_SCALE.SCALE_X h l) else s.rd (R.SRV_SCALE.SCALE_Y h l)

/-- A coefficient word of a bank (R266). -/
def State.coef (s : State) (h a k i : Nat) : Int := s.rdS (R.SRV_COEF.COEF h a k i)

/-- One step of the compensator of R266 with error `e` in bank `k`: the history and the drive word. -/
def State.compensate (s : State) (h a k : Nat) (x : Axis) (e : Int) : Axis :=
  let c := s.coef h a k
  let acc := c 0 * e + c 1 * x.e1 + c 2 * x.e2 - c 4 * x.y1 - c 5 * x.y2
  let acc := if s.rd (R.SRV_COEF.COEF h a k 7) % 2 = 1 then acc + c 3 * x.e3 - c 6 * x.y3 else acc
  let y := clampI (s.rdS (R.SRV_DRV.DRV_MIN h a) * 256) (s.rdS (R.SRV_DRV.DRV_MAX h a) * 256) (asr (acc + 2 ^ 27) 28)
  { x with e3 := x.e2, e2 := x.e1, e1 := e, y3 := x.y2, y2 := x.y1, y1 := y, drive := asr (y + 128) 8, bank := k }

/-! ### Follow term (R270 to R272) -/

/-- Entry `j` of the follow table of axis `a`. -/
def State.followEntry (s : State) (h a j : Nat) : Int :=
  if j % 2 = 0 then s.rdS (R.SRV_FOLLOW_T.LOW h a (j / 2)) else s.rdS (R.SRV_FOLLOW_T.HIGH h a (j / 2))

/-- The table value for a source value (R270). -/
def State.followTable (s : State) (h a : Nat) (x : Int) : Int :=
  let sh := s.rd (R.SRV_FOLLOW_CFG.SHIFT h)
  let u := (clampI 0 (255 * 2 ^ sh) (x - s.rdS (R.SRV_FOLLOW_OFS.OFS h))).toNat
  let i := u / 2 ^ sh
  let f := u - i * 2 ^ sh
  let t0 := s.followEntry h a i
  let t1 := s.followEntry h a (if i < 255 then i + 1 else 255)
  t0 + asr ((t1 - t0) * f) sh

/-- Is the follow source invalid (R271)? -/
def State.followInvalid (s : State) (h : Nat) : Bool :=
  let e := s.rd (R.SRV_FOLLOW_CFG.HK_ENTRY h)
  match s.rd (R.SRV_FOLLOW_CFG.SRC h) with
  | 1 => s.rd R.SPEED_STATUS.STATE == 0
  | 2 => s.on (R.HK_RES0.OVR e) || s.hkOlder e 100
  | _ => false

/-- The value v that F moves towards on axis `a` (R270, R271). -/
def State.followValue (s : State) (h a : Nat) : Int :=
  if s.followInvalid h then (if a = 0 then s.rdS (R.SRV_FOLLOW_FB.FB_X h) else s.rdS (R.SRV_FOLLOW_FB.FB_Y h))
  else match s.rd (R.SRV_FOLLOW_CFG.SRC h) with
    | 1 => s.followTable h a (s.rdS R.SPEED_STATUS.V)
    | 2 => s.followTable h a (s.rdS (R.HK_RES0.RESULT (s.rd (R.SRV_FOLLOW_CFG.HK_ENTRY h))))
    | _ => 0

/-- Move `f` towards `v` by at most `n`. -/
def towards (f v n : Int) : Int := if f < v then min v (f + n) else max v (f - n)

/-- The follow term of axis `a` at a sample: F moves, and F_app follows it outside the dwell phase (R270, R272). -/
def State.followStep (s : State) (h a : Nat) : State :=
  let none := s.rd (R.SRV_FOLLOW_CFG.SRC h) == 0
  let v := s.followValue h a
  let slew : Int := s.rd (R.SRV_FOLLOW_CFG.SLEW h)
  let open_ := s.rd (R.SCAN_POS.PHASE h) == 3
  s.updAxis h a fun x =>
    let f := if none then 0 else towards x.fol v slew
    { x with fol := f, fApp := if open_ then x.fApp else f }

/-- The follow source at a sample: its state is shown, and the first invalid sample is reported (R271). -/
def State.followSource (s : State) (h : Nat) : State :=
  let bad := s.followInvalid h
  let was := (s.head h).servo.folBad
  let s := (s.wrB (R.SRV_STATUS.FOLLOW_FB h) bad).updServo h fun v => { v with folBad := bad }
  s.when (bad && !was) fun s => s.raise .srvFollowSrc h

/-! ### Set-point (R269, R280) -/

/-- The slot whose dwell 0 the next frame runs (R60 to R62). -/
def State.nextSlot (s : State) (h : Nat) : Nat :=
  let st := s.rd (R.SCAN_STATUS.COMMIT_STATE h)
  let c := (s.head h).scan
  if (st = 2 ∨ st = 3) ∧ (c.commitDue ∨ s.rd (R.SCAN_COMMIT_FRAME.FRAME h) = (s.rd (R.SCAN_FRAME_NUM.FRAME h) + 1) % 2 ^ 32)
  then c.commitSlot else s.rd (R.SCAN_STATUS.ACTIVE_SLOT h)

/-- The target of axis `a` (R269): of the dwell whose move phase has begun, or of dwell 0 during flyback. -/
def State.target (s : State) (h a : Nat) : Int :=
  let d := if s.rd (R.SCAN_POS.PHASE h) = 4 then s.descAt h (s.nextSlot h) 0 else (s.head h).scan.desc
  if a = 0 then Desc.mirrorX d else Desc.mirrorY d

/-- PARK_SP of axis `a`. -/
def State.parkSp (s : State) (h a : Nat) : Int := s.rdS (R.SRV_PARK.PARK_SP h a)

/-- Is the program's set-point in force: SCANNING or INHIBITED and not parking? -/
def State.follows (s : State) (h : Nat) : Bool := s.scanning h && !(s.head h).scan.parking

/-- The sum of target and follow term, before its limits. -/
def State.rawSp (s : State) (h a : Nat) : Int := s.target h a + ((s.head h).servo.axis a).fApp

/-- The set-point of axis `a` at a sample (R269, R280). -/
def State.spOf (s : State) (h a : Nat) : Int :=
  if s.follows h then clampI (s.rdS (R.SRV_LIM.MIN h a)) (s.rdS (R.SRV_LIM.MAX h a)) (s.rawSp h a)
  else if (s.head h).scan.parking then
    towards ((s.head h).servo.axis a).sp (s.parkSp h a) (s.rd (R.SRV_PARK_CFG.SLEW h))
  else s.parkSp h a

/-- Is the set-point of axis `a` clamped at this sample? -/
def State.clamped (s : State) (h a : Nat) : Bool :=
  s.follows h && s.spOf h a != s.rawSp h a

/-- Clamped samples are counted; the first of a dwell is reported (R269). [DEDUCED, log 43] -/
def State.countClamp (s : State) (h : Nat) : State :=
  if !(s.clamped h 0 || s.clamped h 1) then s
  else
    let s := s.inc (R.SRV_CNT_CLAMP.COUNT h)
    if (s.head h).servo.clampSeen then s
    else (s.updServo h fun v => { v with clampSeen := true }).raise .srvSetpointClamp h

/-! ### Parks (R279, R280) -/

/-- A park sequence asks for its leave, of class SAFETY (Table 18.1). -/
def State.parkLeave (s : State) (h : Nat) : State :=
  s.leaveRequest (.park (Fin.ofNat 16 h)) (s.image h).parkUnits

/-- An ordinary park starts (R280); the rest of the frame is abandoned (R58). A fault park that runs goes on and is the park.
[DEDUCED, log 166] -/
def State.startPark (s : State) (h : Nat) : State :=
  let s := s.abandonFrame h
  if (s.head h).servo.faultPark then s
  else
    let s := s.updScan h fun c => { c with parking := true }
    let s := s.updServo h fun v => { v with parkGood := 0, parkDeadline := none }
    (s.wr (R.SRV_STATUS.SEQ h) 2).parkLeave h

/-- The fault park sequence starts (R279 steps 1 and 2). -/
def State.faultPark (s : State) (h : Nat) : State :=
  let st := s.headState h
  if st = hsOff ∨ st = hsFault ∨ (s.head h).servo.faultPark then s
  else
    let s := s.updScan h fun c => { c with parking := false }
    let s := s.updServo h fun v => { v with faultPark := true, faultAt := s.now, calStep := 0 }
    ((s.wr (R.SRV_STATUS.SEQ h) 3).parkLeave h).refreshServo h

/-- A park is not reached (R279, R280). -/
def State.parkFailed (s : State) (h : Nat) : State := (s.raise .srvParkFail h).headFault h 3

/-! ### The drive cell (R260, R261, R399, R400) -/

/-- A head-link cell (Table 16.2). -/
def headCell (chan seq : Nat) (data : List Byte) : List Byte :=
  let bs := pack [(1, chan % 16 + 16 * (seq % 16)), (1, 0)] ++ data ++ pack [(28 - data.length, 0)]
  bs ++ bytesLE 2 (crc16 bs)

/-- The DRIVE cell of a sample leaves on every lane of the link's set; with no lane in the set none leaves. [DEDUCED, log 165] -/
def State.driveCell (s : State) (h : Nat) : State :=
  if s.rd (R.LANE_QSTATUS.TX_SET h) = 0 ∨ s.rd (R.LANE_QSTATUS.PORT_STATE h) = 0 then s
  else
    let v := (s.head h).servo
    let cell := headCell 1 v.cells (pack [(2, wrapS 16 v.x.drive), (2, wrapS 16 v.y.drive),
      (1, s.rd (R.SRV_STATUS.MODE h) + 4 * s.rd (R.SRV_STATUS.LEVEL h)), (3, 0), (4, v.sampleAt)])
    s.updServo h fun v => { v with cells := v.cells + 1, cell := cell }

/-! ### One sample (R260 to R280) -/

/-- Is the estimate of an axis held (R276)? -/
def State.held (s : State) (x : Axis) : Bool := decide (s.now < x.holdUntil)

/-- Is this sample of an axis one that counts (R274): not held, complete, with its blocks, feedback neither lost nor
frozen? -/
def State.sampleGood (s : State) (x : Axis) (done : Bool) : Bool :=
  done && !s.held x && decide (4 ≤ x.fresh) && !x.lost && !x.frozen

/-- The estimate part of an axis at a sample: the chain, the offset (R265), the scale (R264). -/
def State.estimate (s : State) (h a : Nat) (x : Axis) : Axis :=
  if s.held x ∨ x.fresh < 4 then x
  else
    let v := chainOut (s.rd (R.SRV_CFG.RESP h a)) (s.rd (R.SRV_CFG.PHASE h a)) x.blocks
    let ofs := if (s.head h).servo.calStep = 2 then x.ofs + asr (v - x.ofs) (s.rd (R.SRV_CFG.DCB_S h a)) else x.ofs
    { x with ofs := ofs, est := satEU (asr ((v - ofs) * s.scale h a) 15) }

/-- The bank that applies to a computation (R267). -/
def State.bankFor (s : State) (h : Nat) : Nat :=
  let ph := s.rd (R.SCAN_POS.PHASE h)
  let p := if s.follows h ∧ (ph = 1 ∨ ph = 2 ∨ ph = 3) then Desc.settleProf (s.head h).scan.desc else 0
  flag (bit (s.head h).servo.profBank p)

/-- One axis at a sample instant: estimate, set-point, error, drive word. [DEDUCED, log 43] -/
def State.axisSample (s : State) (h a : Nat) (done : Bool) : State :=
  let v := (s.head h).servo
  let x := s.estimate h a (v.axis a)
  let good := s.sampleGood x done
  let sp := s.spOf h a
  let e := satEU (sp * 256 - x.est)
  let x := { x with sp := sp, err := e, fresh := 0, ovr := if done then 0 else x.ovr, late := !done }
  let closed := good && !v.faultPark && v.calStep == 0 && s.headState h != hsOff && s.headState h != hsFault
  let park := s.rdS (R.SRV_PARK.PARK_DRV h a)
  let x :=
    if closed then s.compensate h a (s.bankFor h) x e
    else if s.rd (R.SRV_STATUS.SEQ h) = 4 then { x with drive := towards x.drive park (s.rd (R.SRV_TIMES.SLEW_OL h)) }
    else if s.headState h = hsFault then { x with drive := park }
    else x
  let s := s.updAxis h a fun _ => x
  (s.wr (R.SRV_ERR.VALUE h a) (wrapS 24 e)).wr (R.SRV_POS.VALUE h a) (wrapS 24 x.est)

/-- The dwell settles at the later of servo settle and SWAP confirmation (R52, R95). -/
def State.settle (s : State) (h : Nat) (good : Bool) : State :=
  let ph := s.rd (R.SCAN_POS.PHASE h)
  if ph ≠ 1 ∧ ph ≠ 2 then s
  else
    let c := (s.head h).scan
    let v := (s.head h).servo
    let p := Desc.settleProf c.desc
    let tol := s.rd (R.SCAN_SETTLE.TOL h p)
    let ok := good && decide (v.x.err.natAbs ≤ tol) && decide (v.y.err.natAbs ≤ tol)
    let n := if ok then c.settleRun + 1 else 0
    let s := s.updScan h fun c => { c with
      settleRun := n
      settledAt := if s.rd (R.SCAN_SETTLE.N h p) ≤ n then c.settledAt.or (some s.now) else c.settledAt }
    s.when (ph == 1 && decide (c.target ≤ s.now)) fun s => s.wr (R.SCAN_POS.PHASE h) 2

/-- Tracking in a dwell (Table 10.3 cause 0x7). -/
def State.trackCheck (s : State) (h : Nat) : State :=
  let lim := s.rd (R.SRV_TIMES.TRACK_LIM h)
  let v := (s.head h).servo
  let beyond := decide (lim < v.x.err.natAbs) || decide (lim < v.y.err.natAbs)
  if lim ≠ 0 ∧ beyond ∧ s.rd (R.SCAN_POS.PHASE h) = 3 then
    if v.track then s
    else ((s.updServo h fun v => { v with track := true }).inc (R.SRV_CNT_TRACK.COUNT h)).raise .srvTrack h
  else if v.track ∧ ¬ beyond then s.updServo h fun v => { v with track := false }
  else s

/-- An ordinary park is complete after 10 samples in a row within PARK_TOL (R280). -/
def State.parkCheck (s : State) (h : Nat) : State :=
  if !(s.head h).scan.parking then s
  else
    let v := (s.head h).servo
    let tol := s.rd (R.SRV_PARK_CFG.TOL h)
    let ok := decide (v.x.err.natAbs ≤ tol) && decide (v.y.err.natAbs ≤ tol)
    let n := if ok then v.parkGood + 1 else 0
    let s := s.updServo h fun v => { v with parkGood := n }
    if 10 ≤ n then s.headPark h else s

/-- Has feedback of an axis been valid and not frozen for T_hold (R279)? -/
def State.feedbackHeld (s : State) (h a : Nat) : Bool :=
  let x := (s.head h).servo.axis a
  match x.goodSince with
  | none => false
  | some g => !x.lost && !x.frozen && decide (g + s.tHoldNs h a ≤ s.now)

/-- Does the estimate show the mirror at its park position (R279, R280)? -/
def State.atPark (s : State) (h : Nat) : Bool :=
  let near (a : Nat) : Bool :=
    let x := (s.head h).servo.axis a
    !x.lost && !x.frozen && decide ((s.parkSp h a * 256 - x.est).natAbs ≤ s.rd (R.SRV_PARK_CFG.TOL h))
  near 0 && near 1

/-- The end of the open-loop ramp of a fault park (R279 step 4). -/
def State.rampCheck (s : State) (h : Nat) : State :=
  if s.rd (R.SRV_STATUS.SEQ h) ≠ 4 then s
  else
    let v := (s.head h).servo
    let at_ (a : Nat) : Bool := (v.axis a).drive == s.rdS (R.SRV_PARK.PARK_DRV h a)
    if !(at_ 0 && at_ 1) then s
    else
      if s.feedbackHeld h 0 && s.feedbackHeld h 1 && s.atPark h then s.headPark h else s.parkFailed h

/-- The ramp of an ordinary park starts at the first sample instant after the park takes effect (R280). -/
def State.rampStart (s : State) (h : Nat) : State :=
  s.when ((s.head h).scan.parking && (s.head h).servo.parkDeadline.isNone) fun s =>
    s.updServo h fun v => { v with parkDeadline := some (s.now + s.rd (R.SRV_PARK_CFG.TIMEOUT h) * 10000000) }

/-- Is DT a sample instant of head `h` (R260)? -/
def State.sampleInstant (s : State) (h : Nat) : Bool := (s.now + 10000 - 625 * h % 10000) % 10000 == 0

/-- SERVO_SAMPLE (R260, R261, R266): at a sample instant. In OFF the words that stand are sent. [DEDUCED, log 165] -/
def execServoSample (t : Time) (h : HeadIx) (doneX doneY : Bool) (s : State) : Host.Outcome State Fault Refusal :=
  s.run t fun s =>
    if !s.sampleInstant h then s
    else if s.headState h = hsOff then (s.updServo h fun v => { v with sampleAt := s.now }).driveCell h
    else
      let s := s.rampStart h
      let s := ((s.followSource h).followStep h 0).followStep h 1
      let s := s.countClamp h
      let v := (s.head h).servo
      let good := s.sampleGood v.x doneX && s.sampleGood v.y doneY
      let s := (s.axisSample h 0 doneX).axisSample h 1 doneY
      let s := (s.updServo h fun v => { v with sampleAt := s.now }).driveCell h
      let s := s.wr (R.SRV_STATUS.OVR_RUN h) (min 3 (max (s.head h).servo.x.ovr (s.head h).servo.y.ovr))
      let s := ((s.settle h good).trackCheck h).refreshServo h
      let s := s.eyeSample h
      (s.parkCheck h).rampCheck h

/-! ### Faults of the loop (R277 to R279) -/

/-- Feedback of an axis fails: cause, count, event, fault park (R277). -/
def State.feedbackFault (s : State) (h a : Nat) (frozen : Bool) : State :=
  let s := s.updAxis h a fun x =>
    if frozen then { x with frozen := true, goodSince := none } else { x with lost := true, goodSince := none }
  let s := s.inc (R.SRV_CNT_LOST.COUNT h)
  let s := s.raise (if frozen then .srvFeedbackFrozen else .srvFeedbackLost) h
  (s.refreshServo h).faultPark h

/-- Has no valid block of a head arrived for 10 µs (R277)? -/
def State.blocksGone (s : State) (h : Nat) : Bool :=
  match (s.head h).servo.sdAt with
  | some a => decide (a + 10000 ≤ s.now)
  | none => true

/-- FEEDBACK_LOST (R277): no valid block of an axis for 10 µs. [DESIGN CHOICE, log 144] -/
def execFeedbackLost (t : Time) (h : HeadIx) (y : Bool) (s : State) : Host.Outcome State Fault Refusal :=
  s.run t fun s =>
    if s.headState h = hsOff ∨ ((s.head h).servo.axis (flag y)).lost ∨ !s.blocksGone h then s
    else s.feedbackFault h (flag y) false

/-- SERVO_OVERRUN (R278): a computation is not complete 2 µs after the sample instant; the previous word has been sent again, and
the third overrun in a row starts the fault park. [DESIGN CHOICE, log 144] -/
def execServoOverrun (t : Time) (h : HeadIx) (y : Bool) (s : State) : Host.Outcome State Fault Refusal :=
  s.run t fun s =>
    let a := flag y
    let v := (s.head h).servo
    if !(v.axis a).late ∨ s.now < v.sampleAt + 2000 then s
    else
      let s := s.updAxis h a fun x => { x with ovr := x.ovr + 1, late := false }
      let s := (s.inc (R.SRV_CNT_OVR.COUNT h)).raise .srvOverrun h
      let s := s.wr (R.SRV_STATUS.OVR_RUN h) (min 3 (max (s.head h).servo.x.ovr (s.head h).servo.y.ovr))
      if ((s.head h).servo.axis a).ovr = 3 then (s.raise .srvOverrunPark h).faultPark h else s

/-- FAULT_PARK_HOLD_END (R279 step 3): 1 ms after its start. [DESIGN CHOICE, log 144] -/
def execFaultParkHoldEnd (t : Time) (h : HeadIx) (s : State) : Host.Outcome State Fault Refusal :=
  s.run t fun s =>
    let v := (s.head h).servo
    if v.faultPark ∧ s.rd (R.SRV_STATUS.SEQ h) = 3 ∧ v.faultAt + 1000000 ≤ s.now then s.wr (R.SRV_STATUS.SEQ h) 4 else s

/-- PARK_TIMEOUT (R280): TIMEOUT after the start of the ramp. [DESIGN CHOICE, log 144] -/
def execParkTimeout (t : Time) (h : HeadIx) (s : State) : Host.Outcome State Fault Refusal :=
  s.run t fun s =>
    match (s.head h).servo.parkDeadline with
    | some d => if (s.head h).scan.parking ∧ d ≤ s.now then s.parkFailed h else s
    | none => s

/-! ### Offset calibration and excitation (R265, R276) -/

/-- How long a step of the offset calibration lasts: T_hold of both axes, or OFFS_T (R265). -/
def State.calTime (s : State) (h : Nat) : Nat :=
  if (s.head h).servo.calStep = 2 then s.rd (R.SRV_TIMES.OFFS_T h) * 1000000 else max (s.tHoldNs h 0) (s.tHoldNs h 1)

/-- SERVO_OFFSET_CAL_PHASE_END (R265, R276): steps 2, 3 and 4 end in turn, each after its time; the last closes the loop, and a
level written since step 4 began is put in force. [DESIGN CHOICE, log 144] -/
def execServoOffsetCalPhaseEnd (t : Time) (h : HeadIx) (s : State) : Host.Outcome State Fault Refusal :=
  s.run t fun s =>
    let begin_ (n : Nat) (s : State) : State := s.updServo h fun v => { v with calStep := n, calAt := s.now }
    if s.now < (s.head h).servo.calAt + s.calTime h then s
    else match (s.head h).servo.calStep with
    | 1 => begin_ 2 s
    | 2 => (begin_ 3 s).excite h 2 (s.excLevel h)
    | 3 =>
      let s := s.updServo h fun v => { v with calStep := 0, excPend := false }
      let s := s.updScan h fun c => { c with calServo := false }
      let s := s.when (s.rd (R.SRV_STATUS.LEVEL h) != s.excLevel h) fun s => s.excite h 2 (s.excLevel h)
      (((s.wr (R.SRV_STATUS.SEQ h) 5).calDone 2).refreshServo h).releaseHeldStart h
    | _ => s

/-- EXCITATION_LEVEL_WRITE (R276); 0b11 is reserved and refused. In FAULT the level waits for the next RUN command, as in OFF.
[DEDUCED, log 166] -/
def State.excitationLevel (s : State) (i : Iface) (h level : Nat) : State :=
  if level = 3 then s.accessError i true (R.SRV_CTL.addr h) 3
  else
    let s := s.wr (R.SRV_CTL.EXC_LEVEL h) level
    if s.scanning h then s.updServo h fun v => { v with excPend := true }
    else if s.headState h = hsParked ∧ (s.head h).servo.calStep = 0 ∧ s.rd (R.SRV_STATUS.MODE h) = 2 ∧
        s.rd (R.SRV_STATUS.LEVEL h) ≠ level then s.excite h 2 level
    else s

def execExcitationLevelWrite (t : Time) (i : Iface) (h : HeadIx) (level : BitVec 2) (s : State) :
    Host.Outcome State Fault Refusal :=
  s.run t fun s => s.excitationLevel i h level.toNat

/-- The pending level takes effect at a flyback (R276). -/
def State.exciteFlyback (s : State) (h : Nat) : State :=
  if !(s.head h).servo.excPend then s
  else
    let s := s.updServo h fun v => { v with excPend := false }
    if s.rd (R.SRV_STATUS.LEVEL h) = s.excLevel h then s else s.excite h 2 (s.excLevel h)

/-- EXCITATION_HOLD_END (R276): a hold that a second change restarted goes on. -/
def execExcitationHoldEnd (t : Time) (h : HeadIx) (s : State) : Host.Outcome State Fault Refusal :=
  s.run t fun s =>
    let release (x : Axis) : Axis := if x.holdUntil ≤ s.now then { x with holdUntil := 0 } else x
    (s.updServo h fun v => { v with x := release v.x, y := release v.y }).refreshServo h

/-- A coefficient is written (R268): a write to the active bank is refused. -/
def State.coefWrite (s : State) (h a k i v : Nat) : State :=
  if ((s.head h).servo.axis a).bank = k then s.refuse .session (R.SRV_COEF.addr h a k i)
  else s.wr (R.SRV_COEF.COEF h a k i) (if i = 7 then v % 2 else v)

/-- COEF_BANK_WRITE (R268, R494): inside a maintenance session. -/
def execCoefBankWrite (t : Time) (h : HeadIx) (a k : Fin 2) (i : Fin 8) (v : Word) (s : State) :
    Host.Outcome State Fault Refusal :=
  s.run t fun s =>
    if !s.mayConfig .session then s.accessError .session true (R.SRV_COEF.addr h a k i) 2 else s.coefWrite h a k i v.toNat

/-! ### Cells from the head (R399, R400) -/

/-- The length of the run of equal bits that ends a stream, after a block: the bit, the run, and whether it reached
128 (R277). [DEDUCED, log 20] -/
def runAfter (b : BitVec 64) (last : Bool) (len : Nat) : Bool × Nat × Bool :=
  (List.range 64).foldl (fun (l, n, hit) i =>
    let c := b.getLsbD i
    let n := if c = l then n + 1 else 1
    (c, n, hit || decide (128 ≤ n))) (last, len, false)

/-- One axis takes a block; `gap` blocks before it are missing and leave free bits in the chain. [DEDUCED, log 20] -/
def State.axisBlock (s : State) (h a gap : Nat) (b : BitVec 64) : State :=
  let lost := (List.range (min gap 40)).map fun i => Config.freeBits (s.free + i)
  let running := s.rd (R.SRV_STATUS.MODE h) == 2
  let x := (s.head h).servo.axis a
  let (l, n, hit) := runAfter b x.runBit (if gap = 0 then x.runLen else 0)
  let frozen := running && (hit || (x.frozen && decide (128 ≤ n)))
  let s := { s with free := s.free + min gap 40 }
  let s := s.updAxis h a fun x => { x with
    blocks := (b :: lost ++ x.blocks).take 40
    fresh := if gap = 0 then x.fresh + 1 else 1
    runBit := l, runLen := if running then n else 0
    lost := false
    frozen := frozen
    goodSince := if frozen then none else if gap = 0 ∧ ¬ x.frozen then x.goodSince.or (some s.now) else some s.now }
  if hit && running && !x.frozen then s.feedbackFault h a true else s

/-- SD_BLOCK_RECEIVE (R400, R261). -/
def execSdBlockReceive (t : Time) (h : HeadIx) (seq : BitVec 4) (rx : LinkRx) (ctr : BitVec 6) (x y : BitVec 64)
    (s : State) : Host.Outcome State Fault Refusal :=
  s.run t fun s =>
    let s := s.codeword h rx
    let v := (s.head h).servo
    let copy : Bool := match v.sdAt with
      | none => false
      | some f => v.sdSeq == seq.toNat && decide (s.now ≤ f + 1000)
    if !linkGood rx || copy then s
    else
      let gap := match v.sdCtr with
        | none => 0
        | some c => (ctr.toNat + 127 - c) % 64
      let s := s.updServo h fun v => { v with sdSeq := seq.toNat, sdAt := some s.now, sdCtr := some ctr.toNat }
      ((s.axisBlock h 0 gap x).axisBlock h 1 gap y).refreshServo h

end Sys2Proof.Machine
end

