-- ==== Sys2Proof/Machine/Return.lean ====
section
/-! DEFINITION. Return inputs and time-to-digital conversion (04_return_timing.md, R105 to R141). -/

namespace Sys2Proof.Machine

/-! ### Delay lines (R109, R110) -/

/-- The nominal selection of taps 17 to 272 (R130). -/
def nominalTaps : BitVec 288 := BitVec.ofNat 288 ((2 ^ 256 - 1) * 2 ^ 16)

def lineDefault (_ : Nat) : Line := { selA := nominalTaps, selB := nominalTaps }
def groupDefault (_ : Nat) : Group := {}
def recDefault (_ : Nat) : InRec := {}

/-- Delay line `i`. -/
def State.line (s : State) (i : Nat) : Line := SMap.get lineDefault s.lines i

def State.updLine (s : State) (i : Nat) (f : Line → Line) : State :=
  { s with lines := SMap.upd lineDefault s.lines i f }

/-- Group `g`. -/
def State.group (s : State) (g : Nat) : Group := SMap.get groupDefault s.groups g

def State.updGroup (s : State) (g : Nat) (f : Group → Group) : State :=
  { s with groups := SMap.upd groupDefault s.groups g f }

/-- The input record of position `j` in buffer `b` of group `g`. -/
def State.inRec (s : State) (g b j : Nat) : InRec := SMap.get recDefault (s.group g).recs (16 * b + j)

def State.updRec (s : State) (g b j : Nat) (f : InRec → InRec) : State :=
  s.updGroup g fun G => { G with recs := SMap.upd recDefault G.recs (16 * b + j) f }

/-- The timing cell of TACH_A (0), TACH_B (1) and TRIG_IN[k] (2 + k): a single chain, without a CAL record (R113). -/
def auxCell (k : Nat) : Nat := 1552 + k

/-- The service chain of a line: 0 A, 1 B. -/
def State.serviceChain (s : State) (i : Nat) : Nat := if i < 1552 then s.rd (R.CAL_REC0.CHAIN i) else 0

/-- The selection of a chain. -/
def Line.sel (l : Line) (chain : Nat) : BitVec 288 := if chain = 0 then l.selA else l.selB

/-- How many taps are set. -/
def tapCount (x : BitVec 288) : Nat := popcount 288 x.toNat

/-- The stamp of R110 from the capturing DT, the taps and the selection, as a 64-bit count of 1/256 ns. -/
def tdcStamp (c : Nat) (taps mask : BitVec 288) : Nat := c * 256 - 1 - min 255 (tapCount (taps &&& mask))

/-- The skew of a line. -/
def State.skew (s : State) (i : Nat) : Int := s.rdS (R.CAL_REC_SKEW.SKEW i)

/-- A time corrected by the skew of line `i` (R110). -/
def State.corrected (s : State) (i stamp : Nat) : Nat := ((stamp : Int) - s.skew i).toNat

/-- The stamp of an edge on line `i` captured at the present DT. -/
def State.stampOf (s : State) (i : Nat) (tapsA tapsB : BitVec 288) : Nat :=
  let l := s.line i
  let c := s.serviceChain i
  tdcStamp s.now (if c = 0 then tapsA else tapsB) (l.sel c)

/-- The stamp of an edge on an auxiliary cell (R113). -/
def State.auxStamp (s : State) (k : Nat) (taps : BitVec 288) : Nat := s.stampOf (auxCell k) taps 0

/-! ### The random-hit generator (R122, R123) -/

/-- Is the calibration hold in force for head `h` (R130, R425)? -/
def State.calHeld (s : State) (h : Nat) : Bool := bit s.clk.calHold h

/-- Does the generator run on return input `n` (R123)? -/
def State.generatorOn (s : State) (n : Nat) : Bool :=
  let h := s.headOf n
  if 16 ≤ h then true
  else s.headState h == hsOff || s.headState h == hsParked || s.calHeld h ||
    (s.scanning h && s.rd (R.SCAN_POS.PHASE h) == 4 && (s.head h).chain.stepsDue == 0)

/-- One hit is counted in the epoch of a line: raw positions of both chains, and the half of the spread triangle in which it
falls (R122, R125, R135, R420). [DEDUCED, log 134] -/
def State.countHit (s : State) (i : Nat) (tapsA tapsB : BitVec 288) : State :=
  let rising := s.spreadRising
  let a := tapCount tapsA
  let b := tapCount tapsB
  let r := if s.serviceChain i = 0 then a else b
  let s := s.updLine i fun l => { l with
    histA := SMap.upd (fun _ => 0) l.histA a (· + 1), histB := SMap.upd (fun _ => 0) l.histB b (· + 1)
    hits := l.hits + 1
    riseSum := if rising then l.riseSum + r else l.riseSum, riseN := if rising then l.riseN + 1 else l.riseN
    fallSum := if rising then l.fallSum else l.fallSum + r, fallN := if rising then l.fallN else l.fallN + 1 }
  s.when (decide (i < 1536)) fun s => s.inc (R.INSTAT_HITS.HITS i)

/-! ### Disposition of an edge (R107, R114 to R118, R121) -/

/-- Has input `n` FAILED (R128)? -/
def State.inputFailed (s : State) (n : Nat) : Bool := s.on (R.CAL_REC0.INPUT_FAIL n)

/-- Is an edge at `arr` (1/256 ns) lost in the hold-off `tau` ns after the last stamped edge? Between the two limits of R107
it is a free choice. [DESIGN CHOICE, log 35] -/
def State.inHoldOff (s : State) (last : Option Nat) (arr tau : Nat) : Bool :=
  match last with
  | none => false
  | some e =>
    let d := 10 * (arr - e)
    if d + 256 < 2560 * tau then true
    else if 2560 * tau + 256 < d then false
    else s.freeVal 1 == 1

/-- Does a receive window of one of these shots hold corrected time `c` (R115)? -/
def holds (d : List Nat) (shots : List Shot) (c : Nat) : Bool :=
  shots.any fun f =>
    match f.ek with
    | none => false
    | some e => decide (e + Desc.near d * 256 ≤ c) && decide (c < e + Desc.far d * 256)

/-- Corrected time `c` lies in a receive window of the dwell that runs (R115). -/
def State.inRunning (s : State) (h c : Nat) : Bool := holds (s.head h).scan.desc (s.head h).fire.shots c

/-- Corrected time `c` lies in a receive window of the dwell that closed last, whose group `g` has not passed its close
marker yet (R158). [DEDUCED, log 137] -/
def State.inClosing (s : State) (h g c : Nat) : Bool :=
  let k := (s.head h).closed
  !k.complete.contains g && Desc.enables k.desc g && holds k.desc k.shots c

/-- The receive windows of head `h`, for an input of group `g`, hold corrected time `c`. -/
def State.inWindow (s : State) (h g c : Nat) : Bool := s.inRunning h c || s.inClosing h g c

/-- The head of group `g`: that of its assigned inputs (R16); 16 where none is assigned. -/
def State.groupHead (s : State) (g : Nat) : Nat :=
  (((List.range 16).map fun j => s.headOf (g * 16 + j)).find? (· < 16)).getD 16

/-- The head whose RET_SAT rules input `n` (R117). -/
def State.satHead (s : State) (n : Nat) : Nat :=
  let h := s.groupHead (n / 16)
  if h < 16 then h else 0

/-- Does a saturating input at position `j` blank position `k` (RET_SAT.NEIGH)? -/
def neighbours (mode j k : Nat) : Bool :=
  let d := if j < k then k - j else j - k
  match mode with
  | 1 => d == 1
  | 2 => d == 1 || d == 2
  | 3 => d != 0
  | _ => false

/-- Does a saturating pulse of input `m` blank its neighbours at corrected time `c` (R118)? -/
def Line.blanksAt (l : Line) (c : Nat) : Bool :=
  (l.sat && decide (l.satFrom ≤ c)) || l.blanks.any fun b => decide (b.1 ≤ c) && decide (c < b.2)

/-- Is input `n` blanked at its corrected stamp (R118, R119)? [DEDUCED, log 34] -/
def State.isBlanked (s : State) (n c : Nat) : Bool :=
  (List.range 16).any fun j =>
    let m := n / 16 * 16 + j
    neighbours (s.rd (R.RET_SAT.NEIGH (s.satHead m))) j (n % 16) && (s.line m).blanksAt c

/-- Is the dwell of head `h` open? -/
def State.dwellOpen (s : State) (h : Nat) : Bool := s.rd (R.SCAN_POS.PHASE h) == 3

/-- The buffer of group `g` that an edge of head `h` at corrected time `c` counts in (R116, R158): that of the dwell whose
window holds it, else that of the open dwell. [DEDUCED, log 137] -/
def State.bufferAt (s : State) (h g c : Nat) : Option Nat :=
  let use := (s.group g).use
  if s.inClosing h g c ∧ ¬ s.inRunning h c then some (1 - use)
  else if (s.dwellOpen h ∨ s.inRunning h c) ∧ Desc.enables (s.head h).scan.desc g then some use
  else none

/-- Change the status of input `n` for an edge at corrected time `c`, where the dwell that counts it is open or closing
(R116). -/
def State.updStatusAt (s : State) (n c : Nat) (f : InRec → InRec) : State :=
  let g := n / 16
  let h := s.groupHead g
  if h < 16 then
    match s.bufferAt h g c with
    | some b => s.when (s.dwellOpen h || b != (s.group g).use) fun s => s.updRec g b (n % 16) f
    | none => s
  else s

/-- Change the status of input `n` for the dwell that is open (R116), where there is one that enables its group. -/
def State.updStatus (s : State) (n : Nat) (f : InRec → InRec) : State :=
  let g := n / 16
  let h := s.groupHead g
  if h < 16 ∧ s.dwellOpen h ∧ Desc.enables (s.head h).scan.desc g then s.updRec g (s.group g).use (n % 16) f else s

/-- A 16-bit count that saturates. -/
def up16 (n : Nat) : Nat := satU 16 (n + 1)

/-- An ACC event goes to the coincidence filter of its group (R114, R148). -/
def State.accept (s : State) (n c : Nat) : State :=
  let g := n / 16
  if (s.bufferAt (s.headOf n) g c).isSome then
    s.updGroup g fun G => { G with
      events := (G.events.filter fun e => e.fate == .waiting || decide (c < e.stamp + 2048 * 256)) ++
        [⟨n % 16, c, .waiting⟩] }
  else s

/-- An OUT edge is remembered as long as a saturation may still blank it (R118). -/
def State.noteOut (s : State) (n c : Nat) : State :=
  s.updGroup (n / 16) fun G => { G with
    outs := (G.outs.filter fun e => decide (c < e.2 + 2048 * 256)) ++ [(n % 16, c)] }

/-- Is an edge at corrected time `c` kept out of the epoch, because the head's SPAN is 0 and a receive window holds it
(R122)? -/
def State.phaseFixed (s : State) (h c : Nat) : Bool :=
  decide (h < 16) && s.rd (R.FIRE_CFG.SPAN h) == 4 &&
    (s.inRunning h c || holds (s.head h).closed.desc (s.head h).closed.shots c)

/-- A stamped edge may count as a calibration hit (R120, R122). -/
def State.edgeHit (s : State) (n c : Nat) (tapsA tapsB : BitVec 288) : State :=
  if (s.line n).sat || s.phaseFixed (s.headOf n) c then s else s.countHit n tapsA tapsB

/-! ### GATE (R121) -/

/-- The levels of the GATE input of head `h` up to the present edge are sampled (R121). [DEDUCED, log 146] -/
def State.sampleGate (s : State) (h : Nat) (levels : BitVec 512) : State :=
  s.updHead h fun H => { H with gate := ⟨s.now, levels⟩ }

/-- Was GATE of head `h` active at a corrected stamp less GATE_DLY (R121)? -/
def State.gateActive (s : State) (h c : Nat) : Bool :=
  let g := (s.head h).gate
  let back := g.at_ + s.rd (R.RET_CFG.GATE_DLY h) - c / 256
  g.levels.getLsbD back != s.on (R.RET_CFG.GATE_POL h)

/-- Does GATE hold back an edge of head `h` at corrected stamp `c` (test 5 of Table 4.2)? [DEDUCED, log 146] -/
def State.gatedOff (s : State) (h c : Nat) : Bool :=
  decide (h < 16) && s.on (R.RET_CFG.GATE_EN h) && !s.gateActive h c

/-- RETURN_EDGE (R114): an edge captured at the present DT, `back`/256 ns after it arrived; the taps of both chains, and
the levels of the head's GATE. [DEDUCED, log 173] -/
def execReturnEdge (t : Time) (n : Fin 1536) (back : BitVec 8) (tapsA tapsB : BitVec 288) (gate : BitVec 512)
    (s : State) : Host.Outcome State Fault Refusal :=
  s.run t fun s =>
    let h := s.headOf n
    let s := s.when (decide (h < 16) && s.on (R.RET_CFG.GATE_EN h)) fun s => s.sampleGate h gate
    let arr := s.now * 256 - back.toNat
    if s.generatorOn n then s.updLine n fun l => { l with riseAt := none }
    else
      let lost := s.inHoldOff (s.line n).lastEdge arr (s.rd (R.INCFG.HOLD_OFF n))
      let s := s.drawn
      if lost then
        let s := s.updLine n fun l => { l with riseAt := none }
        let s := s.inc (R.INSTAT_LOST.LOST n)
        if s.inWindow h (n / 16) (s.corrected n arr) then
          s.updStatusAt n (s.corrected n arr) fun r => { r with lost := up16 r.lost } else s
      else
        let stamp := s.stampOf n tapsA tapsB
        let c := s.corrected n stamp
        let s := s.edgeHit n c tapsA tapsB
        let s := s.updLine n fun l => { l with lastEdge := some arr, riseAt := some c }
        if s.inputFailed n then s.captureEvent n 3 c
        else if s.isBlanked n c then
          let s := s.inc (R.INSTAT_BLANK.BLANK n)
          (s.updStatusAt n c fun r => { r with blank := up16 r.blank, blanked := true }).captureEvent n 2 c
        else if s.gatedOff h c || !(decide (h < 16) && s.inWindow h (n / 16) c) then
          let s := s.inc (R.INSTAT_OUT.OUT n)
          ((s.updStatusAt n c fun r => { r with out := up16 r.out }).captureEvent n 1 c).noteOut n c
        else
          let s := s.inc (R.INSTAT_ACC.ACC n)
          ((s.updStatusAt n c fun r => { r with acc := up16 r.acc }).captureEvent n 0 c).accept n c

/-! ### Selections (R125, R126) -/

/-- cum(p) for p = 0 to 288 from a histogram of raw positions. -/
def cumList (hist : SMap Nat) : List Nat :=
  ((List.range 289).foldl (fun (acc, out) p => (acc + SMap.get (fun _ => 0) hist p, acc :: out)) (0, [])).2.reverse

/-- The tap from `lo` to `hi` whose cum lies nearest to (i + 1) H ÷ 256; ties keep the lower tap. [DEDUCED, log 129] -/
def bestTap (cum : List Nat) (h i lo hi : Nat) : Nat :=
  ((List.range (hi + 1 - lo)).foldl (fun (best, bd) k =>
    let d := ((256 * cum.getD (lo + k) 0 : Nat) - ((i + 1) * h : Nat) : Int).natAbs
    if k = 0 ∨ d < bd then (lo + k, d) else (best, bd)) (lo, 0)).1

/-- fit() of R125: the 256 taps of a chain, lowest first; `n` of them still to choose. [DEDUCED, log 129] -/
def fitTaps (cum : List Nat) (h : Nat) : Nat → Nat → List Nat
  | 0, _ => []
  | n + 1, lo =>
    let i := 255 - n
    let p := bestTap cum h i lo (288 - n)
    p :: fitTaps cum h n (p + 1)

/-- The mask of a list of taps. -/
def tapMask (taps : List Nat) : BitVec 288 := BitVec.ofNat 288 (taps.foldl (fun m p => m ||| 2 ^ (p - 1)) 0)

/-- The taps of a mask, lowest first. -/
def maskTaps (m : BitVec 288) : List Nat := ((List.range 288).filter fun j => m.getLsbD j).map (· + 1)

/-- quality() of R125: the largest INL and DNL of a selection, in LSB × H. -/
def quality (cum : List Nat) (h : Nat) (taps : List Nat) : Nat × Nat :=
  let r := taps.zipIdx.foldl (fun (inl, dnl, prev) (p, i) =>
    let c := cum.getD p 0
    let a := ((256 * c : Nat) - ((i + 1) * h : Nat) : Int).natAbs
    let d := ((256 * (c - prev) : Nat) - (h : Nat) : Int).natAbs
    (max inl a, max dnl d, c)) (0, 0, 0)
  (r.1, r.2.1)

/-- Does a quality pass the limits (R125)? -/
def State.qualityPasses (s : State) (h : Nat) (q : Nat × Nat) : Bool :=
  decide (q.1 * 390625 ≤ s.rd R.CAL_CFG.INL_LIM * 10000 * h) && decide (q.2 * 1024 ≤ s.rd R.CAL_LIM.DNL_LIM * h)

/-! ### Calibration records (R136) -/

/-- The temperature of the nearest thermal sensor; which sensor is nearest to a line is a free value. [DEDUCED, log 45] -/
def State.nearTemp (s : State) : Nat := s.rd (R.THM_SENSOR.TEMP (s.freeVal 8 % 48))

/-- Bytes 0x00 to 0x3B of record `i`. -/
def State.recordBytes (s : State) (i : Nat) : List Byte :=
  (List.range 15).flatMap fun w => bytesLE 4 (s.word (R.CAL_REC0.addr i + 4 * w))

/-- Close an update of record `i`: SEQ_HEAD, CRC, SEQ_TAIL (R136). -/
def State.sealRecord (s : State) (i : Nat) : State :=
  let s := s.inc (R.CAL_REC0.SEQ_HEAD i)
  let s := s.wr (R.CAL_REC_CRC.CRC i) (crc16 (s.recordBytes i))
  s.wr (R.CAL_REC_CRC.SEQ_TAIL i) (s.rd (R.CAL_REC0.SEQ_HEAD i))

/-- Write the service selection of line `i` into its record. -/
def State.writeTaps (s : State) (i : Nat) : State :=
  let m := ((s.line i).sel (s.serviceChain i)).toNat
  s.each 9 fun w s => s.wr (R.CAL_REC_TAP.TAP_SEL i w) (m / 2 ^ (32 * w))

/-- A change of line `i`: its temperature and DT, and the record. [DEDUCED, log 45] -/
def State.recordChange (s : State) (i : Nat) : State :=
  let s := (s.wr (R.CAL_REC_DNL.TEMP i) s.nearTemp).drawn
  let s := (s.writeTaps i).wr64 (R.CAL_REC_DT_LO.DT_LO i) (R.CAL_REC_DT_HI.DT_HI i) s.now
  s.sealRecord i

/-! ### Epochs (R125 to R131, R135) -/

/-- E of R125: 18 + HITS_LOG2, and 20 for the first epoch (R130). -/
def State.epochExp (s : State) (i : Nat) : Nat :=
  if (s.line i).evaluated then 18 + s.rd R.CAL_CFG.HITS_LOG2 else 20

/-- Is the epoch of line `i` at its end (R125)? The first one is not before 2^20 hits, unless it is starved.
[DEDUCED, log 129; DESIGN CHOICE, log 144] -/
def State.epochDue (s : State) (i : Nat) : Bool :=
  let l := s.line i
  decide (2 ^ s.epochExp i ≤ l.hits) ||
    (decide (l.epochAt + s.rd R.CAL_CFG.MAX_AGE * 1000000000 ≤ s.now) && (l.evaluated || decide (l.hits < 2 ^ 18)))

/-- A new epoch of line `i` begins. -/
def State.newEpoch (s : State) (i : Nat) : State :=
  let s := s.updLine i fun l => { l with
    histA := [], histB := [], hits := 0, epochAt := s.now, riseSum := 0, riseN := 0, fallSum := 0, fallN := 0 }
  s.when (decide (i < 1536)) fun s => s.wr (R.INSTAT_HITS.HITS i) 0

/-- The delay in 1/100 ps × H × n of a mean raw position sum ÷ n, by the fitted tap delays cum(p) ÷ H ns between taps. -/
def tapDelay (cum : List Nat) (sum n : Nat) : Nat :=
  let p := sum / n
  let c0 := cum.getD p 0
  let c1 := cum.getD (min 288 (p + 1)) c0
  (c0 * n + (c1 - c0) * (sum - p * n)) * 100000

/-- The coupling of the epoch (R135): reported, and raised above COUPLE_LIM. Of equal couplings WORST names the lowest line.
[DESIGN CHOICE, log 155] -/
def State.coupling (s : State) (i : Nat) (cum : List Nat) : State :=
  let l := s.line i
  if l.riseN = 0 ∨ l.fallN = 0 ∨ l.hits = 0 then s
  else
    let a := tapDelay cum l.riseSum l.riseN * l.fallN
    let b := tapDelay cum l.fallSum l.fallN * l.riseN
    let den := l.hits * l.riseN * l.fallN
    let num := (max a b) - (min a b)
    let v := satU 16 (s.roundFree num den).toNat
    let s := s.drawn
    let s := s.updLine i fun l => { l with couple := v }
    let (worst, most) := s.lines.foldl (fun (w, m) (k, l) => if m < l.couple then (k, l.couple) else (w, m)) (0, 0)
    let s := (s.wr R.CAL_COUPLE.WORST worst).wr R.CAL_COUPLE.COUPLE most
    s.when (decide (s.rd R.CAL_LIM.COUPLE_LIM * 10 * den < num)) fun s => s.raise .tdcSpreadCoupling noHead

/-- The head of line `i`, or `noHead`. -/
def State.lineHead (s : State) (i : Nat) : Nat := if s.headOf i < 16 then s.headOf i else noHead

/-- A chain fails (R128). -/
def State.failChain (s : State) (i c : Nat) : State :=
  (s.wrBit (R.CAL_REC0.FAIL i) c true).raiseU .tdcChainFail (s.lineHead i) i

/-- The input of a line fails (R128); RET_STATUS counts the ECHO line of a head among its inputs. [DEDUCED, log 154] -/
def State.failInput (s : State) (i : Nat) : State :=
  let h := s.headOf i
  let s := s.wr (R.CAL_REC0.INPUT_FAIL i) 1
  let s := s.when (decide (i < 1536)) fun s => s.updStatus i fun r => { r with failed := true }
  let s := s.when (decide (h < 16)) fun s => s.inc (R.RET_STATUS.FAILED h)
  let s := s.raiseU .tdcInputFail (s.lineHead i) i
  s.when (decide (1536 ≤ i)) fun s => s.refreshEmitter (i - 1536)

/-- The line's selection has passed its measurement (R126, R129). -/
def State.linePassed (s : State) (i : Nat) : State :=
  let h := s.headOf i
  let s := s.updLine i fun l => { l with passAt := s.now }
  if s.on (R.CAL_REC0.STALE i) then
    let s := (s.wr (R.CAL_REC0.STALE i) 0).condOff .tdcCalStale i
    s.when (decide (h < 16)) fun s => s.wr (R.RET_STATUS.STALE h) (s.rd (R.RET_STATUS.STALE h) - 1)
  else s

/-- The calibration hold of a head ends when an epoch of every delay line assigned to it has been evaluated; after a relock one
of 2^20 hits that passed (R130, R425). [DEDUCED, log 48] -/
def State.releaseHold (s : State) (h : Nat) : State :=
  if s.calHeld h ∧ (List.range 1552).all fun i => s.headOf i != h || (s.line i).evaluated then
    (s.updClk fun c => { c with calHold := clearBit c.calHold h }).refreshTiming
  else s

/-- The evaluation of an epoch with at least 2^18 hits (R126, R128). An INL_MAX or DNL_MAX beyond its field wraps.
[DEDUCED, log 48; DESIGN CHOICE, log 156] -/
def State.evaluateEpoch (s : State) (i : Nat) : State :=
  let l := s.line i
  let h := l.hits
  let svc := s.serviceChain i
  let cumA := cumList l.histA
  let cumB := cumList l.histB
  let cumS := if svc = 0 then cumA else cumB
  let q := quality cumS h (maskTaps (l.sel svc))
  let s := (s.wrRound (R.CAL_REC_SKEW.INL_MAX i) (q.1 * 390625 : Nat) (10000 * h)).wrRound (R.CAL_REC_DNL.DNL_MAX i)
    (q.2 * 1024 : Nat) h
  let s := s.when (decide (i < 1536)) fun s => s.wr (R.CAL_REC_HITS.HITS i) h
  let s := if s.qualityPasses h q then s.linePassed i else s.raise .tdcCalDrift (s.lineHead i)
  let s := s.coupling i cumS
  let tapsA := fitTaps cumA h 256 1
  let tapsB := fitTaps cumB h 256 1
  let qA := quality cumA h tapsA
  let qB := quality cumB h tapsB
  let okA := s.qualityPasses h qA
  let okB := s.qualityPasses h qB
  let s := s.updLine i fun l => { l with
    failA := if okA then 0 else l.failA + 1, failB := if okB then 0 else l.failB + 1
    failBoth := if okA || okB then 0 else l.failBoth + 1
    evaluated := l.evaluated || (decide (2 ^ 20 ≤ h) && (!s.clk.relockHold || s.qualityPasses h q)) }
  let l := s.line i
  let s := s.when (decide (l.failA = 3) && !s.bitOf (R.CAL_REC0.FAIL i) 0) fun s => s.failChain i 0
  let s := s.when (decide (l.failB = 3) && !s.bitOf (R.CAL_REC0.FAIL i) 1) fun s => s.failChain i 1
  let s := s.when (decide (l.failBoth = 3) && !s.inputFailed i) fun s => s.failInput i
  let useA := okA && !s.bitOf (R.CAL_REC0.FAIL i) 0
  let useB := okB && !s.bitOf (R.CAL_REC0.FAIL i) 1
  let s :=
    if s.on R.CAL_CFG.HOLD || (l.pend.any fun p => p.2.2.2) then s
    else if useA || useB then
      let c := if useA && useB then (if qA.1 = qB.1 then svc else if qA.1 < qB.1 then 0 else 1) else if useA then 0 else 1
      s.updLine i fun l => { l with pend := some (c, tapMask tapsA, tapMask tapsB, false) }
    else if s.bitOf (R.CAL_REC0.FAIL i) svc ∧ ¬ s.bitOf (R.CAL_REC0.FAIL i) (1 - svc) then
      s.updLine i fun l => { l with pend := some (1 - svc, l.selA, l.selB, false) }
    else s
  let s := s.sealRecord i
  s.when (decide (s.headOf i < 16)) fun s => s.releaseHold (s.headOf i)

/-- The epoch of an auxiliary cell is evaluated: its one chain takes the new selection where that passes (R113, R126).
[DEDUCED, log 146] -/
def State.evaluateAux (s : State) (i : Nat) : State :=
  let l := s.line i
  let cum := cumList l.histA
  let taps := fitTaps cum l.hits 256 1
  s.updLine i fun l => { l with
    evaluated := true
    pend := if s.qualityPasses l.hits (quality cum l.hits taps) && !s.on R.CAL_CFG.HOLD then
      some (0, tapMask taps, l.selB, false) else l.pend }

/-- CAL_EPOCH_CLOSE (R125): evaluated with 2^18 hits or more, else discarded. [DEDUCED, log 129] -/
def execCalEpochClose (t : Time) (i : Fin 1558) (s : State) : Host.Outcome State Fault Refusal :=
  s.run t fun s => s.when (s.epochDue i) fun s =>
    let few := decide ((s.line i).hits < 2 ^ 18)
    if 1552 ≤ i.val then (s.when (!few) fun s => s.evaluateAux i).newEpoch i
    else if few then (s.raise .tdcCalStarved (s.lineHead i)).newEpoch i
    else (s.evaluateEpoch i).newEpoch i

/-- Must a change of selection of a line of head `h` wait (R127)? While its dwell is open, or a receive window is. -/
def State.selectionWaits (s : State) (h : Nat) : Bool :=
  decide (h < 16) && ((s.scanning h && s.dwellOpen h) || s.inRunning h (s.now * 256))

/-- CAL_SELECTION_APPLY (R127), not while CAL_CFG.HOLD is 1 (R131). [DEDUCED, log 47] -/
def execCalSelectionApply (t : Time) (i : Fin 1558) (s : State) : Host.Outcome State Fault Refusal :=
  s.run t fun s =>
    match (s.line i).pend with
    | none => s
    | some (c, a, b, restored) =>
      if s.on R.CAL_CFG.HOLD || (decide (i.val < 1552) && s.selectionWaits (s.headOf i)) then s
      else
        let s := s.updLine i fun l => { l with pend := none, selA := a, selB := b }
        if 1552 ≤ i.val then s
        else
          let s := (s.wr (R.CAL_REC0.CHAIN i) c).wrB (R.CAL_REC0.RESTORED i) restored
          let s := s.when restored fun s =>
            (s.wr (R.CAL_REC_SKEW.SKEW i) (s.line i).pendSkew).wr R.CAL_RESTORE_STATUS.RESULT 2
          (s.calDone 0).recordChange i

/-- CAL_STALE_EXPIRY (R129, R136). [DESIGN CHOICE, log 144] -/
def execCalStaleExpiry (t : Time) (i : Fin 1552) (s : State) : Host.Outcome State Fault Refusal :=
  s.run t fun s =>
    if s.on (R.CAL_REC0.STALE i) || decide (s.now < (s.line i).passAt + s.rd R.CAL_CFG.STALE_AGE * 1000000000) then s
    else
      let h := s.headOf i
      let s := ((s.wr (R.CAL_REC0.STALE i) 1).sealRecord i).when (decide (h < 16)) fun s => s.inc (R.RET_STATUS.STALE h)
      s.raiseU .tdcCalStale (s.lineHead i) i

/-! ### Restore (R138, R139) -/

/-- The first condition of R138 that a staged record fails, as CAL_RESTORE_STATUS.RESULT reports it; 0 none.
[DEDUCED, log 45, 46] -/
def State.restoreCheck (s : State) (i : Nat) : Nat :=
  let w (k : Nat) : Nat := s.rd (R.CAL_STAGE.WORD k)
  let bytes := (List.range 15).flatMap fun k => bytesLE 4 (w k)
  let taps := BitVec.ofNat 288 (ofBytesLE ((List.range 9).flatMap fun k => bytesLE 4 (w (k + 1))))
  let temp := sext 16 (w 11 / 2 ^ 16)
  if crc16 bytes ≠ w 15 % 2 ^ 16 then 3
  else if w 0 / 2 ^ 16 ≠ s.rd R.SEC_SERIAL_LO.SERIAL % 2 ^ 16 then 4
  else if tapCount taps ≠ 256 ∨ s.bitOf (R.CAL_REC0.FAIL i) (bits (w 0) 8 8) then 5
  else if s.inputFailed i then 7
  else if s.rd R.CAL_LIM.RESTORE_DT < (temp - sext 16 s.nearTemp).natAbs then 6
  else 0

/-- CAL_RESTORE (R138): of the delay line `index`, through an interface. -/
def State.calRestore (s : State) (index : Nat) : State :=
  let r := s.restoreCheck index
  let s := s.drawn
  if r ≠ 0 then (s.wr R.CAL_RESTORE_STATUS.RESULT r).raise .calRestoreReject (s.lineHead index)
  else
    let w (k : Nat) : Nat := s.rd (R.CAL_STAGE.WORD k)
    let taps := BitVec.ofNat 288 (ofBytesLE ((List.range 9).flatMap fun k => bytesLE 4 (w (k + 1))))
    let c := bits (w 0) 8 8
    let s := s.updLine index fun l => { l with
      pend := some (c, if c = 0 then taps else l.selA, if c = 0 then l.selB else taps, true), pendSkew := w 10 % 2 ^ 16 }
    (s.wr R.CAL_RESTORE_STATUS.RESULT 1).newEpoch index

/-- CAL_RESTORE (R138). An INDEX that names no delay line is refused as an access error. [DESIGN CHOICE, log 157] -/
def execCalRestore (t : Time) (i : Iface) (index : BitVec 11) (s : State) : Host.Outcome State Fault Refusal :=
  s.run t fun s =>
    if 1552 ≤ index.toNat then s.refuse i R.CAL_CTL.addr else s.calRestore index.toNat

/-! ### Echo timing cells (R133, R134) -/

/-- VERNIER_CAL_COMPLETE (R133): the sums of the 64 delays measured at each of the five codes, in 1/256 ns. -/
def execVernierCalComplete (t : Time) (h : HeadIx) (y0 y1 y2 y3 y4 : BitVec 32) (s : State) :
    Host.Outcome State Fault Refusal :=
  s.run t fun s =>
    if !(s.head h).scan.calVernier then s
    else
      let y : List Int := [y0.toNat, y1.toNat, y2.toNat, y3.toNat, y4.toNat]
      let sy := y.sum
      let sxy := dot [0, 64, 128, 192, 255] y
      let gain := 5 * sxy - 639 * sy
      let ofs := 122369 * sy - 639 * sxy
      let s := s.updScan h fun c => { c with calVernier := false }
      let s := s.wrRound ⟨R.CAL_REC_HITS.addr (1536 + h), 15, 0⟩ ofs (203524 * 64)
      let s := s.wrRound ⟨R.CAL_REC_HITS.addr (1536 + h), 31, 16⟩ (gain * 32768) (203524 * 64)
      let s := (s.sealRecord (1536 + h)).calDone 1
      s.releaseHeldStart h

/-- The mean echo latency of a dwell (R134). -/
def State.echoLatency (s : State) (h : Nat) : State :=
  let f := (s.head h).fire
  if f.latN = 0 then s
  else
    let s := s.wrRound (R.RET_ECHO_LAT.LAT_MEAN h) (f.latSum : Nat) f.latN
    let dev := ((f.latSum : Nat) - (s.rd (R.RET_ECHO_REF.LAT_REF h) * f.latN : Nat) : Int).natAbs
    s.when (decide (s.rd (R.RET_ECHO_REF.LAT_TOL h) * f.latN < dev)) fun s => s.raise .echoLatencyDrift h

/-- TRIG_IN_EDGE (R113, R247): a stamped edge is an occurrence. [DEDUCED, log 128] -/
def State.trigInEdge (s : State) (idx : Nat) (fall : Bool) (stamp : Nat) : State :=
  s.occur ⟨0x02, idx, fall, stamp⟩

end Sys2Proof.Machine
end

