-- ==== Sys2Proof/Machine/Bench.lean ====
section
/-! DEFINITION. Histogram accumulation on the bench (05_histograms.md, R142 to R163). -/

namespace Sys2Proof.Machine

/-! ### Dwell header and status (R145 to R147) -/

/-- DEC_LOG2 of group `g` for the code of SIF, 0 to 3 (R150). -/
def State.decLog2 (s : State) (g sif : Nat) : Nat :=
  match sif with
  | 0 => s.rd (R.GRP_DEC.DEC_SIF1 g)
  | 1 => s.rd (R.GRP_DEC.DEC_SIF2 g)
  | 2 => s.rd (R.GRP_DEC.DEC_SIF4 g)
  | _ => s.rd (R.GRP_DEC.DEC_SIF8 g)

/-- The code of SIF in a descriptor. -/
def Desc.sifCode (d : List Nat) : Nat := bits (descWord d 2) 13 12

/-- What the prefetch of a dwell delivers for an input (R145, R146, R167): windows enabled, their placement, the prior,
and whether it has not arrived. -/
structure Delivered where
  zen : Nat := 0
  zs : List Nat := [0, 0, 0, 0]
  prior : Option (List Nat) := none
  late : Bool := false

/-- The buffer that the next dwell of a head uses is taken up: it is zero (R144). -/
def State.takeBuffers (s : State) (h : Nat) : State :=
  s.each 96 fun g s => s.when (Desc.enables (s.head h).scan.desc g) fun s =>
    let b := (s.group g).use
    (s.each 16 fun j s => s.updRec g b j fun _ => {}).updGroup g fun G => { G with
      passed := G.passed.filter fun e => e.1 / 16 != b }

/-- A dwell opens on group `g`: the headers are written (R145), and c[j] is cleared (R151). -/
def State.openGroup (s : State) (h g : Nat) (d : List Nat) (dwell frame : Nat) (place : Nat → Delivered) : State :=
  let b := (s.group g).use
  let s := s.updGroup g fun G => { G with passed := G.passed.filter fun e => e.1 / 16 != b }
  s.each 16 fun j s =>
    let n := 16 * g + j
    let mine := s.headOf n == h
    let p := if mine then place n else {}
    let s := s.updRec g b j fun r => { r with
      saturated := (s.line n).sat, blanked := s.isBlanked n (s.now * 256), failed := s.inputFailed n
      dwell := dwell, head := h, binW := Desc.binLog2 d, sif := Desc.sifCode d, dec := s.decLog2 g (Desc.sifCode d)
      frame := frame, bid := Desc.bid d n, zen := if p.late then 0 else p.zen, zs := p.zs, zoomLate := p.late
      dtOpen := s.now, near := Desc.near d, far := Desc.far d, prior := p.prior }
    s.when p.late fun s => (s.inc (R.HIST_CNT_ZLATE.COUNT h)).raise .zoomLate h

/-- The headers of every enabled group at dwell open. [DEDUCED, log 60] -/
def State.openGroups (s : State) (h : Nat) (d : List Nat) (dwell frame : Nat) (place : Nat → Delivered) : State :=
  s.each 96 fun g s => s.when (Desc.enables d g) fun s => s.openGroup h g d dwell frame place

/-- The 64 bytes of an input dwell header (Table 5.3). -/
def InRec.header (r : InRec) (n : Nat) : List Byte :=
  pack [(4, r.dwell + 0x10000 * r.head + 0x100000 * r.binW + 0x800000 * r.sif + 0x2000000 * r.dec), (4, r.frame),
    (4, r.bid + 0x100000 * (n % 16) + 0x1000000 * (n / 16)),
    (4, r.shots + 0x2000 * r.zen + 0x20000 * flag r.zoomLate), (8, r.dtOpen), (8, r.dtClose), (2, r.near), (2, r.far)] ++
  pack ((List.range 8).map fun p => (2, r.nP.getD p 0)) ++ pack ((List.range 4).map fun z => (3, r.zs.getD z 0 % 2 ^ 17))

/-- The 32 bytes of a dwell status (Table 5.4). -/
def InRec.status (r : InRec) : List Byte :=
  pack [(2, r.acc), (2, r.out), (2, r.lost), (2, r.blank), (2, r.coinc), (2, r.shed), (4, r.hyp),
    (4, flag r.saturated + 2 * flag r.blanked + 4 * flag r.calStale + 8 * flag r.failed + 16 * flag r.wSat +
      32 * flag r.benchErr + 64 * flag r.spilled), (12, 0)]

/-- Counters 0 to `n` − 1 of `w` bytes each. -/
def counters (m : SMap Nat) (w n : Nat) : List Byte := pack ((List.range n).map fun i => (w, SMap.get (fun _ => 0) m i))

/-- CSUM[0] to CSUM[3] as Table 5.2 lays them out. -/
def InRec.sums (r : InRec) : List Byte :=
  pack ((List.range 4).flatMap fun z => (List.range 3).map fun i =>
    (if i = 2 then 8 else 4, SMap.get (fun _ => 0) r.csum (3 * z + i)))

/-- The 5 KiB of the input record of input `n` (Table 5.2, R143). -/
def InRec.bytes (r : InRec) (n : Nat) : List Byte :=
  counters r.coarse 2 1024 ++ counters r.pblk 2 1024 ++ counters r.zbin 2 256 ++ counters r.zph 2 32 ++ r.sums ++ r.status ++
    r.header n ++ List.replicate 288 0

/-- The 3 KiB of a compacted record (Table 5.6) with its detection results. -/
def InRec.compact (r : InRec) (n : Nat) (det : List Byte) : List Byte :=
  r.header n ++ r.status ++ r.sums ++ counters r.zph 2 32 ++ counters r.zbin 2 256 ++ counters r.coarse 2 1024 ++ det

/-- Where the record of position `j` in buffer `b` lies in the bench bank of its group (Table 5.1, R142). -/
def recordAt (b j : Nat) : Nat := 0x14000 * b + 0x1400 * j

/-- Where slot `k` of the merge queue lies in the bench bank of its group (Table 5.1). -/
def slotPlace (k : Nat) : Nat := 0x28000 + 0xC00 * k

/-! ### Coincidence and decimation (R148 to R152) -/

/-- Positions that the filter counts with position `j` (R148). -/
def coincNear (mode j k : Nat) : Bool :=
  let d := if j < k then k - j else j - k
  match mode with
  | 1 => d ≤ 1
  | 2 => d ≤ 2
  | _ => true

/-- Does an ACC event at corrected stamp `c` on position `j` pass the coincidence filter (R148)? -/
def State.coincPasses (s : State) (h g j c : Nat) : Bool :=
  if !s.on (R.HIST_COINC.EN h) then true
  else
    let w := (s.rd (R.HIST_COINC.W_M1 h) + 1) * 64
    let evs := (s.group g).events
    let n := ((List.range 16).filter fun k =>
      coincNear (s.rd (R.HIST_COINC.NEIGH h)) j k &&
        evs.any fun e => e.pos == k && decide (c ≤ e.stamp + w) && decide (e.stamp ≤ c + w)).length
    decide (s.rd (R.HIST_COINC.K_M2 h) + 2 ≤ n)

/-- keep() of R151: the count of passed events, the position, the seed and D. -/
def keep (c j seed d : Nat) : Bool := (c + seed / 2 ^ j % d) % d == 0

/-- Add a hypothesis to the entry queue; a full queue is a fault, and the hypothesis is discarded (R156).
[DESIGN CHOICE, log 153] -/
def State.addHyp (s : State) (h g : Nat) (y : Hyp) : State :=
  if 128 ≤ (s.group g).queue.length then (s.latch (R.HIST_STATUS.ENTRY_FAULT h)).raise .histEntryFault h
  else s.updGroup g fun G => { G with queue := G.queue ++ [y] }

/-- The hypotheses of a kept event: one for each shot whose window contains it (R152). -/
def hypsOf (b j c : Nat) (d : List Nat) (shots : List Shot) : List Hyp :=
  shots.reverse.filterMap fun f =>
    match f.ek with
    | none => none
    | some e =>
      if e + Desc.near d * 256 ≤ c ∧ c < e + Desc.far d * 256 then some ⟨b, j, c, e, f.phase⟩ else none

/-- The seed of the dwell that uses a buffer of group `g` (R77, R151). -/
def State.seedOf (s : State) (h g b : Nat) : Nat :=
  if b = (s.group g).use then (s.head h).fire.seed else (s.head h).closed.seed

/-- The hypotheses of an event of head `h` in buffer `b` of group `g` (R152, R158). -/
def State.eventHyps (s : State) (h g b j c : Nat) : List Hyp :=
  let H := s.head h
  if b = (s.group g).use then hypsOf b j c H.scan.desc H.fire.shots else hypsOf b j c H.closed.desc H.closed.shots

/-- The filter decides an event of position `j` at corrected stamp `c` (R148 to R152): its fate, and the hypotheses it forms. -/
def State.decideEvent (s : State) (g j c : Nat) : State × Fate :=
  let h := s.headOf (16 * g + j)
  match s.bufferAt h g c with
  | none => (s, .rejected)
  | some b =>
    if !s.coincPasses h g j c then
      ((s.updRec g b j fun r => { r with coinc := up16 r.coinc }).inc (R.HIST_CNT_COINC.COUNT h), .rejected)
    else
      let n := SMap.get (fun _ => 0) (s.group g).passed (16 * b + j)
      let k := keep n j (s.seedOf h g b) (2 ^ (s.inRec g b j).dec)
      let s := s.updGroup g fun G => { G with passed := SMap.set (fun _ => 0) G.passed (16 * b + j) (n + 1) }
      if k then ((s.eventHyps h g b j c).foldl (fun s y => s.addHyp h g y) s, .kept)
      else ((s.updRec g b j fun r => { r with shed := up16 r.shed }).inc (R.HIST_CNT_SHED.COUNT h), .shed)

/-- The corrected stamp of the first waiting event of position `j`. -/
def nextEvent (j : Nat) (es : List Acc) : Option Nat :=
  (es.find? fun e => e.pos == j && e.fate == .waiting).map (·.stamp)

/-- The first waiting event of position `j` has met its fate. -/
def settleEvent (j : Nat) (f : Fate) : List Acc → List Acc
  | [] => []
  | e :: es => if e.pos = j ∧ e.fate = .waiting then { e with fate := f } :: es else e :: settleEvent j f es

/-- COINC_DECISION (R149): the next event of position `j`, in stamp order, at its stamp + W + 1 ns. [DESIGN CHOICE, log 144] -/
def execCoincDecision (t : Time) (g : Fin 96) (j : Fin 16) (s : State) : Host.Outcome State Fault Refusal :=
  s.run t fun s =>
    match nextEvent j (s.group g).events with
    | none => s
    | some c =>
      let w := (s.rd (R.HIST_COINC.W_M1 (s.groupHead g)) + 1) * 64
      if (s.now + 1) * 256 ≤ c + w + 256 then s
      else
        let (s, f) := s.decideEvent g j c
        s.updGroup g fun G => { G with events := settleEvent j f G.events }

/-! ### Entry arithmetic (R153) -/

/-- A saturating sum of `w` bits, or, `back`, what it was before. -/
def bump (back : Bool) (w v x : Nat) : Nat := if back then x - v else satU w (x + v)

/-- Advance a sparse counter of `w` bits by `v`, or take that back. -/
def bumpAt (back : Bool) (w v : Nat) (m : SMap Nat) (i : Nat) : SMap Nat := SMap.upd (fun _ => 0) m i (bump back w v)

/-- Window `z` of an entry at `u` (1/256 ns after the near gate). -/
def InRec.enterZoom (back : Bool) (r : InRec) (u phase z : Nat) : InRec :=
  let zs := r.zs.getD z 0 % 2 ^ 17 * 32
  if !bit r.zen z || decide (u < zs) || decide (2048 ≤ u - zs) then r
  else
    let q := u - zs
    { r with zbin := bumpAt back 16 1 r.zbin (64 * z + q / 32), zph := bumpAt back 16 1 r.zph (8 * z + phase)
             csum := bumpAt back 64 (q * q) (bumpAt back 32 q (bumpAt back 32 1 r.csum (3 * z)) (3 * z + 1)) (3 * z + 2) }

/-- enter() of R153: stamp, echo start and phase set of the shot; or, `back`, an entry taken back (R118). -/
def InRec.enter (back : Bool) (r : InRec) (c e phase : Nat) : InRec :=
  let d := (c + 2 ^ 32 - e % 2 ^ 32) % 2 ^ 32
  if d < r.near * 256 ∨ r.far * 256 ≤ d then r
  else
    let u := d - r.near * 256
    let b := u / 2 ^ (8 + r.binW)
    let r := { r with coarse := bumpAt back 16 1 r.coarse b, pblk := bumpAt back 16 1 r.pblk (8 * (b / 8) + phase) }
    let r := (List.range 4).foldl (fun r z => r.enterZoom back u phase z) r
    { r with hyp := bump back 32 1 r.hyp }

/-- Enter one hypothesis in the record of its input. -/
def State.enterHyp (s : State) (g : Nat) (y : Hyp) : State :=
  s.updRec g y.buf y.pos fun r => r.enter false (y.stamp % 2 ^ 32) y.echo y.phase

/-- HYPOTHESIS_ENTRY (R153, R154): the engine takes the front of the entry queue. -/
def execHypothesisEntry (t : Time) (g : Fin 96) (s : State) : Host.Outcome State Fault Refusal :=
  s.run t fun s =>
    match (s.group g).queue with
    | [] => s
    | y :: ys => (s.updGroup g fun G => { G with queue := ys }).enterHyp g y

/-! ### Saturation and blanking (R117 to R119) -/

/-- A hypothesis is withdrawn from the entry queue, or its entry is taken back. -/
def State.withdrawHyp (s : State) (g : Nat) (y : Hyp) : State :=
  if (s.group g).queue.contains y then s.updGroup g fun G => { G with queue := G.queue.erase y }
  else s.updRec g y.buf y.pos fun r => r.enter true (y.stamp % 2 ^ 32) y.echo y.phase

/-- An edge of input `n` with corrected stamp `c` turns out to lie in a blanking interval: its dwell status. The count it had
is taken back by `f`. -/
def State.blankStatus (s : State) (n c : Nat) (f : InRec → InRec) : State :=
  (s.inc (R.INSTAT_BLANK.BLANK n)).updStatusAt n c fun r =>
    if r.dtOpen * 256 ≤ c then { f r with blank := up16 r.blank, blanked := true } else r

/-- An OUT edge becomes BLANK (R118). -/
def State.withdrawOut (s : State) (n c : Nat) : State :=
  (s.add (R.INSTAT_OUT.OUT n) (2 ^ 32 - 1)).blankStatus n c fun r => { r with out := r.out - 1 }

/-- What the filter counted of an event is taken back, or the hypotheses that it formed. -/
def State.withdrawFate (s : State) (n c : Nat) (f : Fate) : State :=
  let h := s.headOf n
  let g := n / 16
  match f, s.bufferAt h g c with
  | .rejected, some b =>
    (s.updRec g b (n % 16) fun r => { r with coinc := r.coinc - 1 }).add (R.HIST_CNT_COINC.COUNT h) (2 ^ 32 - 1)
  | .shed, some b =>
    (s.updRec g b (n % 16) fun r => { r with shed := r.shed - 1 }).add (R.HIST_CNT_SHED.COUNT h) (2 ^ 32 - 1)
  | .kept, some b => (s.eventHyps h g b (n % 16) c).foldl (fun s y => s.withdrawHyp g y) s
  | _, _ => s

/-- An ACC event becomes BLANK (R118). [DEDUCED, log 147] -/
def State.withdrawAcc (s : State) (n : Nat) (e : Acc) : State :=
  let s := (s.add (R.INSTAT_ACC.ACC n) (2 ^ 32 - 1)).blankStatus n e.stamp fun r => { r with acc := r.acc - 1 }
  (s.withdrawFate n e.stamp e.fate).updGroup (n / 16) fun G => { G with events := G.events.erase e }

/-- The edges of input `n` from corrected time `c` on, which were sorted before the saturation was known, are blanked
(R118). [DEDUCED, log 147] -/
def State.blankSince (s : State) (n c : Nat) : State :=
  let G := s.group (n / 16)
  let s := (G.events.filter fun e => e.pos == n % 16 && decide (c ≤ e.stamp)).foldl (fun s e => s.withdrawAcc n e) s
  let s := (G.outs.filter fun e => e.1 == n % 16 && decide (c ≤ e.2)).foldl (fun s e => s.withdrawOut n e.2) s
  s.updGroup (n / 16) fun G => { G with outs := G.outs.filter fun e => e.1 != n % 16 || decide (e.2 < c) }

/-- SATURATION_DETECT (R117, R118). [DEDUCED, log 34, 147] -/
def execSaturationDetect (t : Time) (n : Fin 1536) (s : State) : Host.Outcome State Fault Refusal :=
  s.run t fun s =>
    let l := s.line n
    if l.sat then s
    else
      let start := l.riseAt.getD (s.corrected n (s.now * 256))
      let s := s.updLine n fun l => { l with sat := true, satFrom := start }
      let s := (s.inc (R.INSTAT_SAT.SAT n)).updStatus n fun r => { r with saturated := true }
      s.each 16 fun j s =>
        s.when (neighbours (s.rd (R.RET_SAT.NEIGH (s.satHead n))) (n % 16) j) fun s =>
          (s.updStatus (n / 16 * 16 + j) fun r => { r with blanked := true }).blankSince (n / 16 * 16 + j) start

/-- SATURATION_END (R118): the blanking ends RECOV ns after the level falls. -/
def execSaturationEnd (t : Time) (n : Fin 1536) (s : State) : Host.Outcome State Fault Refusal :=
  s.run t fun s => s.when (s.line n).sat fun s =>
    let fall := s.corrected n (s.now * 256)
    let stop := fall + s.rd (R.RET_SAT.RECOV (s.satHead n)) * 4 * 256
    s.updLine n fun l => { l with
      sat := false, blanks := (l.satFrom, stop) :: l.blanks.filter fun b => decide (fall < b.2 + 2048 * 256) }

/-! ### Dwell close and hand-off (R157 to R159) -/

/-- N_P: shots of each phase set that opened a window (R145). -/
def phaseCounts (shots : List Shot) : List Nat :=
  (List.range 8).map fun p => (shots.filter fun f => f.ek.isSome && f.phase == p).length

/-- Change what is known of the dwell that closed last. -/
def State.updClosed (s : State) (h : Nat) (f : Closed → Closed) : State :=
  s.updHead h fun H => { H with closed := f H.closed }

/-- BUFFER_COMPLETE (R158): what the engine still holds of the buffer is entered; header and status are completed. -/
def execBufferComplete (t : Time) (h : HeadIx) (g : Fin 96) (s : State) : Host.Outcome State Fault Refusal :=
  s.run t fun s =>
    let k := (s.head h).closed
    if !Desc.enables k.desc g || k.complete.contains g.val then s
    else
      let b := 1 - (s.group g).use
      let mine := (s.group g).queue.filter (·.buf == b)
      let s := s.updGroup g fun G => { G with queue := G.queue.filter (·.buf != b) }
      let s := mine.foldl (fun s y => s.enterHyp g y) s
      let s := s.each 16 fun j s => s.updRec g b j fun r => { r with
        shots := k.fired, nP := phaseCounts k.shots, dtClose := k.closeAt
        calStale := s.on (R.CAL_REC0.STALE (16 * g + j)), failed := r.failed || s.inputFailed (16 * g + j)
        wSat := [r.acc, r.out, r.lost, r.blank, r.coinc, r.shed].any (· == 0xFFFF) }
      s.updClosed h fun c => { c with complete := g.val :: c.complete }

/-! ### Merge queue and spill ring (R160 to R162) -/

/-- Records of group `g` held in the spill ring. -/
def State.spillHeld (s : State) (g : Nat) : Nat := (s.spill.filter fun e => e.2.n / 16 == g).length

/-- Show the occupancy of the merge queue and the spill ring. -/
def State.showQueue (s : State) (h g : Nat) : State :=
  let n := (s.group g).mq.length
  let s := (s.wr (R.GRP_MQ.MQ_USED g) n).wr (R.GRP_MQ.SPILL_HELD g) (s.spillHeld g)
  s.wr (R.HIST_STATUS.MQ_MAX h) (max n (s.rd (R.HIST_STATUS.MQ_MAX h)))

/-- Change the item of input `n` in the dwell that closed last. -/
def State.updItem (s : State) (h n : Nat) (f : Item → Item) : State :=
  s.updClosed h fun c => { c with items := c.items.map fun i => if i.n = n then f i else i }

/-- Change the item of input `n` of a dwell, where that is the dwell that closed last. -/
def State.updItemOf (s : State) (h n frame dwell : Nat) (f : Item → Item) : State :=
  let k := (s.head h).closed
  s.when (decide (k.frame = frame ∧ k.dwell = dwell)) fun s => s.updItem h n f

/-- The lowest free slot of the merge queue of group `g`. [DESIGN CHOICE, log 151] -/
def State.freeSlot (s : State) (g : Nat) : Nat :=
  ((List.range 32).find? fun k => !(s.group g).mq.any fun m => m.place == k).getD 0

/-- A record enters the merge queue (R160). -/
def State.queueRecord (s : State) (g : Nat) (r : MqRec) : State :=
  s.updGroup g fun G => { G with mq := G.mq ++ [{ r with place := s.freeSlot g }] }

/-- The first place of the spill ring from `i` on that is not held; `n` places are looked at. -/
def freePlace (held : List Nat) : Nat → Nat → Nat
  | 0, i => i
  | n + 1, i => if held.contains i then freePlace held n ((i + 1) % 8192) else i

/-- Where the next record of the spill ring goes (Table 15.1): the first place after the newest one held that is free, 0 in an
empty ring. [DESIGN CHOICE, log 151] -/
def State.spillIndex (s : State) : Nat :=
  match s.spill.getLast? with
  | none => 0
  | some e => freePlace (s.spill.map Prod.fst) 8192 ((e.1 + 1) % 8192)

end Sys2Proof.Machine
end

