-- ==== Sys2Proof/Machine/Detect.lean ====
section
/-! DEFINITION. Detection and rejection of sun, rain, fog and other scanners (06_detection.md, R164 to R188): the
evaluator, the field sets, their selection, and the visibility of a head. -/

namespace Sys2Proof.Machine

/-! ### Range conversion (R170) and logarithms -/

/-- A time in 1/8,192 ns as a range in 0.25 mm, with the constant of the head (R170). -/
def rangeOfK (k t : Nat) : Nat := (t * k + 2 ^ 31) / 2 ^ 32

/-- The conversion of a time in 1/8,192 ns to range units with the head's K (R170). -/
def State.rangeUnits (s : State) (h t : Nat) : Nat := rangeOfK (s.rd (R.DET_RANGE_K.K h)) t

/-- ln 2 in 2^-64. -/
def ln2Fix : Nat := 12786308645202655660

/-- ln m in 2^-64 for m = `a / b` from 1 to 2, by the series of the inverse hyperbolic tangent. -/
def lnSmall (a b : Nat) : Nat :=
  let y := (a - b) * 2 ^ 64 / (a + b)
  2 * ((List.range 24).foldl (fun (sum, pow) i =>
    (sum + pow / (2 * i + 1), pow * y / 2 ^ 64 * y / 2 ^ 64)) (0, y)).1

/-- ln (a / b) in 2^-40, for a and b above 0. [DESIGN CHOICE, log 56] -/
def lnFix (a b : Nat) : Int :=
  let k : Int := (a.log2 : Int) - (b.log2 : Int)
  let (a, b) := if 0 ≤ k then (a, b * 2 ^ k.toNat) else (a * 2 ^ (-k).toNat, b)
  let (k, a) := if a < b then (k - 1, 2 * a) else (k, a)
  (k * (ln2Fix : Int) + (lnSmall a b : Nat)) / (2 ^ 24 : Int)

/-- The cap of p and of F (R183, R184). -/
def pMax : Rat := 999 / 1000

/-- −ln (1 − p) in UQ4.12, for p at most 0.999, held at 0xFFFF; the rounding is not stated. [DESIGN CHOICE, log 56] -/
def State.muOf (s : State) (p : Rat) : Nat :=
  let p := if pMax < p then pMax else if p < 0 then 0 else p
  let q := 1 - p
  satUI 16 (s.roundFree (lnFix q.den q.num.toNat * 4096) (2 ^ 40))

/-- A quotient of two numbers held at a cap, which it also takes where the divisor is 0. -/
def capDiv (num den cap : Rat) : Rat := if den = 0 then cap else let q := num / den; if cap < q then cap else q

/-- The square root of a number held at 0: exact where it is whole, else the rounding is not stated. [DESIGN CHOICE, log 57] -/
def State.rootFree (s : State) (x : Rat) : Nat :=
  if x ≤ 0 then 0
  else
    let f := isqrt x.floor.toNat
    if x = ((f * f : Nat) : Rat) then f else f + s.freeVal 1

/-! ### Background (R166, R167) -/

/-- The sum of the `t` largest numbers of a list. -/
def largestSum : Nat → List Nat → Nat
  | 0, _ => 0
  | t + 1, l => let m := l.foldl max 0; m + largestSum t (l.erase m)

/-- background() of R166 on a list of counts, with the final shift left by `sh`. -/
def background (hs : List Nat) (lg sh : Nat) : List Nat :=
  ((List.range 16).foldl (fun (out : List Nat) s =>
    let first := 64 * s
    let n := if first < lg then min 64 (lg - first) else 0
    if n = 0 then out.headD 0 :: out
    else
      let t := n / 16
      let xs := (hs.drop first).take n
      (xs.sum - largestSum t xs) * 2 ^ sh / (n - t) :: out) []).reverse

/-- bloc() of R166. -/
def bloc (bseg : List Nat) (cap : Option (List Nat)) (lg b : Nat) : Nat :=
  let s := b / 64
  let v := bseg.getD s 0
  let v := if 0 < s then min v (bseg.getD (s - 1) 0) else v
  let v := if s < (lg - 1) / 64 then min v (bseg.getD (s + 1) 0) else v
  match cap with
  | some c => min v (c.getD s 0)
  | none => v

/-- The caps of R167. -/
def State.caps (s : State) (h : Nat) (prior : Option (List Nat)) : Option (List Nat) :=
  let l := s.rd (R.DET_BG.CAP_LOG2 h)
  match prior with
  | some p => if l = 0 then none else some (p.map fun v => v * 2 ^ l + s.rd (R.DET_BG.CAP_ADD h))
  | none => none

/-! ### Threshold (R168) and candidates (R169) -/

/-- What the pass of R168 computes for one bin. -/
structure Bin where
  h : Nat
  be : Nat
  ex : Nat
  lc : Nat
  above : Bool

/-- The pass of R168 over the bins, newest bin first. -/
def thresholdPass (hs : List Nat) (bl : Nat → Nat) (tb d shots nSig mMin : Nat) : List Bin :=
  (hs.zipIdx.foldl (fun (out, x) (c, b) =>
    let x := if tb ≤ b then x - ((out.drop (tb - 1)).head?.map Bin.ex).getD 0 else x
    let dead := x * d * 128 / shots
    let lc := if 32768 ≤ dead then 0 else 32768 - dead
    let be := bl b * lc / 32768
    let t := be + nSig * isqrt (be * 256) / 16 + mMin * 256
    let ex := c * 256 - be
    (⟨c, be, ex, lc, decide (t < c * 256)⟩ :: out, x + ex)) (([] : List Bin), 0)).1

/-- Maximal runs of bins for which `p` holds: start and length, in ascending order. -/
def runsOf (p : List Bool) : List (Nat × Nat) :=
  (p.zipIdx.foldl (fun (out : List (Nat × Nat)) (a, b) =>
    if !a then out
    else match out with
      | (st, n) :: rest => if st + n = b then (st, n + 1) :: rest else (b, 1) :: out
      | [] => [(b, 1)]) []).reverse

/-- The index of the largest value, ties to the lower one. -/
def peakOf (xs : List Nat) : Nat :=
  (xs.zipIdx.foldl (fun (bi, bv) (v, i) => if i = 0 ∨ bv < v then (i, v) else (bi, bv)) (0, 0)).1

/-- A candidate from a run (R169). -/
def candOf (bins : List Bin) (run : Nat × Nat) : Cand :=
  let xs := (bins.drop run.1).take run.2
  let p := run.1 + peakOf (xs.map (·.ex))
  { start := run.1, len := run.2, peak := p, excess := (xs.map (·.ex)).sum
    be := ((bins.drop p).head?.map Bin.be).getD 0, lc := ((bins.drop run.1).head?.map Bin.lc).getD 0 }

/-! ### Shot-phase balance (R171) -/

/-- The balance test of a candidate (R171). -/
def balance (r : InRec) (bins : List Bin) (lg eMin dom setsMin : Nat) (c : Cand) : Cand :=
  let m0 := c.start / 8
  let m1 := (c.start + c.len - 1) / 8
  let bg := (((bins.take (min lg (8 * m1 + 8))).drop (8 * m0)).map Bin.be).sum
  let np (p : Nat) : Nat := r.nP.getD p 0
  let e := (List.range 8).map fun p =>
    (sumTo (m1 + 1 - m0) fun k => SMap.get (fun _ => 0) r.pblk (8 * (m0 + k) + p)) * 256 - bg * np p / r.shots
  let tot := e.sum
  if r.shots < 8 ∨ tot < eMin * 256 then { c with balNa := true }
  else
    let x (p : Nat) : Nat := tot * np p / r.shots
    let ep (p : Nat) : Nat := e.getD p 0
    let sets := ((List.range 8).filter fun p => decide (x p ≤ 4 * ep p)).length
    let ratio := (List.range 8).foldl (fun m p => max m (if x p = 0 then 0xFFFF else ep p * 256 / x p)) 0
    { c with
      balFail := (List.range 8).any (fun p => decide (dom * x p < ep p * 16)) || decide (sets < setsMin)
      balSets := sets, balRatio := satU 16 ratio }

/-! ### Field entries and breaches (R174, R180, R181) -/

/-- The unit of a field entry in range units (Table 6.2). -/
def fieldUnit (w : Nat) : Nat :=
  match w / 2 ^ 30 % 4 with
  | 0 => 40
  | 1 => 200
  | 2 => 2000
  | _ => 10000

def fieldNear (w : Nat) : Nat := bits w 9 0 * fieldUnit w
def fieldProt (w : Nat) : Nat := bits w 19 10 * fieldUnit w
def fieldWarn (w : Nat) : Nat := bits w 29 20 * fieldUnit w

/-- Does an entry define a zone (R174)? -/
def fieldZone (w : Nat) : Bool := w % 2 ^ 30 != 0

/-- The sets that a policy compares (R47, R178): policy, FS_IDX, selected set, override. -/
def policySets (policy idx sel : Nat) (ovr : Option Nat) : List Nat :=
  match policy with
  | 0 => sel :: ovr.toList
  | 1 => [idx]
  | 2 => sel :: idx :: ovr.toList
  | _ => []

/-- The sets that a closed dwell is compared with. -/
def Closed.sets (k : Closed) : List Nat :=
  policySets (Desc.fsPolicy k.desc) (Desc.fsIdx k.desc) k.fset (if k.ovr then some k.ovrSet else none)

/-- Protective and warning breach of an interval in 1/8,192 ns and class, with the entries of a line (R180); `rd` reads the
configuration: the fabric's registers, or an island's copies of them (R299). -/
def zoneBreach (rd : FRef → Nat) (h : Nat) (sets words : List Nat) (cls tLo tHi : Nat) : Bool × Bool :=
  let m := rd (R.DET_MARGIN.MARGIN h)
  let lo := rangeOfK (rd (R.DET_RANGE_K.K h)) tLo - m
  let hi := rangeOfK (rd (R.DET_RANGE_K.K h)) tHi + m
  let hit (mask : Nat → Nat) (limit : Nat → Nat) : Bool := sets.any fun f =>
    let w := words.getD f 0
    fieldZone w && cls != 0 && bit (mask f) cls && decide (fieldNear w ≤ hi) && decide (lo < limit w)
  (hit (fun f => rd (R.DET_FSET.PROT_CLASSES h f)) fieldProt, hit (fun f => rd (R.DET_FSET.WARN_CLASSES h f)) fieldWarn)

/-- The interval of a run in 1/8,192 ns (R170). -/
def runLo (d : List Nat) (start : Nat) : Nat := (Desc.near d + start * Desc.binW d) * 8192
def runHi (d : List Nat) (start len : Nat) : Nat := (Desc.near d + (start + len) * Desc.binW d) * 8192

/-- The breaches of one candidate. -/
def candBreach (rd : FRef → Nat) (h : Nat) (d sets words : List Nat) (c : Cand) : Bool × Bool :=
  zoneBreach rd h sets words c.cls (runLo d c.start) (runHi d c.start c.len)

/-- The breaches of an input (R180, R181): whether its line is at hand, whether another case of R181 holds, and its candidates
with OVF_BIN. An input whose line is missing is FIELD_LATE: it breaches what its entries define, and its candidates are compared
with nothing. [DEDUCED, log 54] -/
def inputBreach (rd : FRef → Nat) (h : Nat) (d sets words : List Nat) (line forced : Bool) (det : Det) : Bool × Bool :=
  let z := (forced || !line) && sets.any fun f => fieldZone (words.getD f 0)
  if sets = [] ∨ !line then (z, z)
  else
    let o := if det.candOvf then zoneBreach rd h sets words 1 (runLo d det.ovfBin) (Desc.far d * 8192) else (false, false)
    det.cands.foldl (fun (p, w) c => let (p', w') := candBreach rd h d sets words c; (p || p', w || w')) (z || o.1, z || o.2)

/-! ### Classification (R172) -/

/-- One input of a group as the evaluator has it before classification. -/
structure Look where
  n : Nat
  r : InRec
  bins : List Bin
  det : Det

/-- Do two runs share a bin? -/
def overlaps (a b : Cand) : Bool := decide (a.start < b.start + b.len) && decide (b.start < a.start + a.len)

/-- The class of a candidate (Table 6.1): its input, the evaluated inputs of the group. [DEDUCED, log 55] -/
def State.classify (s : State) (h : Nat) (d : List Nat) (all : List Look) (x : Look) (c : Cand) : Nat :=
  let bw := Desc.binW d
  let dd := 2 ^ x.r.dec
  let fog :=
    decide (s.rd (R.DET_FOG.W_MIN h) * 8 ≤ c.len * bw) && decide (c.start * bw ≤ s.rd (R.DET_FOG.START_MAX h) * 8) &&
    decide (c.excess * dd ≤ s.rd (R.DET_FOG.DENS_MAX h) * c.len * x.r.shots) &&
    decide (s.rd (R.DET_FOG.NEIGH_MIN h) ≤ (all.filter fun y => y.det.cands.any (overlaps c)).length)
  let near := all.any fun y =>
    (y.n + 1 == x.n || x.n + 1 == y.n) && y.det.cands.any fun o =>
      let gap := max (runLo d o.start - runHi d c.start c.len) (runLo d c.start - runHi d o.start o.len)
      decide ((if gap = 0 then 0 else s.rangeUnits h gap) ≤ s.rd (R.DET_PRECIP.DR h) * 200)
  let precip :=
    decide (c.len * bw ≤ s.rd (R.DET_PRECIP.W_NS h)) &&
    decide (s.rangeUnits h (runLo d c.start) ≤ s.rd (R.DET_PRECIP.R_MAX h) * 2000) &&
    decide (c.excess * dd * 32768 ≤ s.rd (R.DET_PRECIP.I_MAX h) * x.r.shots * x.det.live) && !near
  if x.r.saturated then 6
  else if c.balFail then 5
  else if fog then 4
  else if precip then 3
  else 1

/-! ### Live fraction and the first part of an evaluation (R164 to R171) -/

/-- L_u in UQ1.15 (R165). -/
def liveOf (r : InRec) : Nat :=
  let den := r.acc + r.lost + r.blank
  if den = 0 then 32768 else r.acc * 32768 / den

/-- COARSE of the gate as a list. -/
def InRec.coarseList (r : InRec) (lg : Nat) : List Nat := (List.range lg).map fun b => SMap.get (fun _ => 0) r.coarse b

/-- Lg of a descriptor. -/
def Desc.lg (d : List Nat) : Nat := (Desc.far d - Desc.near d) / Desc.binW d

/-- The evaluation of one input up to the balance test. An input with BENCH_ERR has a B_SEG of zeros.
[DEDUCED, log 53; DESIGN CHOICE, log 169] -/
def State.look (s : State) (h : Nat) (k : Closed) (n : Nat) (r : InRec) (late : Bool) : Look :=
  let d := k.desc
  let lg := Desc.lg d
  let hs := r.coarseList lg
  let bseg := background hs lg 8
  let live := liveOf r
  let un := s.headOf n != h
  let no := r.failed || r.benchErr || un || k.quiet
  let base : Det := {
    blind := decide (live < s.rd (R.DET_LIVE.LIVE_MIN h)), satNoRange := r.saturated
    bSeg := if r.benchErr then List.replicate 16 0 else bseg, live := live, noEval := no, failed := r.failed || r.benchErr, fieldLate := late && !un
    calStale := r.calStale, fset := k.fset, ovrSet := k.ovrSet, ovr := k.ovr }
  if no then ⟨n, r, [], base⟩
  else
    let cap := s.caps h r.prior
    let bw := Desc.binW d
    let bins := (thresholdPass hs (bloc bseg cap lg) ((s.rd (R.INCFG.HOLD_OFF n) + bw - 1) / bw) (2 ^ r.dec) r.shots
      (s.rd (R.DET_THR.N_SIG h)) (s.rd (R.DET_THR.M_MIN h))).reverse
    let runs := runsOf (bins.map (·.above))
    let cands := (runs.take 8).map fun x =>
      balance r bins lg (s.rd (R.DET_BAL.E_MIN h)) (s.rd (R.DET_BAL.DOM h)) (s.rd (R.DET_BAL.SETS_MIN h)) (candOf bins x)
    ⟨n, r, bins, { base with
      candOvf := decide (8 < runs.length)
      ovfBin := ((runs.drop 8).head?.map Prod.fst).getD 0xFFFF
      satNoRange := r.saturated && cands.isEmpty, cands := cands }⟩

/-! ### Refinement (R183 to R185) -/

/-- The zoom window of a candidate (R183): the lowest enabled one that holds the centre of the peak bin and whose
corrected S0 is at least Z_MIN. -/
def State.zoomOf (s : State) (h : Nat) (r : InRec) (bw : Nat) (beta : Rat) (c : Cand) : Option Nat :=
  let centre := (2 * c.peak + 1) * bw * 128
  (List.range 4).find? fun z =>
    let zs := r.zs.getD z 0 % 2 ^ 17 * 32
    bit r.zen z && decide (zs ≤ centre) && decide (centre < zs + 2048) &&
      decide (((s.rd (R.DET_ZOOM.Z_MIN h) : Nat) : Rat) ≤ (SMap.get (fun _ => 0) r.csum (3 * z) : Nat) - beta * 2048)

/-- Round a number of 1/32 units down. -/
def floor32 (x : Rat) : Int := (x * 32).floor

/-- The weights of the pile-up path, lowest fine bin first (R183). -/
def pileWeights (zbin : Nat → Nat) (beta norm : Rat) : List Rat :=
  ((List.range 64).foldl (fun (out, acc) f =>
    let big := if acc = 0 then 0 else capDiv acc norm pMax
    let v := (((zbin f : Nat) : Rat) - beta * 32) / (1 - big)
    let v := if v < 0 then 0 else v
    (v :: out, acc + v)) (([] : List Rat), (0 : Rat))).1.reverse

/-- The sum of a list of numbers. -/
def ratSum (xs : List Rat) : Rat := xs.foldl (· + ·) 0

/-- Fine position after the near gate in 1/8,192 ns (without the ½ unit), path, window and width of a candidate (R183);
what no rule rounds is rounded freely, and what has no value (no signal in the window) is a free value. [DESIGN CHOICE, log 57] -/
def State.refine (s : State) (h : Nat) (d : List Nat) (x : Look) (c : Cand) : State × Int × Nat × Nat × Nat :=
  let bw := Desc.binW d
  let beta : Rat := (c.be : Rat) / ((256 * bw * 256 : Nat) : Rat)
  let r := x.r
  let norm : Rat := ((r.shots * x.det.live : Nat) : Rat) / 32768 / ((2 ^ r.dec : Nat) : Rat)
  match s.zoomOf h r bw beta c with
  | some z =>
    let zs : Int := (r.zs.getD z 0 % 2 ^ 17 * 32 * 32 : Nat)
    let sum (i : Nat) : Rat := ((SMap.get (fun _ => 0) r.csum (3 * z + i) : Nat) : Rat)
    let s0 := sum 0 - beta * 2048
    let free := (s.drawn.drawn, zs + (s.freeVal 16 : Nat), 1, z, s.drawn.freeVal 16)
    if s0 ≤ 0 then free
    else if norm ≠ 0 ∧ s0 / norm ≤ ((s.rd (R.DET_LIVE.PU_LIM h) : Nat) : Rat) / 65536 then
      let q := floor32 ((sum 1 - beta * 2096128) / s0)
      let qq : Rat := ((q : Int) : Rat) / 32
      (s.drawn, zs + q, 1, z, satU 16 (s.rootFree ((sum 2 - beta * 2861214720) / s0 - qq * qq)))
    else
      let w := pileWeights (fun f => SMap.get (fun _ => 0) r.zbin (64 * z + f)) beta norm
      let tot := ratSum w
      if tot = 0 then let (t, q, _, z, wd) := free; (t, q, 2, z, wd)
      else
        let at_ (f : Nat) : Rat := ((32 * f + 16 : Nat) : Rat)
        let qb := ratSum (w.zipIdx.map fun (v, f) => v * at_ f) / tot
        let q := s.roundFree (qb * 32).num (qb * 32).den
        let s := s.drawn
        let var := ratSum (w.zipIdx.map fun (v, f) => v * at_ f * at_ f) / tot - qb * qb
        (s.drawn, zs + q, 2, z, satU 16 (s.rootFree var))
  | none =>
    let xs := ((x.bins.drop c.start).take c.len).map (·.ex)
    let num := (xs.zipIdx.map fun (e, i) => e * (2 * (c.start + i) + 1) * bw * 128 * 32).sum
    (s.drawn, s.roundFree num xs.sum, 0, 0, satU 16 (c.len * bw * 256))

/-- The return slot of a candidate (R183, R184). A fine time before the fire echo has RANGE 0. [DESIGN CHOICE, log 57] -/
def State.slotOf (s : State) (h : Nat) (d : List Nat) (x : Look) (c : Cand) : State × RetSlot :=
  let (s, q, path, z, width) := s.refine h d x c
  let fine : Int := (Desc.near d * 8192 : Nat) + q + 16
  let den : Rat := ((x.r.shots * x.det.live * c.lc : Nat) : Rat) / (32768 * 32768) / ((2 ^ x.r.dec : Nat) : Rat)
  let p := capDiv ((c.excess : Rat) / 256) den pMax
  (s.drawn, {
    range := s.rangeUnits h fine.toNat, cls := c.cls, prot := c.prot, warn := c.warn, balNa := c.balNa, path := path
    widthCoarse := path == 0, shadowed := decide (c.lc < s.rd (R.DET_LIVE.LIVE_MIN h)), zwin := z, peakBin := c.peak
    intensity := s.muOf p, width := width, excess := c.excess, bg := c.be, runStart := c.start, runLen := c.len
    balRatio := c.balRatio, balSets := c.balSets, fine := fine })

/-- Put a slot in ascending order of RANGE, behind those of equal RANGE. [DESIGN CHOICE, log 168] -/
def insertSlot (x : RetSlot) : List RetSlot → List RetSlot
  | [] => [x]
  | y :: ys => if x.range < y.range then x :: y :: ys else y :: insertSlot x ys

def sortSlots (xs : List RetSlot) : List RetSlot := xs.foldl (fun out x => insertSlot x out) []

/-- Rain, snow or fog? -/
def RetSlot.weak (x : RetSlot) : Bool := x.cls == 3 || x.cls == 4

/-- The up to 4 returns reported (R185). -/
def chooseSlots (xs : List RetSlot) : List RetSlot :=
  let o := sortSlots xs
  sortSlots ((o.filter (!·.weak) ++ o.filter (·.weak)).take 4)

/-! ### Visibility (R187) -/

/-- A FOG candidate's contribution (R187). -/
def State.fogShare (s : State) (h : Nat) (d : List Nat) (bins : List Bin) (c : Cand) : State :=
  let w := c.len / 2
  let bw := Desc.binW d
  let ex (a n : Nat) : Nat := (((bins.drop a).take n).map (·.ex)).sum
  let a1 := ex c.start w
  let a2 := ex (c.start + c.len - w) w
  let r1 := s.rangeUnits h (runLo d c.start + w * bw * 4096)
  let r2 := s.rangeUnits h (runHi d c.start c.len - w * bw * 4096)
  if c.cls ≠ 4 ∨ c.len < 4 ∨ a1 = 0 ∨ a2 = 0 ∨ r1 = 0 ∨ r2 ≤ r1 then s
  else
    let sg := lnFix (a1 * r1 * r1) (a2 * r2 * r2) * 2000 / ((r2 - r1 : Nat) : Int)
    s.updHead h fun H => { H with sel := { H.sel with visSum := H.sel.visSum + sg, visN := H.sel.visN + 1 } }

/-- MOR in metres from the contributions of a frame, within the 1 % that R187 allows; where no whole number of metres lies
within it, one of the two next to the value. [DESIGN CHOICE, log 56] -/
def State.morOf (s : State) (sum : Int) (n : Nat) : Nat :=
  if sum ≤ 0 then 65535
  else
    let x := 3 * 2 ^ 40 * n
    let lo := (99 * x + 100 * sum.toNat - 1) / (100 * sum.toNat)
    let hi := 101 * x / (100 * sum.toNat)
    min 65535 (if hi < lo then x / sum.toNat + s.freeVal 1 else lo + s.freeVal 32 % (hi + 1 - lo))

/-- At a frame end the head forms MOR (R187). [DESIGN CHOICE, log 56] -/
def State.visibility (s : State) (h : Nat) : State :=
  let v := (s.head h).sel
  let mor := if s.rd (R.DET_VIS.N_MIN h) ≤ v.visN then s.morOf v.visSum v.visN else 65535
  let s := (s.drawn.wr (R.DET_VIS_STATUS.MOR h) mor).wr (R.DET_VIS_STATUS.N h) (satU 8 v.visN)
  let s := s.updHead h fun H => { H with sel := { H.sel with visSum := 0, visN := 0 } }
  let was := s.on (R.DET_VIS_STATUS.VIS_LOW h)
  if mor < s.rd (R.DET_VIS.VIS_MIN h) then
    if was then s else (s.wr (R.DET_VIS_STATUS.VIS_LOW h) 1).raise .detVisLow h
  else if was then (s.wr (R.DET_VIS_STATUS.VIS_LOW h) 0).condOff .detVisLow h
  else s

/-! ### Detection results (Tables 6.4 and 6.5) -/

/-- The 32 bytes of a return slot. -/
def RetSlot.bytes (x : RetSlot) : List Byte :=
  pack [(4, x.range), (4, x.cls + 8 * flag x.prot + 16 * flag x.warn + 32 * flag x.balNa + 64 * x.path +
    256 * flag x.widthCoarse + 512 * flag x.shadowed + 1024 * x.zwin + 65536 * x.peakBin),
    (2, x.intensity), (2, x.width), (4, x.excess), (4, x.bg % 2 ^ 24), (2, x.runStart), (2, x.runLen), (2, x.balRatio),
    (1, x.balSets), (1, 0), (4, 0)]

/-- The 288 bytes of the detection results. -/
def Det.bytes (x : Det) : List Byte :=
  pack ((List.range 16).map fun i => (4, x.bSeg.getD i 0 % 2 ^ 24)) ++
  pack [(4, x.live + 2 ^ 16 * flag x.blind + 2 ^ 17 * flag x.candOvf + 2 ^ 18 * flag x.satNoRange +
    2 ^ 19 * flag x.fieldLate + 2 ^ 20 * flag x.noEval + 2 ^ 21 * flag x.prot + 2 ^ 22 * flag x.warn +
    2 ^ 23 * flag x.calStale), (4, x.cands.length + 16 * x.slots.length + 65536 * x.ovfBin),
    (4, x.fset + 8 * x.ovrSet + 64 * flag x.ovr), (4, 0)] ++
  (List.range 4).flatMap (fun i => (x.slots.getD i { range := 0 }).bytes) ++ pack [(80, 0)]

/-! ### The evaluator (EVALUATOR_RUN) -/

/-- A corrected error of the bench or the merge queue (R162). -/
def State.benchCorr (s : State) (h g : Nat) : State := (s.incSat (R.GRP_ECC.CORR g)).raise .benchEccCorr h

/-- An uncorrectable error of the bench or the merge queue (R162). -/
def State.benchUncorr (s : State) (h g : Nat) : State := (s.incSat (R.GRP_ECC.UNCORR g)).raise .benchEccUncorr h

/-- Bench errors that detection reads (R162). -/
def State.benchErrors (s : State) (h g b : Nat) (corr bad : List (Fin 16)) : State :=
  let s := corr.foldl (fun s _ => s.benchCorr h g) s
  bad.foldl (fun s (j : Fin 16) => (s.updRec g b j.val fun r => { r with benchErr := true }).benchUncorr h g) s

/-- Form the slots of an input's candidates one after the other. -/
def State.slotsOf (s : State) (h : Nat) (d : List Nat) (x : Look) : State × List RetSlot :=
  x.det.cands.foldl (fun (s, out) c => let (s, y) := s.slotOf h d x c; (s, out ++ [y])) (s, [])

/-- Is persistence on (BEAR_CFG.K not 0)? -/
def State.persists (s : State) (h : Nat) : Bool := s.on (R.BEAR_CFG.K h)

/-- The results of one input: classes, breaches, slots, counts and events. The slot of SAT_NO_RANGE counts as a return, its other
fields are 0; an unassigned input has no part in a breach. [DEDUCED, log 149; DESIGN CHOICE, log 167] -/
def State.finish (s : State) (h : Nat) (k : Closed) (all : List Look) (x : Look) : State :=
  let it := (k.items.find? (·.n == x.n)).getD { n := x.n, bid := 0 }
  let cands := x.det.cands.map fun c => { c with cls := s.classify h k.desc all x c }
  let cands := cands.map fun c =>
    let (p, w) := candBreach s.rd h k.desc k.sets it.words c
    { c with prot := it.fab && p, warn := it.fab && w }
  let x := { x with det := { x.det with cands := cands } }
  let forced := x.r.failed || x.r.benchErr || x.det.blind || x.det.satNoRange
  let (p, w) := if it.un then (false, false) else inputBreach s.rd h k.desc k.sets it.words it.fab forced x.det
  let s := s.when x.det.blind fun s => (s.inc (R.DET_CNT_BLIND.COUNT h)).raise .detBlind h
  let s := s.when x.det.candOvf fun s => (s.inc (R.DET_CNT_CAND_OVF.COUNT h)).raise .detCandOvf h
  let s := s.when x.det.fieldLate fun s => s.raise .detFieldLate h
  let s := cands.foldl (fun s c => s.when (c.cls == 5) fun s =>
    (s.inc (R.DET_CNT_FOREIGN.COUNT h)).raise .detForeign h) s
  let s := cands.foldl (fun s c => s.fogShare h k.desc x.bins c) s
  let s := (s.when p fun s => s.inc (R.DET_CNT_PROT.COUNT h)).when w fun s => s.inc (R.DET_CNT_WARN.COUNT h)
  let (s, slots) := s.slotsOf h k.desc x
  let slots := if x.det.satNoRange then [{ cls := 6 }] else chooseSlots slots
  let det := { x.det with prot := p, warn := w, slots := slots }
  let s := s.updGroup (x.n / 16) fun G => { G with dets := SMap.set (fun _ => {}) G.dets (x.n % 16) det }
  s.updItem h x.n fun i => { i with det := some det, done := i.un || !s.persists h || x.r.benchErr }

/-- EVALUATOR_RUN (R164 to R186). [DEDUCED, log 53] -/
def execEvaluatorRun (t : Time) (h : HeadIx) (g : Fin 96) (corr bad : List (Fin 16)) (s : State) :
    Host.Outcome State Fault Refusal :=
  s.run t fun s =>
    let k := (s.head h).closed
    if !k.complete.contains g.val || k.evaluated.contains g.val || k.fired == 0 then s
    else
      let b := 1 - (s.group g).use
      let s := (s.benchErrors h g b corr bad).updGroup g fun G => { G with dets := [] }
      let looks := (List.range 16).map fun j =>
        let n := 16 * g.val + j
        s.look h k n (s.inRec g b j) (!(k.items.any fun i => i.n == n && i.fab))
      let evald := looks.filter (!·.det.noEval)
      let s := looks.foldl (fun s x => s.finish h k evald x) s
      s.updClosed h fun c => { c with evaluated := g.val :: c.evaluated }

/-! ### Field lines (R174, R176, R300) -/

def fieldDefault (_ : Nat) : FieldLine := {}

/-- Entry words of the field line of a bearing (R174). -/
def State.fieldWords (s : State) (bid : Nat) : List Nat :=
  (List.range 8).map fun f => s.hbmNat (0x100000000 + 32 * bid + 4 * f) 4

/-- Does the line of a bearing match its check (R300)? -/
def State.fieldCheck (s : State) (bid : Nat) : Bool :=
  crc32c (bytesLE 4 bid ++ s.hbmBytes (0x100000000 + 32 * bid) 32) == s.hbmNat (0x102000000 + 4 * bid) 4

/-- FIELD_LINE_ARRIVAL (R176, R300): a line prefetched for a dwell that is still to close, or a late one of the dwell that
closed last, which the islands may still use. Each island checks what has come over its own crossing. [DEDUCED, log 59, 96] -/
def execFieldLineArrival (t : Time) (h : HeadIx) (n : Fin 1536) (bid : BitVec 20) (fab : Bool) (a b : LineRead) (s : State) :
    Host.Outcome State Fault Refusal :=
  s.run t fun s =>
    let k := (s.head h).closed
    let words := s.fieldWords bid.toNat
    let ok (x : LineRead) : Bool := x == .whole && s.fieldCheck bid.toNat
    let inA := a != .missing
    let inB := b != .missing
    if s.stackLost (0x100000000 + 32 * bid.toNat) then s else
    if !k.decided && k.items.any (fun i => i.n == n.val && i.bid == bid.toNat && ((inA && !i.a) || (inB && !i.b))) then
      s.updItem h n fun i => { i with
        a := i.a || inA, b := i.b || inB, words := words
        okA := if inA && !i.a then ok a else i.okA, okB := if inB && !i.b then ok b else i.okB }
    else
      { s with fields := SMap.upd fieldDefault s.fields bid.toNat fun l => {
          fab := l.fab + flag fab, a := l.a + flag inA, b := l.b + flag inB, words := words
          okA := if inA then ok a else l.okA, okB := if inB then ok b else l.okB } }

/-! ### Selection of the field set (R177 to R179) -/

/-- Enabled bands of a head: index and UPPER. -/
def State.bands (s : State) (h : Nat) : List (Nat × Nat) :=
  ((List.range 8).filter fun i => s.on (R.DET_BAND.EN h i)).map fun i => (i, s.rd (R.DET_BAND.UPPER h i))

/-- The speed magnitude in 0.01 m/s, where speed is valid (R199). -/
def State.speedV (s : State) : Option Nat :=
  if s.rd R.SPEED_STATUS.STATE = 0 then none else some (s.rd R.SPEED_STATUS.V)

/-- The band in force after a speed (R177). -/
def State.bandOf (s : State) (h v : Nat) (cur : Option Nat) : Nat :=
  let c := cur.getD 8
  let bs := s.bands h
  let up := ((bs.find? fun x => decide (v < x.2)).map Prod.fst).getD 8
  if c ≤ up then up
  else
    let hy := s.rd (R.DET_SEL_CFG.HYST h)
    match bs.find? fun x => decide (v + hy < x.2) with
    | some x => min x.1 c
    | none => c

/-- The set in force for the input code (R315): the code where the head has the set and no FIELD_SELECT input is faulty. -/
def State.inputSet (s : State) (h : Nat) : Nat :=
  let bad := (List.range 8).any fun n =>
    let f := s.rd (R.SAFE_SI_CFG.FUNC n)
    (4 ≤ f && f ≤ 6) && (s.bitOf R.SAFE_SI_STATE.DISC n || s.bitOf R.SAFE_SI_STATE.CROSS n)
  if bad ∨ ¬ s.on (R.DET_FSET.PRESENT h s.safe.code) then s.rd (R.DET_SEL_CFG.LARGEST h) else s.safe.code

/-- The selected set and FALLBACK (R177, R199, R315, R325). -/
def State.selectedOf (s : State) (h : Nat) : Nat × Bool :=
  let large := s.rd (R.DET_SEL_CFG.LARGEST h)
  match s.rd (R.DET_SEL_CFG.SRC h) with
  | 0 => match (s.head h).sel.band with
    | none => (large, true)
    | some i => (if i = 8 then large else s.rd (R.DET_BAND.SET h i), false)
  | 1 => (s.inputSet h, false)
  | _ => match SMap.get (fun _ => 0) s.safe.cmdSet h with
    | 0 => (large, false)
    | f => (f - 1, false)

/-- A change at the DT of the last dwell close applies to that dwell (R179). [DEDUCED, log 52] -/
def State.selAtClose (s : State) (h : Nat) : State :=
  s.updClosed h fun k =>
    if k.closeAt = s.now ∧ ¬ k.decided then
      { k with fset := s.rd (R.DET_SEL_STATUS.SELECTED h), ovrSet := s.rd (R.DET_SEL_STATUS.OVR_SET h)
               ovr := s.on (R.DET_SEL_STATUS.OVR h) }
    else k

/-- Form the selection of a head anew; a change is counted and raised (R179). -/
def State.refreshSel (s : State) (h : Nat) : State :=
  let (f, fb) := s.selectedOf h
  let was := s.rd (R.DET_SEL_STATUS.SELECTED h)
  let s := (s.wrB (R.DET_SEL_STATUS.FALLBACK h) fb).wr (R.DET_SEL_STATUS.SELECTED h) f
  let s := s.when (f != was && s.dev.sealed) fun s => (s.inc (R.DET_SEL_STATUS.CHG_CNT h)).raise .detSelChange h
  s.selAtClose h

/-- The speed reported to the SPEED source changes (R177, R199). -/
def State.speedSel (s : State) : State :=
  s.eachHead fun h s =>
    let s := s.updHead h fun H => { H with sel := { H.sel with band := s.speedV.map fun v => s.bandOf h v H.sel.band } }
    s.when (s.rd (R.DET_SEL_CFG.SRC h) == 0) fun s => s.refreshSel h

end Sys2Proof.Machine
end

