-- ==== Sys2Proof/Machine/Bearing.lean ====
section
/-! DEFINITION. Bearings and motion-compensated persistence (07_bearings.md, R189 to R212): the bearing record, staging, the
merge, and the tachometers. -/

namespace Sys2Proof.Machine

/-! ### The bearing record (R189, R210) -/

/-- One bit step of the CRC-64 of R210. -/
def crc64Bit (c : Nat) : Nat :=
  if c / 2 ^ 63 % 2 = 1 then (c * 2 % 2 ^ 64) ^^^ 0x42F0E1EBA9EA3693 else c * 2 % 2 ^ 64

/-- The CRC-64 register of R210 over bytes, from a start value. -/
def crc64From : Nat → List Byte → Nat
  | c, [] => c
  | c, b :: bs =>
    let c0 := c ^^^ (b.toNat * 2 ^ 56)
    crc64From (crc64Bit (crc64Bit (crc64Bit (crc64Bit (crc64Bit (crc64Bit (crc64Bit (crc64Bit c0)))))))) bs

/-- CHECK of a record: over the BID and bytes 0x000 to 0xCBF (R210). -/
def bearCheck (bid : Nat) (bytes : List Byte) : Nat := crc64From 0 (bytesLE 8 bid ++ bytes)

/-- The bytes of a track (Table 7.2). -/
def Track.bytes (x : Track) : List Byte :=
  pack [(4, x.range), (4, wrapS 32 x.rate), (8, x.dt),
    (4, x.hits + 2 ^ 16 * x.miss + 2 ^ 24 * x.movRun + 2 ^ 28 * flag x.used + 2 ^ 29 * flag x.moving), (44, 0)]

/-- Bytes 0x000 to 0xCBF of a record (Tables 7.1 to 7.4). -/
def Bear.bytes (x : Bear) : List Byte :=
  pack ((List.range 1024).map fun b => (2, x.pc.getD b 0)) ++
  (List.range 4).flatMap (fun z =>
    pack ((List.range 64).map fun f => (2, (x.pz.getD z []).getD f 0)) ++
    pack ((List.range 8).map fun p => (4, (x.pzph.getD z []).getD p 0))) ++
  (List.range 4).flatMap (fun z =>
    pack [(4, x.ps0.getD z 0), (8, wrapS 64 (x.ps1.getD z 0)), (8, x.ps2.getD z 0), (12, 0)]) ++
  pack ((List.range 16).map fun i => (4, x.bgs.getD i 0)) ++
  (List.range 4).flatMap (fun i => (x.tracks.getD i {}).bytes) ++
  pack [(2, x.ux), (2, x.uy), (2, x.uz), (2, x.cos), (2, x.head + 16 * x.slot + 32 * x.binW), (2, x.near), (2, x.dwell),
    (50, 0)] ++
  pack [(4, x.age % 2 ^ 16 + 2 ^ 16 * flag x.valid + 2 ^ 17 * flag x.priorValid + 2 ^ 18 * flag x.frozen + 2 ^ 19 * flag x.invalid),
    (4, x.epoch), (8, x.dtLast), (8, wrapS 64 x.odLast)] ++
  pack ((List.range 4).map fun z => (3, x.zsNext.getD z 0)) ++ pack [(4, x.zenNext)] ++
  pack ((List.range 4).map fun z => (3, x.zsAlign.getD z 0)) ++ pack [(4, x.seq), (8, 0)]

/-- A record read through a reader of little-endian numbers (offset, bytes). -/
def Bear.read (rd : Nat → Nat → Nat) : Bear :=
  let st := rd 0xC80 4
  let g := rd 0xC48 4
  let track (i : Nat) : Track :=
    let o := 0xB40 + 64 * i
    let w := rd (o + 0x10) 4
    ⟨rd o 4, sext 32 (rd (o + 4) 4), rd (o + 8) 8, w % 2 ^ 16, bits w 23 16, bits w 27 24, bit w 28, bit w 29⟩
  { pc := (List.range 1024).map fun b => rd (2 * b) 2
    pz := (List.range 4).map fun z => (List.range 64).map fun f => rd (0x800 + 160 * z + 2 * f) 2
    pzph := (List.range 4).map fun z => (List.range 8).map fun p => rd (0x880 + 160 * z + 4 * p) 4
    ps0 := (List.range 4).map fun z => rd (0xA80 + 32 * z) 4
    ps1 := (List.range 4).map fun z => sext 64 (rd (0xA84 + 32 * z) 8)
    ps2 := (List.range 4).map fun z => rd (0xA8C + 32 * z) 8
    bgs := (List.range 16).map fun i => rd (0xB00 + 4 * i) 4
    tracks := (List.range 4).map track
    ux := rd 0xC40 2, uy := rd 0xC42 2, uz := rd 0xC44 2, cos := rd 0xC46 2
    head := g % 16, slot := bits g 4 4, binW := bits g 7 5, near := bits g 31 16, dwell := rd 0xC4C 2
    age := st % 2 ^ 16, valid := bit st 16, priorValid := bit st 17, frozen := bit st 18, invalid := bit st 19
    epoch := rd 0xC84 2, dtLast := rd 0xC88 8, odLast := sext 64 (rd 0xC90 8)
    zsNext := (List.range 4).map fun z => rd (0xC98 + 3 * z) 3, zenNext := rd 0xCA4 4 % 16
    zsAlign := (List.range 4).map fun z => rd (0xCA8 + 3 * z) 3, seq := rd 0xCB4 4 }

/-- The record of a bearing as the store holds it. -/
def State.bearing (s : State) (bid : Nat) : Bear := Bear.read fun o n => s.hbmNat (4096 * bid + o) n

/-- Write a record back with a new CHECK (R210); the reserved range is not touched (R190). -/
def State.writeBearing (s : State) (bid : Nat) (x : Bear) : State :=
  let bs := x.bytes
  (s.hbmWrite (4096 * bid) bs).hbmWrite (4096 * bid + 0xFF8) (bytesLE 8 (bearCheck bid bs))

/-- A record whose histogram, zoom contents and moments are cleared. -/
def Bear.clear (x : Bear) : Bear := { x with pc := [], pz := [], pzph := [], ps0 := [], ps1 := [], ps2 := [] }

/-- A record whose zoom contents are cleared (R68). -/
def Bear.clearZoom (x : Bear) : Bear := { x with pz := [], pzph := [], ps0 := [], ps1 := [], ps2 := [] }

/-! ### Staging (R192) -/

def stagingDefault (_ : Nat) : Staging := {}

def State.updBabbitt (s : State) (f : Babbitt → Babbitt) : State := { s with babbitt := f s.babbitt }

def State.staging (s : State) (n : Nat) : Staging := SMap.get stagingDefault s.babbitt.stage n

def State.updStaging (s : State) (n : Nat) (f : Staging → Staging) : State :=
  s.updBabbitt fun b => { b with stage := SMap.upd stagingDefault b.stage n f }

/-- Change the line of a bearing. -/
def State.updLineOf (s : State) (n bid : Nat) (f : StageLine → StageLine) : State :=
  s.updStaging n fun g => { g with lines := g.lines.map fun l => if l.bid = bid then f l else l }

/-- The staged line of a bearing. -/
def State.stagedLine (s : State) (n bid : Nat) : Option StageLine :=
  (s.staging n).lines.find? fun l => l.bid == bid && l.at_ == .staged

/-- Free lines take the reads that wait, in their order; a bearing whose line is still being written back waits on (R192). -/
def State.stageWanted (s : State) (n : Nat) : State :=
  s.updStaging n fun g =>
    match g.wanted with
    | [] => g
    | bid :: rest =>
      if 2 ≤ g.lines.length ∨ g.lines.any (·.bid == bid) then g
      else { g with lines := g.lines ++ [{ bid := bid, at_ := .fetching }], wanted := rest }

/-- The read of the bearing that an input has in the next dwell: none where it is that of the present one, whose line is passed
on; else into a free line, or it waits for one (R192). A line of a dwell that is over, which nothing waits for, is freed.
[DESIGN CHOICE, log 174] -/
def State.stageRead (s : State) (n now next : Nat) : State :=
  let s := s.updStaging n fun g => { g with
    same := if now = next then some next else none
    lines := g.lines.filter fun l => l.bid == now || l.bid == next || l.pend || l.at_ == .writing }
  if now = next then s
  else
    (s.updStaging n fun g =>
      let have_ := g.lines.any fun l => l.bid == next && l.at_ != .writing && !l.pend
      { g with wanted := g.wanted.filter (· != next) ++ (if have_ then [] else [next]) }).stageWanted n

/-- At the open of a dwell the bearings of the next one are read (R192). -/
def State.prefetchBearings (s : State) (h : Nat) (d next : List Nat) : State :=
  if !s.persists h then s
  else (s.dwellInputs h next).foldl (fun s n =>
    s.stageRead n (if Desc.enables d (n / 16) then Desc.bid d n else 0x100000) (Desc.bid next n)) s

/-- The line of a bearing is no longer needed as it stands: passed on to the next dwell, or freed without a write-back. -/
def State.stageDone (s : State) (n bid : Nat) : State :=
  (s.updStaging n fun g => { g with
    wanted := g.wanted.filter (· != bid)
    lines := if g.same = some bid then g.lines.map fun l => if l.bid = bid then { l with pend := false } else l
      else g.lines.filter fun l => l.bid != bid || l.at_ == .writing }).stageWanted n

/-- A record whose bearing has no line asks for one (R193): its read comes before those that wait, and where no line is free it
takes the place of the line read last, whose read waits again. [DESIGN CHOICE, log 174] -/
def State.stageDemand (s : State) (n bid : Nat) : State :=
  if (s.staging n).lines.any (·.bid == bid) then s
  else
    (s.updStaging n fun g =>
      let w := bid :: g.wanted.filter (· != bid)
      match (g.lines.filter (·.at_ != .writing)).getLast? with
      | some l => if g.lines.length < 2 then { g with wanted := w }
        else { g with wanted := bid :: l.bid :: w.drop 1, lines := g.lines.erase l }
      | none => { g with wanted := w }).stageWanted n

/-- The prior of a record for a dwell (R204): BGS × shots ÷ D, rounded down to UQ16.8. -/
def State.priorOf (s : State) (g : Nat) (d : List Nat) (x : Bear) : Option (List Nat) :=
  if x.priorValid then
    some (x.bgs.map fun v => v * (Desc.shotCntM1 d + 1) / 2 ^ s.decLog2 g (Desc.sifCode d) / 2 ^ 16)
  else none

/-- What the prefetch delivers for input `n` of a dwell (R145, R146, R192, R66, R68, R210). [DEDUCED, log 60] -/
def State.delivered (s : State) (h : Nat) (d : List Nat) (n : Nat) : Delivered :=
  if !s.persists h then {}
  else
    match s.stagedLine n (Desc.bid d n) with
    | none => { late := !Desc.zoomReset d }
    | some l =>
      if l.pend then { late := !Desc.zoomReset d }
      else
        let x := l.bear
        let changed := x.valid && (x.binW != Desc.binLog2 d || x.near != Desc.near d)
        if x.invalid || changed then {}
        else
          { zen := if Desc.zoomReset d then 0 else x.zenNext, zs := x.zsNext, prior := s.priorOf (n / 16) d x }

/-- At the close of a dwell that fired, the lines of its bearings wait for their merges; else they are released.
[DEDUCED, log 64] -/
def State.stageClose (s : State) (h : Nat) (d : List Nat) (fired : Bool) : State :=
  if !s.persists h then s
  else (s.dwellInputs h d).foldl (fun s n =>
    if fired then s.updLineOf n (Desc.bid d n) fun l => { l with pend := true } else s.stageDone n (Desc.bid d n)) s

/-- BEARING_STAGE_ARRIVAL (R192, R210, R379): the record, whose 3,272 bytes memory port 2 must let through, is staged and its CHECK
verified. [DEDUCED, log 93, 96] -/
def execBearingStageArrival (t : Time) (n : Fin 1536) (uncorr : Bool) (s : State) : Host.Outcome State Fault Refusal :=
  s.run t fun s =>
    match (s.staging n).lines.find? (·.at_ == .fetching) with
    | none => s
    | some l =>
      let (s, ok) := s.portTake 2 3272
      if !ok then s else
      let uncorr := uncorr || s.stackLost (4096 * l.bid)
      let x := s.bearing l.bid
      let check := s.hbmNat (4096 * l.bid + 0xFF8) 8
      let isNew := !x.valid && check == 0
      let bad := !isNew && !uncorr && bearCheck l.bid (s.hbmBytes (4096 * l.bid) 0xCC0) != check
      let h := s.headOf n
      let s := s.updLineOf n l.bid fun l => { l with at_ := .staged, bear := { x with invalid := x.invalid || uncorr || bad } }
      let s := s.when bad fun s => (s.inc R.BEAR_CNT_INTEG.VALUE).raise .bearIntegrity (s.lineHead n)
      s.when uncorr fun s =>
        (s.when (decide (h < 16)) fun s => s.inc (R.BEAR_CNT_INVALID.COUNT h)).raise .bearInvalid (s.lineHead n)

/-- WRITE_BACK_COMPLETE (R192, R379): the record has passed memory port 2, and the line is free. [DEDUCED, log 93] -/
def execWriteBackComplete (t : Time) (n : Fin 1536) (s : State) : Host.Outcome State Fault Refusal :=
  s.run t fun s =>
    let ls := (s.staging n).lines
    match ls.find? (·.at_ == .writing) with
    | none => s
    | some l =>
      let (s, ok) := s.portTake 2 3272
      if !ok then s else (s.updStaging n fun g => { g with lines := ls.erase l }).stageWanted n

/-! ### Odometer (R197) -/

def State.tach (s : State) : Tach := s.babbitt.tach

def State.updTach (s : State) (f : Tach → Tach) : State := s.updBabbitt fun b => { b with tach := f b.tach }

/-- Is speed INVALID (R198)? -/
def State.speedInvalid (s : State) : Bool := s.rd R.SPEED_STATUS.STATE == 0

/-- OD at the present DT, rounded to the µm (R197); a tie is a free choice. [DEDUCED, log 65] -/
def State.odNow (s : State) : Int :=
  let x := s.tach
  if s.speedInvalid then x.od else x.od + s.nearest (x.v * (s.now - x.gateAt : Nat)) 1000000000

/-! ### The merge (R200 to R205) -/

/-- The interpolation of R202 and R203: source position in units of 1/`u` bin, shift right by `log2 u + k`. -/
def interp (p : List Nat) (lim b : Nat) (sh : Int) (u k : Nat) : Nat :=
  let x := (b : Int) * u - sh
  let i := floorDiv x u
  let f := (x - i * u).toNat
  let at_ (i : Int) : Nat := if 0 ≤ i ∧ i < lim then p.getD i.toNat 0 else 0
  (at_ i * (u - f) + at_ (i + 1) * f) / (u * 2 ^ k)

/-- merge_coarse() of R202. -/
def mergeCoarse (p : List Nat) (h : Nat → Nat) (d : Nat) (sh : Int) (k lg : Nat) : List Nat :=
  (List.range 1024).map fun b => satU 16 (interp p lg b sh 256 k + if b < lg then h b * d * 16 else 0)

/-- Replace element `i` of a list that reads as `d` beyond its end. -/
def setAt {α : Type} (d : α) (n : Nat) (xs : List α) (i : Nat) (v : α) : List α :=
  (List.range n).map fun j => if j = i then v else xs.getD j d

/-- Merge zoom window `z` (R203): content shift, decay, and the dwell's counts. -/
def Bear.mergeZoom (x : Bear) (r : InRec) (z : Nat) (sz : Int) (keepIt : Bool) (k d : Nat) : Bear :=
  let g (m : SMap Nat) (i : Nat) : Nat := SMap.get (fun _ => 0) m i
  let pz := if keepIt then x.pz.getD z [] else []
  let ph := if keepIt then x.pzph.getD z [] else []
  let p0 : Nat := if keepIt then x.ps0.getD z 0 else 0
  let p1 : Int := if keepIt then x.ps1.getD z 0 else 0
  let p2 : Nat := if keepIt then x.ps2.getD z 0 else 0
  let s1 := satS 64 (p1 + sz * p0)
  let s2 := satUI 64 (p2 + 2 * sz * p1 + sz * sz * p0)
  { x with
    pz := setAt [] 4 x.pz z ((List.range 64).map fun f => satU 16 (interp pz 64 f sz 32 k + g r.zbin (64 * z + f) * d * 16))
    pzph := setAt [] 4 x.pzph z ((List.range 8).map fun p => satU 32 (ph.getD p 0 / 2 ^ k + g r.zph (8 * z + p) * d * 16))
    ps0 := setAt 0 4 x.ps0 z (satU 32 (p0 / 2 ^ k + g r.csum (3 * z) * d * 256))
    ps1 := setAt 0 4 x.ps1 z (satS 64 (asr s1 k + (g r.csum (3 * z + 1) * d * 256 : Nat)))
    ps2 := setAt 0 4 x.ps2 z (satU 64 (s2 / 2 ^ k + g r.csum (3 * z + 2) * d * 256))
    zsAlign := setAt 0 4 x.zsAlign z (r.zs.getD z 0 % 2 ^ 17) }

/-- What R200 computes for an update: dR in µm, dt in 1/256 ns, the shift in 1/256 bin. -/
structure Shift where
  dR : Int
  dt : Int
  sh : Int

/-- R200. -/
def State.shiftOf (s : State) (h : Nat) (od : Int) (x : Bear) (binW : Nat) : Shift :=
  let dOD := od - x.odLast
  let dR := -(asr (dOD * sext 16 x.cos + 8192) 14)
  let dt := asr (dR * s.rd (R.BEAR_RANGE_KD.KD h) + 2 ^ 31) 32
  let half : Int := if binW = 0 then 0 else 2 ^ (binW - 1)
  ⟨dR, dt, asr (dt + half) binW⟩

/-- BGS after a sample (R204). [DEDUCED, log 62] -/
def State.bgAfter (s : State) (h : Nat) (x : Bear) (r : InRec) (det : Det) : Bear :=
  let l := s.rd (R.BEAR_CFG.BG_LOG2 h)
  { x with priorValid := true, bgs := (List.range 16).map fun i =>
      let sample : Nat := det.bSeg.getD i 0 * 2 ^ r.dec * 2 ^ 16 / r.shots
      if x.priorValid then satUI 32 ((x.bgs.getD i 0 : Nat) + asr ((sample : Int) - (x.bgs.getD i 0 : Nat)) l)
      else satU 32 sample }

/-- COS of a direction (R191): its dot product with the head's track axis, signed Q1.14; the rounding is not stated.
[DESIGN CHOICE, log 150] -/
def cosOf (axis d : Dir) : Nat :=
  let num := sext 16 axis.ux * sext 16 d.ux + sext 16 axis.uy * sext 16 d.uy + sext 16 axis.uz * sext 16 d.uz
  let q := floorDiv num (2 ^ 14)
  wrapS 16 (satS 16 (if q * 2 ^ 14 = num ∨ ¬ Config.roundUp num (2 ^ 14) then q else q + 1))

/-- The direction of a bearing in its geometry block (R191). [DEDUCED, log 65] -/
def State.geometry (s : State) (h n : Nat) (m : MqRec) (x : Bear) : Bear :=
  let x := { x with head := h, slot := m.slot, dwell := m.input.dwell, binW := m.input.binW, near := m.input.near }
  match SMap.get (fun _ => none) (s.image h).dirs (descWord m.desc 0 * 2048 + n) with
  | some d => { x with ux := d.ux, uy := d.uy, uz := d.uz, cos := cosOf (s.image h).axis d }
  | none => x

/-- An update up to the histograms (R66, R68, R200 to R204): the record, its shift, whether it froze, whether it restarted.
[DEDUCED, log 61] -/
def State.mergeRecord (s : State) (h : Nat) (m : MqRec) (x : Bear) (zenLast : Nat) : Bear × Shift × Bool × Bool :=
  let r := m.input
  let lg := (r.far - r.near) / 2 ^ r.binW
  let k := s.rd (R.BEAR_CFG.K h)
  let d := 2 ^ r.dec
  let reset := x.valid && (x.binW != r.binW || x.near != r.near)
  let x := if Desc.zoomReset m.desc || reset then { x with zenNext := 0 } else x
  let x := if Desc.zoomReset m.desc then x.clearZoom else x
  let x := if reset then { x.clear with priorValid := false, age := 0 } else x
  let isNew := !x.valid
  let bad := x.invalid
  let x := s.geometry h m.n m x
  let f := s.shiftOf h m.od x r.binW
  let elapsed := r.dtClose - x.dtLast
  let x := { x with dtLast := r.dtClose, seq := (x.seq + 1) % 2 ^ 32, valid := true }
  if s.speedInvalid then
    (s.bgAfter h { x with frozen := true, tracks := [] } r m.det, f, true, false)
  else
    let epoch := s.rd R.SPEED_EPOCH.EPOCH
    let restart := isNew || bad || decide (f.sh.natAbs ≥ 1024 * 256) || x.epoch != epoch || x.age == 0 ||
      decide (s.rd (R.BEAR_CFG.ELAPSED_MAX h) * 100000000 < elapsed)
    let x :=
      if restart then
        { x.clear with
          tracks := [], age := 1, epoch := epoch
          zsAlign := r.zs.map (· % 2 ^ 17), priorValid := x.priorValid && !isNew && !bad, invalid := false }
      else { x with age := satU 16 (x.age + 1) }
    let x := { x with frozen := false, odLast := m.od,
                      pc := mergeCoarse x.pc (fun b => SMap.get (fun _ => 0) r.coarse b) d f.sh k lg }
    let x := (List.range 4).foldl (fun x z =>
      if bit r.zen z then
        let sz := f.dt - ((r.zs.getD z 0 % 2 ^ 17 : Nat) - (x.zsAlign.getD z 0 : Nat) : Int) * 32
        x.mergeZoom r z sz (!restart && decide (sz.natAbs < 2048) && bit zenLast z) k d
      else x) x
    (s.bgAfter h x r m.det, f, false, restart)

/-! ### WEAK_PERSISTENT (R206, R207) -/

/-- A WEAK_PERSISTENT candidate with the slot that reports it. -/
structure Weak where
  cand : Cand
  slot : RetSlot
  placed : Bool := false

/-- Bins that the candidates of the dwell exclude (R206 step 3). -/
def excludedBin (det : Det) (b : Nat) : Bool :=
  det.cands.any (fun c => decide (c.start ≤ b + 1) && decide (b ≤ c.start + c.len)) ||
    (det.candOvf && decide (det.ovfBin ≤ b + 1))

/-- The candidates of R206 and R207, nearest first, at most 4. -/
def State.weakCands (s : State) (h : Nat) (m : MqRec) (x : Bear) : State × List Weak :=
  let r := m.input
  let lg := (r.far - r.near) / 2 ^ r.binW
  let bw : Nat := 2 ^ r.binW
  let k := s.rd (R.BEAR_CFG.K h)
  let d : Nat := 2 ^ r.dec
  let pc := (List.range lg).map fun b => x.pc.getD b 0 * 16
  let bp := background pc lg 0
  let tp (b : Nat) : Nat :=
    let v := bloc bp none lg b
    v + s.rd (R.BEAR_THR.N_SIG_P h) * isqrt (v * d * 2 ^ k / (2 ^ k + 1) * 256) / 16 + s.rd (R.BEAR_THR.M_MIN_P h) * 256
  let ex := pc.zipIdx.map fun (v, b) => if excludedBin m.det b then 0 else v - tp b
  (runsOf (ex.map (· != 0))).take 4 |>.foldl (fun (s, out) run =>
    let xs := (ex.drop run.1).take run.2
    let num := (xs.zipIdx.map fun (e, i) => e * (2 * (run.1 + i) + 1) * bw * 128 * 32).sum
    let q := (s.roundFree num xs.sum).toNat
    let s := s.drawn
    let fine : Int := (r.near * 8192 + q + 16 : Nat)
    let p : Rat := (xs.sum : Rat) / 16 * (1 - 1 / ((2 ^ k : Nat) : Rat)) / ((16 * r.shots : Nat) : Rat)
    let c : Cand := { start := run.1, len := run.2, cls := 7, peak := run.1 + peakOf xs, excess := xs.sum }
    let slot : RetSlot := {
      range := s.rangeUnits h fine.toNat, cls := 7, widthCoarse := true, peakBin := c.peak, intensity := s.muOf p
      width := satU 16 (run.2 * bw * 256), excess := xs.sum, bg := bloc bp none lg c.peak, runStart := run.1
      runLen := run.2, fine := fine, slow := true }
    (s.drawn, out ++ [⟨c, slot, false⟩])) (s, [])

/-- The index of the farthest rain, snow or fog return. [DEDUCED, log 63] -/
def farthestWeak (xs : List RetSlot) : Option Nat :=
  ((xs.zipIdx.filter fun (x, _) => x.weak).foldl (fun (m : Option (RetSlot × Nat)) (x, i) => match m with
    | none => some (x, i)
    | some (y, j) => if y.range ≤ x.range then some (x, i) else some (y, j)) none).map Prod.snd

/-- The candidates take report slots (R207). -/
def State.placeWeak (s : State) (h : Nat) (slots : List RetSlot) (ws : List Weak) : State × List RetSlot × List Weak :=
  let (s, slots, ws) := ws.foldl (fun (s, slots, out) w =>
    let s := s.inc (R.BEAR_CNT_WP.COUNT h)
    if slots.length < 4 then (s, slots ++ [w.slot], out ++ [{ w with placed := true }])
    else match farthestWeak slots with
      | some i => (s, slots.set i w.slot, out ++ [{ w with placed := true }])
      | none => ((s.inc (R.BEAR_CNT_WP_OVF.COUNT h)).raise .bearWpOvf h, slots, out ++ [w])) (s, slots, [])
  (s, sortSlots slots, ws)

/-! ### Tracks (R208) -/

/-- The used track nearest to a prediction difference, among those not matched. [DEDUCED, log 63] -/
def nearestTrack (tracks : List Track) (done : List Nat) (shift m : Int) : Option (Nat × Int) :=
  tracks.zipIdx.foldl (fun (best : Option (Nat × Int)) (x, i) =>
    if !x.used || done.contains i then best
    else
      let e := m - ((x.range : Int) + shift)
      match best with
      | none => some (i, e)
      | some (j, f) => if e.natAbs < f.natAbs then some (i, e) else some (j, f)) none

/-- The track that a new return starts in: a free one, else the one with the largest MISS. -/
def newTrackAt (tracks : List Track) : Nat :=
  match tracks.findIdx? (!·.used) with
  | some i => i
  | none => (tracks.zipIdx.foldl (fun (bi, bm) (x, i) => if i = 0 ∨ bm < x.miss then (i, x.miss) else (bi, bm)) (0, 0)).1

/-- Tracks of an update (R208): the tracks, the slots with their classes, and the slots that became SOLID_MOVING.
[DEDUCED, log 61, 63] -/
def State.trackUpdate (s : State) (h : Nat) (dR : Int) (close : Nat) (tracks : List Track) (slots : List RetSlot) :
    State × List Track × List RetSlot :=
  let ts := (List.range 4).map fun i => tracks.getD i {}
  let shift := s.roundFree (dR * 4) 1000
  let s := s.drawn
  let gate := s.rd (R.BEAR_MOV.GATE h) * 200
  let (s, ts, slots, done, left) := slots.foldl (fun (s, ts, out, done, left) x =>
    if x.cls ≠ 1 then (s, ts, out ++ [x], done, left)
    else
      match nearestTrack ts done shift x.range with
      | some (i, e) =>
        if gate < e.natAbs then (s, ts, out ++ [x], done, left ++ [x])
        else
          let k := ts.getD i {}
          let r := s.roundFree (e * 250000000) (close - k.dt)
          let s := s.drawn
          let rate := k.rate + s.roundFree (r - k.rate) 2
          let s := s.drawn
          let run := if s.rd (R.BEAR_MOV.V_MOV h) ≤ rate.natAbs then satU 4 (k.movRun + 1) else 0
          let moving := if run = 0 then false else k.moving || decide (s.rd (R.BEAR_MOV.N_MOV h) ≤ run)
          let k := { k with range := x.range, rate := rate, dt := close, miss := 0, hits := satU 16 (k.hits + 1)
                            movRun := run, moving := moving }
          let s := s.when moving fun s => s.inc (R.BEAR_CNT_MOVING.COUNT h)
          (s, ts.set i k, out ++ [if moving then { x with cls := 2, slow := true } else x], i :: done, left)
      | none => (s, ts, out ++ [x], done, left ++ [x])) (s, ts, [], [], [])
  let ts := ts.zipIdx.map fun (k, i) =>
    if !k.used || done.contains i then k
    else if s.rd (R.BEAR_MOV.MISS_MAX h) < k.miss + 1 then {} else { k with miss := satU 8 (k.miss + 1) }
  let ts := left.foldl (fun ts x => ts.set (newTrackAt ts) { range := x.range, dt := close, used := true }) ts
  (s, ts, slots)

/-! ### Zoom placement (R209) -/

/-- The placement of the bearing's next dwell. -/
def State.placeZoom (s : State) (x : Bear) (r : InRec) (fines : List Int) (dt : Int) (restart : Bool) : State × Bear :=
  let lg := (r.far - r.near) / 2 ^ r.binW
  let top := (lg * 2 ^ r.binW - 8) * 8
  let (s, zs) := (fines.take 4).foldl (fun (s, out) f =>
    let v := s.roundFree (f + dt * 32 - (4 + r.near : Nat) * 8192) 1024
    (s.drawn, out ++ [min top v.toNat])) (s, [])
  let kept := if restart ∧ fines = [] then [] else (indices 4 fun z => bit x.zenNext z).map fun z => x.zsNext.getD z 0
  let zs := (zs ++ kept).take 4
  (s, { x with zsNext := (List.range 4).map fun z => zs.getD z 0, zenNext := 2 ^ zs.length - 1 })

/-! ### BEARING_MERGE -/

/-- Merge one record into its staged line (R193, R200 to R209). -/
def State.merge (s : State) (h : Nat) (m : MqRec) (l : StageLine) : State :=
  let r := m.input
  let (x, f, frozen, restart) := s.mergeRecord h m l.bear (SMap.get (fun _ => 0) s.babbitt.zenLast l.bid)
  let s := s.inc (R.BEAR_CNT_UPD.COUNT h)
  let s := s.when restart fun s => s.inc (R.BEAR_CNT_RESTART.COUNT h)
  let s := s.updBabbitt fun b => { b with
    zenLast := if frozen then b.zenLast else SMap.set (fun _ => 0) b.zenLast l.bid r.zen }
  let late := decide (r.dtClose + 1400 < s.now)
  let s := s.when late fun s => (s.inc (R.BEAR_CNT_LATE.COUNT h)).raise .bearLate h
  let wp := !late && !frozen && s.on (R.BEAR_CFG.WP_EN h) && decide (s.rd (R.BEAR_CFG.AGE_MIN h) ≤ x.age)
  let (s, ws) := if wp then s.weakCands h m x else (s, [])
  let (s, slots, ws) := s.placeWeak h m.det.slots ws
  let mov := !late && !frozen && !restart && s.on (R.BEAR_CFG.MOV_EN h)
  let (s, tracks, slots) := if mov then s.trackUpdate h f.dR r.dtClose x.tracks slots else (s, x.tracks, slots)
  let x := { x with tracks := tracks }
  let moved : List Cand := (slots.filter (·.cls == 2)).map fun y => { start := y.runStart, len := y.runLen, cls := 2 }
  let slow := ws.map (·.cand) ++ moved
  let fines := (slots.filter (·.range != 0xFFFFFFFF)).map (·.fine) ++ (ws.filter (!·.placed)).map (·.slot.fine)
  let (s, x) := s.placeZoom x r fines f.dt restart
  let k := (s.head h).closed
  let it := (k.items.find? (·.n == m.n)).getD { n := m.n, bid := 0 }
  let slots := slots.map fun y =>
    if y.slow then
      let (p, w) := candBreach s.rd h m.desc k.sets it.words { start := y.runStart, len := y.runLen, cls := y.cls }
      { y with prot := y.prot || (it.fab && p), warn := y.warn || (it.fab && w) }
    else y
  let s := s.updItemOf h m.n r.frame r.dwell fun i => { i with
    det := some { m.det with slots := slots }, slow := slow, done := true }
  let s := s.writeBearing l.bid x
  let on := (s.staging m.n).same == some l.bid
  (s.updLineOf m.n l.bid fun y => { y with bear := x, pend := false, at_ := if on then .staged else .writing }).stageWanted m.n

/-- The record that the lane of a group takes next (R161): merge queue first, then spill ring; and the rest. [DEDUCED, log 64] -/
def State.nextRecord (s : State) (g : Nat) : Option (MqRec × State) :=
  match (s.group g).mq with
  | m :: ms => some (m, s.updGroup g fun G => { G with mq := ms })
  | [] => match s.spill.find? fun e => e.2.n / 16 == g with
    | some e => some (e.2, { s with spill := s.spill.erase e })
    | none => none

/-- A record is dropped before its merge (R160 step 5): its bearing stays as it is. -/
def State.dropRecord (s : State) (h n bid frame dwell : Nat) : State :=
  let s := s.updItemOf h n frame dwell fun i => { i with done := true, dropped := true }
  ((s.inc (R.HIST_CNT_DROP.COUNT h)).raise .mergeDrop h).stageDone n bid

/-- A record taken out of its queue is dropped. -/
def State.dropTaken (s : State) (m : MqRec) : State :=
  s.dropRecord m.input.head m.n m.input.bid m.input.frame m.input.dwell

/-- BEARING_MERGE (R161, R193, R202). A record whose line is not staged waits for it; an uncorrectable record is dropped (R162).
[DEDUCED, log 64] -/
def execBearingMerge (t : Time) (g : Fin 96) (corr : BitVec 8) (bad : Bool) (s : State) : Host.Outcome State Fault Refusal :=
  s.run t fun s =>
    match s.nextRecord g with
    | none => s
    | some (m, s') =>
      let h := m.input.head
      let took := (s'.showQueue h g).each corr.toNat fun _ s => s.benchCorr h g
      if bad then (took.benchUncorr h g).dropTaken m
      else match s.stagedLine m.n m.input.bid with
        | none => s.stageDemand m.n m.input.bid
        | some l => took.merge h m l

/-! ### Records of a group (R160) -/

/-- The bytes of a compacted record with its detection results (Tables 5.6, 6.4). -/
def MqRec.bytes (r : MqRec) : List Byte := r.input.compact r.n r.det.bytes

/-- One byte of the bench bank of group `g` (Table 5.1, R142, R143): an input record of either buffer, or a merge-queue slot; a
free slot holds what was there before, which nothing reads. [DESIGN CHOICE, log 151] -/
def State.bankByte (s : State) (g a : Nat) : Byte :=
  if a < 0x28000 then
    let j := a % 0x14000 / 0x1400
    ((s.inRec g (a / 0x14000) j).bytes (16 * g + j)).getD (a % 0x1400) 0
  else match (s.group g).mq.find? fun m => slotPlace m.place ≤ a && a < slotPlace (m.place + 1) with
    | some m => m.bytes.getD (a - slotPlace m.place) 0
    | none => 0

/-- One record goes to the spill ring through its port, or is dropped where the ring is full (R160); where the port lacks tokens it
is not placed yet (R381). -/
def State.spillRecord (s : State) (h : Nat) (r : MqRec) : State :=
  if 8192 ≤ s.spill.length then s.dropTaken r
  else match s.portTake 3 0xC00 with
    | (s, false) => s.updItem h r.n fun i => { i with moved := false }
    | (s, true) =>
      let i := s.spillIndex
      let r := { r with place := i, input := { r.input with spilled := true } }
      let s := s.hbmWrite (0x10C000000 + i * 0xC00) r.bytes
      { s with spill := s.spill ++ [(i, r)] }.inc (R.HIST_CNT_SPILL.COUNT h)

/-- The records of a dwell go to the spill ring: MERGE_SPILL where one did (R160). -/
def State.spillRecords (s : State) (h : Nat) (recs : List MqRec) : State :=
  let t := recs.foldl (fun s r => s.spillRecord h r) s
  t.when (decide (s.spill.length < t.spill.length)) fun s => s.raise .mergeSpill h

/-- The bench errors of the read of a dwell's records: an uncorrectable one sets BENCH_ERR, and its record is not moved (R162).
[DEDUCED, log 152] -/
def State.moveErrors (s : State) (h : Nat) (g : BenchRead) : State :=
  let k := (s.head h).closed
  let s := s.benchErrors h g.g (1 - (s.group g.g).use) g.corr g.bad
  let lost := k.items.filter fun i => i.n / 16 == g.g.val && !i.moved && !i.done && g.bad.any fun j => j.val == i.n % 16
  lost.foldl (fun s i => (s.updItem h i.n fun x => { x with done := true }).stageDone i.n i.bid) s

/-- RECORD_MOVE (R160, R162). -/
def execRecordMove (t : Time) (h : HeadIx) (g : BenchRead) (s : State) : Host.Outcome State Fault Refusal :=
  s.run t fun s =>
    if !(s.head h).closed.evaluated.contains g.g.val || !s.persists h then s
    else
      let s := s.moveErrors h g
      let k := (s.head h).closed
      let b := 1 - (s.group g.g).use
      let its := k.items.filter fun i => i.n / 16 == g.g.val && !i.moved && !i.done
      let recs := its.filterMap fun i => i.det.map fun d =>
        ({ n := i.n, input := s.inRec g.g b (i.n % 16), det := d, slot := k.slot, desc := k.desc, od := k.od } : MqRec)
      let s := recs.foldl (fun s r => s.updItem h r.n fun i => { i with moved := true }) s
      let s :=
        if (s.group g.g).mq.length + recs.length ≤ 32 ∧ s.spillHeld g.g = 0 then
          recs.foldl (fun s r => s.queueRecord g.g r) s
        else s.spillRecords h recs
      s.showQueue h g.g

/-- RECORD_DROP_DEADLINE (R160 step 5): what has not been placed by 1,900 ns after the close is dropped.
[DESIGN CHOICE, log 144] -/
def execRecordDropDeadline (t : Time) (h : HeadIx) (g : Fin 96) (s : State) : Host.Outcome State Fault Refusal :=
  s.run t fun s =>
    let k := (s.head h).closed
    if k.fired == 0 || !s.persists h || decide (s.now < k.closeAt + 1900) then s
    else (k.items.filter fun i => i.n / 16 == g.val && !i.moved && !i.done).foldl (fun s i =>
      s.dropRecord h i.n i.bid k.frame k.dwell) s

/-! ### Speed (R194 to R199) -/

/-- Is a slow input read in its safe state (R506)? [DEDUCED, log 67] -/
def State.clampedIn (s : State) (i : Nat) : Bool :=
  let c := SMap.get (fun _ => ({} : Clamp)) s.dev.clamps i
  c.on || decide (s.now < c.until_)

def Tach.chan (x : Tach) (b : Bool) : TachCh := if b then x.b else x.a

def Tach.setChan (x : Tach) (b : Bool) (c : TachCh) : Tach := if b then { x with b := c } else { x with a := c }

/-- TACH_EDGE (R113, R194): outside the hold-off of 20 ns the edge is stamped; between the limits of the hold-off it is a
free choice. [DEDUCED, log 66] -/
def execTachEdge (t : Time) (b : Bool) (taps : BitVec 288) (s : State) : Host.Outcome State Fault Refusal :=
  s.run t fun s =>
    let at_ := s.auxStamp (flag b) taps
    let c := s.tach.chan b
    if s.clampedIn (flag b) || s.inHoldOff c.stamps.head? at_ 20 then s.drawn
    else s.drawn.updTach fun x => x.setChan b { c with stamps := at_ :: c.stamps }

/-- period() of R194 on stamps in ascending order, 1/256 ns per pulse. -/
def pulsePeriod (ts : List Nat) : Int :=
  let n : Int := ts.length
  let t0 := ts.headD 0
  let ys := ts.map fun t => t - t0
  let sx : Int := ((List.range ts.length).sum : Nat)
  let sxx : Int := (((List.range ts.length).map fun i => i * i).sum : Nat)
  let st : Int := (ys.sum : Nat)
  let sxt : Int := ((ys.zipIdx.map fun (y, i) => y * i).sum : Nat)
  let num := n * sxt - sx * st
  let den := n * sxx - sx * sx
  Int.tdiv (num + Int.tdiv den 2) den

/-- speed_um_s() of R194. -/
def speedUm (p : Nat) (circ ppr : Nat) : Nat :=
  let den := ppr * p
  if den = 0 then 0 else (circ * 100 * 256000000000 + den / 2) / den % 2 ^ 32

/-- The period of a channel at a gate end, where it has one (R194, R195). -/
def State.tachPeriod (s : State) (b : Bool) : Option Nat :=
  let gate := s.rd R.TACH_CFG.GATE_MS * 1000000
  let now := s.now * 256
  let st := (s.tach.chan b).stamps.filter (· < now)
  let inside := st.filter fun x => decide (now ≤ x + gate * 256)
  if 3 ≤ inside.length then some (pulsePeriod inside.reverse).toNat
  else match st with
    | a :: c :: _ =>
      if now - a < s.rd R.TACH_LIM2.STOP_T * 10000000 * 256 then some (max (a - c) (now - a)) else none
    | _ => none

/-- The speed of a channel at a gate end in µm/s. -/
def State.tachSpeed (s : State) (b : Bool) : Nat :=
  match s.tachPeriod b with
  | some p => speedUm p (s.rd (R.TACH_WHEEL.CIRC (flag b))) (s.rd (R.TACH_WHEEL.PPR (flag b)))
  | none => 0

/-- The plausibility value in force, 0.01 m/s (R325). -/
def State.plausibility (s : State) : Option Int :=
  (List.range 4).findSome? fun c =>
    if bits (s.rd R.SAFE_CONN_STATE.STATE) (2 * c + 1) (2 * c) = 1 then (SMap.get (fun _ => ({} : Conn)) s.safe.conns c).plaus
    else none

/-- The direction at a gate end, reverse or not (R196); without an edge pair it stays. [DEDUCED, log 66] -/
def State.tachReverse (s : State) : Bool :=
  match s.rd R.TACH_CFG.DIR_SRC with
  | 1 =>
    let a := s.tach.a.stamps
    let b := s.tach.b.stamps.reverse
    match a.findSome? fun x => (b.find? (x < ·)).map fun y => y - x, s.tachPeriod false with
    | some lead, some p => decide (p ≤ 2 * lead)
    | _, _ => s.tach.reverse
  | 2 => match s.plausibility with
    | some v => decide (v < 0)
    | none => s.tach.reverse
  | _ => false

/-- The causes of Table 7.6 at a gate end, in order. -/
def State.speedCauses (s : State) (va vb mag : Nat) (rev : Bool) : List Nat :=
  let x := s.tach
  let both := s.rd R.TACH_CFG.MODE != 0
  let d (a b : Nat) : Nat := max a b - min a b
  let slipLim := s.rd R.TACH_LIM.A_MAX * 50 * s.rd R.TACH_CFG.GATE_MS
  let slip (was : Option Nat) (v : Nat) : Bool := match was with
    | some p => decide (slipLim < d p v)
    | none => false
  let turned := !x.start && rev != x.reverse && decide (s.rd R.TACH_LIM2.V_DIR * 10000 ≤ max x.v.natAbs mag)
  let v : Int := if rev then -(mag : Int) else mag
  (if both && decide (s.rd R.TACH_LIM.TOL_ABS * 2560000 + s.rd R.TACH_LIM.TOL * max va vb < d va vb * 256) then [2] else []) ++
  (if !x.start && (slip x.a.speed va || (both && slip x.b.speed vb)) then [3] else []) ++
  (if turned || (s.rd R.TACH_CFG.DIR_SRC == 2 && s.plausibility == none) then [4] else []) ++
  (match s.plausibility with
    | some p => if s.rd R.TACH_LIM2.PLAUS_TOL * 100000 < (p * 10000 - v).natAbs then [5] else []
    | none => [])

/-- Speed becomes INVALID (R199). -/
def State.speedLost (s : State) : State :=
  let s := (s.inc R.SPEED_EPOCH.EPOCH).wr R.SPEED_STATUS.STATE 0
  (s.raise .speedInvalid noHead).speedSel

/-- Speed is valid: VALID or STANDSTILL (R198), and reported to the SPEED source. -/
def State.speedShow (s : State) : State :=
  (s.wr R.SPEED_STATUS.STATE (if s.tach.v = 0 then 2 else 1)).speedSel

/-- Speed becomes valid again (R199). -/
def State.speedBack (s : State) : State :=
  ((s.updTach fun x => { x with clearAt := none }).raise .speedValid noHead).speedShow.settleDev

/-- TACH_GATE_END (R194 to R199), GATE_MS ms after the gate before it, from seal on. [DEDUCED, log 66; DESIGN CHOICE, log 144] -/
def execTachGateEnd (t : Time) (s : State) : Host.Outcome State Fault Refusal :=
  s.run t fun s =>
    if !s.dev.sealed || decide (s.now < s.tach.gateAt + s.rd R.TACH_CFG.GATE_MS * 1000000) then s else
    let both := s.rd R.TACH_CFG.MODE != 0
    let va := s.tachSpeed false
    let vb := if both then s.tachSpeed true else 0
    let mag := if both then (va + vb) / 2 else va
    let rev := s.tachReverse
    let causes := s.speedCauses va vb mag rev
    let v : Int := if rev then -(mag : Int) else mag
    let now := s.now
    let s := s.updTach fun x => { x with
      a := { stamps := x.a.stamps.take 2, speed := some va }, b := { stamps := x.b.stamps.take 2, speed := some vb }
      start := false, gateAt := now, v := v, reverse := rev
      clearAt := if causes = [] then x.clearAt.or (some now) else none }
    let s := (s.wr R.SPEED_CH.VA (satU 16 (va / 10000))).wr R.SPEED_CH.VB (satU 16 (vb / 10000))
    let s := (s.wr R.SPEED_STATUS.CAUSE (causes.headD 0)).wrB R.SPEED_STATUS.DIR rev
    let s := s.wr R.SPEED_STATUS.V (satU 16 (mag / 10000))
    let excess := match s.tach.clearAt with
      | some c => decide (c + s.rd R.TACH_LIM.VALID_T * 10000000 ≤ now)
      | none => false
    let s :=
      if causes ≠ [] then (if s.speedInvalid then s else s.speedLost)
      else if s.speedInvalid then (if excess then s.speedBack else s)
      else s.speedShow
    if s.speedInvalid then s
    else
      let add := s.roundFree (v * s.rd R.TACH_CFG.GATE_MS) 1000
      s.drawn.updTach fun x => { x with od := x.od + add }

/-- SPEED_VALID_TIMER (R198): VALID_T after the last cause has cleared. [DESIGN CHOICE, log 144] -/
def execSpeedValidTimer (t : Time) (s : State) : Host.Outcome State Fault Refusal :=
  s.run t fun s =>
    match s.tach.clearAt with
    | some a => s.when (s.speedInvalid && decide (a + s.rd R.TACH_LIM.VALID_T * 10000000 ≤ s.now)) fun s => s.speedBack
    | none => s

end Sys2Proof.Machine
end

