-- ==== Sys2Proof/Machine/Output.lean ====
section
/-! DEFINITION. Point records, frames, streams and network ports (08_outputs.md, R213 to R234), and the return lists of
capture (R239). -/

namespace Sys2Proof.Machine

def State.updNet (s : State) (f : Net → Net) : State := { s with net := f s.net }

/-! ### Streams -/

/-- Is a stream enabled, and does it carry a frame type (0 POINTS, 1 GEOMETRY, 3 EVENT, 4 STATUS; R223)? -/
def State.carries (s : State) (str ty : Nat) : Bool :=
  s.on (R.NET_STREAM0.EN str) && s.bitOf (R.NET_STREAM0.TYPES str) ty

/-- Does a stream carry frames of a type about head `h`? -/
def State.carriesHead (s : State) (str ty h : Nat) : Bool :=
  s.carries str ty && s.bitOf (R.NET_STREAM_SEL.HEAD_MASK str) h

/-- Does the node of N0 and N1 send the frames of a port twice (R229)? [DEDUCED, log 69] -/
def State.prpPort (s : State) (p : Nat) : Bool := s.on R.NET_PRP.EN && p < 2

/-- The port whose queues take the frames of a stream; the PRP node queues them once (R229). [DEDUCED, log 69] -/
def State.streamPort (s : State) (str : Nat) : Nat :=
  let p := s.rd (R.NET_STREAM0.PORT str)
  if s.prpPort p then 0 else p

/-- Records per frame, n (R218). [DEDUCED, log 69] -/
def State.recsPerFrame (s : State) (str : Nat) : Nat :=
  let p := s.rd (R.NET_STREAM0.PORT str)
  let o := (if s.on (R.NET_STREAM0.IPV6 str) then 48 else 28) + (if s.prpPort p then 6 else 0)
  let n := (s.rd (R.NET_PORT.MTU p) - o - 36) / 32
  let cap := s.rd (R.NET_STREAM_CTL.MAX_REC str)
  if cap = 0 then n else min n cap

/-! ### Egress queues (R228, R230) -/

/-- The rate of a port in Mb/s (R228). -/
def State.portMbps (s : State) (p : Nat) : Nat :=
  match s.rd (R.NET_PORT.MODE p) with
  | 1 => 10000
  | 2 => 25000
  | 3 => 50000
  | 4 => 100000
  | _ => 0

/-- The idle slope of a queue in Mb/s; queues 0 and 7 have none. -/
def State.slope (s : State) (p q : Nat) : Nat := if 1 ≤ q ∧ q ≤ 6 then s.rd (R.NET_CBS.IDLE_SLOPE p (q - 1)) else 0

/-- The frames of a queue, oldest first. -/
def State.egress (s : State) (p q : Nat) : List EgFrame := SMap.get (fun _ => []) s.net.queues (p * 8 + q)

def State.shaper (s : State) (p q : Nat) : Shaper := SMap.get (fun _ => {}) s.net.shapers (p * 8 + q)

/-- The credit of a shaped queue now: it rises at the idle slope, to 0 at most while nothing waits (R230). [PRESUMED, log 162] -/
def State.creditNow (s : State) (p q : Nat) : Int :=
  let x := s.shaper p q
  let c := x.credit + (s.slope p q * (s.now - x.at_) : Nat)
  if s.egress p q = [] then min c 0 else c

/-- The shaper of a queue holds its credit as of now; one that transmits holds that of the end of its frame. -/
def State.settleShaper (s : State) (p q : Nat) : State :=
  if s.slope p q = 0 ∨ s.now < (s.shaper p q).at_ then s
  else s.updNet fun N => { N with shapers := SMap.set (fun _ => {}) N.shapers (p * 8 + q) ⟨s.creditNow p q, s.now⟩ }

/-- Put a frame at the end of an egress queue. -/
def State.enqueue (s : State) (p q : Nat) (f : EgFrame) : State :=
  (s.settleShaper p q).updNet fun N => { N with queues := SMap.upd (fun _ => []) N.queues (p * 8 + q) (· ++ [f]) }

/-- Queue a frame on its stream with the next SEQ (R225). -/
def State.queueStream (s : State) (str : Nat) (f : EgFrame) : State :=
  let s := s.inc (R.NET_STREAM_SEQ.SEQ str)
  s.enqueue (s.streamPort str) (s.rd (R.NET_STREAM0.QUEUE str))
    { f with stream := str, seq := s.rd (R.NET_STREAM_SEQ.SEQ str), dt := s.now }

/-! ### Point frames (R218) -/

/-- The open point frame of a stream and head. -/
def State.openFrame (s : State) (str h : Nat) : OpenFrame := SMap.get (fun _ => {}) s.net.opened (str * 16 + h)

def State.setOpenFrame (s : State) (str h : Nat) (f : OpenFrame) : State :=
  s.updNet fun N => { N with opened := SMap.set (fun _ => {}) N.opened (str * 16 + h) f }

/-- Close the open point frame of a stream and head and queue it; none is open: nothing. -/
def State.closeFrame (s : State) (str h : Nat) : State :=
  let f := s.openFrame str h
  if f.recs = [] then s
  else
    let rs := f.recs.reverse
    let g : EgFrame := ⟨.points, str, h, 0, 0, rs.headD 0, rs.length, rs, []⟩
    (s.queueStream str g).setOpenFrame str h {}

/-- A point record of a head as its ring holds it, and what the filters ask of it (R213, R223). -/
structure Point where
  bid : Nat
  range : Nat
  cls : Nat
  forced : Bool
  frame : Nat
  bytes : List Byte

/-- Does a point record pass the filter of a stream (R214, R223)? -/
def State.passes (s : State) (str h : Nat) (r : Point) : Bool :=
  s.carriesHead str 0 h && (s.bitOf (R.NET_STREAM_SEL.CLASS_MASK str) r.cls || r.forced) &&
    decide (s.rd (R.NET_STREAM_BID_LO.BID_LO str) ≤ r.bid) && decide (r.bid ≤ s.rd (R.NET_STREAM_BID_HI.BID_HI str)) &&
    (r.range == 0xFFFFFFFF || (decide (s.rd (R.NET_STREAM_R_MIN.R_MIN str) ≤ r.range) &&
      decide (r.range ≤ s.rd (R.NET_STREAM_R_MAX.R_MAX str)))) &&
    r.frame % (s.rd (R.NET_STREAM_CTL.DECIM str) + 1) == 0

/-- A record that passes the filter joins the stream's open frame (R218). [DEDUCED, log 75] -/
def State.streamPoint (s : State) (str h i : Nat) (r : Point) : State :=
  if !s.passes str h r then s
  else
    let f := s.openFrame str h
    let s := s.when (f.recs != [] && f.frame != r.frame) fun s => s.closeFrame str h
    let f := s.openFrame str h
    let f := if f.recs = [] then { recs := [i], openAt := s.now, frame := r.frame } else { f with recs := i :: f.recs }
    let s := s.setOpenFrame str h f
    s.when (decide (s.recsPerFrame str ≤ f.recs.length)) fun s => s.closeFrame str h

/-! ### Point rings (R215, R216) -/

/-- Where record `i` of the ring of head `h` stands (Table 15.1). -/
def State.ringAddr (s : State) (h i : Nat) : Nat :=
  0x120000000 + h * 0x8000000 + i % 2 ^ s.rd (R.NET_RING.RING_LOG2 h) * 32

/-- Frames of a queue without record `i` of head `h` for stream `str`. [DEDUCED, log 68] -/
def dropIndex (str h i : Nat) (q : List EgFrame) : List EgFrame :=
  q.map fun f => if f.kind = .points ∧ f.stream = str ∧ f.head = h then { f with recs := f.recs.filter (· != i) } else f

/-- Does a stream still hold record `i` of head `h` unread? -/
def State.holdsUnread (s : State) (str h i : Nat) : Bool :=
  (s.openFrame str h).recs.contains i || s.net.queues.any fun q =>
    q.2.any fun f => f.kind == .points && f.stream == str && f.head == h && f.recs.contains i

/-- Record `i` of head `h` is overwritten before stream `str` has read it (R216). [DEDUCED, log 68] -/
def State.overrun (s : State) (h i frame str : Nat) : State :=
  if !s.carriesHead str 0 h || !s.holdsUnread str h i then s
  else
    let s := s.inc (R.NET_STREAM_LOST.LOST str)
    let s := s.updNet fun N => { N with
      gap := setBit N.gap str
      opened := SMap.upd (fun _ => ({} : OpenFrame)) N.opened (str * 16 + h) fun f => { f with recs := f.recs.filter (· != i) }
      queues := N.queues.map fun q => (q.1, dropIndex str h i q.2) }
    if SMap.get (fun _ => 0) s.net.overrun h = frame + 1 then s
    else (s.updNet fun N => { N with overrun := SMap.set (fun _ => 0) N.overrun h (frame + 1) }).raise .netRingOverrun h

/-- The formatter writes a record into the ring of head `h` and every stream sees it. -/
def State.writePoint (s : State) (h : Nat) (r : Point) : State :=
  let i := s.rd (R.NET_RING_WR.WR_IDX h)
  let old := (i + 2 ^ 32 - 2 ^ s.rd (R.NET_RING.RING_LOG2 h)) % 2 ^ 32
  let s := s.each 16 fun str s => s.overrun h old r.frame str
  let s := (s.hbmWrite (s.ringAddr h i) r.bytes).inc (R.NET_RING_WR.WR_IDX h)
  s.each 16 fun str s => s.streamPoint str h i r

/-! ### The point formatter (R213, R214, R239) -/

/-- The bearing status of an item (Table 8.2). -/
def Item.status (it : Item) (fired : Nat) : Nat :=
  let d := it.det.getD {}
  if fired = 0 then 1
  else if d.noEval then 2
  else if d.blind then 3
  else if d.satNoRange then 4
  else if d.fieldLate then 5
  else if d.candOvf then 6
  else if it.dropped then 7
  else 0

/-- The point record of a return slot (Table 8.1); slot index 0 to 3. [DEDUCED, log 58] -/
def pointOf (h : Nat) (k : Closed) (it : Item) (i : Nat) (x : RetSlot) : Point :=
  let st := it.status k.fired
  { bid := it.bid, range := x.range, cls := x.cls, forced := x.cls == 0 && st != 0, frame := k.frame
    bytes := pack [
      (4, it.bid + 2 ^ 20 * i + 2 ^ 22 * x.cls + 2 ^ 25 * flag x.prot + 2 ^ 26 * flag x.warn + 2 ^ 27 * flag x.slow +
        2 ^ 28 * flag (it.det.getD {}).calStale + 2 ^ 29 * st),
      (4, x.range), (2, x.intensity), (2, x.width),
      (4, k.dwell + 2 ^ 16 * h + 2 ^ 20 * x.path + 2 ^ 22 * flag x.shadowed + 2 ^ 23 * flag x.widthCoarse +
        2 ^ 24 * x.balSets),
      (8, k.closeAt), (4, k.frame), (2, satU 16 x.bg), (2, x.balRatio)] }

/-- The slots for which an item forms records: its reported returns, else one record of class NONE (R214). -/
def Item.reported (it : Item) (fired : Nat) : List RetSlot :=
  if fired = 0 then [{}] else match (it.det.getD {}).slots with
    | [] => [{}]
    | xs => xs

/-- The RETURN record of capture for a point record (Table 9.1). [DEDUCED, log 58] -/
def returnRec (k : Closed) (it : Item) (i : Nat) (x : RetSlot) : Nat :=
  let rng := if x.range = 0xFFFFFFFF then 0xFFFFFF else min x.range 0xFFFFFF
  capRec 3 ((it.bid + 2 ^ 20 - Desc.bbase k.desc) % 2 ^ 11 * 2 ^ 34 + i * 2 ^ 32 + x.cls * 2 ^ 29 + flag x.prot * 2 ^ 28 +
    flag x.warn * 2 ^ 27 + it.status k.fired * 2 ^ 24 + rng)

/-- The return list of an evaluated dwell (R239). -/
def State.returnList (s : State) (h : Nat) (k : Closed) (items : List Item) : State :=
  if !s.on R.CAP_RL.EN || !s.bitOf R.CAP_RL.HEAD_MASK h || k.fired == 0 then s
  else
    s.stageReturns (capRec 2 (h * 2 ^ 41 + k.dwell * 2 ^ 25 + k.slot * 2 ^ 24 + k.closeAt % 2 ^ 24) ::
      items.flatMap fun it => (it.reported k.fired).zipIdx.map fun (x, i) => returnRec k it i x)

/-- Put an item in BID order (R24). -/
def insertItem (it : Item) : List Item → List Item
  | [] => [it]
  | j :: js => if it.bid < j.bid then it :: j :: js else j :: insertItem it js

/-- Can the closed dwell of a head be formatted: every result is at hand, and with persistence every merge or its last
instant (R193, R214)? -/
def State.formatReady (s : State) (h : Nat) : Bool :=
  let k := (s.head h).closed
  !k.formatted && (k.fired == 0 || k.items.all fun it =>
    it.det.isSome && (it.done || decide (k.closeAt + 1432 < s.now)))

/-! ### Digests of a pair (R341, R342) -/

/-- Are digests compared: both twins are there, and the shadow has the store (R342, R350, R352)? -/
def State.comparing (s : State) : Bool :=
  s.on R.PAIR_CFG.EN && s.on R.PAIR_STATUS.PARTNER && !s.pair.linkLost &&
    (if s.rd R.PAIR_STATUS.ROLE = 2 then decide (2 ≤ s.rd R.PAIR_STATUS.SYNC)
     else match s.pair.partner with
      | some p => p.role == 2 && decide (2 ≤ p.sync.toNat)
      | none => false)

/-- How many of a list are true. -/
def countTrue (l : List Bool) : Nat := (l.filter id).length

/-- A shadow restarts the bearing catch-up (R342, R353). [DESIGN CHOICE, log 36] -/
def State.restartCatchup (s : State) (sync : Nat) : State :=
  let s := ((s.wr R.PAIR_STATUS.SYNC sync).wr R.PAIR_CATCHUP.PASS 1).wr R.PAIR_CATCHUP.BID 0
  (s.updPair fun p => { p with requested := [] }).leaveRequest .catchup s.pwr.catchUnits

/-- The result of a compared dwell enters the history of its head (R342). -/
def State.compared (s : State) (h : Nat) (bad : Bool) : State :=
  let old := SMap.get (fun _ => []) s.pair.history h
  let new := (bad :: old).take 64
  let lim := s.rd R.PAIR_CFG.DIV_MAX
  let s := s.updPair fun p => { p with history := SMap.set (fun _ => []) p.history h new }
  let s := s.when bad fun s => (s.inc R.PAIR_CNT_MISMATCH.COUNT).raise .pairDigestMismatch h
  s.when (decide (lim < countTrue new) && decide (countTrue old ≤ lim)) fun s =>
    (s.raise .pairDiverged h).when (s.rd R.PAIR_STATUS.ROLE == 2) fun s => s.restartCatchup 4

/-- Do two digests of one dwell mismatch (R342)? [DEDUCED, log 82] -/
def digestMismatch (a b : Digest) : Bool :=
  let d := if a.rsum.toNat ≤ b.rsum.toNat then b.rsum.toNat - a.rsum.toNat else a.rsum.toNat - b.rsum.toNat
  a.h1 != b.h1 || a.nrec != b.nrec || decide (a.nranged.toNat < min d (2 ^ 32 - d))

/-- Are two digests of one dwell? -/
def sameDwell (a b : Digest) : Bool := a.frame == b.frame && a.dwell == b.dwell

def State.ownDigests (s : State) (h : Nat) : List (Digest × Nat) := SMap.get (fun _ => []) s.pair.own h
def State.theirDigests (s : State) (h : Nat) : List Digest := SMap.get (fun _ => []) s.pair.theirs h

/-- Compare the oldest digest of a head whose counterpart is at hand; the digest of another dwell waits for its own.
[DEDUCED, log 82] -/
def State.compareDigests (s : State) (h : Nat) : State :=
  match (s.ownDigests h).find? fun a => (s.theirDigests h).any (sameDwell a.1) with
  | none => s
  | some a =>
    let bad := ((s.theirDigests h).filter (sameDwell a.1)).any (digestMismatch a.1)
    let s := s.updPair fun p => { p with
      own := SMap.upd (fun _ => []) p.own h (·.filter fun x => !sameDwell x.1 a.1)
      theirs := SMap.upd (fun _ => []) p.theirs h (·.filter fun x => !sameDwell a.1 x) }
    s.compared h bad

/-- The bytes of a digest frame: the fields of R341 in its order behind SYNC, VER and TYPE of Table 13.2; the spec gives no layout of
them. [DESIGN CHOICE, log 170] -/
def digestBytes (d : Digest) : List Byte :=
  pack [(2, 0x4E50), (1, 1), (1, 2), (1, d.head.val), (4, d.frame.toNat), (2, d.dwell.toNat), (8, d.close.toNat),
    (4, d.nrec.toNat), (4, d.h1.toNat), (4, d.rsum.toNat), (4, d.nranged.toNat)]

/-- The digest of a dwell over its point records: word 0 and range of each (R341). -/
def digestOf (h : Nat) (k : Closed) (recs : List (Nat × Nat)) : Digest :=
  let ranged := recs.filter fun r => r.2 != 0xFFFFFFFF
  { head := Fin.ofNat 16 h, frame := BitVec.ofNat 32 k.frame, dwell := BitVec.ofNat 16 k.dwell
    close := BitVec.ofNat 64 k.closeAt, nrec := BitVec.ofNat 32 recs.length
    h1 := BitVec.ofNat 32 (crc32c (recs.flatMap fun r => bytesLE 4 (clearBit r.1 28)))
    rsum := BitVec.ofNat 32 (ranged.foldl (fun a r => a + r.2 / 4096) 0), nranged := BitVec.ofNat 32 ranged.length }

/-- A twin sends the digest of a formatted dwell (R341) and compares it, unless the dwell is excluded (R338, R339). -/
def State.sendDigest (s : State) (h : Nat) (d : Digest) (excluded : Bool) : State :=
  if !s.on R.PAIR_CFG.EN then s
  else
    let s := s.updPair fun p => { p with sent := digestBytes d }
    if !s.comparing || excluded then s
    else (s.updPair fun p => { p with own := SMap.upd (fun _ => []) p.own h (· ++ [(d, s.now)]) }).compareDigests h

/-- POINT_FORMAT (R24, R213 to R216, R239); a twin then sends its digest (R341). [DEDUCED, log 75] -/
def execPointFormat (t : Time) (h : HeadIx) (s : State) : Host.Outcome State Fault Refusal :=
  s.run t fun s =>
    if !s.formatReady h then s
    else
      let k := (s.head h).closed
      let items := k.items.foldl (fun out it => insertItem it out) []
      let s := items.foldl (fun s it =>
        (it.reported k.fired).zipIdx.foldl (fun s (x, i) =>
          let s := s.writePoint h (pointOf h k it i x)
          s.when (k.fired != 0 && x.cls != 0) fun s => s.occur ⟨7, x.cls + 16 * h.val, false, k.closeAt * 256⟩) s) s
      let recs := items.flatMap fun it => (it.reported k.fired).zipIdx.map fun (x, i) =>
        (ofBytesLE ((pointOf h k it i x).bytes.take 4), x.range)
      let s := (s.returnList h k items).updClosed h fun c => { c with formatted := true }
      s.sendDigest h (digestOf h k recs) k.excluded

/-- POINT_FRAME_FLUSH (R218): FLUSH µs after the first record was written. -/
def execPointFrameFlush (t : Time) (str : Fin 16) (h : HeadIx) (s : State) : Host.Outcome State Fault Refusal :=
  s.run t fun s =>
    s.when (decide ((s.openFrame str h).openAt + s.rd (R.NET_STREAM_CTL.FLUSH str) * 1000 ≤ s.now)) fun s => s.closeFrame str h

/-- A stream is disabled (R223): its open frames are closed and queued at once. -/
def State.streamOff (s : State) (str : Nat) : State :=
  let s := s.when (s.on (R.NET_STREAM0.EN str)) fun s => s.eachHead fun h s => s.closeFrame str h
  s.wr (R.NET_STREAM0.EN str) 0

/-- STREAM_DISABLE (R223). -/
def execStreamDisable (t : Time) (str : Fin 16) (s : State) : Host.Outcome State Fault Refusal :=
  s.run t fun s => s.streamOff str

/-! ### Geometry (R219) -/

/-- The UX, UY, UZ and COS of a bearing (Table 7.3): those of the image's direction. [DESIGN CHOICE, log 161] -/
def State.direction (s : State) (h : Nat) (d : List Nat) (n : Nat) : List Byte :=
  match SMap.get (fun _ => none) (s.image h).dirs (descWord d 0 * 2048 + n) with
  | some dir => pack [(2, dir.ux), (2, dir.uy), (2, dir.uz), (2, cosOf (s.image h).axis dir)]
  | none => bytesLE 8 (Config.direction h (descWord d 0) n).toNat

/-- A record of the geometry table and its BID (Table 8.4). -/
def State.geoRecord (s : State) (h sl dw : Nat) (d : List Nat) (n : Nat) : Nat × List Byte :=
  let bid := Desc.bid d n
  (bid, bytesLE 4 (bid + 2 ^ 20 * (n % 16) + 2 ^ 24 * (n / 16) + 2 ^ 31 * sl) ++ s.direction h d n ++
    pack [(2, dw), (2, Desc.tag d), (4, descWord d 0), (2, Desc.near d), (2, Desc.far d), (4, Desc.binLog2 d), (4, 0)])

/-- Put a geometry record in BID order. -/
def insertGeo (x : Nat × List Byte) : List (Nat × List Byte) → List (Nat × List Byte)
  | [] => [x]
  | y :: ys => if x.1 < y.1 then x :: y :: ys else y :: insertGeo x ys

/-- The geometry table of the active program of a head: every bearing of the program, in ascending BID. -/
def State.geoTable (s : State) (h : Nat) : List (Nat × List Byte) :=
  let sl := s.rd (R.SCAN_STATUS.ACTIVE_SLOT h)
  (List.range (s.rd (R.SCAN_LEN.LEN_M1 h sl) + 1)).foldl (fun out dw =>
    let d := s.descAt h sl dw
    (dwellBearings d).foldl (fun out n => insertGeo (s.geoRecord h sl dw d n) out) out) []

/-- Lists of at most `n` elements, in order. -/
def chunks {α : Type} (n : Nat) : Nat → List α → List (List α)
  | 0, _ => []
  | k + 1, xs => if xs.isEmpty then [] else xs.take (max n 1) :: chunks n k (xs.drop (max n 1))

/-- Send records of 32 or 16 bytes in frames of at most n records. [DEDUCED, log 74] -/
def State.sendRecords (s : State) (str h first : Nat) (kind : FrameKind) (n : Nat) (rs : List (List Byte)) : State :=
  (chunks n rs.length rs).foldl (fun s c => s.queueStream str
    { kind := kind, stream := str, head := h, seq := 0, dt := 0, first := first, count := c.length, body := c.flatten }) s

/-- A stream sends the geometry table of a head's program (R219, R223). [DEDUCED, log 74] -/
def State.sendGeometry (s : State) (str h : Nat) : State :=
  if !s.carriesHead str 1 h then s
  else
    let lo := s.rd (R.NET_STREAM_BID_LO.BID_LO str)
    let hi := s.rd (R.NET_STREAM_BID_HI.BID_HI str)
    let rs := (s.geoTable h).filter fun x => decide (lo ≤ x.1) && decide (x.1 ≤ hi)
    let s := s.updNet fun N => { N with geoAt := SMap.set (fun _ => 0) N.geoAt (str * 16 + h) s.now }
    s.sendRecords str h (SMap.get (fun _ => 0) s.net.geoGen h) .geometry (s.recsPerFrame str) (rs.map Prod.snd)

/-- A program takes effect on a head (R62, R219): the generation advances and every stream sends the new table. -/
def State.geometryChange (s : State) (h : Nat) : State :=
  let s := s.updNet fun N => { N with geoGen := SMap.upd (fun _ => 0) N.geoGen h fun g => (g + 1) % 2 ^ 32 }
  s.each 16 fun str s => s.sendGeometry str h

/-- GEOMETRY_REPEAT (R219): the table of a head whose program has taken effect is sent again GEO_S seconds after the stream last
sent it. [DEDUCED, log 74; DESIGN CHOICE, log 144] -/
def execGeometryRepeat (t : Time) (str : Fin 16) (s : State) : Host.Outcome State Fault Refusal :=
  s.run t fun s =>
    let p := s.rd (R.NET_STREAM_CTL.GEO_S str) * 1000000000
    if p = 0 then s
    else s.eachHead fun h s =>
      s.when (SMap.get (fun _ => 0) s.net.geoGen h != 0 &&
        decide (SMap.get (fun _ => 0) s.net.geoAt (str * 16 + h) + p ≤ s.now)) fun s => s.sendGeometry str h

/-! ### Alarm frames (R220) -/

/-- The latest decision of a head in island A (false) or B. -/
def State.alarm (s : State) (h : Nat) (b : Bool) : Alarm := SMap.get (fun _ => {}) s.net.alarms (2 * h + flag b)

def State.setAlarm (s : State) (h : Nat) (b : Bool) (a : Alarm) : State :=
  s.updNet fun N => { N with alarms := SMap.set (fun _ => {}) N.alarms (2 * h + flag b) a }

/-- The 60 bytes of an alarm body before SCV (Table 8.5); `kind` 0 change, 1 field status; island A or B. -/
def State.alarmBody (s : State) (h kind : Nat) (b : Bool) : List Byte :=
  let a := s.alarm h b
  let on := if b then R.SAFE_OSSD_STATUS.ON_B else R.SAFE_OSSD_STATUS.ON_A
  let ossd := maskOf 4 fun m => s.bitOf on m || bit s.safe.testing (if b then m + 4 else m)
  pack [(4, kind + 2 * flag a.prot + 4 * flag a.warn + 8 * flag a.slow + 16 * flag a.forced +
      2 ^ 5 * s.rd (R.DET_SEL_STATUS.SELECTED h) + 2 ^ 8 * s.rd (R.DET_SEL_STATUS.OVR_SET h) +
      2 ^ 11 * s.rd (R.DET_SEL_STATUS.OVR h) + 2 ^ 12 * s.rd (R.DET_SEL_STATUS.FALLBACK h) + 2 ^ 16 * ossd +
      2 ^ 20 * s.devState),
    (2, a.dwell), (2, a.nProt), (8, a.close), (4, a.frame), (4, a.firstBid), (2, a.nWarn), (2, 0),
    (4, s.rd R.SAFE_OUT.CONN_ID), (28, 0)]

/-- The islands named queue their copies of an alarm frame, A's on N0, B's on N1, with one SEQ (R220, R225). -/
def State.queueAlarm (s : State) (h kind : Nat) (a b : Bool) : State :=
  if !(a || b) then s
  else
    let s := s.updNet fun N => { N with
      safeSeq := (N.safeSeq + 1) % 2 ^ 32, alarmAt := SMap.set (fun _ => none) N.alarmAt h (some s.now) }
    let f (b : Bool) : EgFrame := { kind := .alarm b, stream := 0, head := h, seq := s.net.safeSeq, dt := s.now, first := 0,
                                     count := 1, body := s.alarmBody h kind b }
    (s.when a fun s => s.enqueue 0 7 (f false)).when b fun s => s.enqueue 1 7 (f true)

/-- Has ALARM_MS passed since the last alarm frame of a head (R220)? Before its first one it is due. [DESIGN CHOICE, log 144] -/
def State.alarmDue (s : State) (h : Nat) : Bool :=
  match SMap.get (fun _ => none) s.net.alarmAt h with
  | some a => decide (a + s.rd R.NET_SAFE.ALARM_MS * 1000000 ≤ s.now)
  | none => true

/-- ALARM_FIELD_STATUS (R220): for a head that holds a program. -/
def execAlarmFieldStatus (t : Time) (h : HeadIx) (s : State) : Host.Outcome State Fault Refusal :=
  s.run t fun s => s.when (s.hasProgram h && s.alarmDue h) fun s => s.queueAlarm h 1 true true

/-! ### Event and status frames (R221, R222) -/

/-- The 16 bytes of event record `i`. -/
def State.eventBytes (s : State) (i : Nat) : List Byte :=
  (List.range 4).flatMap fun w => bytesLE 4 (s.word (R.EVENT_LOG.addr (4 * (i % 4096) + w)))

/-- EVENT_FRAME_QUEUE (R221): the records logged since the last event frame, of which the log still holds 4,096.
[DEDUCED, log 74] -/
def execEventFrameQueue (t : Time) (s : State) : Host.Outcome State Fault Refusal :=
  s.run t fun s =>
    let wr := s.rd R.EVT_WR.WR
    let n := min 4096 ((wr + 2 ^ 32 - s.dev.evtSent) % 2 ^ 32)
    let rs := (List.range n).map fun i => s.eventBytes (wr + 2 ^ 32 - n + i)
    let s := s.each 16 fun str s => s.when (s.carries str 3) fun s =>
      s.sendRecords str 0 0 .event (s.recsPerFrame str) rs
    s.updDev fun d => { d with evtSent := wr, evtSince := none }

/-- The 192-byte status body (R222). -/
def State.statusBody (s : State) : List Byte :=
  pack [(4, s.word R.DEV_STATE.addr), (4, s.word R.SPEED_STATUS.addr), (4, wrapS 32 (s.rdS R.THM_STATUS.TJ)),
    (4, s.rd R.PWR_STATUS.GRANTED)] ++
  (List.range 16).flatMap fun h => pack [(1, s.headState h), (2, s.inhWord h), (2, s.rd (R.SCAN_CNT_SKIP.COUNT h)),
    (2, s.rd (R.SCAN_CNT_LATE.COUNT h)), (2, s.rd (R.FIRE_CNT_MISS.COUNT h)), (2, s.rd (R.DET_VIS_STATUS.MOR h))]

/-- STATUS_FRAME (R222): every STATUS_MS. [DESIGN CHOICE, log 144] -/
def execStatusFrame (t : Time) (s : State) : Host.Outcome State Fault Refusal :=
  s.run t fun s =>
    let due := match s.net.statusAt with
      | some a => decide (a + s.rd R.NET_SAFE.STATUS_MS * 1000000 ≤ s.now)
      | none => true
    s.when due fun s => (s.updNet fun N => { N with statusAt := some s.now }).each 16 fun str s =>
      s.when (s.carries str 4) fun s => s.queueStream str ⟨.status, str, 0, 0, 0, 0, 1, [], s.statusBody⟩

/-! ### Frames as sent (R217, R227, R229 to R231) -/

/-- TYPE of a frame (Table 8.3); the frames of no type have none. [DESIGN CHOICE, log 72] -/
def FrameKind.type : FrameKind → Nat
  | .points => 1
  | .geometry => 2
  | .alarm _ => 3
  | .event => 4
  | .status => 5
  | .raw _ | .gptp _ => 0

/-- The pair role of the device: 0 ALONE, 1 ACTIVE, 2 SHADOW. -/
def State.role (s : State) : Nat := s.rd R.PAIR_STATUS.ROLE

/-- The 32-byte header of a frame (Table 8.3). -/
def State.frameHeader (s : State) (f : EgFrame) (gap : Bool) : List Byte :=
  let (island, safety) := match f.kind with
    | .alarm b => (flag b, 1)
    | _ => (0, 0)
  pack [(2, 0x4E58), (1, 1), (1, f.kind.type), (1, f.stream + 16 * flag gap + 32 * island + 64 * s.role), (1, safety),
    (2, f.count), (4, f.seq), (2, s.rd R.DOM_STATUS.DID), (1, f.head), (1, 0), (8, f.dt), (4, f.first), (4, 0)]

/-- The UDP payload of a frame: header, body, CRC (R217); point records are read from the ring as the frame is sent, and
an alarm body ends with SCV (R320). -/
def State.payload (s : State) (f : EgFrame) (gap : Bool) : List Byte :=
  let f := if f.kind = .points then { f with count := f.recs.length, first := f.recs.headD f.first } else f
  let head := s.frameHeader f gap
  let body := match f.kind with
    | .points => f.recs.flatMap fun i => s.hbmBytes (s.ringAddr f.head i) 32
    | .alarm _ => f.body ++ bytesLE 4 (crc32c (head ++ f.body))
    | _ => f.body
  head ++ body ++ bytesLE 4 (crc32c (head ++ body))

/-- The 16-bit ones' complement sum of bytes in network order. -/
def onesSum : List Byte → Nat
  | [] => 0
  | [a] => a.toNat * 256
  | a :: b :: rest => let x := a.toNat * 256 + b.toNat + onesSum rest; x % 65536 + x / 65536

/-- The checksum that complements a sum. -/
def checksum (bs : List Byte) : Nat := let x := onesSum bs; 65535 - (x % 65536 + x / 65536)

/-- TTL or hop limit of a code (NET_STREAM.DSCP_TTL). -/
def ttlOf (code : Nat) : Nat :=
  match code with
  | 0 => 1
  | 1 => 8
  | 2 => 64
  | _ => 255

/-- How a UDP frame is addressed (R217, R227, R230, R231). -/
structure Addressing where
  /-- Destination MAC address, VLAN tag, IPv6, destination IP address as sent, UDP ports, DSCP and TTL code. -/
  mac : List Byte
  tag : Nat
  v6 : Bool
  ip : List Byte
  sport : Nat
  dport : Nat
  dscpTtl : Nat

/-- The addressing of a stream's frames (R223). -/
def State.streamAddress (s : State) (str : Nat) : Addressing where
  mac := bytesLE 4 (s.rd (R.NET_STREAM_MAC_LO.DST_MAC_LO str)) ++ bytesLE 2 (s.rd (R.NET_STREAM_MAC_HI.DST_MAC_HI str))
  tag := s.rd (R.NET_STREAM0.PCP str) * 0x2000 + s.rd (R.NET_STREAM0.VID str)
  v6 := s.on (R.NET_STREAM0.IPV6 str)
  ip := (List.range (if s.on (R.NET_STREAM0.IPV6 str) then 4 else 1)).flatMap fun w =>
    bytesLE 4 (s.rd (R.NET_STREAM_IP.DST_IP str w))
  sport := s.rd (R.NET_STREAM_UDP.SRC_PORT str)
  dport := s.rd (R.NET_STREAM_UDP.DST_PORT str)
  dscpTtl := s.rd (R.NET_STREAM_SEL.DSCP_TTL str)

/-- The addressing of an island's alarm frames, which the spec does not give. [DESIGN CHOICE, log 72] -/
def alarmAddressing (b : Bool) : Addressing :=
  let x := (Config.alarmAddress b).toNat
  let v6 := bit x 88
  { mac := bytesLE 6 (x % 2 ^ 48), tag := (Config.ownTag 0).toNat, v6 := v6, ip := bytesLE (if v6 then 16 else 4) (x / 2 ^ 89)
    sport := bits x 63 48, dport := bits x 79 64, dscpTtl := bits x 87 80 }

/-- The pair's stream source MAC address, its IP address, and the MAC address of the node, as sent (R227). -/
def State.srcMac (s : State) : List Byte := bytesLE 4 (s.rd R.NET_SRC_MAC_LO.VALUE) ++ bytesLE 2 (s.rd R.NET_SRC_MAC_HI.VALUE)
def State.srcIp (s : State) (v6 : Bool) : List Byte :=
  if v6 then (List.range 4).flatMap fun w => bytesLE 4 (s.rd (R.NET_IP6.VALUE w)) else bytesLE 4 (s.rd R.NET_IP4.VALUE)
def State.nodeMac (s : State) : List Byte :=
  bytesLE 4 (s.rd R.NET_NODE_MAC_LO.VALUE) ++ bytesLE 2 (s.rd R.NET_NODE_MAC_HI.VALUE)

/-- The IP and UDP headers and payload of a frame (R227, R231). The flow label of IPv6 is a free value. [DESIGN CHOICE, log 71] -/
def State.ipPacket (s : State) (a : Addressing) (pl : List Byte) : List Byte :=
  let src := s.srcIp a.v6
  let len := pl.length + 8
  let ports := be 2 a.sport ++ be 2 a.dport ++ be 2 len
  let c := checksum (src ++ a.ip ++ be 4 len ++ be 4 17 ++ ports ++ pl)
  let udp := ports ++ be 2 (if c = 0 then 65535 else c) ++ pl
  let cls := a.dscpTtl / 4 * 4
  let ttl := be 1 (ttlOf (a.dscpTtl % 4))
  if a.v6 then be 4 (6 * 2 ^ 28 + cls * 2 ^ 20 + s.freeVal 20) ++ be 2 len ++ be 1 17 ++ ttl ++ src ++ a.ip ++ udp
  else
    let x := be 1 0x45 ++ be 1 cls ++ be 2 (len + 20) ++ be 2 0 ++ be 2 0x4000 ++ ttl ++ be 1 17
    x ++ be 2 (checksum (x ++ src ++ a.ip)) ++ src ++ a.ip ++ udp

/-- The Ethernet frame of a UDP frame, without FCS (R227, R230). -/
def State.ethFrame (s : State) (a : Addressing) (pl : List Byte) : List Byte :=
  a.mac ++ s.srcMac ++ be 2 0x8100 ++ be 2 a.tag ++ be 2 (if a.v6 then 0x86DD else 0x0800) ++ s.ipPacket a pl

/-! ### IEEE 802.1AS (R232) -/

/-- The identity of a port: the MAC address of the node with FFFE in its middle, and the port number. [PRESUMED, log 159] -/
def State.portIdentity (s : State) (p : Nat) : List Byte :=
  s.nodeMac.take 3 ++ be 2 0xFFFE ++ s.nodeMac.drop 3 ++ be 2 (p + 1)

/-- A time in 1/256 ns as ten bytes: seconds, nanoseconds. [PRESUMED, log 159] -/
def ptpTime (t : Nat) : List Byte := be 6 (t / 256000000000) ++ be 4 (t / 256 % 1000000000)

/-- A message of IEEE 802.1AS as its port sends it, from the node MAC (R227, R232). [PRESUMED, log 159] -/
def State.gptpFrame (s : State) (p : Nat) (m : PtpMsg) : List Byte :=
  let msg (ty len flags seq : Nat) (body : List Byte) : List Byte :=
    be 1 (0x10 + ty) ++ be 1 2 ++ be 2 len ++ be 2 0 ++ be 2 flags ++ be 8 0 ++ be 4 0 ++ s.portIdentity p ++ be 2 seq ++ be 2 0 ++ body
  let bytes := match m with
    | .sync seq => msg 0 44 0x200 seq.toNat (List.replicate 10 0)
    | .followUp seq origin => msg 8 44 0 seq.toNat (ptpTime origin.toNat)
    | .pdelayReq seq _ => msg 2 54 0 seq.toNat (List.replicate 20 0)
    | .pdelayResp seq port t2 => msg 3 54 0x200 seq.toNat (ptpTime t2.toNat ++ be 10 port.toNat)
    | .pdelayRespFollowUp seq port t3 => msg 10 54 0 seq.toNat (ptpTime t3.toNat ++ be 10 port.toNat)
    | .other => []
  be 6 0x0180C200000E ++ s.nodeMac ++ be 2 0x8100 ++ be 2 (Config.ownTag 1).toNat ++ be 2 0x88F7 ++ bytes

/-- Queue a message of IEEE 802.1AS on its port (R230). -/
def State.enqueuePtp (s : State) (p : Nat) (m : PtpMsg) : State :=
  s.enqueue p 7 { kind := .gptp m, stream := 0, head := 0, seq := 0, dt := s.now, first := 0, count := 1 }

def State.updPtp (s : State) (p : Nat) (f : Ptp → Ptp) : State :=
  s.updNet fun N => { N with ptp := SMap.upd (fun _ => {}) N.ptp p f }

/-- A message has departed: the egress stamp of a Sync or an answer goes out in its follow-up (R232). -/
def State.ptpDeparted (s : State) (p : Nat) (m : PtpMsg) : State :=
  let at_ := s.now * 256
  match m with
  | .sync seq => s.enqueuePtp p (.followUp seq (BitVec.ofNat 72 at_))
  | .pdelayReq _ _ => s.updPtp p fun x => { x with t1 := some at_ }
  | .pdelayResp seq port _ => s.enqueuePtp p (.pdelayRespFollowUp seq port (BitVec.ofNat 72 at_))
  | _ => s

/-- A new peer-delay exchange of a port. -/
def State.peerDelay (s : State) (p : Nat) : State :=
  let seq := (SMap.get (fun _ => ({} : Ptp)) s.net.ptp p).seq
  (s.updPtp p fun x => { x with seq := (seq + 1) % 65536, t1 := none, t2 := none }).enqueuePtp p
    (.pdelayReq (BitVec.ofNat 16 (seq + 1)) 0)

/-- The master of a domain, grandmaster of its backbone (R360), sends a Sync on each port that has a link.
[DESIGN CHOICE, log 160] -/
def State.sendSync (s : State) (seq : Nat) : State :=
  s.each 4 fun p s => s.when (s.on (R.NET_PORT.LINK p)) fun s => s.enqueuePtp p (.sync (BitVec.ofNat 16 seq))

/-! ### Transmission (R226, R229, R230, R233) -/

/-- The redundancy control trailer (R229): sequence, LanId (0xA on N0, 0xB on N1) and LSDU size, suffix. [PRESUMED, log 70] -/
def rct (seq p lsdu : Nat) : List Byte := be 2 seq ++ be 2 ((0xA + p) * 0x1000 + lsdu % 0x1000) ++ be 2 0x88FB

/-- Put a frame on a port whose link is up. -/
def State.putOnPort (s : State) (p : Nat) (bs : List Byte) : State :=
  s.when (s.on (R.NET_PORT.LINK p)) fun s => s.updNet fun N => { N with onPort := SMap.set (fun _ => []) N.onPort p bs }

/-- Send a frame of the node of port `p`: on both ports with the trailer where PRP is on (R229). -/
def State.sendNode (s : State) (p : Nat) (bs : List Byte) : State :=
  if s.prpPort p then
    let s := s.inc R.NET_PRP.RCT_SEQ
    let t (i : Nat) := bs ++ rct (s.rd R.NET_PRP.RCT_SEQ) i (bs.length - 14 + 6)
    (s.putOnPort 0 (t 0)).putOnPort 1 (t 1)
  else s.putOnPort p bs

/-- Has the port, or under PRP one port of the node, a link (R233)? [DEDUCED, log 73] -/
def State.linked (s : State) (p : Nat) : Bool :=
  s.on (R.NET_PORT.LINK p) || (s.prpPort p && s.on (R.NET_PORT.LINK (1 - p)))

/-- Is a frame one of the node, sent on both ports under PRP: every frame but a safety frame, and the messages of a port's own
IEEE 802.1AS instance (R229, R232)? [PRESUMED, log 159] -/
def FrameKind.ofNode : FrameKind → Bool
  | .alarm _ | .gptp _ => false
  | _ => true

/-- Does a frame leave from the pair's shared addresses (R226, R227)? -/
def FrameKind.shared : FrameKind → Bool
  | .raw b => b
  | .gptp _ => false
  | _ => true

/-- The frame as it leaves, without FCS and trailer. -/
def State.frameBytes (s : State) (p : Nat) (f : EgFrame) : List Byte :=
  match f.kind with
  | .alarm b => s.ethFrame (alarmAddressing b) (s.payload f false)
  | .raw _ => f.body
  | .gptp m => s.gptpFrame p m
  | k => s.ethFrame (s.streamAddress f.stream) (s.payload f (k == .points && bit s.net.gap f.stream))

/-- How long a frame of so many bytes, with FCS, preamble and gap, occupies a port, in ns (R224, R228). -/
def State.wireNs (s : State) (p bytes : Nat) : Nat :=
  let r := s.portMbps p
  if r = 0 then 0 else ((bytes + 24) * 8000 + r - 1) / r

/-- A frame of so many bytes occupies its port, and the queue it leaves pays for it (R230). [PRESUMED, log 162] -/
def State.occupy (s : State) (p q bytes : Nat) (both : Bool) : State :=
  let n := s.wireNs p bytes
  let s := s.updNet fun N => { N with
    busyTo := if both then SMap.set (fun _ => 0) (SMap.set (fun _ => 0) N.busyTo 0 (s.now + n)) 1 (s.now + n)
      else SMap.set (fun _ => 0) N.busyTo p (s.now + n) }
  let sl := s.slope p q
  if sl = 0 then s
  else s.updNet fun N => { N with
    shapers := SMap.upd (fun _ => {}) N.shapers (p * 8 + q) fun x =>
      ⟨x.credit - ((s.portMbps p : Nat) - (sl : Nat) : Int) * (n : Nat), s.now + n⟩ }

/-- The frames of a queue that the device may send: a shadow sends none from the pair's addresses (R226). -/
def State.sendable (s : State) (p q : Nat) : List EgFrame :=
  (s.egress p q).filter fun f => !(s.role == 2 && f.kind.shared)

/-- Does a queue have a frame that it may send now: a shaped queue needs credit (R230)? -/
def State.queueReady (s : State) (p q : Nat) : Bool :=
  s.sendable p q != [] && (s.slope p q == 0 || decide (0 ≤ s.creditNow p q))

/-- Is a port free, and under PRP, for a frame of the node, the other port too? -/
def State.portFree (s : State) (p : Nat) (node : Bool) : Bool :=
  let free (i : Nat) : Bool := decide (SMap.get (fun _ => 0) s.net.busyTo i ≤ s.now)
  free p && (!(node && s.prpPort p) || free (1 - p))

/-- May queue `q` of a port send its next frame now (R230)? A queue waits for a higher one that has a frame it may send. -/
def State.mayTransmit (s : State) (p q : Nat) : Bool :=
  s.queueReady p q && s.portFree p (((s.sendable p q).head?.map fun f => f.kind.ofNode).getD false) &&
    (List.range 8).all fun r => !(decide (q < r) && s.queueReady p r)

/-- A frame leaves its queue: sent, or lost where no link is up (R217, R226, R229, R233).
[DEDUCED, log 68; DESIGN CHOICE, log 72] -/
def State.transmit (s : State) (p q : Nat) (f : EgFrame) : State :=
  let bs := s.frameBytes p f
  let trailer := if f.kind.ofNode && s.prpPort p then 6 else 0
  let up := if f.kind.ofNode then s.linked p else s.on (R.NET_PORT.LINK p)
  let s := s.when up fun s => s.occupy p q (bs.length + trailer) (f.kind.ofNode && s.prpPort p)
  match f.kind with
  | .alarm b =>
    let s := s.when (alarmAddressing b).v6 State.drawn
    (s.putOnPort p bs).updNet fun N => { N with safeSent := f.seq }
  | .raw _ => s.when up fun s => s.sendNode p bs
  | .gptp m => s.when up fun s => (s.putOnPort p bs).ptpDeparted p m
  | k =>
    let s := s.updNet fun N => { N with sentSeq := SMap.set (fun _ => 0) N.sentSeq f.stream f.seq }
    let gap := k == .points && bit s.net.gap f.stream
    if !up then s.add (R.NET_STREAM_LOST.LOST f.stream) (if k = .points then f.recs.length else f.count)
    else
      let s := (s.sendNode p bs).when (s.on (R.NET_STREAM0.IPV6 f.stream)) State.drawn
      s.when gap fun s => s.updNet fun N => { N with gap := clearBit N.gap f.stream }

/-- FRAME_TRANSMIT (R217, R226, R229 to R233): the next frame that the device may send leaves the queue. [DEDUCED, log 73] -/
def execFrameTransmit (t : Time) (p : Fin 4) (q : Fin 8) (s : State) : Host.Outcome State Fault Refusal :=
  s.run t fun s =>
    match s.sendable p q with
    | [] => s
    | f :: _ =>
      if !s.mayTransmit p q then s
      else
        let s := s.settleShaper p q
        (s.updNet fun N => { N with
          queues := SMap.upd (fun _ => []) N.queues (p.val * 8 + q.val) (·.erase f) }).transmit p q f

/-! ### Addresses (R227) -/

/-- Queue a frame that is whole, with best effort. [PRESUMED, log 84] -/
def State.enqueueRaw (s : State) (p : Nat) (shared : Bool) (bs : List Byte) : State :=
  s.enqueue p 0 { kind := .raw shared, stream := 0, head := 0, seq := 0, dt := s.now, first := 0, count := 1, body := bs }

/-- Is the shared address one of IPv6: the device has an IPv6 address and no IPv4 address (R227)? [PRESUMED, log 84] -/
def State.sharesV6 (s : State) : Bool := s.rd R.NET_IP4.VALUE == 0 && (s.srcIp true).any fun b => b != 0

/-- An ARP message: operation, sender's MAC and IPv4 address, target's. [PRESUMED, log 84] -/
def arpFrame (to_ mac : List Byte) (op : Nat) (ip tmac tip : List Byte) : List Byte :=
  to_ ++ mac ++ be 2 0x8100 ++ be 2 (Config.ownTag 2).toNat ++ be 2 0x0806 ++ be 2 1 ++ be 2 0x0800 ++ be 2 0x0604 ++ be 2 op ++
    mac ++ ip ++ tmac ++ tip

/-- A neighbour advertisement of IPv6: flags, the address advertised with its MAC address, and the destination.
[PRESUMED, log 84] -/
def advertFrame (to_ mac : List Byte) (flags : Nat) (ip dst : List Byte) : List Byte :=
  let body (c : Nat) := be 2 0x8800 ++ be 2 c ++ be 4 flags ++ ip ++ be 2 0x0201 ++ mac
  let c := checksum (ip ++ dst ++ be 4 32 ++ be 4 58 ++ body 0)
  to_ ++ mac ++ be 2 0x8100 ++ be 2 (Config.ownTag 2).toNat ++ be 2 0x86DD ++ be 4 (6 * 2 ^ 28) ++ be 2 32 ++ be 1 58 ++
    be 1 255 ++ ip ++ dst ++ body c

/-- The address `ff02::1` of all nodes, and its MAC address. -/
def allNodes : List Byte := be 16 (0xFF02 * 2 ^ 112 + 1)
def allNodesMac : List Byte := be 6 0x333300000001

/-- The announcement of the shared address: a gratuitous ARP, or an unsolicited neighbour advertisement (R227).
[PRESUMED, log 84] -/
def State.announcement (s : State) : List Byte :=
  if s.sharesV6 then advertFrame allNodesMac s.srcMac 0x20000000 (s.srcIp true) allNodes
  else arpFrame (List.replicate 6 0xFF) s.srcMac 1 (s.srcIp false) (List.replicate 6 0) (s.srcIp false)

/-! ### Links and PRP (R229, R233, R234) -/

/-- The supervision frame of the node (R229): SupPath and SupVersion, SupSeq, the type and length of the PRP duplicate-discard TLV,
the MAC address of the node, and the end. [PRESUMED, log 70] -/
def State.supFrame (s : State) : List Byte :=
  be 6 0x01154E000100 ++ s.nodeMac ++ be 2 0x8100 ++ be 2 (Config.ownTag 2).toNat ++ be 2 0x88FB ++ be 2 1 ++ be 2 s.net.supSeq ++
    be 1 20 ++ be 1 6 ++ s.nodeMac ++ List.replicate 30 0

/-- PRP_SUPERVISION (R229): from the node MAC, every SUP_MS. [PRESUMED, log 70; DESIGN CHOICE, log 144] -/
def execPrpSupervision (t : Time) (s : State) : Host.Outcome State Fault Refusal :=
  s.run t fun s =>
    let due := match s.net.supAt with
      | some a => decide (a + s.rd R.NET_PRP.SUP_MS * 2000000 ≤ s.now)
      | none => true
    s.when (s.on R.NET_PRP.EN && due) fun s =>
      (s.enqueueRaw 0 false s.supFrame).updNet fun N => { N with supSeq := (N.supSeq + 1) % 2 ^ 16, supAt := some s.now }

/-- NET_PRP_PLANE (R234): nothing has come on a plane for 3 × SUP_MS. [DESIGN CHOICE, log 144] -/
def execNetPrpPlane (t : Time) (p : Fin 2) (s : State) : Host.Outcome State Fault Refusal :=
  s.run t fun s =>
    s.when (s.on R.NET_PRP.EN &&
      decide (SMap.get (fun _ => 0) s.net.planeAt p + 3 * (s.rd R.NET_PRP.SUP_MS * 2000000) ≤ s.now)) fun s =>
        s.raiseU .netPrpPlane noHead p

/-- A port loses its link (R233). -/
def State.linkDown (s : State) (p : Nat) : State :=
  s.when (s.on (R.NET_PORT.LINK p)) fun s => (s.wr (R.NET_PORT.LINK p) 0).raiseU .netLinkDown noHead p

/-- NET_LINK_DOWN (R233). -/
def execNetLinkDown (t : Time) (p : Fin 4) (s : State) : Host.Outcome State Fault Refusal :=
  s.run t fun s => s.linkDown p

/-- NET_LINK_UP (R234). -/
def execNetLinkUp (t : Time) (p : Fin 4) (s : State) : Host.Outcome State Fault Refusal :=
  s.run t fun s => s.when (!s.on (R.NET_PORT.LINK p) && s.rd (R.NET_PORT.MODE p) != 0) fun s =>
    ((s.wr (R.NET_PORT.LINK p) 1).raiseU .netLinkUp noHead p).condOff .netLinkDown p

end Sys2Proof.Machine
end

