-- ==== Sys2Proof/Machine/Power.lean ====
section
/-! DEFINITION. Power steward and thermal guard Nichrome (18_power_thermal.md, R428 to R445). -/

namespace Sys2Proof.Machine

/-! ### The steward (R430, R431) -/

/-- Grant a waiting request: it leaves the queue, its units are held, and a head's dwell has its leave (R433, R434). -/
def State.grantLeave (s : State) (l : Leave) : State :=
  let s := s.updPwr fun p => { p with
    waiting := p.waiting.filter (·.who != l.who)
    grants := p.grants ++ [{ l with at_ := s.now }] }
  match l.who with
  | .dwell h => (s.updPower h fun p => { p with units := p.units + l.units }).dwellGranted h
  | _ => s

/-- The requests of one class, oldest first. -/
def ofClass (c : Nat) (q : List Leave) : List Leave := q.filter fun l => l.who.cls == c

/-- The order of class, then age (R430). -/
def classThenAge (q : List Leave) : List Leave := ofClass 1 q ++ ofClass 2 q ++ ofClass 3 q

/-- The loop of R430 over the requests in order: `up` units granted so far in this step, `room` = 8 + rel. -/
def State.grantLoop (guardWho : Option Requester) (room : Nat) : List Leave → Int → Nat → State → State
  | [], _, _, s => s
  | q :: qs, free, up, s =>
    if free < q.units then
      if guardWho = some q.who then s else s.grantLoop guardWho room qs free up
    else if room < up + q.units then s
    else (s.grantLeave q).grantLoop guardWho room qs (free - q.units) (up + q.units)

/-- What the steward may still grant: B − BASE − SAF − granted − P (R430). -/
def State.freeUnits (s : State) : Int :=
  (s.budget : Int) - s.pwr.base - s.rd R.PWR_CFG.SAFE_RES - s.pwr.granted - s.pwr.released

/-- One step of the steward (R430). -/
def State.stewardStep (s : State) : State :=
  let rel := min s.pwr.released 8
  let s := s.updPwr fun p => { p with released := p.released - rel }
  let waiting := s.pwr.waiting.filter fun l => l.at_ < s.now
  let saf := ofClass 0 waiting
  let up := saf.foldl (fun a l => a + l.units) 0
  let s := saf.foldl State.grantLeave s
  let others := waiting.filter fun l => l.who.cls != 0
  let guardReq := others.head?.filter fun g => g.at_ + 1000 * s.rd R.PWR_CFG.STARVE ≤ s.now
  let order := match guardReq with
    | none => classThenAge others
    | some g => g :: classThenAge (others.filter (·.who != g.who))
  (s.grantLoop (guardReq.map (·.who)) (8 + rel) order s.freeUnits up).showPower

/-- Requests deferred beyond STARVE are counted and reported once (R431). -/
def State.starve (s : State) : State :=
  let late (l : Leave) : Bool :=
    l.who.cls != 0 && !l.starved && decide (l.at_ + 1000 * s.rd R.PWR_CFG.STARVE < s.now)
  let n := (s.pwr.waiting.filter late).length
  let s := s.updPwr fun p => { p with
    waiting := p.waiting.map fun l => { l with starved := l.starved || late l } }
  s.each n fun _ s => (s.inc R.PWR_CNT_STARVE.COUNT).raise .pwrStarve noHead

/-- Retraining gives its leave back when its pause, at most one step long, is over (R385, R432); so does a snapshot readout,
which SNAP_READ performs at once. [DEDUCED, log 37] -/
def State.retrainOver (s : State) : State :=
  let excess := s.pwr.grants.filter fun l => (match l.who with | .retrain _ | .snapshot => true | _ => false) && decide (l.at_ < s.now)
  excess.foldl (fun s l => s.leaveEnd l.who) s

/-- STEWARD_STEP (R430), at a DT that is a multiple of 1,000 ns, once. [DEDUCED, log 37; DESIGN CHOICE, log 144] -/
def execStewardStep (t : Time) (s : State) : Host.Outcome State Fault Refusal :=
  s.run t fun s => s.when (s.now % 1000 == 0 && s.pwr.stepAt != some s.now) fun s =>
    (s.updPwr fun p => { p with stepAt := some s.now }).refillPool.retrainOver.stewardStep.starve

/-! ### Sensors (R436 to R438) -/

def sensorDefault (_ : Nat) : Sensor := {}

/-- Sensor `i` of Nichrome. -/
def State.sensor (s : State) (i : Nat) : Sensor := SMap.get sensorDefault s.thm.sensors i

/-- One reading of sensor `i`: it is faulty when its count lies outside the range or has not changed for 8 rounds, and
until it has read within range for 8 rounds again (R437). [DEDUCED, log 131] -/
def State.readSensor (s : State) (i : Nat) (r : SensorReading) : State :=
  let old := s.sensor i
  let same := if old.hist.isEmpty ∨ old.count ≠ r.count.toNat then 0 else old.same + 1
  let good := if r.inRange then old.good + 1 else 0
  let bad := !r.inRange || decide (8 ≤ same)
  let was := s.on (R.THM_SENSOR.FAULTY i)
  let faulty := bad || (was && decide (good < 8))
  let new : Sensor := { hist := (r.temp.toInt :: old.hist).take 16, count := r.count.toNat, same := same, good := good }
  let s := s.updThm fun m => { m with sensors := SMap.set sensorDefault m.sensors i new }
  let s := (s.wrS (R.THM_SENSOR.TEMP i) r.temp.toInt).wrB (R.THM_SENSOR.FAULTY i) faulty
  if faulty ∧ ¬ was then s.raiseU .thmSensorFail noHead i
  else if was ∧ ¬ faulty then s.condOff .thmSensorFail i
  else s

/-- The sensors that are not faulty. -/
def State.goodSensors (s : State) : List Nat := indices 48 fun i => !s.on (R.THM_SENSOR.FAULTY i)

/-- The largest of a list of signed numbers. -/
def maxI : List Int → Option Int
  | [] => none
  | x :: xs => some (xs.foldl max x)

/-- Tj: the highest temperature over the sensors that are not faulty (R436). -/
def State.tj (s : State) : Option Int := maxI (s.goodSensors.map fun i => s.rdS (R.THM_SENSOR.TEMP i))

/-- The largest rise over RISE_N rounds of the sensors that are not faulty, in 1/16 °C (R438). -/
def State.largestRise (s : State) : Option Int :=
  let n := s.rd R.THM_CFG.RISE_N
  maxI (s.goodSensors.filterMap fun i =>
    let h := (s.sensor i).hist
    match h[0]?, h[n]? with
    | some a, some b => some (a - b)
    | _, _ => none)

/-- Is the rise above `c` °C/s (R438)? -/
def State.riseAbove (s : State) (rise : Option Int) (c : Int) : Bool :=
  match rise with
  | none => false
  | some d => c * 16 * (s.rd R.THM_CFG.RISE_N * s.periodTP : Nat) < d * 1000000000

/-- Show Tj and the rate; where no sensor gives one, or the rate does not fit its field, the value is free. [DEDUCED, log 131] -/
def State.showThermal (s : State) : State :=
  let s := match s.tj with
    | some t => s.wrS R.THM_STATUS.TJ t
    | none => (s.wr R.THM_STATUS.TJ (s.freeVal 16)).drawn
  match s.largestRise with
  | none => (s.wr R.THM_RATE.RATE (s.freeVal 16)).drawn
  | some d =>
    let den := 16 * s.rd R.THM_CFG.RISE_N * s.periodTP
    let num := d * 10000000000
    if -(32768 * den : Int) < num ∧ num < (32767 * den : Int) then s.wrRound R.THM_RATE.RATE num den
    else (s.wr R.THM_RATE.RATE (s.freeVal 16)).drawn

/-! ### Conditions of Table 18.2 (R439) -/

/-- The bit of a condition in THM_STATUS.COND. -/
def condBit (i : Nat) : FRef := ⟨R.THM_STATUS.addr, 16 + i, 16 + i⟩

/-- Evaluate condition `i`: set raises its event, clear clears it. -/
def State.cond (s : State) (i : Nat) (e : Event) (set clear : Bool) : State :=
  let was := s.on (condBit i)
  if !was && set then (s.wr (condBit i) 1).raise e noHead
  else if was && clear then s.wr (condBit i) 0
  else s

/-- Take grants of a class back, youngest first, until the units kept fit (R440). -/
def recallLoop (limit : Int) : List Leave → Int → List Leave
  | [], _ => []
  | l :: ls, total => if total ≤ limit then [] else l :: recallLoop limit ls (total - l.units)

/-- The recalls at the start of a cut (R440): MAINTENANCE, then MEMORY; a recalled requester releases its units and asks
again. -/
def State.recall (s : State) : State :=
  let limit := (s.budget : Int) - s.pwr.base - s.rd R.PWR_CFG.SAFE_RES
  let order := (ofClass 3 s.pwr.grants).reverse ++ (ofClass 2 s.pwr.grants).reverse
  let back := recallLoop limit order ((s.pwr.granted + s.pwr.released : Nat) : Int)
  back.foldl (fun s l =>
    ((s.inc R.PWR_CNT_RECALL.COUNT).leaveRelease l.who l.units).leaveRequest l.who l.units) s

/-- The cut of R440 follows LIMIT and RISE_CUT. -/
def State.followCut (s : State) : State :=
  let cut := s.on (condBit 2) || s.on (condBit 4)
  let was := s.on R.PWR_STATUS.CUT
  let s := s.wrB R.PWR_STATUS.CUT cut
  let s := if cut && !was then (s.raise .pwrCut noHead).recall
    else if was && !cut then s.condOff .pwrCut noHead
    else s
  (s.eachHead fun h s => s.refreshThermal h).showPower

/-- The relief of the HBM rate (Table 18.2, R387): requests 4.8 Gb/s on setting and 6.4 Gb/s on clearing. -/
def State.hbmRelief (s : State) (t0 t1 : Int) : State :=
  let lim : Int := s.rd R.THM_CFG.HBM_RELIEF * 16
  let cool := t0 < lim - 80 && t1 < lim - 80
  let s := s.updThm fun m => { m with reliefCool := if cool then m.reliefCool + 1 else 0 }
  let was := s.on (condBit 1)
  let s := s.cond 1 .thmHbmRelief (lim ≤ t0 || lim ≤ t1) (10 ≤ s.thm.reliefCool)
  let is := s.on (condBit 1)
  if is && !was then s.rateRequest 1
  else if was && !is then s.rateRequest 0
  else s

/-- THERMAL_ROUND (R436 to R440): the readings of the 48 sensors, H first at index 0, and the temperatures of the two
stacks in 1/16 °C. Rounds are one integration period apart. [DESIGN CHOICE, log 144] -/
def execThermalRound (t : Time) (readings : List SensorReading) (hbm0 hbm1 : BitVec 16) (s : State) :
    Host.Outcome State Fault Refusal :=
  s.run t fun s => s.when (s.dueAgain s.thm.roundAt s.periodTP) fun s =>
    let s := s.updThm fun m => { m with roundAt := some s.now }
    let s := (readings.take 48).zipIdx.foldl (fun s (r, i) => s.readSensor i r) s
    let s := s.showThermal
    let tj := s.rdS R.THM_STATUS.TJ
    let rise := s.largestRise
    let hyst : Int := s.rd R.THM_CFG.HYST * 16
    let warn : Int := s.rd R.THM_CFG.WARN * 16
    let limit : Int := s.rd R.THM_CFG.LIMIT * 16
    let slow := !s.riseAbove rise 5
    let s := s.updThm fun m => { m with
      riseCool := if slow then m.riseCool + 1 else 0
      coolSince := if s.goodSensors.all fun i => s.rdS (R.THM_SENSOR.TEMP i) < 1600 then m.coolSince.or (some s.now)
        else none }
    let s := s.cond 0 .thmWarn (warn ≤ tj) (tj < warn - hyst)
    let s := s.hbmRelief hbm0.toInt hbm1.toInt
    let s := s.cond 2 .thmLimit (limit ≤ tj) (tj < limit - hyst)
    let s := s.cond 3 .thmRise (!slow) slow
    let s := s.cond 4 .thmRiseCut (s.riseAbove rise 20) (5 ≤ s.thm.riseCool)
    let s := s.cond 5 .thmCold (tj < -640) (-608 ≤ tj)
    s.followCut

/-! ### Head temperature (R444) -/

/-- The head temperature becomes bad or good again. -/
def State.setHeadBad (s : State) (h : Nat) (bad : Bool) : State :=
  let was := bit s.thm.headBad h
  let s := s.updThm fun m => { m with headBad := if bad then setBit m.headBad h else clearBit m.headBad h }
  let s := s.when (bad && !was) fun s => s.raise .thmHeadRange h
  s.refreshThermal h

/-- A fresh head temperature (index 0 of HK_UP, R399, R444). -/
def State.headTemperature (s : State) (h : Nat) (v : Int) : State :=
  let lo := s.rdS (R.THM_HEAD.TMIN h)
  let hi := s.rdS (R.THM_HEAD.TMAX h)
  let s := s.updThm fun m => { m with
    headAt := SMap.set (fun _ => 0) m.headAt h s.now, headTemp := SMap.set (fun _ => 0) m.headTemp h (wrapS 24 v) }
  if v < lo ∨ hi < v then s.setHeadBad h true
  else if lo + 32 ≤ v ∧ v ≤ hi - 32 then s.setHeadBad h false
  else s

/-- HEAD_TEMP_TIMEOUT (R444): no index-0 cell for 10 ms. [DESIGN CHOICE, log 144] -/
def execHeadTempTimeout (t : Time) (h : HeadIx) (s : State) : Host.Outcome State Fault Refusal :=
  s.run t fun s => s.when (s.dueAgain (some (SMap.get (fun _ => 0) s.thm.headAt h)) 10000000) fun s =>
    s.setHeadBad h true

/-! ### Windows for writes (R443) -/

/-- A flash or fuse operation is refused by its window. -/
def State.writeRefused (s : State) : State :=
  (s.inc R.THM_CNT_WREFUSE.COUNT).raise .thmWriteRefused noHead

/-- Is a fuse step inside its window: Tj from 0 °C to 85 °C? -/
def State.fuseWindow (s : State) : Bool :=
  let tj := s.rdS R.THM_STATUS.TJ
  0 ≤ tj && tj ≤ 85 * 16

end Sys2Proof.Machine
end

