-- ==== Sys2Proof/Machine/Lanes.lean ====
section
/-! DEFINITION. Lanes and port framing (16_lanes.md, R393 to R411): lane sets, training, loss, re-striping, reports, and
the head-link cells HK_UP and MGMT_UP. Ports are numbered H0 to H15, C0 to C3 (16 to 19), K0 to K3 (20 to 23), P0 and P1
(24, 25). -/

namespace Sys2Proof.Machine

/-! ### State -/

def portDefault (_ : Nat) : PortSt := {}

def State.port (s : State) (p : Nat) : PortSt := SMap.get portDefault s.lanes.port p

def State.updPort (s : State) (p : Nat) (f : PortSt → PortSt) : State :=
  { s with lanes := { s.lanes with port := SMap.upd portDefault s.lanes.port p f } }

/-- Port states of LANE_QSTATUS.PORT_STATE. -/
abbrev psOff : Nat := 0
abbrev psTrain : Nat := 1
abbrev psUp : Nat := 2
abbrev psDegraded : Nat := 3
abbrev psDown : Nat := 4

def State.portState (s : State) (p : Nat) : Nat := s.rd (R.LANE_QSTATUS.PORT_STATE (portQuad p))
def State.txSet (s : State) (p : Nat) : Nat := s.rd (R.LANE_QSTATUS.TX_SET (portQuad p))
def State.rxSet (s : State) (p : Nat) : Nat := s.rd (R.LANE_QSTATUS.RX_SET (portQuad p))

/-- Is a port framing data (UP or DEGRADED)? -/
def State.portUp (s : State) (p : Nat) : Bool := s.portState p == psUp || s.portState p == psDegraded

/-- Bits of one mask and not of another. -/
def without (a b : Nat) : Nat := a &&& (a ^^^ b)

/-- The lane for MARKERs (R408): lane 0 where it is in the set, else the lowest one. -/
def lowLane (m : Nat) : Nat := ((List.range 8).find? fun i => bit m i).getD 8

/-! ### Port states (R401, R402, R406) -/

/-- HEADLINK of a head link: either direction has no lane in its set (R402). -/
def State.headlink (s : State) (p : Nat) : State :=
  if 16 ≤ p then s
  else
    let none_ := s.txSet p == 0 || s.rxSet p == 0 || s.portState p == psOff
    let s := s.updPort p fun x => { x with noLane := if none_ then x.noLane.or (some s.now) else none }
    (s.setInh p .headlink none_).tryLeaveOff p

/-- The state of a port from its lane sets, with the events of its changes. [DEDUCED, log 77] -/
def State.showPort (s : State) (p : Nat) : State :=
  let cur := s.portState p
  if cur = psOff then s
  else
    let tx := s.txSet p
    let rx := s.rxSet p
    let q := portQuad p
    let dead := tx == 0 || (rx == 0 && rxLanes p != 0)
    let st := if tx = txLanes p ∧ rx = rxLanes p then psUp
      else if !dead then psDegraded else if cur = psTrain then psTrain else psDown
    let s := s.wr (R.LANE_QSTATUS.PORT_STATE q) st
    let s := s.each 8 fun i s => s.when (bit (txLanes p ||| rxLanes p) i) fun s =>
      s.wrB (R.LANE_STATUS.EXCLUDED (laneQuad p i) (i % 4))
        ((bit (txLanes p) i && !bit tx i) || (bit (rxLanes p) i && !bit rx i))
    let s := s.when (st == psDown && cur != psDown) fun s =>
      (s.each 8 fun i s => s.updLane (laneQuad p i) (i % 4) fun x => { x with
        failed := false
        trainAt := if bit (rxLanes p) i && !s.on (R.LANE_STATUS.CW_LOCK (laneQuad p i) (i % 4)) then some s.now
          else x.trainAt }).raiseU .portDown noHead p
    let s := s.when (st != psDown && cur == psDown) fun s => s.condOff .portDown p
    let s := s.when (st == psUp) fun s => s.condOff .portRestripe p
    s.headlink p

/-- A lane set of a port changes after a failure or a restoration: a re-stripe, which is counted (R406, R408).
[DEDUCED, log 76, 78] -/
def State.restripe (s : State) (p tx rx : Nat) : State :=
  let q := portQuad p
  let moved := lowLane tx != lowLane (s.txSet p) || lowLane rx != lowLane (s.rxSet p)
  let was := s.portUp p
  let s := (s.wr (R.LANE_QSTATUS.TX_SET q) tx).wr (R.LANE_QSTATUS.RX_SET q) rx
  let s := s.updPort p fun x => { x with skip := if moved then 2 else x.skip }
  let s := s.showPort p
  if !was then s
  else
    let s := s.inc (R.LANE_QCNT_RESTRIPE.COUNT q)
    s.when (s.portState p == psDegraded) fun s => s.raiseU .portRestripe noHead p

/-- Port lanes with a transmit fault. -/
def State.txFaults (s : State) (p : Nat) : Nat :=
  maskOf 8 fun i => bit (txLanes p) i && s.on (R.LANE_STATUS.TX_FAULT (laneQuad p i) (i % 4))

/-- The transmit set that reports and faults call for becomes pending when it differs from the one in use (R405). -/
def State.txPend (s : State) (p : Nat) : State :=
  let want := without ((s.port p).report.getD (txLanes p) &&& txLanes p) (s.txFaults p)
  s.updPort p fun x => { x with pend := if want = s.txSet p then none else some want, pendAt := s.now }

/-- The lane reference pair of a quad (R423). -/
def lrefPair (q : Nat) : Nat :=
  if q < 8 then 0 else if q < 16 then 1 else if q < 20 then 2 else if q < 24 then 3 else if q < 28 then 4
  else if q < 32 then 5 else if q < 34 then 6 else if q < 35 then 7 else 8

/-- Is a quad in use: its port has a rate, or it serves a network port that has a mode? -/
def State.quadOn (s : State) (q : Nat) : Bool :=
  match quadPort q with
  | some p => s.on (R.LANE_QCFG.RATE (portQuad p))
  | none => s.on (R.NET_PORT.MODE (2 * (q - 34))) || s.on (R.NET_PORT.MODE (2 * (q - 34) + 1))

/-- A port enabled at seal begins to train (R401, R405). -/
def State.portStart (s : State) (p : Nat) : State :=
  let q := portQuad p
  if s.rd (R.LANE_QCFG.RATE q) = 0 then s
  else
    let s := s.each (if p < 16 ∨ 24 ≤ p then 1 else 2) fun i s =>
      s.wrB (R.LANE_QSTATUS.PLL_LOCK (q + i)) (s.bitOf R.CLK_STATUS.LREF_OK (lrefPair (q + i)))
    let s := ((s.wr (R.LANE_QSTATUS.PORT_STATE q) psTrain).wr (R.LANE_QSTATUS.TX_SET q) (txLanes p)).wr
      (R.LANE_QSTATUS.RX_SET q) 0
    let s := s.each 8 fun i s => s.when (bit (rxLanes p) i) fun s =>
      s.updLane (laneQuad p i) (i % 4) fun x => { x with trainAt := some s.now }
    s.showPort p

/-! ### Lanes (R401, R403, R407) -/

/-- Does a lane receive for its port, and does it transmit? Asleep, unused or OFF: no (R394). -/
def State.laneRx (s : State) (q l : Nat) : Bool :=
  match quadPort q with
  | some p => bit (rxLanes p) (portLane p q l) && !s.on (R.LANE_CFG.RX_SLEEP q l) && s.portState p != psOff
  | none => s.netLane q l && !s.on (R.LANE_CFG.RX_SLEEP q l)

def State.laneTx (s : State) (q l : Nat) : Bool :=
  match quadPort q with
  | some p => bit (txLanes p) (portLane p q l) && !s.on (R.LANE_CFG.TX_SLEEP q l) && s.portState p != psOff
  | none => s.netLane q l && !s.on (R.LANE_CFG.TX_SLEEP q l)

/-- LANE_TRAIN_TIMEOUT (R401): the receiver is not locked 100 ms after training began; the next try begins 1 s after this one.
[DEDUCED, log 76; DESIGN CHOICE, log 144] -/
def execLaneTrainTimeout (t : Time) (q : Fin 36) (l : Fin 4) (s : State) : Host.Outcome State Fault Refusal :=
  s.run t fun s =>
    match (s.lane q l).trainAt with
    | none => s
    | some a =>
      s.when (s.laneRx q l && !s.on (R.LANE_STATUS.CW_LOCK q l) && decide (a + 100000000 ≤ s.now)) fun s =>
        (s.updLane q l fun x => { x with trainAt := some (a + 1000000000) }).raiseU .laneTrainFail noHead (4 * q.val + l.val)

/-- CODEWORD_LOCK (R401), with the PLL of the quad locked: a lane that has not failed joins RX_OK; one that has failed waits for
R407. [DEDUCED, log 76] -/
def execCodewordLock (t : Time) (q : Fin 36) (l : Fin 4) (pos : BitVec 4) (s : State) : Host.Outcome State Fault Refusal :=
  s.run t fun s =>
    if !s.laneRx q l || !s.on (R.LANE_QSTATUS.PLL_LOCK q) then s
    else
      let s := s.updLane q l fun x => { x with
        trainAt := none, cleanAt := if s.on (R.LANE_STATUS.CW_LOCK q l) then x.cleanAt else s.now }
      let s := (s.wr (R.LANE_STATUS.CW_LOCK q l) 1).wr (R.LANE_STATUS.POS q l) pos.toNat
      let s := (s.wr (R.LANE_STATUS.LOS q l) 0).wr (R.LANE_STATUS.LOL q l) 0
      let s := s.updLane q l fun x => { x with failing := s.on (R.LANE_STATUS.TX_FAULT q l) }
      match quadPort q with
      | none => s
      | some p =>
        if (s.lane q l).failed ∨ s.on (R.LANE_STATUS.HELD q l) then s
        else (s.wr (R.LANE_QSTATUS.RX_SET (portQuad p)) (setBit (s.rxSet p) (portLane p q l))).showPort p

/-- A failure is counted and dated; the third within 10 s of the first holds the lane out (R403, R407). -/
def State.countFailure (s : State) (q l : Nat) (e : Event) : State :=
  let unit := 4 * q + l
  let s := (s.inc (R.LANE_CNT_LOSS.COUNT q l)).raiseU e noHead unit
  let s := s.updLane q l fun x =>
    let fresh := x.fails = 0 || decide (x.firstAt + 10000000000 < s.now)
    { x with failing := true, failed := true, cleanAt := s.now, firstAt := if fresh then s.now else x.firstAt
             fails := if fresh then 1 else x.fails + 1 }
  s.when (decide (3 ≤ (s.lane q l).fails) && !s.on (R.LANE_STATUS.HELD q l)) fun s =>
    (s.wr (R.LANE_STATUS.HELD q l) 1).raiseU .laneHeld noHead unit

/-- A lane fails (R403); a network port without one of its lanes has no link (R409). [DEDUCED, log 76] -/
def State.laneFail (s : State) (q l : Nat) (c : LaneCause) : State :=
  if !(if c = .txFault then s.laneTx q l else s.laneRx q l) then s
  else
    let was := (s.lane q l).failing
    let live := c == .txFault || s.on (R.LANE_STATUS.CW_LOCK q l)
    let s := match c with
      | .los => s.wr (R.LANE_STATUS.LOS q l) 1
      | .txFault => s.wr (R.LANE_STATUS.TX_FAULT q l) 1
      | _ => s.wr (R.LANE_STATUS.LOL q l) 1
    let s := s.when (c != .txFault) fun s => (s.wr (R.LANE_STATUS.CW_LOCK q l) 0).wr (R.LANE_STATUS.POS q l) 0xF
    let s := s.when (live && !was) fun s => s.countFailure q l (if c = .los ∨ c = .txFault then .laneLos else .laneLol)
    match quadPort q with
    | none => s.linkDown (netPort q l)
    | some p =>
      let i := portLane p q l
      if c = .txFault then s.txPend p
      else s.when (bit (s.rxSet p) i) fun s => s.restripe p (s.txSet p) (clearBit (s.rxSet p) i)

/-- LANE_FAILURE (R403). -/
def execLaneFailure (t : Time) (q : Fin 36) (l : Fin 4) (c : LaneCause) (s : State) : Host.Outcome State Fault Refusal :=
  s.run t fun s => s.laneFail q l c

/-- A lane returns to RX_OK, and its transmitter to the lanes without fault (R405, R407). [DEDUCED, log 77] -/
def State.laneRestore (s : State) (q l : Nat) : State :=
  let s := s.updLane q l fun x => { x with failed := false }
  match quadPort q with
  | none => s.wr (R.LANE_STATUS.TX_FAULT q l) 0
  | some p =>
    let i := portLane p q l
    let s := s.when (s.on (R.LANE_STATUS.TX_FAULT q l)) fun s => (s.wr (R.LANE_STATUS.TX_FAULT q l) 0).txPend p
    s.when (s.laneRx q l && s.on (R.LANE_STATUS.CW_LOCK q l) && !bit (s.rxSet p) i) fun s =>
      s.restripe p (s.txSet p) (setBit (s.rxSet p) i)

/-- LANE_READD (R407): a failed lane has run for 100 ms without a cause. [DESIGN CHOICE, log 144] -/
def execLaneReadd (t : Time) (q : Fin 36) (l : Fin 4) (s : State) : Host.Outcome State Fault Refusal :=
  s.run t fun s =>
    let q0 := match quadPort q with | some p => portQuad p | none => q.val
    if (s.lane q l).failed && decide ((s.lane q l).cleanAt + 100000000 ≤ s.now) && !s.on (R.LANE_STATUS.HELD q l) && s.on (R.LANE_QCFG.AUTO_READD q0) &&
        !(s.laneRx q l && !s.on (R.LANE_STATUS.CW_LOCK q l)) then
      (s.updLane q l fun x => { x with failing := false }).laneRestore q l
    else s

/-- Held lanes of a quad are released (R407). [DEDUCED, log 77] -/
def State.readd (s : State) (q lanes : Nat) : State :=
  s.each 4 fun l s => s.when (bit lanes l && s.on (R.LANE_STATUS.HELD q l)) fun s =>
    ((s.wr (R.LANE_STATUS.HELD q l) 0).updLane q l fun x => { x with fails := 0, failing := false }).laneRestore q l

/-- LANE_READD_WRITE (R407, R494). -/
def execLaneReaddWrite (t : Time) (i : Iface) (q : Fin 36) (lanes : BitVec 4) (s : State) :
    Host.Outcome State Fault Refusal :=
  s.run t fun s =>
    if lanes = 0 then s
    else if !s.mayConfig i then s.accessError i true (R.LANE_QCTL.addr q) 2
    else s.readd q lanes.toNat

/-! ### Link reports (R404, R405) -/

/-- Held lanes of a port, bit per port lane. -/
def State.heldLanes (s : State) (p : Nat) : Nat :=
  maskOf 8 fun i => bit (txLanes p ||| rxLanes p) i && s.on (R.LANE_STATUS.HELD (laneQuad p i) (i % 4))

/-- A report of RX_OK (R404, Tables 16.3 and 16.4). -/
def State.reportBytes (s : State) (p : Nat) : List Byte :=
  let n := (s.port p).reports
  if p < 16 then headCell 6 n (pack [(2, s.rxSet p % 16), (2, n)])
  else
    let bs := pack [(2, 0x4E4C), (1, 1), (1, 1), (1, s.rxSet p), (1, s.heldLanes p), (2, 0), (4, n)]
    bs ++ bytesLE 4 (crc32c bs)

/-- Is a report of a port due: its RX_OK has changed since the last one, or 100 µs have passed (R404)? -/
def State.reportDue (s : State) (p : Nat) : Bool :=
  (s.port p).sentSet != s.rxSet p || s.dueAgain (s.port p).sentAt 100000

/-- LINK_REPORT_SEND (R404): ports with both directions only. [DESIGN CHOICE, log 144] -/
def execLinkReportSend (t : Time) (p : Fin 26) (s : State) : Host.Outcome State Fault Refusal :=
  s.run t fun s =>
    if rxLanes p = 0 ∨ s.portState p = psOff ∨ ¬ s.reportDue p then s
    else s.updPort p fun x => { x with
      sent := s.reportBytes p, reports := (x.reports + 1) % 2 ^ 32, sentAt := some s.now, sentSet := s.rxSet p }

/-- LINK_REPORT_RECEIVE (R405). -/
def execLinkReportReceive (t : Time) (p : Fin 26) (good : Bool) (rxOk : BitVec 8) (s : State) :
    Host.Outcome State Fault Refusal :=
  s.run t fun s =>
    if !good || rxLanes p == 0 || s.portState p == psOff then s
    else (s.updPort p fun x => { x with report := some rxOk.toNat }).txPend p

/-- TRANSMIT_SET_APPLY (R405, R406), at least 200 ns after the report or the fault. [DEDUCED, log 76; DESIGN CHOICE, log 144] -/
def execTransmitSetApply (t : Time) (p : Fin 26) (s : State) : Host.Outcome State Fault Refusal :=
  s.run t fun s =>
    match (s.port p).pend with
    | none => s
    | some m => if s.now < (s.port p).pendAt + 200 then s else (s.updPort p fun x => { x with pend := none }).restripe p m (s.rxSet p)

/-- HEADLINK_FAULT (R31, R402): a direction has had no lane for 50 µs. [DESIGN CHOICE, log 144] -/
def execHeadlinkFault (t : Time) (h : HeadIx) (s : State) : Host.Outcome State Fault Refusal :=
  s.run t fun s =>
    s.when ((s.port h).noLane.any fun a => decide (a + 50000 ≤ s.now)) fun s => s.headFault h 1

/-! ### Cells from the head (R399, R400) -/

/-- HK_UP_RECEIVE (R399, R444): the head temperature is value 0; the other values belong to the head. -/
def execHkUpReceive (t : Time) (h : HeadIx) (rx : LinkRx) (values : List (BitVec 8 × BitVec 24)) (s : State) :
    Host.Outcome State Fault Refusal :=
  s.run t fun s =>
    let s := s.codeword h rx
    if !linkGood rx then s
    else match values.find? (·.1 == 0) with
      | some (_, v) => s.headTemperature h (sext 24 v.toNat)
      | none => s

/-- MGMT_UP_RECEIVE (R399): the answer to a management request of the firmware. -/
def execMgmtUpReceive (t : Time) (h : HeadIx) (rx : LinkRx) (status : BitVec 8) (data : Word) (tag : BitVec 16)
    (s : State) : Host.Outcome State Fault Refusal :=
  s.run t fun s => (s.codeword h rx).when (linkGood rx) fun s =>
    { s with lanes := { s.lanes with
      mgmt := SMap.set (fun _ => (0, 0, 0)) s.lanes.mgmt h (status.toNat, data.toNat, tag.toNat) } }

end Sys2Proof.Machine
end

