-- ==== Sys2Proof/Machine/Pair.lean ====
section
/-! DEFINITION. Twin pairs (13_twin_pair.md, R328 to R354): heartbeats, roles, the token, following the active, digests
and the catch-up of a joining shadow. Both islands of a twin decide alike; the 100 ns between the changes of the two token
lines pass within a command. -/

namespace Sys2Proof.Machine

abbrev roleAlone : Nat := 0
abbrev roleActive : Nat := 1
abbrev roleShadow : Nat := 2

abbrev syncNone : Nat := 0
abbrev syncJoining : Nat := 1
abbrev syncCatchup : Nat := 2
abbrev syncInSync : Nat := 3
abbrev syncDiverged : Nat := 4

def State.sync (s : State) : Nat := s.rd R.PAIR_STATUS.SYNC

/-- TOKEN_IN as the islands read it: CONFLICT while a clamp of one of its lines conducts or has just conducted (R506). -/
def State.tokenIn (s : State) : Nat :=
  if s.clampedIn 6 || s.clampedIn 7 then 3 else s.rd R.PAIR_STATUS.TOKEN_IN

/-- Do the partner's lines leave the token free (RELEASE or DEAD)? -/
def State.tokenFree (s : State) : Bool := s.tokenIn < 2

/-- The serial number of the device. -/
def State.serial (s : State) : Nat := s.rd64 R.SEC_SERIAL_LO.SERIAL R.SEC_SERIAL_HI.SERIAL

/-- The first 8 bytes of the image digest (R464). -/
def State.cfgDigest (s : State) : Nat := s.rd64 (R.SEC_DIGEST.DIGEST 0) (R.SEC_DIGEST.DIGEST 1)

/-- Is there a fault in the token lines (R337)? -/
def State.showTokenFault (s : State) : State :=
  s.wrB R.PAIR_STATUS.TOKEN_FAULT (s.pair.ownFault || s.pair.parFault)

/-! ### FIT (R343) -/

/-- FIT of a shadow. A shadow that becomes FIT has rejoined (R349). -/
def State.refreshFit (s : State) : State :=
  let ok := s.rd R.PAIR_STATUS.ROLE == roleShadow && decide (2 ≤ s.sync) && !s.pair.ownFault &&
    match s.pair.partner with
    | some p => (List.range 16).all fun h =>
        !((p.heads[h]?.map HbHead.hstate).getD 0 == 2) || !s.blocked h
    | none => false
  (s.wrB R.PAIR_STATUS.FIT ok).updPair fun p => { p with released := p.released && !ok }

/-! ### Heartbeats as sent (R335, Table 13.2) -/

/-- The 384 bytes of the heartbeat. -/
def State.heartbeat (s : State) : List Byte :=
  let flags := s.rd R.PAIR_STATUS.ROLE + 4 * s.sync + 32 * s.rd R.PAIR_STATUS.TOKEN_OUT + 128 * s.tokenIn +
    512 * flag s.pair.handover + 1024 * s.rd R.PAIR_STATUS.FIT + 2048 * s.devState
  let heads := (List.range 16).flatMap fun h =>
    let c := (s.head h).scan
    let last := ((s.head h).fire.shots.head?.map Shot.k).getD 0
    pack [(4, s.rd (R.SCAN_FRAME_NUM.FRAME h)),
      (4, s.rd (R.SCAN_POS.DWELL h) % 2 ^ 16 + 2 ^ 16 * (last % 2 ^ 12) + 2 ^ 28 * s.headState h), (4, c.openAt)]
  let bs := pack [(2, 0x4E50), (1, 1), (1, 1), (4, s.pair.hbSeq), (8, s.now), (4, flags), (2, s.rd R.PAIR_CID.CID),
      (2, s.rd R.SPEED_EPOCH.EPOCH), (8, s.serial), (8, s.cfgDigest), (24, 0)] ++ heads ++
    pack ((List.range 16).map fun i => (4, SMap.get (fun _ => 0) s.net.sentSeq i)) ++
    pack [(4, s.net.safeSent), (2, s.rd R.NET_PRP.RCT_SEQ), (2, 0), (52, 0)]
  bs ++ bytesLE 4 (crc32c bs)

/-- Has the twin sent no heartbeat for a time in ns? -/
def State.silentFor (s : State) (n : Nat) : Bool :=
  match s.pair.sentAt with
  | none => true
  | some a => decide (a + n ≤ s.now)

/-- HEARTBEAT_SEND (R332, R335): on both pair ports, every 2 µs ± 50 ns. [DESIGN CHOICE, log 144] -/
def execHeartbeatSend (t : Time) (s : State) : Host.Outcome State Fault Refusal :=
  s.run t fun s =>
    if !s.on R.PAIR_CFG.EN || !s.dev.sealed || decide (s.devState < 2) || s.devState == 5 || !s.silentFor 1950 then s
    else s.updPair fun p => { p with sent := s.heartbeat, sentAt := some s.now, hbSeq := (p.hbSeq + 1) % 2 ^ 32 }

/-! ### The token (R330, R344 to R349) -/

/-- The shared address is announced on each enabled port (R227). [PRESUMED, log 84] -/
def State.announce (s : State) : State :=
  s.each 4 fun p s => s.when (s.rd (R.NET_PORT.MODE p) != 0 && !(s.prpPort p && p == 1)) fun s =>
    s.enqueueRaw p true s.announcement

/-- The device's own code identity for head `h` (R76). [DEDUCED, log 33, 81] -/
def State.ownCid (s : State) (h : Nat) : Nat :=
  if s.admitted then s.rd R.DOM_STATUS.DID else s.rd (R.FIRE_CODE.FALLBACK h)

/-- CLAIM is driven (R346, R349): the role, the DT of the claim, the count of a takeover, the PRP counter of the last
heartbeat, and the announcement of the shared address. -/
def State.claimToken (s : State) : State :=
  let p := s.pair
  let shadow := match p.partner with
    | some b => s.on R.PAIR_STATUS.PARTNER && b.role == 2
    | none => false
  let s := s.wr R.PAIR_STATUS.TOKEN_OUT 2
  let s := s.wr R.PAIR_STATUS.ROLE (if shadow then roleActive else roleAlone)
  let s := (s.wr R.PAIR_STATUS.SYNC syncNone).wr R.PAIR_STATUS.FIT 0
  let s := s.wr64 R.PAIR_TAKE_DT_LO.VALUE R.PAIR_TAKE_DT_HI.VALUE s.now
  let s := s.when p.takeover fun s =>
    let s := match p.partner with
      | some b => s.wr R.NET_PRP.RCT_SEQ b.rct.toNat
      | none => s
    (s.inc R.PAIR_CNT_TAKEOVER.COUNT).raise .pairTakeover noHead
  let s := s.updPair fun p => { p with
    claim := false, claimAt := some s.now, retryDue := false, handover := false
    gapFrom := if p.takeover then some p.lastEcho else none, takeover := false }
  s.announce

/-- TOKEN_CLAIM (R345, R346): TOKEN_IN has read RELEASE or DEAD for 2 µs and both islands have decided to claim. -/
def execTokenClaim (t : Time) (s : State) : Host.Outcome State Fault Refusal :=
  s.run t fun s =>
    let free := match s.pair.busyAt with
      | none => s.tokenFree
      | some b => s.tokenFree && decide (b + 2000 ≤ s.now)
    if s.pair.claim && free then s.claimToken else s

/-- The new holder takes the emitter chain over (R348): a frame in flight is sent again, and a SWAP after the PATTERN of
the coming dwell; EMITTER holds until they pass. [DEDUCED, log 81] -/
def State.chainTakeover (s : State) (h : Nat) : State :=
  let c := (s.head h).chain
  match c.flight with
  | none => s
  | some f =>
    let again := match f.cmd with
      | .swap => (match c.nextPat with | some p => [ChainCmd.pattern p] | none => []) ++ [.swap]
      | x => [x]
    let hold := match f.cmd with | .swap => again.length | _ => 0
    ((s.updChain h fun c => { c with flight := none, queue := again ++ c.queue, recover := hold }).refreshEmitter h).chainNext h

/-- TOKEN_INHIBIT_CLEAR (R346 to R348): CLAIM has been read back for 1 µs. [DESIGN CHOICE, log 144] -/
def execTokenInhibitClear (t : Time) (s : State) : Host.Outcome State Fault Refusal :=
  s.run t fun s =>
    let due := match s.pair.claimAt with
      | none => false
      | some a => decide (a + 1000 ≤ s.now)
    if !(due && s.holdsToken) then s
    else
      let s := s.updPair fun p => { p with claimAt := none, tokenAt := s.now }
      s.eachHead fun h s => (s.setInh h .token false).chainTakeover h

/-- The back-off before retry `r` in ns (R346). -/
def State.backoff (s : State) (r : Nat) : Nat := 20000 * (1 + s.serial / 2 ^ (6 * r) % 64)

/-- A conflict while claiming: release at once and retry after the back-off (R346). -/
def State.tokenConflict (s : State) : State :=
  if !(s.on R.PAIR_CFG.EN && s.holdsToken && !s.tokenFree) then s
  else
    let s := s.tokenRelease 1
    let s := ((s.latch R.PAIR_STATUS.CONFLICT).inc R.PAIR_CNT_CONFLICT.COUNT).raise .pairTokenConflict noHead
    s.updPair fun p => { p with retryDue := true, released := false }

/-- The partner's lines are read (R346). -/
def State.readTokenIn (s : State) : State :=
  let s := s.when (!s.tokenFree) fun s => s.updPair fun p => { p with busyAt := some s.now }
  s.tokenConflict

/-- TOKEN_IN_CHANGE (R346). -/
def execTokenInChange (t : Time) (a b : Bool) (s : State) : Host.Outcome State Fault Refusal :=
  s.run t fun s =>
    let s := s.when (!s.tokenFree) fun s => s.updPair fun p => { p with busyAt := some s.now }
    (s.wr R.PAIR_STATUS.TOKEN_IN (2 * flag a + flag b)).readTokenIn

/-- TOKEN_RETRY (R346): the lines have left the token free for the whole back-off. -/
def execTokenRetry (t : Time) (s : State) : Host.Outcome State Fault Refusal :=
  s.run t fun s =>
    let p := s.pair
    let free := match p.busyAt with
      | none => s.tokenFree
      | some b => s.tokenFree && decide (b + s.backoff p.retry ≤ s.now)
    if p.retryDue && free then (s.updPair fun p => { p with retry := p.retry + 1 }).claimToken else s

/-- HOLDER_HB_SILENCE (R351): an island has seen no own heartbeat for 4 µs and releases its line.
[DEDUCED, log 80; DESIGN CHOICE, log 144] -/
def execHolderHbSilence (t : Time) (b : Bool) (s : State) : Host.Outcome State Fault Refusal :=
  s.run t fun s =>
    let out := s.rd R.PAIR_STATUS.TOKEN_OUT
    if !s.on R.PAIR_CFG.EN || !s.silentFor 4000 || s.rd R.PAIR_STATUS.ROLE == roleShadow && out % 2 == 1 && out < 2 then s
    else
      let code := if b then out / 2 * 2 + 1 else out % 2
      if s.holdsToken then s.tokenRelease code else s.wr R.PAIR_STATUS.TOKEN_OUT code

/-- PAIR_HANDOVER (R344): refused when the shadow is not FIT. -/
def execPairHandover (t : Time) (i : Iface) (s : State) : Host.Outcome State Fault Refusal :=
  s.run t fun s => if s.shadowFit then s.handover else s.refuse i R.PAIR_CTL.addr

/-- PAIR_REJOIN (R353): ignored unless SHADOW. -/
def execPairRejoin (t : Time) (s : State) : Host.Outcome State Fault Refusal :=
  s.run t fun s =>
    s.when (s.rd R.PAIR_STATUS.ROLE == roleShadow && decide (2 ≤ s.sync)) fun s => (s.restartCatchup syncCatchup).refreshFit

/-! ### Receiving heartbeats (R332 to R338, R343, R352) -/

/-- The role of a holder: ACTIVE while a partner shows SHADOW (R332). With the first one the pair forms, under the
holder's code identity (R333), which is that of its head H0 where heads differ. [DEDUCED, log 79] -/
def State.holderRole (s : State) (hb : Heartbeat) : State :=
  if !s.holdsToken then s
  else
    let s := s.wr R.PAIR_STATUS.ROLE (if hb.role = 2 then roleActive else roleAlone)
    if hb.role = 2 ∧ ¬ s.pair.formed then
      (s.wr R.PAIR_CID.CID (s.ownCid 0)).updPair fun p => { p with formed := true }
    else s

/-- Token lines driven and read (R337). -/
def State.tokenLines (s : State) (hb : Heartbeat) : State :=
  let n (bad : Bool) (k : Nat) : Nat := if bad then min 3 (k + 1) else 0
  let p := s.pair
  let own := n (s.rd R.PAIR_STATUS.TOKEN_OUT != hb.seen.toNat) p.ownMis
  let par := n (hb.drv.toNat != s.tokenIn) p.parMis
  let s := s.updPair fun p => { p with ownMis := own, parMis := par, ownFault := own == 3, parFault := par == 3 }
  let s := s.when (own == 3 && !p.ownFault) fun s => s.raiseU .pairTokenFault noHead 0
  let s := s.when (par == 3 && !p.parFault) fun s => s.raiseU .pairTokenFault noHead 1
  let s := s.when (own != 3 && p.ownFault) fun s => s.condOff .pairTokenFault 0
  let s := s.when (par != 3 && p.parFault) fun s => s.condOff .pairTokenFault 1
  s.showTokenFault.when (own == 3) State.handover

/-- Dwell opens that differ from the active's are adopted (R338). -/
def State.adoptOpens (s : State) (hb : Heartbeat) : State :=
  s.eachHead fun h s =>
    match hb.heads[h]? with
    | none => s
    | some x =>
      let c := (s.head h).scan
      if (x.hstate = 2 ∨ x.hstate = 3) ∧ s.rd (R.SCAN_POS.PHASE h) = 3 ∧ x.frame.toNat = s.rd (R.SCAN_FRAME_NUM.FRAME h) ∧
          x.dwell.toNat = s.rd (R.SCAN_POS.DWELL h) ∧ x.dtOpen.toNat ≠ c.openAt % 2 ^ 32 then
        let ahead := (x.dtOpen.toNat + 2 ^ 32 - c.openAt % 2 ^ 32) % 2 ^ 32
        let at_ := if ahead < 2 ^ 31 then c.openAt + ahead else c.openAt + ahead - 2 ^ 32
        let s := (s.updScan h fun c => { c with openAt := at_ }).updPair fun p => { p with excluded := setBit p.excluded h }
        (s.inc R.PAIR_CNT_OPEN.COUNT).raise .pairOpenMismatch h
      else s

/-- Heads that the partner scans follow it (R33, R338): a PARKED head with no inhibit but TOKEN goes to SCANNING. -/
def State.followHeads (s : State) (hb : Heartbeat) : State :=
  s.eachHead fun h s =>
    match hb.heads[h]? with
    | none => s
    | some x =>
      if (x.hstate = 2 ∨ x.hstate = 3) ∧ s.headState h = hsParked ∧ ¬ s.calibrating h ∧ ¬ s.blocked h then
        (s.headScan h).updPair fun p => { p with adopt := setBit p.adopt h }
      else s

/-- Frames that the active has transmitted leave the queues of the shadow (R226). -/
def State.pruneSent (s : State) (hb : Heartbeat) : State :=
  s.updNet fun N => { N with
    queues := (N.queues.map fun q => (q.1, q.2.filter fun f => match f.kind with
      | .alarm _ => seqLater 32 f.seq hb.safeSeq.toNat
      | .raw _ | .gptp _ => true
      | _ => seqLater 32 f.seq ((hb.streamSeq[f.stream]?.map BitVec.toNat).getD 0))).filter fun q => q.2 != []
    safeSent := hb.safeSeq.toNat
    sentSeq := (List.range 16).foldl (fun m i =>
      SMap.set (fun _ => 0) m i ((hb.streamSeq[i]?.map BitVec.toNat).getD 0)) N.sentSeq }

/-- A joining shadow takes the active's accountant state, odometer and speed epoch, and the ring indices and sequence numbers
from which both form alike (R225); it adopts the CID and begins the catch-up (R295, R333, R352). [DEDUCED, log 83] -/
def State.join (s : State) (hb : Heartbeat) (j : JoinState) : State :=
  let s := s.eachHead fun h s => ((s.windows h).foldl (fun s w => s.eyeTurn h w) s).updEye h fun e =>
    { e with rings := [], prefill := [] }
  let s := j.rings.foldl (fun s (h, w, sector, b) => s.updEye h fun e => { e with
    rings := SMap.set ringDefault e.rings (ringKey w sector.toNat) { b := b.map BitVec.toNat } }) s
  let s := s.updTach fun x => { x with od := sext 64 j.odo.toNat }
  let s := s.wr R.SPEED_EPOCH.EPOCH hb.epoch.toNat
  let s := j.wrIdx.zipIdx.foldl (fun s (w, h) => s.wr (R.NET_RING_WR.WR_IDX h) w.toNat) s
  let s := j.streamSeq.zipIdx.foldl (fun s (w, i) => s.wr (R.NET_STREAM_SEQ.SEQ i) w.toNat) s
  let s := s.updNet fun N => { N with safeSeq := j.safeSeq.toNat, opened := [] }
  (s.updPair fun p => { p with adopt := 0xFFFF }).restartCatchup syncCatchup

/-- The forming of roles and the steps of joining (R332, R334, R345, R352). [DEDUCED, log 81] -/
def State.formRole (s : State) (hb : Heartbeat) (join : Option JoinState) : State :=
  if s.holdsToken then s
  else if hb.cfg.toNat ≠ s.cfgDigest then (s.wr R.PAIR_STATUS.SYNC syncNone).refreshFit
  else if hb.role ≠ 2 then
    let s := s.when (s.sync == syncNone || s.pair.linkLost) fun s =>
      (s.wr R.PAIR_STATUS.SYNC syncJoining).updPair fun p => { p with
        linkLost := false, handover := false, claim := false, retryDue := false, adopt := 0xFFFF }
    let s := match join with
      | some j => s.when (s.sync == syncJoining) fun s => s.join hb j
      | none => s
    let s := (s.pruneSent hb).adoptOpens hb
    let s := (s.when (decide (2 ≤ s.sync)) fun s => s.followHeads hb).refreshFit
    s
  else
    let s := s.refreshFit
    if s.sync = syncNone ∧ hb.sync = 0 ∧ ¬ s.pair.released ∧ s.serial < hb.serial.toNat then
      s.updPair fun p => { p with claim := true, takeover := false }
    else s

/-- HEARTBEAT_RECEIVE (R332 to R338, R343, R345, R352). [DEDUCED, log 83] -/
def execHeartbeatReceive (t : Time) (p : Fin 2) (rx : LinkRx) (hb : Heartbeat) (join : Option JoinState) (s : State) :
    Host.Outcome State Fault Refusal :=
  s.run t fun s =>
    let s := s.codeword (24 + p.val) rx
    let again := match s.pair.rxSeq with
      | some q => !seqLater 32 hb.seq.toNat q
      | none => false
    if !linkGood rx || !s.on R.PAIR_CFG.EN || !s.dev.sealed || again then s
    else
      let first := s.pair.partner.isNone
      let s := s.updPair fun x => { x with
        rxSeq := some hb.seq.toNat, partner := some hb, deadline := some (s.now + s.rd R.PAIR_CFG.HB_TIMEOUT * 1000) }
      let s := s.wr R.PAIR_STATUS.PARTNER 1
      let s := s.wr64 R.PAIR_PARTNER_SN_LO.SERIAL R.PAIR_PARTNER_SN_HI.SERIAL hb.serial.toNat
      let s := s.when first fun s => (s.wr R.PAIR_CID.PARTNER_DID (s.freeVal 14)).drawn
      let s := (s.condOff .pairHbLost noHead).condOff .pairLinkLost noHead
      let bad := hb.cfg.toNat != s.cfgDigest
      let was := s.dev.conds.contains (Event.pairConfigMismatch.code, noHead)
      let s := s.when (bad && !was) fun s => s.raise .pairConfigMismatch noHead
      let s := s.when (!bad && was) fun s => s.condOff .pairConfigMismatch noHead
      let s := ((s.tokenLines hb).holderRole hb).formRole hb join
      if hb.handover ∧ s.on R.PAIR_STATUS.FIT then s.updPair fun x => { x with claim := true, takeover := true } else s

/-- HEARTBEAT_LOST (R336, R345, R350): at a safety tick. [DESIGN CHOICE, log 144] -/
def execHeartbeatLost (t : Time) (s : State) : Host.Outcome State Fault Refusal :=
  s.run t fun s =>
    match s.pair.deadline with
    | none => s
    | some d =>
      if s.now ≤ d ∨ s.now % 10000 ≠ 0 then s
      else
        let s := s.refreshFit
        let s := (s.updPair fun p => { p with deadline := none, rxSeq := none }).wr R.PAIR_STATUS.PARTNER 0
        let s := (s.inc R.PAIR_CNT_HB_LOST.COUNT).raise .pairHbLost noHead
        if s.holdsToken then s.wr R.PAIR_STATUS.ROLE roleAlone
        else if s.tokenIn = 2 then
          (s.updPair fun p => { p with linkLost := true }).raise .pairLinkLost noHead
        else if s.on R.PAIR_STATUS.FIT then s.updPair fun p => { p with claim := true, takeover := true }
        else s

/-- PAIR_JOIN_TIMEOUT (R332): no partner within JOIN_T after seal. [DESIGN CHOICE, log 144] -/
def execPairJoinTimeout (t : Time) (s : State) : Host.Outcome State Fault Refusal :=
  s.run t fun s =>
    let alone := s.on R.PAIR_CFG.EN && s.dev.sealed && s.rd R.PAIR_STATUS.ROLE == roleShadow && s.sync == syncNone &&
      (s.pair.partner.isNone || s.dev.conds.contains (Event.pairConfigMismatch.code, noHead) && !s.on R.PAIR_STATUS.PARTNER)
    let due := decide (s.pair.sealAt + s.rd R.PAIR_CFG.JOIN_T * 1000000 ≤ s.now)
    if alone ∧ due ∧ ¬ s.pair.released then s.updPair fun p => { p with claim := true, takeover := false } else s

/-- The token at seal (R331, R332): ALONE with CLAIM, or RELEASE as a shadow with SYNC NONE. -/
def State.pairSeal (s : State) : State :=
  let s := s.updPair fun p => { p with sealAt := s.now }
  if s.on R.PAIR_CFG.EN then
    ((s.wr R.PAIR_STATUS.TOKEN_OUT 1).wr R.PAIR_STATUS.ROLE roleShadow).wr R.PAIR_STATUS.SYNC syncNone
  else
    ((s.wr R.PAIR_STATUS.TOKEN_OUT 2).wr R.PAIR_STATUS.ROLE roleAlone).eachHead fun h s => s.setInh h .token false

/-! ### Digests (R342) -/

/-- DIGEST_RECEIVE (R342). -/
def execDigestReceive (t : Time) (p : Fin 2) (rx : LinkRx) (d : Digest) (s : State) : Host.Outcome State Fault Refusal :=
  s.run t fun s =>
    let s := s.codeword (24 + p.val) rx
    if !linkGood rx || !s.comparing then s
    else (s.updPair fun x => { x with
      theirs := SMap.upd (fun _ => []) x.theirs d.head fun l => (l ++ [d]).drop (l.length - 63) }).compareDigests d.head

/-- DIGEST_TIMEOUT (R342): 20 µs after the twin's own digest. [DESIGN CHOICE, log 144] -/
def execDigestTimeout (t : Time) (h : HeadIx) (s : State) : Host.Outcome State Fault Refusal :=
  s.run t fun s =>
    match s.ownDigests h with
    | [] => s
    | (_, a) :: rest =>
      if s.now < a + 20000 then s
      else (s.updPair fun p => { p with own := SMap.set (fun _ => []) p.own h rest }).compared h true

/-! ### Catch-up (R352, R353) -/

/-- The transfer is complete: IN_SYNC (R352). -/
def State.joined (s : State) : State :=
  let s := ((s.wr R.PAIR_STATUS.SYNC syncInSync).wr R.PAIR_CATCHUP.PASS 0).leaveEnd .catchup
  (s.refreshFit).raise .pairJoined noHead

/-- CATCHUP_RECORD (R353): a record is installed when its DT_LAST is not older than the own one's; the own one newer, it is
requested again. The sweep ends at the last BID, the second pass with the last request. -/
def execCatchupRecord (t : Time) (p : Fin 2) (rx : LinkRx) (bid : BitVec 20) (record : List Byte) (s : State) :
    Host.Outcome State Fault Refusal :=
  s.run t fun s =>
    let s := s.codeword (24 + p.val) rx
    let pass := s.rd R.PAIR_CATCHUP.PASS
    if !linkGood rx || pass == 0 || s.rd R.PAIR_STATUS.ROLE != roleShadow then s
    else
      let b := bid.toNat
      let own := (s.bearing b).dtLast
      let got := (Bear.read fun o n => ofBytesLE ((record.drop o).take n)).dtLast
      let newer := decide (got < own)
      let s := s.when (!newer) fun s => s.hbmWrite (4096 * b) (record.take 4096)
      if pass = 1 then
        let s := s.updPair fun x => { x with requested := if newer then x.requested ++ [b] else x.requested }
        if b < 0xFFFFF then s.wr R.PAIR_CATCHUP.BID (b + 1)
        else match s.pair.requested with
          | [] => (s.wr R.PAIR_CATCHUP.BID 0).joined
          | r :: _ => (s.wr R.PAIR_CATCHUP.PASS 2).wr R.PAIR_CATCHUP.BID r
      else
        let s := s.updPair fun x => { x with requested := x.requested.filter (· != b) }
        match s.pair.requested with
        | [] => s.joined
        | r :: _ => s.wr R.PAIR_CATCHUP.BID r

end Sys2Proof.Machine
end

