-- ==== Sys2Proof/Machine/Clocks.lean ====
section
/-! DEFINITION. Clocks and device time (17_clocks.md, R412 to R427): REFCLK, the PLLs, the discipline of device time,
holdover and the lane references. -/

namespace Sys2Proof.Machine

/-- Is a head SCANNING or INHIBITED? -/
def State.anyScanning (s : State) : Bool := (List.range 16).any fun h => s.scanning h

/-- Every dwell open now is decided as a breach of every field it covers (R424). [DEDUCED, log 86] -/
def State.forceOpenDwells (s : State) : State :=
  s.eachHead fun h s => s.when (s.rd (R.SCAN_POS.PHASE h) == 3) fun s => s.updScan h fun c => { c with forced := true }

/-- The timing PLL is not locked, or bypassed, or without REFCLK (R413, R424). [DEDUCED, log 86] -/
def State.timingLost (s : State) : Bool :=
  !s.on R.CLK_STATUS.TPLL_LOCK || s.on R.CLK_CFG.TPLL_BYP || !s.on R.CLK_STATUS.REFCLK_OK

/-- CLK_TIMING_CAUSE.TPLL and what follows from it. -/
def State.showTpll (s : State) : State :=
  (s.wrB R.CLK_TIMING_CAUSE.TPLL (!s.on R.CLK_STATUS.TPLL_LOCK || s.on R.CLK_CFG.TPLL_BYP)).refreshTiming

/-! ### REFCLK and the timing PLL (R413, R424, R425) -/

/-- REFCLK_LOSS (R413): the timing PLL is treated as unlocked, and a pair hands over (R344, R424). [DEDUCED, log 86] -/
def execRefclkLoss (t : Time) (s : State) : Host.Outcome State Fault Refusal :=
  s.run t fun s => s.when (s.on R.CLK_STATUS.REFCLK_OK) fun s =>
    let s := ((s.wr R.CLK_STATUS.REFCLK_OK 0).wr R.CLK_TIMING_CAUSE.REFCLK 1).refreshTiming
    let s := s.updClk fun c => { c with refLostAt := some s.now }
    (s.forceOpenDwells.raise .clkRefclkLoss noHead).handover

/-- 100 µs have passed since a loss of a reference, if there was one (R413, R423). -/
def State.refGood (s : State) (a : Option Nat) : Bool := a.all fun a => decide (a + 100000 ≤ s.now)

/-- REFCLK_GOOD (R413): 100 µs without a loss condition. [DEDUCED, log 85; DESIGN CHOICE, log 144] -/
def execRefclkGood (t : Time) (s : State) : Host.Outcome State Fault Refusal :=
  s.run t fun s => s.when (s.refGood s.clk.refLostAt) fun s =>
    ((s.wr R.CLK_STATUS.REFCLK_OK 1).wr R.CLK_TIMING_CAUSE.REFCLK 0).refreshTiming

/-- TIMING_PLL_LOSS_OF_LOCK (R344, R424). -/
def execTimingPllLossOfLock (t : Time) (s : State) : Host.Outcome State Fault Refusal :=
  s.run t fun s => s.when (s.on R.CLK_STATUS.TPLL_LOCK) fun s =>
    let s := ((s.wr R.CLK_STATUS.TPLL_LOCK 0).inc R.CLK_CNT_LOL.COUNT).showTpll
    (s.forceOpenDwells.raise .clkTpllLol noHead).handover

/-- The timing domain runs on its PLL again: every epoch in progress is discarded and the calibration hold of R425 begins.
Before seal the hold is that of R130. [DEDUCED, log 48] -/
def State.timingBack (s : State) : State :=
  if s.timingLost then s.showTpll
  else
    let s := s.each 1558 fun i s => (s.newEpoch i).updLine i fun l => { l with evaluated := false }
    (s.updClk fun c => { c with calHold := 0xFFFF, relockAt := s.now, relockHold := s.dev.sealed }).showTpll

/-- TIMING_PLL_RELOCK (R424, R425). [DEDUCED, log 85] -/
def execTimingPllRelock (t : Time) (s : State) : Host.Outcome State Fault Refusal :=
  s.run t fun s => s.when (!s.on R.CLK_STATUS.TPLL_LOCK) fun s => (s.wr R.CLK_STATUS.TPLL_LOCK 1).timingBack

/-- TIMING_PLL_BYPASS (R424, R425, R494). -/
def execTimingPllBypass (t : Time) (i : Iface) (on : Bool) (s : State) : Host.Outcome State Fault Refusal :=
  s.run t fun s =>
    if s.on R.CLK_CFG.TPLL_BYP = on then s
    else if !s.mayConfig i then s.accessError i true R.CLK_CFG.addr 2
    else
      let s := s.wrB R.CLK_CFG.TPLL_BYP on
      if on then s.showTpll else s.timingBack

/-! ### The logic PLL (R424) -/

/-- LOGIC_PLL_LOSS_OF_LOCK (R29, R424). -/
def execLogicPllLossOfLock (t : Time) (s : State) : Host.Outcome State Fault Refusal :=
  s.run t fun s => s.when (s.on R.CLK_STATUS.LPLL_LOCK) fun s =>
    let s := ((s.wr R.CLK_STATUS.LPLL_LOCK 0).inc R.CLK_CNT_LOL.COUNT).updClk fun c => { c with lpllLost := true }
    s.raise .clkLpllLol noHead

/-- LOGIC_PLL_RELOCK (R29, R424). [DEDUCED, log 85] -/
def execLogicPllRelock (t : Time) (s : State) : Host.Outcome State Fault Refusal :=
  s.run t fun s =>
    ((s.wr R.CLK_STATUS.LPLL_LOCK 1).updClk fun c => { c with lpllLost := false }).condOff .clkLpllLol noHead

/-- LOGIC_PLL_BYPASS (R424, R494): in life-cycle state TEST only. [DEDUCED, log 87] -/
def execLogicPllBypass (t : Time) (i : Iface) (on : Bool) (s : State) : Host.Outcome State Fault Refusal :=
  s.run t fun s =>
    if s.on R.CLK_CFG.LPLL_BYP = on then s
    else if !s.mayConfig i then s.accessError i true R.CLK_CFG.addr 2
    else if s.rd R.SEC_STATUS.LC ≠ 0 then s.refuse i R.CLK_CFG.addr
    else s.wrB R.CLK_CFG.LPLL_BYP on

/-! ### Lane references (R423) -/

/-- LANE_REF_LOSS (R423, R403): every lane of the pair's quads fails as a transmit fault and a loss of lock. [DEDUCED, log 86] -/
def execLaneRefLoss (t : Time) (i : Fin 9) (s : State) : Host.Outcome State Fault Refusal :=
  s.run t fun s => s.when (s.bitOf R.CLK_STATUS.LREF_OK i) fun s =>
    let s := s.updClk fun c => { c with lrefLostAt := SMap.set (fun _ => none) c.lrefLostAt i (some s.now) }
    let s := (s.wrBit R.CLK_STATUS.LREF_OK i false).raiseU .clkLrefLoss noHead i
    s.each 36 fun q s => s.when (lrefPair q == i.val) fun s =>
      (s.wr (R.LANE_QSTATUS.PLL_LOCK q) 0).each 4 fun l s => (s.laneFail q l .txFault).laneFail q l .lol

/-- LANE_REF_RETURN (R413, R423): the quads of the pair can train. [DEDUCED, log 85; DESIGN CHOICE, log 144] -/
def execLaneRefReturn (t : Time) (i : Fin 9) (s : State) : Host.Outcome State Fault Refusal :=
  s.run t fun s => s.when (s.refGood (SMap.get (fun _ => none) s.clk.lrefLostAt i)) fun s =>
    let s := s.wrBit R.CLK_STATUS.LREF_OK i true
    s.each 36 fun q s => s.when (lrefPair q == i.val && s.quadOn q) fun s => s.wr (R.LANE_QSTATUS.PLL_LOCK q) 1

/-! ### Device time (R416 to R419) -/

/-- Device time in 1/256 ns. -/
def State.fullTime (s : State) : Nat := s.now * 256 + s.fine.toNat

/-- Device time steps (R418): it is counted, the dividers are to be aligned again, and the spread modulation keeps its phase until
its next period (R420). [DEDUCED, log 134] -/
def State.stepTime (s : State) (target : Nat) : State :=
  let p := s.spreadPhase
  let s := { s with dt := BitVec.ofNat 64 (target / 256), fine := BitVec.ofNat 8 target }
  let s := (s.inc R.CLK_CNT_STEP.COUNT).updClk fun c => { c with
    realign := true, modBase := (p + 32000 - target / 256 % 32000) % 32000, modUntil := target / 256 + (32000 - p) }
  s.raise .clkDtStep noHead

/-- The whole milliseconds of the present or last holdover, saturating (CLK_HOLD). -/
def State.holdMs (s : State) : Nat :=
  match s.clk.holdSince with
  | some a => satU 32 ((s.now - a) / 1000000)
  | none => s.rd R.CLK_HOLD.HOLD

/-- Holdover begins (R419): ADJ freezes at the mean of its last 64 values, whose rounding is not stated. -/
def State.enterHoldover (s : State) : State :=
  if s.on R.CLK_STATUS.HOLDOVER then s
  else
    let n := s.clk.adjs.length
    let s := s.when (decide (0 < n)) fun s => s.wrRound R.CLK_FREQ_ADJ.ADJ (s.clk.adjs.foldl (· + ·) 0) n
    let s := (s.wr R.CLK_STATUS.HOLDOVER 1).updClk fun c => { c with holdSince := some s.now }
    s.raise .clkHoldover noHead

/-- Holdover ends at the first sample of the source (R419). -/
def State.leaveHoldover (s : State) : State :=
  if !s.on R.CLK_STATUS.HOLDOVER then s
  else
    let s := (s.wr R.CLK_HOLD.HOLD s.holdMs).updClk fun c => { c with holdSince := none }
    ((s.wr R.CLK_STATUS.HOLDOVER 0).wr R.CLK_TIMING_CAUSE.HOLD 0).refreshTiming

/-- An offset sample θ (1/256 ns) over an interval of `ts` ns (R417, R418). [DEDUCED, log 139] -/
def State.offsetSample (s : State) (theta : Int) (ts : Nat) : State :=
  let s := s.leaveHoldover
  let thr : Int := (s.rd R.CLK_DISC.STEP_THR * 256000 : Nat)
  if (thr < theta ∨ theta < -thr) ∧ ¬ s.anyScanning then
    (s.updClk fun c => { c with integ := 0, sampleAt := some s.now }).stepTime ((s.fullTime : Int) - theta).toNat
  else
    let lim : Int := (s.rd R.CLK_DISC.FREQ_LIM * 65536 : Nat)
    let f := Int.tdiv (theta * 65536 * 1000000) ((256 * ts : Nat) : Int)
    let i := clampI (-lim) lim (s.clk.integ + asr f (s.rd R.CLK_DISC.KI_LOG2))
    let raw := -(asr f (s.rd R.CLK_DISC.KP_LOG2) + i)
    let adj := clampI (-lim) lim raw
    let s := s.updClk fun c => { c with integ := i, adjs := (adj :: c.adjs).take 64, sampleAt := some s.now }
    let was := s.on R.CLK_STATUS.DISC_CLAMP
    let s := (s.wrS R.CLK_FREQ_ADJ.ADJ adj).wrB R.CLK_STATUS.DISC_CLAMP (adj != raw)
    s.when (adj != raw && !was) fun s => s.raise .clkDiscLimit noHead

/-- The time since the last sample, or the nominal interval where there is none. -/
def State.sampleInterval (s : State) (nominal : Nat) : Nat :=
  match s.clk.sampleAt with
  | some a => if a < s.now then s.now - a else nominal
  | none => nominal

end Sys2Proof.Machine
end

