-- ==== Sys2Proof/Machine/Domain.lean ====
section
/-! DEFINITION. Domains, cascade and code coordination (14_domain.md, R355 to R375): messages, time distribution,
alignment, admission, plans, helpers and the loss of the master. -/

namespace Sys2Proof.Machine

def State.updDom (s : State) (f : Dom → Dom) : State := { s with dom := f s.dom }

/-! ### Roles and ports (R355) -/

abbrev domMember : Nat := 0
abbrev domMaster : Nat := 1
abbrev domBackup : Nat := 2

abbrev dsUnjoined : Nat := 0
abbrev dsJoining : Nat := 1
abbrev dsJoined : Nat := 2
abbrev dsHoldover : Nat := 3
abbrev dsRefused : Nat := 4

def State.domRole (s : State) : Nat := s.rd R.DOM_STATUS.ROLE
def State.domState (s : State) : Nat := s.rd R.DOM_STATUS.STATE
def State.did (s : State) : Nat := s.rd R.DOM_STATUS.DID
def State.term (s : State) : Nat := s.rd R.DOM_MASTER.TERM

/-- The port of a configured role: 1 UP, 2 ALT_UP. -/
def State.portOfRole (s : State) (r : Nat) : Option Nat := (List.range 4).find? fun c => s.rd (R.DOM_PORT.ROLE c) == r

/-- The port used upstream, 4 for the network; none for a device without one. -/
def State.upstream (s : State) : Option Nat :=
  if s.domRole = domMaster then none
  else if s.on R.DOM_STATUS.VIA_NET then some 4
  else if s.rd (R.DOM_PORT.ROLE (s.rd R.DOM_STATUS.UP_PORT)) = 1 ∨ s.rd (R.DOM_PORT.ROLE (s.rd R.DOM_STATUS.UP_PORT)) = 2 then
    some (s.rd R.DOM_STATUS.UP_PORT)
  else none

/-! ### Messages (R357) -/

/-- The 24 bytes of a header (Table 14.1). -/
def hdrBytes (h : DomHdr) (type : Nat) : List Byte :=
  pack [(2, 0x4E44), (1, 1), (1, type), (2, h.srcDid.toNat + 2 ^ 14 * flag h.srcNew + 2 ^ 15 * flag h.bcast),
    (2, h.dstDid.toNat), (2, h.term.toNat), (1, h.hops.toNat), (1, 0), (4, h.seq.toNat), (8, h.serial.toNat)]

/-- The bytes of a message: header, body, and the CRC-32C of both (R357). The spec lays no body out: each value of Table 14.2 takes
16 bytes here. [DESIGN CHOICE, log 88] -/
def DomMsg.bytes (m : DomMsg) : List Byte :=
  let x := hdrBytes m.hdr m.type ++ m.body.flatMap (bytesLE 16)
  x ++ bytesLE 4 (crc32c x)

/-- Send a message on a port. On a cascade port it passes the message buffers: where memory port 4 lacks tokens for it, it is
discarded and counted (R357, R381). -/
def State.domPut (s : State) (port : Nat) (m : DomMsg) : State :=
  let (s, ok) := if port < 4 then s.portTake 4 m.bytes.length else (s, true)
  if !ok then s.inc R.DOM_CNT_DISCARD.COUNT
  else s.updDom fun D =>
    let old := SMap.get (fun _ => (0, [])) D.sent port
    { D with sent := SMap.set (fun _ => (0, [])) D.sent port (s.now, (if old.1 = s.now then old.2 else []) ++ [m.bytes]) }

/-- Send a message on every DOWN port. -/
def State.domDown (s : State) (m : DomMsg) : State :=
  s.each 4 fun c s => s.when (s.rd (R.DOM_PORT.ROLE c) == 3) fun s => s.domPut c m

/-- The header of a message of this device. -/
def State.domHdr (s : State) (bcast : Bool) (dst : Nat) : DomHdr :=
  { srcDid := if s.admitted then BitVec.ofNat 14 s.did else 0x3FFF, srcNew := !s.admitted, bcast := bcast
    dstDid := BitVec.ofNat 14 dst, term := BitVec.ofNat 16 s.term, hops := 0, seq := BitVec.ofNat 32 s.dom.seq
    serial := BitVec.ofNat 64 s.serial }

/-- Send a message of this device: broadcast down the tree and over the network, or towards a port. [DESIGN CHOICE, log 88] -/
def State.domSend (s : State) (type : Nat) (via : Option Nat) (dst : Nat) (body : List Nat) : State :=
  let m : DomMsg := ⟨type, s.domHdr via.isNone dst, body⟩
  let s := s.updDom fun D => { D with seq := (D.seq + 1) % 2 ^ 32 }
  match via with
  | some p => s.domPut p m
  | none => (s.domDown m).domPut 4 m

/-- Look a key up in a list of pairs. -/
def lookupPair (k : Nat) (l : List (Nat × Nat)) : Option Nat := (l.find? fun e => e.1 == k).map Prod.snd

/-- The port towards a DID: where it has been seen, else upstream. [DEDUCED, log 90] -/
def State.routeTo (s : State) (did : Nat) : Option Nat := (lookupPair did s.dom.routes).or s.upstream

/-- A message arrives: its codeword is counted, a wrong CRC or HOPS above 16 discards it (R357), and the port behind which
its sender lies is learned. The second part says whether it is used. -/
def State.domArrive (s : State) (via : DomVia) (hdr : DomHdr) : State × Bool :=
  let (s, crc, port) := match via with
    | .port c rx => (s.codeword (16 + c.val) rx, linkGood rx, c.val)
    | .net ok => (s, ok, 4)
  if !s.on R.DOM_CFG.EN then (s, false)
  else if !crc || decide (16 < hdr.hops.toNat) then (s.inc R.DOM_CNT_DISCARD.COUNT, false)
  else
    let below := port == 4 || s.rd (R.DOM_PORT.ROLE port) == 3
    let s := s.when below fun s => s.updDom fun D => { D with
      routes := if hdr.srcNew then D.routes
        else (hdr.srcDid.toNat, port) :: D.routes.filter (·.1 != hdr.srcDid.toNat)
      serials := (hdr.serial.toNat, port) :: D.serials.filter (·.1 != hdr.serial.toNat) }
    (s, true)

/-- Forward a message that is not addressed only to this device (R357). [DEDUCED, log 90] -/
def State.domForward (s : State) (type : Nat) (hdr : DomHdr) (body : List Nat) : State :=
  let m : DomMsg := ⟨type, { hdr with hops := hdr.hops + 1 }, body⟩
  if hdr.bcast then s.domDown m
  else if s.admitted ∧ hdr.dstDid.toNat = s.did then s
  else match s.routeTo hdr.dstDid.toNat with
    | some p => s.domPut p m
    | none => s

/-- Is a message for this device: broadcast or its DID? -/
def State.domForMe (s : State) (hdr : DomHdr) : Bool := hdr.bcast || (s.admitted && hdr.dstDid.toNat == s.did)

/-- A message for this device has its effect `f`; every message is forwarded as R357 says. -/
def State.domMessage (s : State) (via : DomVia) (hdr : DomHdr) (type : Nat) (body : List Nat) (f : State → State) : State :=
  let (s, ok) := s.domArrive via hdr
  if !ok then s
  else
    let s := s.domForward type hdr body
    if s.domForMe hdr then f s else s

/-! ### The master's table (R363 to R365) -/

/-- Show the number of admitted members. -/
def State.showMembers (s : State) : State := s.wr R.DOM_COUNT.MEMBERS s.dom.table.length

/-- Tell the backup of a change (R372); while no answer has named it, every device. [DEDUCED, log 90] -/
def State.sendTable (s : State) (body : List Nat) : State :=
  match s.dom.table.find? fun m => m.role == domBackup with
  | some b => s.domSend 9 (s.routeTo b.did) b.did body
  | none => s.domSend 9 none 0 body

/-- Can a DID be granted to a serial number: not in use, and not reserved for another? [DEDUCED, log 89] -/
def State.didFree (s : State) (did serial : Nat) : Bool :=
  !(s.dom.table.any fun m => m.did == did) && !(s.dom.reserved.any fun r => r.did == did && r.serial != serial)

/-- The DID granted to a JOIN (R363): the one it still holds, its preference, or the lowest free one. [DEDUCED, log 89] -/
def State.grant (s : State) (serial : Nat) (pref : Option Nat) : Option Nat :=
  match s.dom.table.find? fun m => m.serial == serial with
  | some m => some m.did
  | none =>
    let low := (List.range 16384).find? fun d => s.didFree d serial
    match pref with
    | some d => if s.didFree d serial then some d else low
    | none => low

/-- A member leaves the table; its DID stays reserved for its serial (R363, R365). -/
def State.releaseMember (s : State) (m : Member) : State :=
  let s := s.updDom fun D => { D with
    table := D.table.filter fun x => !(x.did == m.did && x.serial == m.serial)
    reserved := ⟨m.did, m.serial, s.now⟩ :: D.reserved.filter (·.did != m.did) }
  (s.sendTable [1, m.did]).showMembers

/-- The values of plan entries in a PLAN. -/
def planBody (es : List PlanEntry) : List Nat := es.flatMap fun e => [e.head.val, e.period.toNat, e.phase.toNat]

/-- The master sends an admitted device its entries of the plan, in force 100 ms later (R366). [DESIGN CHOICE, log 92] -/
def State.sendPlan (s : State) (did : Nat) : State :=
  let es := (s.dom.domPlan.filter fun e => e.1 == did).map Prod.snd
  if es.isEmpty then s
  else s.domSend 8 (s.routeTo did) did ([s.dom.planGen, s.now + 100000000] ++ planBody es)

/-- JOIN_RECEIVE (R363, R364). [DEDUCED, log 89] -/
def execJoinReceive (t : Time) (via : DomVia) (hdr : DomHdr) (pref : Option (BitVec 14)) (depth : BitVec 4)
    (heads : BitVec 16) (s : State) : Host.Outcome State Fault Refusal :=
  s.run t fun s =>
    let (s, ok) := s.domArrive via hdr
    if !ok then s
    else if s.domRole ≠ domMaster then
      s.upstream.elim s fun p => s.domPut p ⟨4, { hdr with hops := hdr.hops + 1 },
        [match pref with | some d => d.toNat | none => 0x10000, depth.toNat, heads.toNat]⟩
    else
      let serial := hdr.serial.toNat
      let port := (lookupPair serial s.dom.serials)
      match s.grant serial (pref.map BitVec.toNat) with
      | none => s.domSend 5 (port.or (some 4)) 0x3FFF [serial, 1]
      | some d =>
        let m : Member := { did := d, serial := serial, depth := depth.toNat, heads := heads.toNat }
        let s := s.updDom fun D => { D with
          table := D.table.filter (·.serial != serial) ++ [m], reserved := D.reserved.filter (·.did != d)
          routes := (d, port.getD 4) :: D.routes.filter (·.1 != d) }
        ((s.showMembers.domSend 5 (port.or (some 4)) d [serial, 0, d]).sendTable [0, d, serial]).sendPlan d

/-- The values of a JOIN (Table 14.2): the preferred DID (0x10000 for none), depth, heads. -/
def State.joinBody (s : State) : List Nat :=
  [if s.on R.DOM_CFG.DID_ANY then 0x10000 else s.rd R.DOM_CFG.DID_PREF, s.rd R.DOM_STATUS.DEPTH,
    maskOf 16 fun h => s.hasProgram h]

/-- JOIN goes upstream, or over the network (R363). -/
def State.joinMessage (s : State) : State :=
  match s.upstream with
  | some p => s.domSend 4 (some p) (s.rd R.DOM_MASTER.MASTER_DID) s.joinBody
  | none => s

/-- A device that is not admitted asks to join; it stays REFUSED until it is granted a DID (R363, R364). Beyond 8 hops it does not
join (R355). -/
def State.sendJoin (s : State) : State :=
  if !s.on R.DOM_CFG.EN || s.domRole == domMaster then s
  else if 8 < s.rd R.DOM_STATUS.DEPTH then
    s.when (!s.dev.conds.contains (Event.domHopLimit.code, noHead)) fun s => s.raise .domHopLimit noHead
  else
    let s := s.when (s.domState != dsRefused) fun s => s.wr R.DOM_STATUS.STATE dsJoining
    let net := s.on R.DOM_CFG.NET_JOIN
    let s := (s.wrB R.DOM_STATUS.VIA_NET net).when (!net && s.upstream.isNone) fun s =>
      s.wr R.DOM_STATUS.UP_PORT ((s.portOfRole 1).getD 0)
    s.joinMessage

/-- Has the hop delay of the upstream port been computed, or is there no hop (R363)? -/
def State.hopReady (s : State) : Bool :=
  s.on R.DOM_CFG.NET_JOIN || s.upstream.any fun p => SMap.get (fun _ => false) s.dom.hopKnown p

/-- JOIN_SEND (R363): the hop delay of an unadmitted device has converged. When a computed delay counts as converged is not
stated. [DEDUCED, log 89] -/
def execJoinSend (t : Time) (s : State) : Host.Outcome State Fault Refusal :=
  s.run t fun s => if s.admitted || !s.dev.sealed || !s.hopReady then s else s.sendJoin

/-- ADMIT_RECEIVE (R364, R365). -/
def execAdmitReceive (t : Time) (via : DomVia) (hdr : DomHdr) (serial : BitVec 64) (a : Admit) (s : State) :
    Host.Outcome State Fault Refusal :=
  s.run t fun s =>
    let (s, ok) := s.domArrive via hdr
    let body := match a with
      | .granted d => [serial.toNat, 0, d.toNat]
      | .refused => [serial.toNat, 1]
      | .revoked => [serial.toNat, 2]
    if !ok then s
    else if serial.toNat ≠ s.serial then
      match lookupPair serial.toNat s.dom.serials with
      | some p => s.domPut p ⟨5, { hdr with hops := hdr.hops + 1 }, body⟩
      | none => s
    else match a with
      | .granted d =>
        let s := (s.wr R.DOM_STATUS.DID d.toNat).wr R.DOM_STATUS.STATE dsJoined
        s.condOff .domainFull noHead
      | .refused =>
        let was := s.domState
        (s.wr R.DOM_STATUS.STATE dsRefused).when (was != dsRefused) fun s => s.raise .domainFull noHead
      | .revoked => (s.wr R.DOM_STATUS.STATE dsUnjoined).sendJoin

/-! ### Roll call (R365) -/

/-- ROLL_SEND (R365): ROLL_S after the one before; members that have missed three ROLLs are released. [DESIGN CHOICE, log 144] -/
def execRollSend (t : Time) (s : State) : Host.Outcome State Fault Refusal :=
  s.run t fun s =>
    if !s.on R.DOM_CFG.EN || s.domRole != domMaster || !s.dev.sealed ||
        !s.dueAgain s.dom.rollAt (s.rd R.DOM_TIMERS.ROLL_S * 1000000000) then s
    else
      let s := s.updDom fun D => { D with
        rollAt := some s.now
        table := D.table.map fun m =>
          if m.serial = s.serial then m
          else { m with missed := if m.answered then 0 else m.missed + 1, answered := false } }
      let gone := s.dom.table.filter fun m => decide (3 ≤ m.missed)
      let s := gone.foldl (fun s m => s.releaseMember m) s
      s.domSend 6 none 0 []

/-- ROLL_RECEIVE (R364, R365). -/
def execRollReceive (t : Time) (via : DomVia) (hdr : DomHdr) (s : State) : Host.Outcome State Fault Refusal :=
  s.run t fun s => s.domMessage via hdr 6 [] fun s =>
    if s.domState = dsRefused then s.sendJoin
    else if s.admitted ∧ s.domRole ≠ domMaster then
      s.domSend 7 (s.upstream.or (some 4)) (s.rd R.DOM_MASTER.MASTER_DID)
        [s.did, s.serial, s.domRole, s.rd R.DOM_STATUS.DEPTH, maskOf 16 fun h => s.headState h != hsOff]
    else s

/-- ROLL_ANS_RECEIVE (R365). An answer that names the DID of a member with another serial comes from the device admitted
later or no longer in the table: it is revoked. The first answer of a backup brings it the whole table (R372).
[DEDUCED, log 89, 90] -/
def execRollAnsReceive (t : Time) (via : DomVia) (hdr : DomHdr) (did : BitVec 14) (serial : BitVec 64) (role : BitVec 2)
    (depth : BitVec 4) (heads : BitVec 16) (s : State) : Host.Outcome State Fault Refusal :=
  s.run t fun s => s.domMessage via hdr 7 [did.toNat, serial.toNat, role.toNat, depth.toNat, heads.toNat] fun s =>
    if s.domRole ≠ domMaster then s
    else if s.dom.table.any fun m => m.did == did.toNat && m.serial != serial.toNat then
      let s := (s.inc R.DOM_CNT_REVOKE.COUNT).raise .domDidConflict noHead
      let s := s.domSend 5 ((lookupPair serial.toNat s.dom.serials).or (some 4)) did.toNat [serial.toNat, 2]
      s.sendTable [2, did.toNat]
    else
      let known := s.dom.table.any fun m => m.role == domBackup
      let s := s.updDom fun D => { D with table := D.table.map fun m =>
        if m.did = did.toNat then
          { m with answered := true, missed := 0, role := role.toNat, depth := depth.toNat, heads := heads.toNat }
        else m }
      s.when (!known && s.dom.table.any fun m => m.role == domBackup) fun s =>
        s.dom.table.foldl (fun s m => s.sendTable [0, m.did, m.serial]) s

/-- TABLE_RECEIVE (R372): the backup keeps the master's table. -/
def execTableReceive (t : Time) (via : DomVia) (hdr : DomHdr) (op : TableOp) (s : State) :
    Host.Outcome State Fault Refusal :=
  let body := match op with
    | .admits d n => [0, d.toNat, n.toNat]
    | .release d => [1, d.toNat]
    | .revoke d => [2, d.toNat]
  s.run t fun s => s.domMessage via hdr 9 body fun s =>
    if s.domRole ≠ domBackup then s
    else s.updDom fun D => match op with
      | .admits d n => { D with
          table := D.table.filter (·.did != d.toNat) ++ [{ did := d.toNat, serial := n.toNat }]
          reserved := D.reserved.filter (·.did != d.toNat) }
      | .release d => { D with
          table := D.table.filter (·.did != d.toNat)
          reserved := (D.table.filter (·.did == d.toNat)).map (fun m => ⟨m.did, m.serial, s.now⟩) ++
            D.reserved.filter (·.did != d.toNat) }
      | .revoke _ => D

/-- DID_RESERVATION_EXPIRY (R363): 10 s after the release. [DESIGN CHOICE, log 144] -/
def execDidReservationExpiry (t : Time) (did : BitVec 14) (s : State) : Host.Outcome State Fault Refusal :=
  s.run t fun s => s.updDom fun D => { D with
    reserved := D.reserved.filter fun r => r.did != did.toNat || decide (s.now < r.at_ + 10000000000) }

/-! ### Beacons and the loss of the master (R372 to R374) -/

/-- The BEACON of a master. [DEDUCED, log 90] -/
def State.beacon (s : State) : State :=
  (s.updDom fun D => { D with beaconAt := some s.now }).domSend 1 none 0
    [s.did, s.now, s.rd R.DOM_PLAN_GEN.VALUE, s.dom.table.length]

/-- BEACON_SEND (R360, R372), 8 µs after the one before: the master is also the grandmaster of its backbone.
[DESIGN CHOICE, log 144, 160] -/
def execBeaconSend (t : Time) (s : State) : Host.Outcome State Fault Refusal :=
  s.run t fun s =>
    s.when (s.on R.DOM_CFG.EN && s.domRole == domMaster && s.dev.sealed && s.dueAgain s.dom.beaconAt 8000) fun s =>
      s.beacon.sendSync s.dom.seq

/-- Is a TERM later than that of the master followed (R373, R486)? A device that has followed none takes any. [DEDUCED, log 90] -/
def State.laterTerm (s : State) (t : Nat) : Bool := (s.term == 0 && t != 0) || seqLater 16 t s.term

/-- A BEACON that this device follows: deadline, term, master, depth; a device that held over rejoins and keeps its DID until an
ADMIT gives it another (R355, R372 to R374). [DEDUCED, log 90] -/
def State.followBeacon (s : State) (port : Nat) (hdr : DomHdr) (master members : Nat) : State :=
  let s := s.when (s.laterTerm hdr.term.toNat && s.term != 0) fun s => s.inc R.DOM_CNT_TAKEOVER.COUNT
  let s := (s.wr R.DOM_MASTER.TERM hdr.term.toNat).wr R.DOM_MASTER.MASTER_DID master
  let s := s.wr R.DOM_COUNT.MEMBERS members
  let depth := hdr.hops.toNat + 1
  let s := s.wr R.DOM_STATUS.DEPTH (if port = 4 then 1 else min depth 15)
  let s := s.when (decide (depth ≤ 8)) fun s => s.condOff .domHopLimit noHead
  let s := (s.condOff .domMasterLost noHead).condOff .domHoldoverLong noHead
  s.when (s.domState == dsHoldover) fun s => (s.wr R.DOM_STATUS.STATE dsJoined).joinMessage

/-- BEACON_RECEIVE (R357, R372 to R374). -/
def execBeaconReceive (t : Time) (via : DomVia) (hdr : DomHdr) (master : BitVec 14) (gen : Word) (members : BitVec 15)
    (s : State) : Host.Outcome State Fault Refusal :=
  s.run t fun s => s.domMessage via hdr 1 [master.toNat, gen.toNat, members.toNat] fun s =>
    let port := match via with | .port c _ => c.val | .net _ => 4
    let higher := s.laterTerm hdr.term.toNat
    if s.domRole = domMaster then
      if higher then
        let s := (s.wr R.DOM_STATUS.ROLE domMember).raise .domSplit noHead
        let s := (s.wr R.DOM_STATUS.STATE dsUnjoined).updDom fun D => { D with table := [], reserved := [] }
        let s := s.when (port != 4) fun s => s.wr R.DOM_STATUS.UP_PORT port
        (s.followBeacon port hdr master.toNat members.toNat).sendJoin
      else s
    else if seqLater 16 s.term hdr.term.toNat && !higher then s
    else
      let s := s.updDom fun D => { D with
        deadlines := SMap.set (fun _ => none) D.deadlines port (some (s.now + s.rd R.DOM_TIMERS.BEACON_TO * 1000)) }
      let alt := s.rd (R.DOM_PORT.ROLE port) == 2 && port != 4
      let s := s.when (alt && (higher || s.domState == dsHoldover) && !s.on R.DOM_STATUS.VIA_NET) fun s =>
        s.wr R.DOM_STATUS.UP_PORT port
      let s := s.when (port != 4 && s.upstream.isNone) fun s => s.wr R.DOM_STATUS.UP_PORT port
      if higher || s.upstream == some port || s.upstream.isNone then
        s.followBeacon port hdr master.toNat members.toNat
      else s

/-- Has the deadline on a port passed, or none been set? -/
def State.beaconDead (s : State) (port : Nat) : Bool :=
  match SMap.get (fun _ => none) s.dom.deadlines port with
  | some d => decide (d < s.now)
  | none => true

/-- BEACON_TIMEOUT (R372 to R374, R419), at a safety tick (R324). [DESIGN CHOICE, log 144] -/
def execBeaconTimeout (t : Time) (s : State) : Host.Outcome State Fault Refusal :=
  s.run t fun s =>
    if !s.on R.DOM_CFG.EN || s.domRole == domMaster || s.now % 10000 != 0 then s
    else match s.upstream with
      | none => s
      | some up =>
        let other := if up = 4 then none else s.portOfRole (if s.rd (R.DOM_PORT.ROLE up) = 1 then 2 else 1)
        let dead (p : Option Nat) : Bool := match p with | some c => s.beaconDead c | none => true
        if !s.beaconDead up then s
        else if !dead other then s.wr R.DOM_STATUS.UP_PORT (other.getD 0)
        else if s.domState ≠ dsJoined then s
        else
          let s := s.updDom fun D => { D with deadlines := [] }
          if s.domRole = domBackup then
            let s := s.raise .domMasterLost noHead
            let s := (s.wr R.DOM_MASTER.TERM (s.term + 1)).wr R.DOM_STATUS.ROLE domMaster
            let s := (s.wr R.DOM_MASTER.MASTER_DID s.did).inc R.DOM_CNT_TAKEOVER.COUNT
            (s.showMembers.raise .domBackupTakeover noHead).beacon
          else (s.wr R.DOM_STATUS.STATE dsHoldover).enterHoldover

/-- Has the holdover lasted `n` seconds? -/
def State.heldOver (s : State) (n : Nat) : Bool := s.clk.holdSince.any fun a => decide (a + n * 1000000000 ≤ s.now)

/-- HOLDOVER_LONG (R374): holdover has lasted HOLD_T. [DESIGN CHOICE, log 144] -/
def execHoldoverLong (t : Time) (s : State) : Host.Outcome State Fault Refusal :=
  s.run t fun s => s.when (s.domState == dsHoldover && s.heldOver (s.rd R.DOM_TIMERS.HOLD_T)) fun s =>
    s.raise .domHoldoverLong noHead

/-- HOLD_ALIGN_EXPIRY (R419): holdover has lasted HOLD_ALIGN seconds; 0 never. [DESIGN CHOICE, log 144] -/
def execHoldAlignExpiry (t : Time) (s : State) : Host.Outcome State Fault Refusal :=
  s.run t fun s =>
    s.when (s.on R.CLK_STATUS.HOLDOVER && s.on R.CLK_DISC.HOLD_ALIGN && s.heldOver (s.rd R.CLK_DISC.HOLD_ALIGN)) fun s =>
      (s.wr R.CLK_TIMING_CAUSE.HOLD 1).refreshTiming

/-! ### Markers (R358, R362, R408) -/

/-- MARKER_SEND (R358): each end of a hop, 125 µs after its MARKER before; the departure is stamped, t1 of a parent and t3 of a
child. [DEDUCED, log 78; DESIGN CHOICE, log 144] -/
def execMarkerSend (t : Time) (c : Fin 4) (fine : BitVec 8) (s : State) : Host.Outcome State Fault Refusal :=
  s.run t fun s =>
    let at_ := s.now * 256 + fine.toNat
    let down := s.rd (R.DOM_PORT.ROLE c) == 3
    let last := SMap.get (fun _ => 0) (if down then s.dom.t1 else s.dom.t3) c
    if !s.on R.DOM_CFG.EN || s.rd (R.DOM_PORT.ROLE c) == 0 ||
        !s.dueAgain (if last = 0 then none else some (last / 256)) 125000 then s
    else
      let s := s.updDom fun D =>
        if down then { D with t1 := SMap.set (fun _ => 0) D.t1 c at_ } else { D with t3 := SMap.set (fun _ => 0) D.t3 c at_ }
      s.domSend 2 (some c) 0 []

/-- The divider phase is checked at a MARKER (R362). -/
def State.checkPhase (s : State) (phase : Int) : State :=
  if s.on R.CLK_STATUS.ALIGNED ∧ (128 < phase ∨ phase < -128) then
    let s := ((s.wr R.CLK_STATUS.ALIGNED 0).wr R.CLK_TIMING_CAUSE.ALIGN 1).refreshTiming
    s.raise .domSyncMisalign noHead
  else s

/-- MARKER_RECEIVE (R358, R362): the parent stamps t4 and follows up; the child stamps t2 and answers at t3. -/
def execMarkerReceive (t : Time) (c : Fin 4) (rx : LinkRx) (hdr : DomHdr) (fine : BitVec 8) (turn : Word)
    (phase : BitVec 16) (s : State) : Host.Outcome State Fault Refusal :=
  s.run t fun s =>
    let (s, ok) := s.domArrive (.port c rx) hdr
    if !ok || s.rd (R.DOM_PORT.ROLE c) == 0 then s
    else
      let at_ := s.now * 256 + fine.toNat
      let s := if s.rd (R.DOM_PORT.ROLE c) = 3 then
          s.domSend 3 (some c) hdr.srcDid.toNat [SMap.get (fun _ => 0) s.dom.t1 c, at_]
        else
          let s := s.updDom fun D => { D with
            t2 := SMap.set (fun _ => 0) D.t2 c at_, t3 := SMap.set (fun _ => 0) D.t3 c (at_ + turn.toNat) }
          s.domSend 2 (some c) 0 []
      s.checkPhase phase.toInt

/-- MARKER_FU_RECEIVE (R358, R408, R417): hop delay and offset; the offset goes to the discipline from the port in use.
The rounding of the half is not stated. [DEDUCED, log 132] -/
def execMarkerFuReceive (t : Time) (c : Fin 4) (rx : LinkRx) (hdr : DomHdr) (t1 t4 : BitVec 72) (s : State) :
    Host.Outcome State Fault Refusal :=
  s.run t fun s =>
    let (s, ok) := s.domArrive (.port c rx) hdr
    let t2 := SMap.get (fun _ => 0) s.dom.t2 c
    let t3 := SMap.get (fun _ => 0) s.dom.t3 c
    if !ok || s.rd (R.DOM_PORT.ROLE c) == 3 || s.rd (R.DOM_PORT.ROLE c) == 0 || t2 == 0 then s
    else
      let d := s.roundFree (((t4.toNat : Int) - t1.toNat) - ((t3 : Int) - t2)) 2 + s.rdS (R.DOM_PORT.ASYM c)
      let theta := (t2 : Int) - t1.toNat - d
      let s := (s.drawn.wrS (R.DOM_HOP.VALUE c) d).wrS R.DOM_TIME_ERR.VALUE theta
      let s := s.updDom fun D => { D with hopKnown := SMap.set (fun _ => false) D.hopKnown c true }
      let skip := (s.port (16 + c.val)).skip
      if skip ≠ 0 then s.updPort (16 + c.val) fun x => { x with skip := skip - 1 }
      else if s.upstream = some c.val ∨ s.upstream = none then s.offsetSample theta (s.sampleInterval 125000)
      else s

/-! ### Divider alignment (R361, R362, R416) -/

/-- Is the time of the device within 1 ns of its parent's (R361)? The measurement of a member joined over the network is that of
its last offset sample. [DEDUCED, log 132] -/
def State.timeConverged (s : State) : Bool :=
  decide (-256 ≤ s.rdS R.DOM_TIME_ERR.VALUE) && decide (s.rdS R.DOM_TIME_ERR.VALUE ≤ 256)

/-- SYNC_REQ_RECEIVE (R361, R416): a whole multiple of 5 ns; no head may be SCANNING or INHIBITED. -/
def execSyncReqReceive (t : Time) (via : DomVia) (hdr : DomHdr) (at_ : Time) (s : State) :
    Host.Outcome State Fault Refusal :=
  s.run t fun s => s.domMessage via hdr 11 [at_.toNat] fun s =>
    if at_.toNat % 5 = 0 ∧ ¬ s.anyScanning then s.updClk fun c => { c with syncAt := some at_.toNat } else s

/-- SYNC_IN_EDGE (R361, R416): for a device with no upstream that has SYNC_IN enabled. [DEDUCED, log 132] -/
def execSyncInEdge (t : Time) (s : State) : Host.Outcome State Fault Refusal :=
  s.run t fun s =>
    if s.on R.DOM_CFG.SYNC_PIN && (s.portOfRole 1).isNone && !s.on R.DOM_STATUS.VIA_NET && !s.anyScanning then
      (s.updClk fun c => { c with syncEdge := some s.now }).updDom fun D => { D with syncOut := some s.now }
    else s

/-- The dividers are aligned (R361, R362). [DEDUCED, log 132] -/
def State.aligned (s : State) : State :=
  let s := s.updClk fun c => { c with syncAt := none, syncEdge := none, realign := false }
  ((s.wr R.CLK_STATUS.ALIGNED 1).wr R.CLK_TIMING_CAUSE.ALIGN 0).refreshTiming

/-- DIVIDER_RESET (R361, R416): at the DT named, once the time has converged, or 20 ns after a SYNC_IN edge, where DT moves by less
than 5 ns to a whole multiple of 5 ns; which of the two multiples is not stated. [DESIGN CHOICE, log 144] -/
def execDividerReset (t : Time) (s : State) : Host.Outcome State Fault Refusal :=
  s.run t fun s =>
    if s.anyScanning then s
    else match s.clk.syncEdge, s.clk.syncAt with
      | some e, _ =>
        if s.now < e + 20 then s
        else
        let low := s.fullTime / 1280 * 1280
        let t1 := if s.fullTime = low then low else low + 1280 * s.freeVal 1
        (s.drawn.stepTime t1).aligned
      | none, some d => if s.now = d ∧ s.timeConverged then s.aligned else s
      | none, none => s

/-! ### Plans (R366, R367) -/

/-- The plan of a list that is due last. -/
def duePlan (now : Nat) (l : List PlanPend) : Option PlanPend := (l.filter fun p => decide (p.eff ≤ now)).getLast?

/-- A plan is kept beside the one due last and those of an earlier effective DT (R366). -/
def State.addPlan (s : State) (p : PlanPend) : State :=
  s.updDom fun D => { D with
    plans := (duePlan s.now D.plans).toList ++ (D.plans.filter fun x => decide (s.now < x.eff ∧ x.eff < p.eff)) ++ [p] }

/-- PLAN_RECEIVE (R366). -/
def execPlanReceive (t : Time) (via : DomVia) (hdr : DomHdr) (gen : Word) (eff : Time) (entries : List PlanEntry)
    (s : State) : Host.Outcome State Fault Refusal :=
  s.run t fun s => s.domMessage via hdr 8 ([gen.toNat, eff.toNat] ++ planBody entries) fun s =>
    s.addPlan ⟨gen.toNat, eff.toNat, entries⟩

/-- The plan entry of a head comes into force at a frame start at or after the effective DT (R366): true when it changed. -/
def State.applyPlan (s : State) (h : Nat) : State × Bool :=
  match duePlan s.now s.dom.plans with
  | none => (s, false)
  | some p =>
    let e := p.entries.find? fun e => e.head.val == h
    let (per, ph, v) := match e with
      | some e => (e.period.toNat, e.phase.toNat, 1)
      | none => (0, 0, 0)
    let same := s.rd (R.DOM_PLAN0.PERIOD h) == per && s.rd (R.DOM_PLAN1.PHASE h) == ph && s.rd (R.DOM_PLAN2.VALID h) == v
    let s := ((s.wr (R.DOM_PLAN0.PERIOD h) per).wr (R.DOM_PLAN1.PHASE h) ph).wr (R.DOM_PLAN2.VALID h) v
    (s.wr R.DOM_PLAN_GEN.VALUE p.gen, !same && v == 1)

/-! ### Helpers of multiply (R369 to R371) -/

/-- The helper heads of this device that follow a head of an owner. -/
def State.helpersOf (s : State) (did owner : Nat) : List Nat :=
  indices 16 fun h => s.isHelper h && s.rd (R.DOM_MULT.OWNER_DID h) == did && s.rd (R.DOM_MULT.OWNER_HEAD h) == owner

/-- A notice came late or does not match: the dwell closes with no shots (R371). -/
def State.noticeLate (s : State) (h : Nat) : State :=
  let s := s.updScan h fun c => { c with noticeBad := true }
  (s.inc R.DOM_CNT_LATE_NOTICE.COUNT).raise .domNoticeLate h

/-- The CRC-32C of the timing fields of a descriptor (R370): those R369 names, four bytes each in its order; the spec gives no
layout. [DESIGN CHOICE, log 171] -/
def Desc.timingCrc (d : List Nat) : Nat :=
  crc32c (pack [(4, bits (descWord d 1) 27 16), (4, Desc.shotCntM1 d), (4, Desc.shotInt d), (4, bits (descWord d 2) 13 12),
    (4, Desc.near d), (4, Desc.far d), (4, Desc.pattern d), (4, Desc.settleProf d)])

/-- The dwell a helper prepares, or will prepare first. -/
def State.helperDwell (s : State) (h : Nat) : Nat :=
  if (s.head h).scan.inFrame then s.rd (R.SCAN_POS.DWELL h) else (s.head h).scan.nextDwell

/-- NOTICE_RECEIVE (R369 to R371): a notice of another dwell is none of the dwell awaited. [DEDUCED, log 91] -/
def execNoticeReceive (t : Time) (via : DomVia) (hdr : DomHdr) (owner : HeadIx) (n : Notice) (s : State) :
    Host.Outcome State Fault Refusal :=
  let body := match n with
    | .opens f d a fine crc => [owner.val, 0, f.toNat, d.toNat, a.toNat, fine.toNat, crc.toNat]
    | .stop f d k => [owner.val, 1, f.toNat, d.toNat, k.toNat]
  s.run t fun s => s.domMessage via hdr 10 body fun s =>
    (s.helpersOf hdr.srcDid.toNat owner).foldl (fun s h => match n with
      | .opens _ d a _ crc =>
        let s := s.when (s.headState h == hsParked && !s.calibrating h) fun s => s.headScan h
        let own := Desc.timingCrc (s.descAt h (s.rd (R.SCAN_STATUS.ACTIVE_SLOT h)) d.toNat)
        if s.helperDwell h ≠ d.toNat then s
        else if own = crc.toNat ∧ s.now ≤ a.toNat then s.updScan h fun c => { c with fixedOpen := some a.toNat }
        else s.noticeLate h
      | .stop _ d k =>
        s.when (s.rd (R.SCAN_POS.DWELL h) == d.toNat) fun s => s.updScan h fun c => { c with stopShot := some k.toNat }) s

/-- NOTICE_DEADLINE (R371): no notice has come by the DT of the open, which is not before the target the helper computes.
[DEDUCED, log 91] -/
def execNoticeDeadline (t : Time) (h : HeadIx) (s : State) : Host.Outcome State Fault Refusal :=
  s.run t fun s =>
    let c := (s.head h).scan
    if s.isHelper h && c.fixedOpen.isNone && !c.noticeBad && decide (c.target ≤ s.now) && (s.rd (R.SCAN_POS.PHASE h) == 1 || s.rd (R.SCAN_POS.PHASE h) == 2)
    then s.noticeLate h else s

/-- A notice of the owner to its helpers (R370): only the token holder sends them. -/
def State.sendNotice (s : State) (h : Nat) (body : List Nat) : State :=
  if s.dev.sealed && s.on (R.DOM_MULT.EN h) && !s.on (R.DOM_MULT.ROLE h) && s.holdsToken then
    s.domSend 10 none 0 (h :: body)
  else s

/-- The domain at seal (R355, R363): the master takes its DID. -/
def State.domSeal (s : State) : State :=
  if !s.on R.DOM_CFG.EN then s
  else
    let s := s.wr R.DOM_STATUS.ROLE (s.rd R.DOM_CFG.ROLE_CFG)
    if s.rd R.DOM_CFG.ROLE_CFG = domMaster then
      let d := s.rd R.DOM_CFG.DID_PREF
      let s := ((s.wr R.DOM_STATUS.DID d).wr R.DOM_STATUS.STATE dsJoined).wr R.DOM_MASTER.MASTER_DID d
      (s.updDom fun D => { D with table := [{ did := d, serial := s.serial, role := domMaster }] }).showMembers
    else s.wr R.DOM_STATUS.UP_PORT ((s.portOfRole 1).getD 0)

end Sys2Proof.Machine
end

