-- ==== Sys2Proof/Machine/Memory.lean ====
section
/-! DEFINITION. The memory controllers (15_memory.md, R376 to R392): ports, pseudo-channels, training, self-refresh, data rate,
errors, scrubbing and the wipe. -/

namespace Sys2Proof.Machine

def pcDefault (_ : Nat) : Pc := {}

/-- Pseudo-channel `i`. -/
def State.pc (s : State) (i : Nat) : Pc := SMap.get pcDefault s.mem.pcs i

def State.updPc (s : State) (i : Nat) (f : Pc → Pc) : State :=
  s.updMem fun m => { m with pcs := SMap.upd pcDefault m.pcs i f }

/-- The class of a port (Table 15.2). -/
def portClass (p : Nat) : Nat := if p < 2 then 0 else if p < 5 then 1 else if p < 7 then 2 else 3

/-! ### Errors and stack failure (R388, R390) -/

/-- A stack fails (R390); during the wipe of a boot no slot can succeed any more (R391, R472). [DESIGN CHOICE, log 36] -/
def State.stackFail (s : State) (st : Nat) : State :=
  if s.bitOf R.MEM_STATUS.STACK_FAIL st then s
  else
    let s := (s.wrBit R.MEM_STATUS.STACK_FAIL st true).raiseU .memStackFail noHead st
    s.when (s.boot.trained && !s.dev.sealed && !s.on R.MEM_STATUS.WIPE_DONE) fun s =>
      ({ s with boot := { s.boot with cands := [], passed := none } }).raise .bootNoImage noHead

/-- A corrected error of the stack of an address. -/
def State.memCorrected (s : State) (a : Nat) : State :=
  (s.incSat (R.MEM_ECC.CORR (stackOf a))).raise .memEccCorr noHead

/-- An uncorrectable error at an address: counted, recorded, reported; more than UE_MAX within 1 s fail the stack. -/
def State.memUncorrectable (s : State) (a : Nat) : State :=
  let st := stackOf a
  let s := (s.incSat (R.MEM_ECC.UNCORR st)).wr64 R.MEM_UE_ADDR_LO.ADDR R.MEM_UE_ADDR_HI.ADDR (a / 64 * 64)
  let times := (s.now :: SMap.get (fun _ => []) s.mem.ues st).filter fun x => decide (s.now < x + 1000000000)
  let s := s.updMem fun m => { m with ues := SMap.set (fun _ => []) m.ues st times }
  let s := s.raise .memEccUncorr noHead
  s.when (decide (s.rd R.MEM_CFG.UE_MAX < times.length)) fun s => s.stackFail st

/-! ### Requests (R381 to R383) -/

/-- The bytes a request moves. -/
def reqBytes (r : MemReq) : Nat := if r.write then r.data.length else r.len.toNat

/-- Requests in flight in a pseudo-channel (R382). -/
def Pc.inFlight (c : Pc) : Nat := c.reads.length + c.writes.length + c.out.length

/-- May a request be issued to its pseudo-channel? Before the wipe is complete only port 9 reaches the stacks (R391).
[DESIGN CHOICE, log 36] -/
def State.mayIssue (s : State) (r : MemReq) : Bool :=
  (r.port.val == 9 || s.on R.MEM_STATUS.WIPE_DONE) && (!s.regulated r.port || decide (4 * reqBytes r ≤ (s.memPort r.port).tokens)) &&
    decide ((s.pc (pcOf r.addr.toNat)).inFlight < 64)

/-- A request is issued to its pseudo-channel: its tokens go, its channel leaves self-refresh (R386), it joins its queue. -/
def State.issue (s : State) (j : MemJob) : State :=
  let r := j.req
  let i := pcOf r.addr.toNat
  let s := s.when (s.regulated r.port) fun s => s.updMemPort r.port fun x => { x with tokens := x.tokens - 4 * reqBytes r }
  let s := s.updMem fun m => { m with asleep := if bit m.asleep (i / 2) then m.asleep - 2 ^ (i / 2) else m.asleep }
  s.updPc i fun c => { c with
    lastAt := s.now
    reads := if r.write then c.reads else c.reads ++ [j]
    writes := if r.write then c.writes ++ [j] else c.writes }

/-- The requests a port holds are issued in order, as far as they may be. -/
def State.issueHeld (p : Nat) : List MemJob → State → State
  | [], s => s.updMemPort p fun x => { x with held := [] }
  | j :: js, s =>
    if s.mayIssue j.req then State.issueHeld p js (s.issue j)
    else s.updMemPort p fun x => { x with held := j :: js }

/-- Bytes of `a` on, as the writes `ws` will leave them, oldest write first (R383). -/
def overlay (ws : List MemJob) (a : Nat) (bs : List Byte) : List Byte :=
  ws.foldl (fun bs w => (List.range bs.length).map fun i =>
    let k := a + i
    let o := w.req.addr.toNat
    if o ≤ k ∧ k < o + w.req.data.length then w.req.data.getD (k - o) 0 else bs.getD i 0) bs

/-- The oldest read of the lowest class present (R382). -/
def pickRead (rs : List MemJob) : Option MemJob :=
  ([0, 1, 2, 3].map fun c => rs.find? fun j => portClass j.req.port == c).findSome? id

/-- Has a request waited 2 µs? -/
def State.overdue (s : State) (j : MemJob) : Bool := decide (j.at_ + 2000 ≤ s.now)

/-- A write goes to the stack. -/
def State.doWrite (s : State) (i : Nat) (w : MemJob) : State :=
  let s := s.updPc i fun c => { c with writes := c.writes.erase w, draining := c.draining && decide (17 < c.writes.length) }
  s.hbmWrite w.req.addr.toNat w.req.data

/-- A read goes to the stack, with the data of the latest queued write to its unit (R383). -/
def State.doRead (s : State) (i : Nat) (r : MemJob) : State :=
  let a := r.req.addr.toNat
  let d := overlay (s.pc i).writes a (s.hbmBytes a r.req.len.toNat)
  s.updPc i fun c => { c with reads := c.reads.erase r, out := c.out ++ [{ r with data := d }] }

/-- One turn of the scheduler of pseudo-channel `i` (R382). [DEDUCED, log 93] -/
def State.pcTurn (s : State) (i : Nat) : State :=
  let c := s.pc i
  let drain := c.draining || decide (48 ≤ c.writes.length)
  let s := s.updPc i fun c => { c with draining := drain }
  let oldest := match c.reads.head?, c.writes.head? with
    | some r, some w => some (if w.at_ < r.at_ then w else r)
    | some r, none => some r
    | none, w => w
  let urgent := oldest.filter s.overdue
  let choice := match urgent, drain, c.writes.head?, pickRead c.reads with
    | some j, _, _, _ => some j
    | none, true, some w, _ => some w
    | none, _, _, some r => some r
    | none, _, w, none => w
  match choice with
  | none => s
  | some j => if j.req.write then s.doWrite i j else s.doRead i j

/-- A port takes a request; what it cannot issue it holds, and counts the stall (R379, R381). [DEDUCED, log 93] -/
def State.memRequest (s : State) (r : MemReq) : State :=
  let p := r.port.val
  let s := s.fillBucket p
  let s := State.issueHeld p ((s.memPort p).held ++ [{ req := r, at_ := s.now }]) s
  let s := s.when (!(s.memPort p).held.isEmpty) fun s => s.inc (R.MEM_PORT_STALL.COUNT p)
  s.pcTurn (pcOf r.addr.toNat)

/-- `n` units of 64 bytes at `a` are asked for at port `p`, and what they hold with the writes that are queued (R383).
[DEDUCED, log 93] -/
def State.memRead (s : State) (p : Fin 10) (a n : Nat) : State × List Byte :=
  let unit (i : Nat) : Nat := a / 64 * 64 + 64 * i
  let bs := (List.range n).flatMap fun i => overlay (s.pc (pcOf (unit i))).writes (unit i) (s.hbmBytes (unit i) 64)
  (s.each n fun i s => s.memRequest ⟨p, false, BitVec.ofNat 35 (unit i), 64, []⟩, bs)

/-- MEM_REQUEST_ISSUE (R379, R381, R382, R386). [DEDUCED, log 93] -/
def execMemRequestIssue (t : Time) (r : MemReq) (s : State) : Host.Outcome State Fault Refusal :=
  s.run t fun s => s.memRequest r

/-! ### Uncorrectable reads by region (Table 15.3) -/

/-- A record of the bench spill ring is dropped. -/
def State.spillLost (s : State) (i : Nat) : State :=
  match s.spill.find? (·.1 == i) with
  | none => s
  | some e => { s with spill := s.spill.filter (·.1 != i) }.dropTaken e.2

/-- A record of a point ring is not sent: the streams that hold it count it lost, and show GAP (R216). -/
def State.pointLost (s : State) (h i : Nat) : State :=
  s.each 16 fun str s => s.when (s.carriesHead str 0 h) fun s =>
    let held := (s.net.opened.any fun f => f.1 == str * 16 + h && f.2.recs.contains i) ||
      s.net.queues.any fun q => q.2.any fun f => f.kind == .points && f.stream == str && f.head == h && f.recs.contains i
    s.when held fun s => (s.inc (R.NET_STREAM_LOST.LOST str)).updNet fun N => { N with
      gap := setBit N.gap str
      opened := SMap.upd (fun _ => ({} : OpenFrame)) N.opened (str * 16 + h) fun f => { f with recs := f.recs.filter (· != i) }
      queues := N.queues.map fun q => (q.1, dropIndex str h i q.2) }

/-- The records of a unit of the return-list staging are lost (R239, R244): those that have not left it. [DEDUCED, log 96] -/
def State.stagedLost (s : State) (a : Nat) : State :=
  let held := (List.range (s.cap.stageWr - s.cap.stageRd)).map (s.cap.stageRd + ·)
  let lost := held.filter fun i => stageAddr i / 64 == a / 64 && !s.cap.stageBad.contains i
  let s := s.updCap fun c => { c with stageBad := c.stageBad ++ lost }
  lost.foldl (fun s _ => s.capLost (s.rd R.CAP_RL.STREAM)) s

/-- What the owner of the region of an address does with an uncorrectable read. Bearings, field lines and descriptors are
handed to their owners, which act when they take them (R51, R176, R210); a snapshot frame is returned as stored. -/
def State.unreadable (s : State) (a : Nat) (other : Bool) : State :=
  if 0x10C000000 ≤ a ∧ a < 0x10D800000 then s.spillLost ((a - 0x10C000000) / 0xC00)
  else if 0x10E000000 ≤ a ∧ a < 0x10F000000 then
    s.when (other || s.bitOf R.MEM_STATUS.STACK_FAIL (1 - stackOf a)) fun s => s.raise .memTableFail noHead
  else if 0x10F000000 ≤ a ∧ a < 0x110000000 then s.inc R.DOM_CNT_DISCARD.COUNT
  else if 0x110000000 ≤ a ∧ a < 0x114000000 then s.stagedLost a
  else if 0x120000000 ≤ a ∧ a < 0x1A0000000 then
    let h := (a - 0x120000000) / 0x8000000
    let i := (a - 0x120000000) % 0x8000000 / 32
    -- a 64-byte unit holds two records; the ring index is the newest one at that place
    let wr := s.rd (R.NET_RING_WR.WR_IDX h)
    let n := 2 ^ s.rd (R.NET_RING.RING_LOG2 h)
    let newest (j : Nat) : Nat := (wr + 2 ^ 32 - 1 - (wr + 2 * 2 ^ 32 - 1 - j) % n) % 2 ^ 32
    (s.pointLost h (newest (i / 2 * 2))).pointLost h (newest (i / 2 * 2 + 1))
  else s

/-- MEM_READ_COMPLETE (R383, R388, R390, Table 15.3). -/
def execMemReadComplete (t : Time) (p : Fin 10) (addr : BitVec 35) (sev : MemSev) (other : Bool) (s : State) :
    Host.Outcome State Fault Refusal :=
  s.run t fun s =>
    let a := addr.toNat
    let i := pcOf a
    let job := (s.pc i).out.find? fun j => j.req.addr == addr && j.req.port == p
    let data := match job with
      | some j => j.data
      | none => s.hbmBytes (a / 64 * 64) 64
    let bad := sev == .uncorrectable || s.stackLost a
    let s := s.updPc i fun c => { c with out := match job with
      | some j => c.out.erase j
      | none => c.out }
    let s := s.updMemPort p fun x => { x with data := data, bad := bad }
    let s := s.when (sev == .corrected && !bad) fun s => s.memCorrected a
    let s := s.when bad fun s => (s.memUncorrectable a).unreadable a other
    let s := State.issueHeld p (s.fillBucket p |>.memPort p).held (s.fillBucket p)
    s.pcTurn i

/-! ### Retraining, self-refresh, data rate (R385 to R387) -/

/-- Offset of the pause of pseudo-channel `i` in the cycle of 100 ms (R385). -/
def retrainOffset (i : Nat) : Nat := (i + 1) * 1562500

/-- The last instant at which pseudo-channel `i` had its pause to take. -/
def State.lastPause (s : State) (i : Nat) : Option Nat :=
  let first := s.mem.cycleAt + retrainOffset i
  if s.now < first then none else some (first + (s.now - first) / 100000000 * 100000000)

/-- Is the pause of pseudo-channel `i` to be taken? -/
def State.pauseDue (s : State) (i : Nat) : Bool :=
  (s.lastPause i).any fun a => (s.pc i).pausedAt.all fun b => decide (b < a)

/-- Is the retraining window of pseudo-channel `i` open: from 20 µs before its pause until the pause is over (R385)? -/
def State.windowOpen (s : State) (i : Nat) : Bool :=
  let next := ((s.lastPause i).map (· + 100000000)).getD (s.mem.cycleAt + retrainOffset i)
  s.pauseDue i || decide (next ≤ s.now + 20000)

/-- RETRAIN_PAUSE (R385, R387, R390), once in each cycle. Settings gathered in a window that a change of the stack's rate waits for
are discarded. [DEDUCED, log 95; DESIGN CHOICE, log 144] -/
def execRetrainPause (t : Time) (pc : Fin 64) (res : Option Word) (s : State) : Host.Outcome State Fault Refusal :=
  s.run t fun s => s.when (s.pauseDue pc) fun s =>
    let i := pc.val
    let st := i / 32
    let s := s.updPc i fun c => { c with pausedAt := some s.now }
    let s := s.updMem fun m => { m with asleep := if bit m.asleep (i / 2) then m.asleep - 2 ^ (i / 2) else m.asleep }
    let target := s.on R.MEM_STATUS.TARGET
    let turn := s.on R.MEM_STATUS.RATE_PEND && (s.bitOf R.MEM_STATUS.RATE st != target) &&
      (st == 0 || s.bitOf R.MEM_STATUS.RATE 0 == target)
    let s := s.leaveRequest (.retrain pc) s.pwr.retrainUnits
    match res with
    | some w =>
      s.updPc i fun c => { c with
        fails := 0
        fast := if turn || s.bitOf R.MEM_STATUS.RATE st then c.fast else w
        slow := if !turn && s.bitOf R.MEM_STATUS.RATE st then w else c.slow }
    | none =>
      let s := s.updPc i fun c => { c with fails := c.fails + 1 }
      let s := (s.inc R.MEM_CNT_RETRAIN_FAIL.COUNT).raiseU .memRetrainFail noHead i
      s.when (decide (2 ≤ (s.pc i).fails)) fun s => s.stackFail st

/-- SELF_REFRESH_ENTRY (R386): both pseudo-channels of the channel have received no request for SR_IDLE. [DEDUCED, log 94] -/
def execSelfRefreshEntry (t : Time) (c : Fin 32) (s : State) : Host.Outcome State Fault Refusal :=
  s.run t fun s =>
    let idle (i : Nat) : Bool :=
      (s.pc i).inFlight == 0 && decide ((s.pc i).lastAt + 1000 * s.rd R.MEM_CFG.SR_IDLE ≤ s.now)
    if s.on R.MEM_CFG.SR_EN ∧ idle (2 * c) ∧ idle (2 * c + 1) ∧ ¬ bit s.mem.asleep c then
      (s.updMem fun m => { m with asleep := m.asleep + 2 ^ c.val }).inc R.MEM_CNT_SR.COUNT
    else s

/-- RATE_CHANGE_REQUEST (R387, R494): Nichrome, or a write of MEM_CTL inside a maintenance session. -/
def execRateChangeRequest (t : Time) (i : Option Iface) (slow : Bool) (s : State) : Host.Outcome State Fault Refusal :=
  s.run t fun s =>
    match i with
    | none => s.rateRequest (flag slow)
    | some i =>
      if !s.mayConfig i then s.accessError i true R.MEM_CTL.addr 2
      else (s.wrB R.MEM_CTL.RATE_SEL slow).rateRequest (flag slow)

/-- The requests that wait in pseudo-channel `i` are issued to the stack, in the order of its scheduler (R387, step 2). -/
def State.completeFlight (s : State) (i : Nat) : State :=
  s.each ((s.pc i).reads.length + (s.pc i).writes.length) fun _ s => s.pcTurn i

/-- STACK_RATE_CHANGE (R387): stack 0 first, with no retraining window of the stack open and its requests completed; when both
stacks run at the new rate the change is complete. [DEDUCED, log 95] -/
def execStackRateChange (t : Time) (st : Fin 2) (s : State) : Host.Outcome State Fault Refusal :=
  s.run t fun s =>
    let target := s.on R.MEM_STATUS.TARGET
    if !s.on R.MEM_STATUS.RATE_PEND || s.bitOf R.MEM_STATUS.RATE st == target ||
        (st.val == 1 && s.bitOf R.MEM_STATUS.RATE 0 != target) ||
        (List.range 32).any (fun i => s.windowOpen (32 * st.val + i)) then s
    else
      let s := s.each 32 fun i s => s.completeFlight (32 * st.val + i)
      let s := s.wrBit R.MEM_STATUS.RATE st target
      let s := s.updMem fun m => { m with asleep := if st.val = 0 then m.asleep / 2 ^ 16 * 2 ^ 16 else m.asleep % 2 ^ 16 }
      let both := s.rd R.MEM_STATUS.RATE == (if target then 3 else 0)
      s.when both fun s =>
        let s := ((s.wr R.MEM_STATUS.RATE_PEND 0).inc R.MEM_CNT_RATE.COUNT).raise .memRateChange noHead
        s.updMem fun m => { m with cycleAt := s.now }

/-! ### Scrubber, wipe, PLL (R389 to R391) -/

/-- Nanoseconds of a pass of the scrubber: SCRUB_H hours (R389). -/
def State.scrubPass (s : State) : Nat := s.rd R.MEM_CFG.SCRUB_H * 3600000000000

/-- Is the scrubber's next unit due: its leave is granted (Table 18.1), and its share of the pass has come (R389)? -/
def State.scrubDue (s : State) : Bool :=
  s.pwr.grants.any (·.who == .scrub) && decide (s.mem.scrubFrom + s.mem.scrubAt * s.scrubPass / 2 ^ 29 ≤ s.now)

/-- SCRUB_UNIT (R388, R389): the scrubber's next unit, through memory port 9; a unit its owner has written since is left alone.
[DEDUCED, log 96; DESIGN CHOICE, log 144] -/
def execScrubUnit (t : Time) (sev : MemSev) (written : Bool) (s : State) : Host.Outcome State Fault Refusal :=
  s.run t fun s => s.when s.scrubDue fun s =>
    let (s, ok) := s.portTake 9 64
    if !ok then s else
    let a := 64 * s.mem.scrubAt
    let s := s.updMem fun m => { m with
      scrubAt := (m.scrubAt + 1) % 2 ^ 29
      scrubFrom := if m.scrubAt + 1 = 2 ^ 29 then m.scrubFrom + s.scrubPass else m.scrubFrom }
    let bad := sev == .uncorrectable || s.stackLost a
    let s := s.when (sev == .corrected && !bad) fun s => s.memCorrected a
    if !bad then s
    else
      let s := s.memUncorrectable a
      if written then s else s.hbmWrite a (List.replicate 64 0)

/-- The wipe starts: every region is cleared before another port reaches it (R391). [DESIGN CHOICE, log 36] -/
def State.wipeStart (s : State) : State :=
  let s := { s with hbm := [] }.wr R.MEM_STATUS.WIPE_DONE 0
  s.leaveRequest .wipe s.pwr.wipeUnits

/-- WIPE_COMPLETE (R391): 32 GiB at up to 1 TB/s after its leave; the requests that waited are issued. [DESIGN CHOICE, log 144] -/
def execWipeComplete (t : Time) (s : State) : Host.Outcome State Fault Refusal :=
  s.run t fun s =>
    if s.on R.MEM_STATUS.WIPE_DONE || !s.pwr.grants.any (fun l => l.who == .wipe && decide (l.at_ + 34359739 ≤ s.now)) then s
    else
      let s := (s.wr R.MEM_STATUS.WIPE_DONE 1).leaveEnd .wipe
      s.each 10 fun p s => State.issueHeld p (s.memPort p).held s

/-- HBM_PLL_LOSS_OF_LOCK (R390, R424). [DEDUCED, log 97] -/
def execHbmPllLossOfLock (t : Time) (st : Fin 2) (s : State) : Host.Outcome State Fault Refusal :=
  s.run t fun s =>
    let s := (s.wrBit R.CLK_STATUS.HBM_LOCK st false).inc R.CLK_CNT_LOL.COUNT
    (s.raiseU .clkHbmPllLol noHead st).stackFail st

end Sys2Proof.Machine
end

