-- ==== Sys2Proof/Machine/SafetyIo.lean ====
section
/-! DEFINITION. Safety inputs, outputs and safety communication (12_safety_io.md, R298 to R327), with the decision of the
islands (R21 to R23). Each island keeps its own breach states and channels and decides from its own copies and lines; what both
judge from the same levels and messages stands once. -/

namespace Sys2Proof.Machine

/-! ### The islands' copies (R299) -/

/-- The registers of a head of which each island holds a copy. -/
def copied (h : Nat) : List Nat :=
  [R.DET_RANGE_K.addr h, R.DET_MARGIN.addr h, R.DET_SEL_CFG.addr h] ++
    (List.range 8).flatMap fun i => [R.DET_BAND.addr h i, R.DET_FSET.addr h i]

/-- The copies are written at seal. -/
def State.copySeal (s : State) : State :=
  let m := ((List.range 16).flatMap copied).foldl (fun m a => SMap.set resetWord m a (BitVec.ofNat 32 (s.word a))) []
  s.updSafe fun F => { F with copyA := m, copyB := m }

/-- A field as an island's copy holds it. -/
def State.copyRd (s : State) (b : Bool) (f : FRef) : Nat :=
  bits (SMap.get resetWord (if b then s.safe.copyB else s.safe.copyA) f.addr).toNat f.hi f.lo

/-! ### OSSD pairs (R303, R304) -/

/-- Is an ESTOP input open (Table 12.1)? -/
def State.estop (s : State) : Bool := (List.range 8).any fun n => s.rd (R.SAFE_SI_CFG.FUNC n) == 3 && !s.siClosed n

/-- Is head `h` stale in an island for a limit of `gap` ms (R303)? -/
def State.stale (s : State) (h : Nat) (b : Bool) (gap : Nat) : Bool :=
  match (s.breachOf h b).lastComplete with
  | none => true
  | some d => decide (d + gap * 1000000 < s.now)

/-- The heads mapped to pair `m`. -/
def State.pairHeads (s : State) (m : Nat) : List Nat := indices 16 fun h => bit (s.rd (R.SAFE_OSSD_CFG.HEAD_MASK m)) h

/-- The first of conditions 1 to 3 that the channel of pair `m` in an island does not meet, as SAFE_OSSD_STATUS shows it. -/
def State.chanCause (s : State) (m : Nat) (b : Bool) : Option Nat :=
  let breached := (s.pairHeads m).any fun h =>
    if s.on (R.SAFE_OSSD_CFG.ZONE m) then (s.breachOf h b).warn else (s.breachOf h b).prot
  if !s.running then some 1
  else if s.estop then some 2
  else if breached then some 3
  else if (s.pairHeads m).any fun h => s.stale h b (s.rd (R.SAFE_OSSD_TIME.GAP_T m)) then some 4
  else none

/-- The hold of condition 4 of a channel: since when conditions 1 to 3 hold, and whether ON_DLY has passed. -/
def State.chanHold (s : State) (m : Nat) (b : Bool) : State :=
  match s.chanCause m b with
  | some _ => s
  | none =>
    let t := (SMap.get (fun _ => none) s.safe.okSince (chanIx m b)).getD s.now
    s.updSafe fun F => { F with
      okSince := SMap.set (fun _ => none) F.okSince (chanIx m b) (some t)
      delayed := if t + s.rd (R.SAFE_OSSD_CFG.ON_DLY m) * 10000000 ≤ s.now then setBit F.delayed (chanIx m b) else F.delayed }

/-- The holds of both channels of a pair. -/
def State.chanRaise (s : State) (m : Nat) : State := s.eachIsland fun b s => s.chanHold m b

/-- The first condition of R304 that a channel does not meet, as SAFE_OSSD_STATUS shows it; 0 where all hold. -/
def State.chanState (s : State) (m : Nat) (b : Bool) : Nat :=
  if s.bitOf R.SAFE_OSSD_STATUS.FAULT m then 7
  else match s.chanCause m b with
    | some c => c
    | none =>
      if !bit s.safe.delayed (chanIx m b) then 5
      else if s.on (R.SAFE_OSSD_CFG.RESTART m) && bit s.safe.need (chanIx m b) then 6
      else 0

/-- An island switches its channel as R304 says. -/
def State.evalChannel (s : State) (m : Nat) (b : Bool) : State :=
  let s := s.chanHold m b
  if s.chanState m b = 0 then
    if s.chanOn m b then s
    else (s.wrBit (onField b) m true).updSafe fun F => { F with chanAt := SMap.set (fun _ => 0) F.chanAt (chanIx m b) s.now }
  else if s.chanOn m b || (s.chanCause m b).isSome || s.bitOf R.SAFE_OSSD_STATUS.FAULT m then s.chanOff m b
  else s

/-- Both islands test the conditions of pair `m` (R304). Where they differ the condition shown is the first of either.
[DEDUCED, log 14] -/
def State.evalPair (s : State) (m : Nat) : State :=
  let was := s.ossdOn m
  let s := s.eachIsland fun b s => s.evalChannel m b
  let ca := s.chanState m false
  let cb := s.chanState m true
  let s := s.wr (ossdCause m) (if ca = 0 then cb else if cb = 0 then ca else min ca cb)
  s.when (s.ossdOn m != was) fun s => s.occurNow 0x08 m

/-- SAFE_STATUS.STALE: stale for the mapped pair with the shortest GAP_T (R303). -/
def State.showStale (s : State) : State :=
  s.wr R.SAFE_STATUS.STALE (maskOf 16 fun h =>
    let gaps := ((List.range 4).filter fun m => bit (s.rd (R.SAFE_OSSD_CFG.HEAD_MASK m)) h).map fun m => s.rd (R.SAFE_OSSD_TIME.GAP_T m)
    match gaps with
    | [] => false
    | g :: gs => s.stale h false (gs.foldl min g) || s.stale h true (gs.foldl min g))

/-- All pairs are tested. -/
def State.evalPairs (s : State) : State := (s.each 4 fun m s => s.evalPair m).showStale

/-- OSSD_ON_DELAY_EXPIRY (R304): conditions 1 to 3 have held for ON_DLY. -/
def execOssdOnDelayExpiry (t : Time) (m : Fin 4) (s : State) : Host.Outcome State Fault Refusal :=
  s.run t fun s => s.evalPair m

/-- HEAD_STALE (R303). -/
def execHeadStale (t : Time) (_h : HeadIx) (s : State) : Host.Outcome State Fault Refusal :=
  s.run t fun s => s.evalPairs

/-- A channel changes at this DT, for or after a test. -/
def State.chanTo (s : State) (m : Nat) (b on : Bool) : State :=
  (s.wrBit (onField b) m on).updSafe fun F => { F with chanAt := SMap.set (fun _ => 0) F.chanAt (chanIx m b) s.now }

/-- Is the present DT one at which an island tests its channels: a multiple of TEST_P, for island B half a period later (R306)?
[DESIGN CHOICE, log 144] -/
def State.testTime (s : State) (b : Bool) : Bool :=
  let p := s.rd R.SAFE_OSSD_TEST.TEST_P * 1000000
  (s.now + flag b * (p / 2)) % max 1 p == 0

/-- OSSD_TEST_START (R306): only a channel that is on is tested. -/
def execOssdTestStart (t : Time) (m : Fin 4) (b : Bool) (s : State) : Host.Outcome State Fault Refusal :=
  s.run t fun s => s.when (s.bitOf (onField b) m && s.testTime b) fun s =>
    (s.chanTo m b false).updSafe fun F => { F with testing := setBit F.testing (testBit m b) }

/-- OSSD_TEST_END (R306): after TEST_W the channel is on again; one that had to go off during the test is no longer in test.
[DESIGN CHOICE, log 144] -/
def execOssdTestEnd (t : Time) (m : Fin 4) (b : Bool) (s : State) : Host.Outcome State Fault Refusal :=
  s.run t fun s =>
    s.when (bit s.safe.testing (testBit m b) &&
      decide (SMap.get (fun _ => 0) s.safe.chanAt (chanIx m b) + s.rd R.SAFE_OSSD_TEST.TEST_W * 1000 ≤ s.now)) fun s =>
        (s.chanTo m b true).updSafe fun F => { F with testing := clearBit F.testing (testBit m b) }

/-- A channel reads back wrong: it goes off, its fault is latched (R307). -/
def State.ossdFault (s : State) (m : Nat) : State :=
  if s.bitOf R.SAFE_OSSD_STATUS.FAULT m then s
  else ((s.wrBit R.SAFE_OSSD_STATUS.FAULT m true).pairOff m 7).raiseU .safeOssdFault noHead m

/-- One readback at a tick (R307, R506): low 20 µs or more after the channel went on; high at the last tick of a test or in an
off state of 20 µs or more. A clamped input reads as disagreeing. [DEDUCED, log 99] -/
def State.readback (s : State) (m : Nat) (b rb : Bool) : State :=
  let on := s.bitOf (onField b) m
  let test := bit s.safe.testing (testBit m b)
  let at_ := SMap.get (fun _ => 0) s.safe.chanAt (chanIx m b)
  let rb := if s.clampedIn (26 + 2 * m + flag b) then !on else rb
  let settled := decide (at_ + 20000 ≤ s.now)
  let last := decide (at_ + 1000 * s.rd R.SAFE_OSSD_TEST.TEST_W < s.now + 10000)
  let bad := if test then rb && last else if on then !rb && settled else rb && settled
  s.when bad fun s => s.ossdFault m

/-! ### The decision of a dwell (R22, R180 to R182, R300 to R302) -/

/-- Has the line of a bearing reached an island, with a check that matches (R300)? -/
def Item.line (it : Item) (b : Bool) : Bool := if b then it.b && it.okB else it.a && it.okA

/-- What island A (false) or B finds for one bearing on the fast path: protective and warning breach. [DEDUCED, log 14, 54] -/
def State.itemBreach (s : State) (h : Nat) (k : Closed) (b forced : Bool) (it : Item) : Bool × Bool :=
  let det := it.det.getD {}
  let f := forced || k.forced || det.failed || det.blind || det.satNoRange || det.fieldLate || s.on (R.CAL_REC0.INPUT_FAIL it.n)
  inputBreach (s.copyRd b) h k.desc k.sets it.words (it.line b) f det

/-- What an island finds for one bearing on the slow path (R207, R208). -/
def State.itemSlow (s : State) (h : Nat) (k : Closed) (b : Bool) (it : Item) : Bool × Bool :=
  if !it.line b then (false, false)
  else it.slow.foldl (fun (p, w) c =>
    let (p', w') := candBreach (s.copyRd b) h k.desc k.sets it.words c; (p || p', w || w')) (false, false)

/-- A frame whose last dwell is decided, in an island: a complete frame without a breach of a zone clears that zone's state
(R302). [DEDUCED, log 32] -/
def State.frameJudge (s : State) (h : Nat) (i : Bool) : State :=
  if !(s.breachOf h i).frEnd then s
  else s.updBreach h i fun b => { b with
    frEnd := false
    lastComplete := if b.frOk then some (s.head h).closed.closeAt else b.lastComplete
    prot := b.prot && !(b.frOk && !b.frProt)
    warn := b.warn && !(b.frOk && !b.frWarn) }

/-- An island's alarm data after a decision: true where a change frame is due, because the breach state or the selected set has
changed (R220). -/
def State.alarmNow (s : State) (h : Nat) (i : Bool) : State × Bool :=
  let b := s.breachOf h i
  let old := s.alarm h i
  let set := s.rd (R.DET_SEL_STATUS.SELECTED h)
  (s.setAlarm h i { old with prot := b.prot, warn := b.warn, set := set }, old.prot != b.prot || old.warn != b.warn || old.set != set)

/-- Both islands bring their alarm data up to date; a frame that a slow decision queues says so, and those that are due go out. -/
def State.alarmChange (s : State) (h : Nat) (slow : Bool) : State :=
  let (s, a) := s.alarmNow h false
  let (s, b) := s.alarmNow h true
  let mark (i due : Bool) (s : State) : State := s.setAlarm h i { s.alarm h i with slow := slow && due }
  (mark true b (mark false a s)).queueAlarm h 0 a b

/-- A frame that ends without a last decision is judged by both islands (R302, R220). -/
def State.judgeFrames (s : State) (h : Nat) : State := (s.eachIsland fun i s => s.frameJudge h i).alarmChange h false

/-- What a decision of an island sets: its breach states, and the data of its alarm frames, in which a slow decision joins the
fast one of its dwell (R220, R302). [DEDUCED, log 98] -/
def State.decideIsland (s : State) (h : Nat) (i : Bool) (r : List (Nat × Bool × Bool)) (slow forced : Bool) : State :=
  let k := (s.head h).closed
  let p := r.any (·.2.1)
  let w := r.any (·.2.2)
  let here := k.frame == s.rd (R.SCAN_FRAME_NUM.FRAME h)
  let s := s.updBreach h i fun b => { b with
    prot := b.prot || p, warn := b.warn || w, frProt := b.frProt || (p && here), frWarn := b.frWarn || (w && here) }
  let fast := if i then k.resB else k.resA
  let all := if slow then (fast.zip r).map fun (x, y) => (x.1, x.2.1 || y.2.1, x.2.2 || y.2.2) else r
  let bids := (all.filter fun x => x.2.1 || x.2.2).map (·.1)
  let old := s.alarm h i
  s.setAlarm h i { old with
    forced := if slow then old.forced else forced && (p || w)
    dwell := k.dwell, close := k.closeAt, frame := k.frame
    nProt := (all.filter (·.2.1)).length, nWarn := (all.filter (·.2.2)).length, firstBid := bids.foldl min 0xFFFFF }

/-- Both islands have decided: the results of A and of B by bearing, on the slow path, forced in each; whether their exchange shows
a difference; whether the decision is the last of its dwell. [DEDUCED, log 14, 98] -/
def State.decideWith (s : State) (h : Nat) (ra rb : List (Nat × Bool × Bool)) (slow forcedA forcedB differ judge : Bool) : State :=
  let k := (s.head h).closed
  let s := (s.decideIsland h false ra slow forcedA).decideIsland h true rb slow forcedB
  let s := s.when judge fun s => s.eachIsland fun i s => s.frameJudge h i
  let s := s.when (ra.any (·.2.1) || rb.any (·.2.1)) fun s => s.occur ⟨5, h, false, k.closeAt * 256⟩
  let s := s.when (ra.any (·.2.2) || rb.any (·.2.2)) fun s => s.occur ⟨6, h, false, k.closeAt * 256⟩
  let s := s.alarmChange h slow
  let s := s.when (differ || ra != rb) fun s => (s.latch R.SAFE_STATUS.DISAGREE).raise .safeIslandDisagree h
  s.evalPairs

/-- The fast decision of the dwell that closed last; which islands are without returns (R22). [DEDUCED, log 98] -/
def State.decideFast (s : State) (h : Nat) (missA missB differ : Bool) : State :=
  let k := (s.head h).closed
  let its := k.items.filter (!·.un)
  let f (b miss : Bool) := its.map fun it => (it.bid, s.itemBreach h k b miss it)
  let ra := f false missA
  let rb := f true missB
  let forced (b miss : Bool) : Bool := miss || k.forced || its.any fun it =>
    let det := it.det.getD {}
    det.failed || det.blind || det.satNoRange || det.fieldLate || !it.line b
  let bad := (its.filter fun it => !(it.line false && it.line true)).length
  let s := s.each bad fun _ s => (s.inc R.SAFE_CNT_FCHECK.COUNT).raise .safeFieldCheck h
  let s := s.updClosed h fun k => { k with decided := true, resA := ra, resB := rb }
  s.decideWith h ra rb false (forced false missA) (forced true missB) differ (!s.persists h)

/-- The decision of a dwell that fired no shots: no breach (R20, R302). -/
def State.decideNone (s : State) (h : Nat) : State :=
  (s.updClosed h fun k => { k with decided := true }).decideWith h [] [] false false false false true

/-- Can the slow decision of a dwell be made: once, when every bearing of a head with persistence has been merged or will not be
in time (R23, R193)? [DEDUCED, log 98] -/
def State.slowReady (s : State) (h : Nat) : Bool :=
  let k := (s.head h).closed
  k.decided && !k.slowDone && s.persists h && k.items.all fun it => it.done || decide (k.closeAt + 1432 < s.now)

/-- SAFETY_DECISION (R21, R23, R180 to R182, R301, R302). [DEDUCED, log 98] -/
def execSafetyDecision (t : Time) (h : HeadIx) (slow differ : Bool) (s : State) : Host.Outcome State Fault Refusal :=
  s.run t fun s =>
    let k := (s.head h).closed
    if k.fired == 0 then s
    else if !slow then
      if k.decided || !k.items.all (·.det.isSome) then s else s.decideFast h false false differ
    else if !s.slowReady h then s
    else
      let f (b : Bool) := (k.items.filter (!·.un)).map fun it => (it.bid, s.itemSlow h k b it)
      (s.decideWith h (f false) (f true) true false false differ true).updClosed h fun k => { k with
        slowDone := true, items := k.items.map fun it => { it with slow := [] } }

/-- DECISION_DEADLINE (R22): 178 ns after the close. [DESIGN CHOICE, log 144] -/
def execDecisionDeadline (t : Time) (h : HeadIx) (a b : Bool) (s : State) : Host.Outcome State Fault Refusal :=
  s.run t fun s =>
    let k := (s.head h).closed
    if k.fired == 0 || k.decided || !(a || b) || decide (s.now < k.closeAt + 178) then s
    else ((s.inc R.SAFE_CNT_MISS.COUNT).raise .safeDecisionMiss h).decideFast h a b false

/-! ### Safety inputs (R308 to R315) -/

def chanDefault (_ : Nat) : Channel := {}

/-- Channel `c`: SI_A[n] 2n, SI_B[n] 2n + 1, SAFE_RST_A 16, SAFE_RST_B 17. -/
def State.channel (s : State) (c : Nat) : Channel := SMap.get chanDefault s.safe.chans c

def State.updChannel (s : State) (c : Nat) (f : Channel → Channel) : State :=
  s.updSafe fun F => { F with chans := SMap.upd chanDefault F.chans c f }

def inputDefault (_ : Nat) : SafeInput := {}

def State.safeInput (s : State) (n : Nat) : SafeInput := SMap.get inputDefault s.safe.inputs n

def State.updInput (s : State) (n : Nat) (f : SafeInput → SafeInput) : State :=
  s.updSafe fun F => { F with inputs := SMap.upd inputDefault F.inputs n f }

/-- The supply that feeds a channel of an input; 4 is none. -/
def State.chanSrc (s : State) (c : Nat) : Nat :=
  if 16 ≤ c then 4 else if c % 2 = 0 then s.rd (R.SAFE_SI_CFG.SRC_A (c / 2)) else s.rd (R.SAFE_SI_CFG.SRC_B (c / 2))

/-- Is a channel of an input at its closed level (R311)? -/
def State.atClosed (s : State) (c : Nat) : Bool :=
  let f := (s.channel c).filt
  if c % 2 == 1 && s.on (R.SAFE_SI_CFG.MODE (c / 2)) then !f else f

/-- Does an input hold a DISC or CROSS fault? -/
def State.inputFault (s : State) (n : Nat) : Bool := s.bitOf R.SAFE_SI_STATE.DISC n || s.bitOf R.SAFE_SI_STATE.CROSS n

/-- The field code that the inputs form now (R315). -/
def State.inputCode (s : State) : Nat :=
  maskOf 3 fun i => (List.range 8).any fun n => s.rd (R.SAFE_SI_CFG.FUNC n) == 4 + i && s.siClosed n

/-- Does an input serve FIELD_SELECT? -/
def State.isFieldSelect (s : State) (n : Nat) : Bool :=
  let f := s.rd (R.SAFE_SI_CFG.FUNC n)
  decide (4 ≤ f) && decide (f ≤ 6)

/-- Heads whose selection comes from the inputs form it anew. -/
def State.inputSel (s : State) : State :=
  s.eachHead fun h s => s.when (s.rd (R.DET_SEL_CFG.SRC h) == 1) fun s => s.refreshSel h

/-- Show an input closed or open, and what follows (R311, R314). -/
def State.showInput (s : State) (n : Nat) : State :=
  let was := s.siClosed n
  let is := s.atClosed (2 * n) && s.atClosed (2 * n + 1) && !s.inputFault n
  if was = is then s
  else
    let code := s.inputCode
    let s := s.wrBit R.SAFE_SI_STATE.CLOSED n is
    let s := s.when (s.inputCode != code) fun s => s.updSafe fun F => { F with codeAt := s.now }
    let s := s.eachHead fun h s => s.when (bit (s.rd (R.SAFE_SI_HEADS.HEAD_MASK n)) h) fun s => s.refreshSafetyIn h
    match s.rd (R.SAFE_SI_CFG.FUNC n) with
    | 2 => s.when (!is) fun s => s.raiseU .siDoor noHead n
    | 3 => if is then s.condOff .siEstop n else (s.ossdOff 2).raiseU .siEstop noHead n
    | _ => s

/-- An input takes a DISC or a CROSS fault (R310, R312, R315). -/
def State.inputFaults (s : State) (n : Nat) (cross : Bool) : State :=
  let f := if cross then R.SAFE_SI_STATE.CROSS else R.SAFE_SI_STATE.DISC
  if s.bitOf f n then s
  else
    let s := (s.wrBit f n true).updInput n fun x => { x with clearing := false, toTest := 0 }
    let s := s.showInput n
    let s := s.raiseU (if cross then .siCross else .siDiscrepancy) noHead n
    if s.isFieldSelect n then s.inputSel.raiseU .siFselInvalid noHead n else s

/-- The faults of an input clear (R313). -/
def State.faultClears (s : State) (n : Nat) : State :=
  let s := (s.wrBit R.SAFE_SI_STATE.DISC n false).wrBit R.SAFE_SI_STATE.CROSS n false
  let s := s.updInput n fun x => { x with clearing := false, toTest := 0 }
  let s := ((s.condOff .siDiscrepancy n).condOff .siCross n).showInput n
  if s.isFieldSelect n then s.inputSel else s

/-- Clearing begins at a tick at which both channels are open, and ends where one leaves its open level (R313). -/
def State.clearStep (s : State) (n : Nat) : State :=
  if !s.inputFault n then s
  else if s.atClosed (2 * n) || s.atClosed (2 * n + 1) then s.updInput n fun x => { x with clearing := false, toTest := 0 }
  else if (s.safeInput n).clearing then s
  else
    let due := maskOf 2 fun i => decide (s.chanSrc (2 * n + i) < 4) && (s.channel (2 * n + i)).filt
    if due = 0 then s.faultClears n else s.updInput n fun x => { x with clearing := true, toTest := due }

/-- Do the channels of an input disagree (R311)? -/
def State.disagrees (s : State) (n : Nat) : Bool := s.atClosed (2 * n) != s.atClosed (2 * n + 1)

/-- The discrepancy timer starts and stops with the channels, at a tick (R312). -/
def State.discrepancy (s : State) (n : Nat) : State :=
  let off := s.disagrees n
  let s := s.updInput n fun x => { x with discAt := if off then x.discAt.or (some s.now) else none }
  s.wrBit R.SAFE_SI_STATE.TIMING n (off && !s.bitOf R.SAFE_SI_STATE.DISC n)

/-- The channels still disagree DISC_T after the timer has started (R312). -/
def State.discTimeout (s : State) (n : Nat) : State :=
  match (s.safeInput n).discAt with
  | some d =>
    if s.disagrees n && decide (d + s.rd (R.SAFE_SI_CFG.DISC_T n) * 10000000 ≤ s.now) then
      (s.inputFaults n false).wrBit R.SAFE_SI_STATE.TIMING n false
    else s
  | none => s

/-! ### The reset (R317) -/

/-- Does a reset channel count as open? -/
def State.rstOpen (s : State) (c : Nat) : Bool := !(s.channel c).filt && (s.channel c).seenLow

/-- One step of the reset attempt, at a tick or a change of a filtered level. -/
def State.rstStep (s : State) : State :=
  let ca := (s.channel 16).filt
  let cb := (s.channel 17).filt
  let opens := s.rstOpen 16 && s.rstOpen 17
  let go (p : RstPhase) (s : State) := s.updSafe fun F => { F with rst := p }
  let done (v : Bool) (s : State) := s.updSafe fun F => { F with rst := .ready, rstDone := some v }
  match s.safe.rst with
  | .wait => s.when opens (go .ready)
  | .ready => if ca && cb then go (.pressed s.now) s else s.when (ca || cb) (go (.first s.now))
  | .first t =>
    if opens then done false s
    else s.when (ca && cb) (go (if s.now ≤ t + 50000000 then .pressed s.now else .bad))
  | .pressed t =>
    let ok := decide (t + 50000000 ≤ s.now) && decide (s.now ≤ t + 2000000000)
    if opens then done ok s
    else s.when (!(ca && cb)) (go (if ok then .released s.now else .bad))
  | .released t =>
    if opens then done (decide (s.now ≤ t + 50000000)) s
    else s.when (ca && cb) (go .bad)
  | .bad => s.when opens (done false)

/-- The filtered level of a channel takes a level (R309). -/
def State.channelSet (s : State) (c : Nat) (level : Bool) : State :=
  let was := (s.channel c).filt
  s.updChannel c fun x => { x with
    filt := level, count := 0, raw := level, seenLow := x.seenLow || level
    fails := if level then x.fails else 0
    testHigh := x.testHigh && level
    highSince := if level then (if was then x.highSince else some s.now) else none }

/-- What the level of a reset channel shows (R317, R319). -/
def State.showReset (s : State) : State :=
  let s := (s.wrBit R.SAFE_RST_STATUS.LEVEL 0 (s.channel 16).filt).wrBit R.SAFE_RST_STATUS.LEVEL 1 (s.channel 17).filt
  let s := s.when (s.on R.SAFE_RST_STATUS.STUCK && !(s.channel 16).filt && !(s.channel 17).filt) fun s =>
    (s.wr R.SAFE_RST_STATUS.STUCK 0).condOff .rstStuck 0
  s.rstStep

/-- The ticks at which a raw level must differ before the filtered level takes it (R309, R317). -/
def State.filterTicks (s : State) (c : Nat) : Nat := if c < 16 then s.rd (R.SAFE_SI_CFG.FILT (c / 2)) * 10 + 1 else 101

/-- INPUT_FILTER_CHANGE (R309, R311, R314, R315, R319): the tick that fills the filter count of a channel. [DEDUCED, log 99] -/
def execInputFilterChange (t : Time) (c : Fin 18) (level : Bool) (s : State) : Host.Outcome State Fault Refusal :=
  s.run t fun s =>
    let x := s.channel c
    if s.dev.sealed && x.filt != level && decide (s.filterTicks c ≤ x.count + 1) then
      let s := s.channelSet c level
      if c.val < 16 then s.showInput (c / 2) else s.showReset
    else s

/-- Time since the last pulse start of TP_k in ns (R308). -/
def State.tpOffset (s : State) (k : Nat) : Nat :=
  let p := max 1 (s.rd R.SAFE_TP_CFG.TPP * 1000000)
  (s.now + 4 * p - k * p / 4) % p

/-- One channel at a tick (R309, R310): the ticks of its test-pulse window leave level and count unchanged. -/
def State.sampleChannel (s : State) (c : Nat) (raw : Bool) : State :=
  let raw := raw && !s.clampedIn (8 + c)
  let x := s.channel c
  let k := s.chanSrc c
  let w := 1000 * s.rd R.SAFE_TP_CFG.TPW
  let o := s.tpOffset k
  let tested := x.filt && decide (k < 4) && decide (w ≤ 2 * o) && decide (o ≤ w)
  let run := if raw then 0 else x.lowRun + 1
  let s := s.updChannel c fun x => { x with
    testHigh := x.testHigh || (tested && raw), lowRun := min run 101, seenLow := x.seenLow || decide (101 ≤ run) }
  if decide (k < 4) && decide (o ≤ w + 20000) then s
  else if raw = x.filt then s.updChannel c fun x => { x with raw := raw, count := 0 }
  else if x.count + 1 < s.filterTicks c then s.updChannel c fun x => { x with raw := raw, count := x.count + 1 }
  else s.channelSet c raw

/-- One test of a channel has passed or failed (R310, R313). -/
def State.testVerdict (s : State) (c : Nat) : State :=
  let n := c / 2
  let x := s.channel c
  let fail := x.testHigh
  let s := s.updChannel c fun x => { x with testHigh := false, fails := if fail then x.fails + 1 else 0 }
  let i := s.safeInput n
  let s := if i.clearing && bit i.toTest (c % 2) then
      if fail then s.updInput n fun x => { x with clearing := false, toTest := 0 }
      else if i.toTest = 2 ^ (c % 2) then s.faultClears n
      else s.updInput n fun x => { x with toTest := x.toTest - 2 ^ (c % 2) }
    else s
  s.when (decide (2 ≤ (s.channel c).fails)) fun s => s.inputFaults n true

/-- TEST_PULSE (R308, R310, R313): a pulse of the supply has ended, and the channels that it feeds and whose filtered level is
high have been tested. [DEDUCED, log 99] -/
def execTestPulse (t : Time) (k : Fin 4) (s : State) : Host.Outcome State Fault Refusal :=
  s.run t fun s =>
    let o := s.tpOffset k
    let start := s.now - o
    if !s.dev.sealed || decide (o < 1000 * s.rd R.SAFE_TP_CFG.TPW) ||
        SMap.get (fun _ => none) s.safe.tpDone k == some start then s
    else (s.updSafe fun F => { F with tpDone := SMap.set (fun _ => none) F.tpDone k (some start) }).each 16 fun c s =>
      s.when (s.chanSrc c == k.val && (s.channel c).filt) fun s => s.testVerdict c

/-- DISCREPANCY_TIMEOUT (R312). [DESIGN CHOICE, log 144] -/
def execDiscrepancyTimeout (t : Time) (n : Fin 8) (s : State) : Host.Outcome State Fault Refusal :=
  s.run t fun s => s.discTimeout n

/-- Heads whose source is the inputs report a code that names a set not present (R315). -/
def State.codeCheck (s : State) : State :=
  s.eachHead fun h s => s.when (s.rd (R.DET_SEL_CFG.SRC h) == 1 && !s.on (R.DET_FSET.PRESENT h s.safe.code)) fun s =>
    s.raise .siFselInvalid h

/-- FIELD_CODE_HOLD (R315): a new code that has held for FSEL_T takes effect. [DESIGN CHOICE, log 144] -/
def execFieldCodeHold (t : Time) (s : State) : Host.Outcome State Fault Refusal :=
  s.run t fun s =>
    let code := s.inputCode
    if code = s.safe.code ∨ s.now < s.safe.codeAt + s.rd R.SAFE_FSEL_CFG.FSEL_T * 1000000 then s
    else ((s.updSafe fun F => { F with code := code }).inputSel).codeCheck

/-- STATE of connection `c`: 0 WAIT, 1 OK, 2 TIMEOUT, 3 disabled. -/
def connField (c : Nat) : FRef := ⟨R.SAFE_CONN_STATE.addr, 2 * c + 1, 2 * c⟩

/-- The islands at seal (R299, R309, R314, R315, R324): their copies; every filtered level low and every count 0, so that every
input is open: an ESTOP input from the start, and field code 0 is in force. [DEDUCED, log 99] -/
def State.safeSeal (s : State) : State :=
  let s := s.copySeal.updSafe fun F => { F with
    chans := [], inputs := [], rst := .wait, rstDone := none, code := 0, codeAt := s.now, tpDone := [] }
  let s := (s.wr R.SAFE_SI_STATE.CLOSED 0).each 4 fun c s => s.wr (connField c) (if s.on (R.SAFE_CONN1.EN c) then 0 else 3)
  let s := s.each 8 fun n s => s.when (s.rd (R.SAFE_SI_CFG.FUNC n) == 3) fun s => s.raiseU .siEstop noHead n
  s.codeCheck

/-- Is a channel of a MANUAL pair off and awaiting a reset, with conditions 1 to 4 (R318)? -/
def State.restartable (s : State) (m : Nat) (b : Bool) : Bool :=
  s.on (R.SAFE_OSSD_CFG.RESTART m) && bit s.safe.need (chanIx m b) && !s.chanOn m b && s.chanState m b == 6

/-- Leave SAFE when no SAFE cause is active (Table 1.4, R424). [DEDUCED, log 100] -/
def State.leaveSafe (s : State) : State :=
  if s.devState = devSafe ∧ ¬ s.safeActive ∧ ¬ s.on R.CLK_CFG.LPLL_BYP then
    s.setDev (if s.degActive then devDegraded else devRun)
  else s

/-- A reset is refused (R317, R318). -/
def State.rstRefused (s : State) : State := (s.inc R.SAFE_CNT_RST_INVALID.COUNT).raise .rstInvalid noHead

/-- A valid reset acts (R318): causes cleared or SAFE left, and MANUAL pairs that wait for it restarted; else it is refused.
[DEDUCED, log 100] -/
def State.rstAct (s : State) : State :=
  let cleared := !s.dev.safeOcc.isEmpty
  let was := s.devState
  let s := (s.updDev fun d => { d with safeOcc := [] }).settleDev.leaveSafe
  let s := s.each 4 fun m s => s.chanRaise m
  let ready := (List.range 8).filter fun c => s.restartable (c / 2) (c % 2 == 1)
  let s := ready.foldl (fun s c => (s.updSafe fun F => { F with need := clearBit F.need c }).evalPair (c / 2)) s
  if cleared || s.devState != was || !ready.isEmpty then s.inc R.SAFE_RST_STATUS.ACCEPTED else s.rstRefused

/-- RESET_ACCEPT (R25, R317, R318): the attempt that has just ended is judged by both islands. [DEDUCED, log 100] -/
def execResetAccept (t : Time) (same : Bool) (s : State) : Host.Outcome State Fault Refusal :=
  s.run t fun s =>
    match s.safe.rstDone with
    | none => s
    | some v =>
      let s := s.updSafe fun F => { F with rstDone := none }
      if v && same then s.rstAct else s.rstRefused

/-- RST_STUCK (R319): a channel has been closed for 5 s. [DESIGN CHOICE, log 144] -/
def execRstStuck (t : Time) (c : Fin 2) (s : State) : Host.Outcome State Fault Refusal :=
  s.run t fun s =>
    let held := match (s.channel (16 + c)).highSince with
      | some a => decide (a + 5000000000 ≤ s.now)
      | none => false
    s.when (held && !s.on R.SAFE_RST_STATUS.STUCK) fun s => (s.wr R.SAFE_RST_STATUS.STUCK 1).raiseU .rstStuck noHead 0

/-! ### Safety commands (R322 to R325) -/

def connDefault (_ : Nat) : Conn := {}

def State.conn (s : State) (c : Nat) : Conn := SMap.get connDefault s.safe.conns c

def State.updConn (s : State) (c : Nat) (f : Conn → Conn) : State :=
  s.updSafe fun F => { F with conns := SMap.upd connDefault F.conns c f }

def State.connState (s : State) (c : Nat) : Nat := s.rd (connField c)

/-- A message is discarded at a check before the fifth. -/
def State.discard (s : State) : State := s.inc R.SAFE_CNT_CMD_DISCARD.COUNT

/-- Check 3 of R323: the command permitted, heads and set named allowed, no reserved bit set. -/
def State.cmdAllowed (s : State) (c cmd a0 a1 : Nat) : Bool :=
  let heads := a0 % 2 ^ 16
  let set := bits a0 18 16
  let named := (indices 16 (bit heads)).all fun h => bit (s.rd (R.SAFE_CONN2.HEAD_MASK c)) h
  let present := (indices 16 (bit heads)).all fun h => s.on (R.DET_FSET.PRESENT h set)
  decide (cmd < 4) && bit (s.rd (R.SAFE_CONN1.CMD_MASK c)) cmd && a1 == 0 &&
    match cmd with
    | 0 => a0 == 0
    | 1 => decide (a0 < 2 ^ 19) && named && present
    | 2 => decide (a0 < 2 ^ 20) && named && (!bit a0 19 || present)
    | _ => true

/-- Check 4 of R323. -/
def State.seqAllowed (s : State) (c seq : Nat) : Bool :=
  let d := (seq + 2 ^ 32 - s.rd (R.SAFE_CONN3.LAST_SEQ c)) % 2 ^ 32
  match s.connState c with
  | 0 => true
  | 1 => decide (1 ≤ d) && decide (d ≤ s.rd (R.SAFE_CONN2.SEQ_GAP c))
  | 2 => decide (1 ≤ d) && decide (d < 2 ^ 31)
  | _ => false

/-- The effect of an accepted command (Table 12.3, R178, R325). -/
def State.cmdEffect (s : State) (c cmd a0 : Nat) : State :=
  let heads := indices 16 (bit (a0 % 2 ^ 16))
  let set := bits a0 18 16
  match cmd with
  | 1 => heads.foldl (fun s h => s.when (s.rd (R.DET_SEL_CFG.SRC h) == 2) fun s =>
      (s.updSafe fun F => { F with cmdSet := SMap.set (fun _ => 0) F.cmdSet h (set + 1) }).refreshSel h) s
  | 2 => heads.foldl (fun s h =>
      let s := s.wrB (R.DET_SEL_STATUS.OVR h) (bit a0 19)
      let s := s.when (bit a0 19) fun s => s.wr (R.DET_SEL_STATUS.OVR_SET h) set
      s.selAtClose h) s
  | 3 => s.updConn c fun x => { x with plaus := some (sext 32 a0) }
  | _ => s

/-- A message that has passed checks 1 and 2 (R323, R325); whether both islands accept it if it passes the others.
[DEDUCED, log 101] -/
def State.safetyMsg (s : State) (c stamp cmd seq a0 a1 : Nat) (both : Bool) : State :=
  if !s.on (R.SAFE_CONN1.EN c) then s
  else if !s.cmdAllowed c cmd a0 a1 then s.discard.raiseU .cmdReject noHead c
  else if !s.seqAllowed c seq then s.discard
  else if s.connState c = 1 ∧ (s.conn c).deadline < stamp then s.inc R.SAFE_CNT_CMD_LATE.COUNT
  else if !both then (s.latch R.SAFE_STATUS.DISAGREE).raise .safeIslandDisagree noHead
  else
    let s := s.when (s.connState c == 2) fun s => s.condOff .connTimeout c
    let s := (s.wr (R.SAFE_CONN3.LAST_SEQ c) seq).wr (connField c) 1
    let s := s.updConn c fun x => { x with deadline := stamp + s.rd (R.SAFE_CONN1.TIMEOUT c) * 1000000 }
    s.cmdEffect c cmd a0

/-- A message as it came (R322, R323): checks 1 and 2, then the others. [DEDUCED, log 101] -/
def State.safetyBytes (s : State) (c stamp : Nat) (m : List Byte) : State :=
  let f (i n : Nat) : Nat := ofBytesLE ((m.drop i).take n)
  let shape := m.length == 32 && f 0 2 == 0x4E53 && f 2 1 == 1 && f 0x10 12 == 0
  let scv := crc32c (m.take 0x1C ++ bytesLE 4 (s.rd (R.SAFE_CONN0.CONN_ID c)))
  if !shape || f 0x1C 4 != scv then s.discard
  else s.safetyMsg c stamp (f 3 1) (f 4 4) (f 8 4) (f 12 4) true

/-- A connection's deadline has passed: TIMEOUT (R324, R325). -/
def State.connExpire (s : State) (c : Nat) : State :=
  if s.connState c ≠ 1 then s
  else
    let s := (s.wr (connField c) 2).updConn c fun x => { x with plaus := none }
    let s := s.eachHead fun h s => s.when (bit (s.rd (R.SAFE_CONN2.HEAD_MASK c)) h) fun s =>
      let s := s.updSafe fun F => { F with cmdSet := SMap.set (fun _ => 0) F.cmdSet h 0 }
      s.when (s.rd (R.DET_SEL_CFG.SRC h) == 2) fun s => s.refreshSel h
    s.raiseU .connTimeout noHead c

/-- Put a message in stamp order. -/
def insertMsg (x : Nat × Nat × List Byte) : List (Nat × Nat × List Byte) → List (Nat × Nat × List Byte)
  | [] => [x]
  | y :: ys => if x.1 < y.1 then x :: y :: ys else y :: insertMsg x ys

/-- The queued messages stamped at or before the tick are processed in stamp order; then the deadlines (R324). -/
def State.connTick (s : State) : State :=
  let due := (List.range 4).flatMap fun c => ((s.conn c).queue.filter fun m => decide (m.1 ≤ s.now)).map fun m => (m.1, c, m.2)
  let s := s.each 4 fun c s => s.updConn c fun x => { x with queue := x.queue.filter fun m => decide (s.now < m.1) }
  let s := (due.foldl (fun q m => insertMsg m q) []).foldl (fun s m => s.safetyBytes m.2.1 m.1 m.2.2) s
  s.each 4 fun c s => s.when (decide ((s.conn c).deadline < s.now)) fun s => s.connExpire c

/-- An input at a tick, after both its levels: it is shown, its timer and the clearing of its fault advance (R311 to R313). -/
def State.inputTick (s : State) (n : Nat) : State := (((s.showInput n).discrepancy n).discTimeout n).clearStep n

/-- SAFETY_TICK (R298, R304, R305, R307, R309 to R313, R317, R323, R324): at a DT that is a multiple of 10,000 ns. Before seal the
islands have no configuration. [DEDUCED, log 99] -/
def execSafetyTick (t : Time) (v : SafeLevels) (s : State) : Host.Outcome State Fault Refusal :=
  s.run t fun s =>
    if s.now % 10000 ≠ 0 then s
    else
      let s := s.updSafe fun F => { F with dtSeen := s.now }
      if !s.dev.sealed then s
      else
        let s := s.each 8 fun n s => (s.sampleChannel (2 * n) (v.siA.getLsbD n)).sampleChannel (2 * n + 1) (v.siB.getLsbD n)
        let s := (s.sampleChannel 16 v.rstA).sampleChannel 17 v.rstB
        let s := (s.each 8 fun n s => s.inputTick n).showReset
        let s := s.connTick
        let s := s.each 4 fun m s => (s.readback m false (v.rbA.getLsbD m)).readback m true (v.rbB.getLsbD m)
        s.evalPairs

/-- Do the islands take a message now: at a tick, which its stamp does not follow (R324)? [DESIGN CHOICE, log 144] -/
def State.mayTake (s : State) (stamp : Nat) : Bool := s.dev.sealed && s.now % 10000 == 0 && decide (stamp ≤ s.now)

/-- CMD_NOP (R323). -/
def execCmdNop (t : Time) (c : Fin 4) (stamp : Time) (seq arg0 arg1 : Word) (both : Bool) (s : State) :
    Host.Outcome State Fault Refusal :=
  s.run t fun s => s.when (s.mayTake stamp.toNat) fun s => s.safetyMsg c stamp.toNat 0 seq.toNat arg0.toNat arg1.toNat both

/-- CMD_FIELD_SELECT (R177, R323, R325). -/
def execCmdFieldSelect (t : Time) (c : Fin 4) (stamp : Time) (seq arg0 arg1 : Word) (both : Bool) (s : State) :
    Host.Outcome State Fault Refusal :=
  s.run t fun s => s.when (s.mayTake stamp.toNat) fun s => s.safetyMsg c stamp.toNat 1 seq.toNat arg0.toNat arg1.toNat both

/-- CMD_OVERRIDE (R178, R323, R325). -/
def execCmdOverride (t : Time) (c : Fin 4) (stamp : Time) (seq arg0 arg1 : Word) (both : Bool) (s : State) :
    Host.Outcome State Fault Refusal :=
  s.run t fun s => s.when (s.mayTake stamp.toNat) fun s => s.safetyMsg c stamp.toNat 2 seq.toNat arg0.toNat arg1.toNat both

/-- CMD_SPEED_PLAUS (R196, R323, R325). -/
def execCmdSpeedPlaus (t : Time) (c : Fin 4) (stamp : Time) (seq arg0 arg1 : Word) (both : Bool) (s : State) :
    Host.Outcome State Fault Refusal :=
  s.run t fun s => s.when (s.mayTake stamp.toNat) fun s => s.safetyMsg c stamp.toNat 3 seq.toNat arg0.toNat arg1.toNat both

/-- CONN_TIMEOUT (R324, R325): the deadline has passed. [DESIGN CHOICE, log 144] -/
def execConnTimeout (t : Time) (c : Fin 4) (s : State) : Host.Outcome State Fault Refusal :=
  s.run t fun s => s.when (decide ((s.conn c).deadline < s.now)) fun s => s.connExpire c

/-! ### Supervision of the islands (R298) -/

/-- SAFE_CLOCK is raised and shown. -/
def State.clockBad (s : State) : State := (s.latch R.SAFE_STATUS.CLOCK).raise .safeClock noHead

/-- SAFE_CLOCK_CHECK (R298): the rates differ by more than 2 %. -/
def execSafeClockCheck (t : Time) (_b : Bool) (dev : BitVec 16) (s : State) : Host.Outcome State Fault Refusal :=
  s.run t fun s => s.when (decide (200 < dev.toInt.natAbs)) State.clockBad

/-- DT_ADVANCE_TIMEOUT (R298): no advance of DT has reached an island for 20 µs of its own clock, which no register shows. -/
def execDtAdvanceTimeout (t : Time) (_b : Bool) (s : State) : Host.Outcome State Fault Refusal :=
  s.run t fun s => s.clockBad

end Sys2Proof.Machine
end

