-- ==== Sys2Proof/Machine/Housekeeping.lean ====
section
/-! DEFINITION. Housekeeping converter (19_housekeeping.md, R446 to R462). -/

namespace Sys2Proof.Machine

def State.updHk (s : State) (f : Hk → Hk) : State := { s with hk := f s.hk }

/-- Word `w` of the configuration, or of the result, of entry `e`; entry 16 is the single conversion. -/
def hkEntWord (e w : Nat) : Nat := if e < 16 then R.HK_ENT0.addr e + 4 * w else R.HK_SINGLE_CFG0.addr + 4 * w
def hkResWord (e w : Nat) : Nat := if e < 16 then R.HK_RES0.addr e + 4 * w else R.HK_SINGLE_RES0.addr + 4 * w

/-- Bits of a configuration word. -/
def State.hkCfg (s : State) (e w hi lo : Nat) : Nat := bits (s.word (hkEntWord e w)) hi lo

/-- CHAN_P and CURVE of an entry. -/
def State.hkChanP (s : State) (e : Nat) : Nat := s.hkCfg e 0 6 0
def State.hkCurve (s : State) (e : Nat) : Nat := s.hkCfg e 0 31 28

/-- Is the positive channel internal (R446)? -/
def State.hkInternal (s : State) (e : Nat) : Bool := decide (64 ≤ s.hkChanP e) && decide (s.hkChanP e ≤ 73)

/-- The exponent of the gain: internal channels are measured at gain 1. -/
def State.hkGain (s : State) (e : Nat) : Nat := if s.hkInternal e then 0 else s.hkCfg e 0 22 20

/-- The entry of the running conversion. -/
def State.hkEntry (s : State) : Nat := if s.hk.run = .single then 16 else s.rd R.HK_STATUS.ENTRY

/-- Length of steps 1 to 5 of the running conversion in ns (Table 19.2). -/
def State.hkIntegrates (s : State) : Nat := 200000 + (s.hkCfg s.hkEntry 0 25 24 + 1) * s.periodTP

/-- HK_STATUS.PHASE at this DT (Table 19.2). [DEDUCED, log 102] -/
def State.hkPhase (s : State) : Nat :=
  let o := s.now - s.hk.startAt
  if s.hk.run = .idle then 0
  else if o < 50000 then 1
  else if o < 200000 then 2
  else if o < s.hkIntegrates then 3
  else 4

/-- Entry of step `i` of the sequence (R456). -/
def State.hkStepEntry (s : State) (i : Nat) : Nat := bits (s.rd (R.HK_STEPS.ENTRIES (i / 8))) (4 * (i % 8) + 3) (4 * (i % 8))

/-- A conversion begins. -/
def State.hkBegin (s : State) (r : HkRun) (e : Nat) : State :=
  let s := (s.wr R.HK_STATUS.BUSY 1).when (decide (e < 16)) fun s => s.wr R.HK_STATUS.ENTRY e
  s.updHk fun k => { k with run := r, startAt := s.now, clamped := false }

/-- Step `i` of the sequence begins. -/
def State.hkStep (s : State) (i : Nat) : State := (s.wr R.HK_STATUS.STEP i).hkBegin .step (s.hkStepEntry i)

/-- SEQUENCE begins at the later of seal and the end of the boot calibration (R460). -/
def State.hkSequence (s : State) : State :=
  if s.dev.sealed ∧ s.on R.HK_STATUS.CAL_DONE ∧ s.rd R.HK_CTL.MODE = 0 ∧ s.hk.run = .idle then
    (s.wr R.HK_CTL.MODE 1).hkStep 0
  else s

/-! ### Linearisation (R454) -/

/-- R(T) ÷ R0 of IEC 60751 in 10^-27, for T in m°C. -/
def ptRatio (t : Int) : Int :=
  10 ^ 27 + 39083 * t * 10 ^ 17 - 5775 * t * t * 10 ^ 11 - (if t < 0 then 4183 * (t - 100000) * t * t * t else 0)

/-- Binary search for the largest T from `lo` on, below `lo + 2^k`, for which `p` holds. -/
def searchUp (p : Int → Bool) : Nat → Int → Int
  | 0, lo => lo
  | k + 1, lo => if p (lo + (2 ^ k : Nat)) then searchUp p k (lo + (2 ^ k : Nat)) else searchUp p k lo

/-- T in m°C of a platinum sensor, with R ÷ R0 = num ÷ den (den above 0); none outside −200 to 850 °C. [DESIGN CHOICE, log 103] -/
def ptTemp (num den : Int) : Option Int :=
  let below (t : Int) : Bool := decide (ptRatio t * den ≤ num * 10 ^ 27)
  if !below (-200000) || (decide (ptRatio 850000 * den < num * 10 ^ 27)) then none
  else
    let t := searchUp (fun t => decide (t ≤ 850000) && below t) 21 (-200000)
    some (if num * 10 ^ 27 - ptRatio t * den ≤ ptRatio (t + 1) * den - num * 10 ^ 27 then t else t + 1)

/-- T in m°C of a thermistor with R ÷ R0 = num ÷ den and β in K; none outside −55 to 150 °C. The logarithm is taken to 2^-40.
[DESIGN CHOICE, log 103] -/
def ntcTemp (num den beta : Nat) : Option Int :=
  if num = 0 ∨ den = 0 then none
  else
    -- 1 / T = 1 / 298.15 + ln r / β; in units of 2^-40: T = 298.15 β 2^40 / (β 2^40 + 298.15 ln r)
    let d : Int := 100 * beta * 2 ^ 40 + 29815 * lnFix num den
    if d ≤ 0 then none
    else
      let n : Int := 29815 * beta * 2 ^ 40 * 1000
      let t := (2 * n + d) / (2 * d) - 273150
      if t < -55000 ∨ 150000 < t then none else some t

/-- β of a thermistor curve in K. -/
def ntcBeta (curve : Nat) : Nat := match curve with
  | 8 => 3380
  | 9 => 3950
  | _ => 4250

/-- The result of a conversion: its value (none: outside the range of the curve), and the state after the free values of its
rounding and tolerance. [DESIGN CHOICE, log 103] -/
def State.hkLinear (s : State) (e : Nat) (raw tcj : Int) : State × Option Int :=
  let g := 2 ^ s.hkGain e
  let curve := s.hkCurve e
  let num := raw * s.hkCfg e 2 31 0
  if s.hkChanP e = 73 then (s.drawn, some (sext 24 (s.freeVal 24)))
  else match curve with
    | 0 => (s, some raw)
    | 1 =>
      let k : Int := if 65 ≤ s.hkChanP e ∧ s.hkChanP e ≤ 72 then 2 else 1
      (s.drawn, some (s.roundFree (raw * 1250000 * k) (2 ^ 23 * g)))
    | 2 | 3 =>
      let r0 : Int := if curve = 2 then 100000 else 1000000
      -- the inverse is within ± 0.002 °C
      (s.drawn, (ptTemp num (2 ^ 23 * g * r0)).map fun t => t + (s.freeVal 8 % 5 : Nat) - 2)
    | 4 | 5 | 6 | 7 => (s, Config.thermocouple curve raw g tcj)
    | 8 | 9 | 10 => (s, ntcTemp num.toNat (2 ^ 23 * g * s.hkCfg e 3 31 0) (ntcBeta curve))
    | _ => (s, none)

/-! ### The commands -/

/-- A completed conversion of entry `e` writes its result (R449 to R457). [DEDUCED, log 104] -/
def State.hkResult (s : State) (e : Nat) (v ref : Int) (swing compl : Bool) : State :=
  let gx := s.hkGain e
  let raw := s.nearest ((2 ^ gx : Nat) * s.rd (R.HK_GAINCAL.K gx) * v) (max 1 ref.toNat)
  let s := s.drawn
  let excess := swing || decide (raw < -0x7FFFFF) || decide (0x7FFFFE < raw)
  let opened := excess && s.hkCfg e 0 27 27 == 1
  let tc := decide (4 ≤ s.hkCurve e) && decide (s.hkCurve e ≤ 7) && decide (s.hkChanP e ≠ 73)
  let cj := s.hkCfg e 1 19 16
  let cjOn := tc && s.hkCfg e 1 20 20 == 1
  let cjBad := cjOn && (s.on (R.HK_RES0.OVR cj) || s.hkOlder cj 1000)
  let tcj := if cjOn then s.rdS (R.HK_RES0.RESULT cj) else 0
  let clamp := s.hk.clamped
  let excited := s.hkCfg e 1 2 2 == 1
  let compl := compl && excited
  let (s, lin) := s.hkLinear e raw tcj
  let linBad := lin.isNone
  let bad := excess || opened || cjBad || clamp || compl || linBad
  let old := s.word (hkResWord e 0)
  let n := bits (s.word (hkResWord e 2)) 31 16
  let res := if bad then 0x7FFFFF else wrapS 24 (lin.getD 0)
  let s := s.setWord (hkResWord e 0) (2 ^ 31 + 2 ^ 30 * flag compl + 2 ^ 29 * flag cjBad + 2 ^ 28 * flag linBad +
    2 ^ 27 * flag opened + 2 ^ 26 * flag clamp + 2 ^ 25 * flag (excess && decide (v < 0)) + 2 ^ 24 * flag bad + res)
  let s := s.setWord (hkResWord e 1) (wrapS 24 (satS 24 raw))
  let s := s.setWord (hkResWord e 2) ((n + 1) % 2 ^ 16 * 2 ^ 16)
  let s := s.setWord (hkResWord e 3) (s.now % 2 ^ 32)
  let s := s.updHk fun k => { k with doneAt := SMap.set (fun _ => none) k.doneAt e (some s.now) }
  let s := s.when bad fun s => s.inc R.HK_CNT_OVR.COUNT
  let s := s.when (bad && bit old 31 && !bit old 24) fun s => s.raiseU .hkOvr noHead e
  let s := s.when opened fun s => s.raiseU .hkOpen noHead e
  s.when compl fun s => s.raiseU .hkCompl noHead e

/-- The step after the present one begins; a completed pass is counted (R456). -/
def State.hkNextStep (s : State) : State :=
  let i := s.rd R.HK_STATUS.STEP
  if i < s.rd R.HK_CFG.NSTEP_M1 then s.hkStep (i + 1) else (s.inc R.HK_CNT_CYCLE.COUNT).hkStep 0

/-- Is the running conversion at its step 6, 20 µs after the integration (Table 19.2)? -/
def State.hkDone (s : State) : Bool := s.dueAgain (some s.hk.startAt) (s.hkIntegrates + 20000)

/-- HK_CONVERSION_COMPLETE (R447, R449 to R457, R459, R460). [DEDUCED, log 102; DESIGN CHOICE, log 144] -/
def execHkConversionComplete (t : Time) (v ref : BitVec 48) (swing compl : Bool) (s : State) : Host.Outcome State Fault Refusal :=
  s.run t fun s =>
    if s.hk.run = .idle ∨ ¬ s.hkDone then s
    else
      let e := s.hkEntry
      let run := s.hk.run
      let s := s.hkResult e v.toInt ref.toInt swing compl
      let urg := s.rd R.HK_CTL.URG_ENTRY
      match run with
      | .single => (s.wr R.HK_STATUS.BUSY 0).updHk fun k => { k with run := .idle }
      | .urgent again =>
        let s := s.wr R.HK_STATUS.URG_PEND 0
        if again then s.hkStep (s.rd R.HK_STATUS.STEP) else s.hkNextStep
      | _ =>
        if !s.on R.HK_STATUS.URG_PEND then s.hkNextStep
        else if urg = e then (s.wr R.HK_STATUS.URG_PEND 0).hkNextStep
        else s.hkBegin (.urgent false) urg

/-- HK_URGENT_REQUEST (R459): a write of HK_CTL.URG. -/
def State.hkUrgent (s : State) (i : Iface) (e : Nat) : State :=
  if s.on R.HK_STATUS.URG_PEND then s.refuse i R.HK_CTL.addr
  else
    let s := s.wr R.HK_CTL.URG_ENTRY e
    if s.rd R.HK_CTL.MODE = 0 ∨ s.hk.run = .idle then s
    else
      let s := s.wr R.HK_STATUS.URG_PEND 1
      if e = s.rd R.HK_STATUS.ENTRY ∨ s.hkPhase = 4 then s
      else
        -- at the next 1 µs
        (((s.inc R.HK_CNT_ABORT.COUNT).raise .hkUrgentAbort noHead).hkBegin (.urgent true) e).updHk fun k =>
          { k with startAt := (s.now + 999) / 1000 * 1000 }

/-- HK_URGENT_REQUEST (R459). -/
def execHkUrgentRequest (t : Time) (i : Iface) (e : Fin 16) (s : State) : Host.Outcome State Fault Refusal :=
  s.run t fun s => s.hkUrgent i e

/-- A write of HK_CTL.START (R460). -/
def State.hkStart (s : State) (i : Iface) : State :=
  if s.hk.run ≠ .idle then s.refuse i R.HK_CTL.addr else s.hkBegin .single 16

/-- HK_SINGLE_START (R460, R494). -/
def execHkSingleStart (t : Time) (i : Iface) (s : State) : Host.Outcome State Fault Refusal :=
  s.run t fun s => if !s.mayConfig i then s.accessError i true R.HK_CTL.addr 2 else s.hkStart i

/-- Calibration of the eight gains with the codes that K_G = 1 would give (R461). -/
def State.hkGains (s : State) (codes : List Nat) : State :=
  let s := s.each 8 fun g s =>
    let c := codes.getD g 0
    -- K_G differs from 1 by at most 0.5 %
    let k := s.roundFree (2 ^ 45 : Int) (max 1 c)
    if c ≠ 0 ∧ (k - 2 ^ 23).natAbs * 200 ≤ 2 ^ 23 then (s.wr (R.HK_GAINCAL.K g) k.toNat).drawn
    else s.raiseU .hkCalFail noHead g
  s.calDone 3

/-- A write of HK_CTL.CAL (R461). -/
def State.hkCal (s : State) (i : Iface) (codes : List Nat) : State :=
  if s.hk.run ≠ .idle ∨ s.rd R.HK_CTL.MODE ≠ 0 then s.refuse i R.HK_CTL.addr else s.hkGains codes

/-- HK_CALIBRATE (R460, R461, R494): at boot, then SEQUENCE begins once the configuration is sealed. [DEDUCED, log 102] -/
def execHkCalibrate (t : Time) (i : Option Iface) (codes : List (BitVec 24)) (s : State) : Host.Outcome State Fault Refusal :=
  s.run t fun s =>
    let cs := codes.map (·.toNat)
    match i with
    | none => s.when (!s.on R.HK_STATUS.CAL_DONE) fun s => ((s.hkGains cs).wr R.HK_STATUS.CAL_DONE 1).hkSequence
    | some i => if !s.mayConfig i then s.accessError i true R.HK_CTL.addr 2 else s.hkCal i cs

/-- A write of HK_CTL.MODE: a change to SINGLE aborts the running step (R460). -/
def State.hkMode (s : State) (seq : Bool) : State :=
  if s.on R.HK_CTL.MODE = seq then s
  else if seq then (s.wr R.HK_CTL.MODE 1).hkStep 0
  else
    let s := ((s.wr R.HK_CTL.MODE 0).wr R.HK_STATUS.BUSY 0).wr R.HK_STATUS.URG_PEND 0
    s.updHk fun k => { k with run := .idle }

/-- May HK_CTL.MODE be written: inside a maintenance session, and in life-cycle state TEST (R460)? -/
def State.mayMode (s : State) (i : Iface) : Bool := s.mayConfig i || s.rd R.SEC_STATUS.LC == 0

/-- HK_MODE_WRITE (R460, R494). -/
def execHkModeWrite (t : Time) (i : Iface) (seq : Bool) (s : State) : Host.Outcome State Fault Refusal :=
  s.run t fun s => if !s.mayMode i then s.accessError i true R.HK_CTL.addr 2 else s.hkMode seq

/-- HK_CLAMP_CONDUCT (R451). [DEDUCED, log 104] -/
def execHkClampConduct (t : Time) (n : Fin 64) (s : State) : Host.Outcome State Fault Refusal :=
  s.run t fun s =>
    let f := if n.val < 32 then R.HK_CLAMP_LO.INPUTS else R.HK_CLAMP_HI.INPUTS
    let was := s.bitOf f (n % 32)
    let e := s.hkEntry
    let hit := (s.hkChanP e == n.val || (!s.hkInternal e && s.hkCfg e 0 14 8 == n.val)) && (s.hkPhase == 2 || s.hkPhase == 3)
    let s := s.updHk fun k => { k with clamped := k.clamped || hit }
    let s := s.latch ⟨f.addr, f.lo + n % 32, f.lo + n % 32⟩
    s.when (!was) fun s => s.raiseU .hkClamp noHead n

end Sys2Proof.Machine
end

