-- ==== Sys2Proof/Machine/Program.lean ====
section
/-! DEFINITION. What the loader evaluates of scan programs: the checks of Table 2.3 (R65, R69, R74, R294) and the budgets
(R36 to R41, R224, R245, R380, R435), at seal and at a commit. -/

namespace Sys2Proof.Machine

/-- A program: its descriptors, FLYBACK and FLYBACK_MIN in ns. -/
structure Prog where
  descs : List (List Nat)
  fly : Nat
  flyMin : Nat

/-- Descriptors of a slot (R42). -/
def State.progLen (s : State) (h sl : Nat) : Nat := s.rd (R.SCAN_LEN.LEN_M1 h sl) + 1

/-- The program that a slot holds. -/
def State.prog (s : State) (h sl : Nat) : Prog where
  descs := (List.range (s.progLen h sl)).map fun d => s.descAt h sl d
  fly := s.rd (R.SCAN_FLY.FLYBACK h sl) * 1000
  flyMin := s.rd (R.SCAN_FLY.FLYBACK_MIN h sl) * 1000

/-- F: the nominal frame length in ns (R100). -/
def Prog.frameNs (p : Prog) : Nat := p.descs.foldl (fun a d => a + Desc.period d) p.fly

/-- n_f: proof steps of a flyback (R100). -/
def State.proofSteps (s : State) (h : Nat) (p : Prog) : Nat :=
  ceilDiv (s.emitters h) (max 1 (s.rd (R.EMT_PROOF.PERIOD h) * 1000000 / p.frameNs))

/-- The active program of a head, where it is valid, and its pending one (R36). -/
def State.programs (s : State) (h : Nat) : List Prog :=
  let a := s.rd (R.SCAN_STATUS.ACTIVE_SLOT h)
  let st := s.rd (R.SCAN_STATUS.COMMIT_STATE h)
  (if s.on (R.SCAN_LEN.VALID h a) then [s.prog h a] else []) ++
    (if st = 2 ∨ st = 3 then [s.prog h (s.head h).scan.commitSlot] else [])

/-- The BIDs of a descriptor: the first, and the one after the last (R48). -/
def Desc.bids (d : List Nat) : Nat × Nat := (Desc.bbase d, Desc.bbase d + 16 * popcount 96 (Desc.groupMask d))

/-- Do two ranges of BIDs meet? -/
def meets (a b : Nat × Nat) : Bool := decide (max a.1 b.1 < min a.2 b.2)

/-! ### The checks of one dwell (Table 2.3, 0x01 to 0x09) -/

/-- Does a group have an input that is assigned to head `h` (R16)? -/
def State.groupOf (s : State) (h g : Nat) : Bool := (List.range 16).any fun j => s.headOf (16 * g + j) == h

/-- The gates of a descriptor (0x02). -/
def Desc.gatesOk (d : List Nat) : Bool :=
  let near := Desc.near d
  let far := Desc.far d
  let w := Desc.binW d
  decide (near < far) && decide (far ≤ 16384) && near % w == 0 && far % w == 0 && decide (far - near ≤ 1024 * w)

/-- The inequalities of R74; `i` is the dwell. -/
def State.shotsOk (s : State) (h : Nat) (p : Prog) (i : Nat) (d : List Nat) : Bool :=
  let span := spanNs (s.rd (R.FIRE_CFG.SPAN h))
  let trim := s.rdS (R.FIRE_TRIM.TRIM h)
  let room : Int := (Desc.moveT d + if i = 0 then p.flyMin else 0 : Nat)
  decide (250 + span ≤ Desc.shotInt d) && decide (Desc.far d + span ≤ Desc.sif d * Desc.shotInt d) &&
    (span != 0 || Desc.sif d == 1) && (decide (0 ≤ trim) || decide (-trim ≤ room * 256))

/-- The groups of a descriptor (0x06). -/
def State.groupsOk (s : State) (h : Nat) (d : List Nat) : Bool :=
  ((List.range 96).all fun g => !Desc.enables d g || s.groupOf h g) && (Desc.groupMask d != 0 || Desc.skip d)

/-- The set-points of a descriptor, and a direction for each of its inputs (0x09). -/
def State.pointsOk (s : State) (h : Nat) (d : List Nat) : Bool :=
  let inside (a : Nat) (v : Int) : Bool := decide (s.rdS (R.SRV_LIM.MIN h a) ≤ v) && decide (v ≤ s.rdS (R.SRV_LIM.MAX h a))
  inside 0 (Desc.mirrorX d) && inside 1 (Desc.mirrorY d) &&
    (s.dwellInputs h d).all fun n => (SMap.get (fun _ => none) (s.image h).dirs (descWord d 0 * 2048 + n)).isSome

/-- The causes of Table 2.3 that dwell `i` of a program fails, but for the ranges of BIDs. -/
def State.dwellFaults (s : State) (h : Nat) (p : Prog) (i : Nat) (d : List Nat) : List Nat :=
  let need (c : Nat) (ok : Bool) : List Nat := if ok then [] else [c]
  need 1 (Desc.passes d && decide (Desc.binLog2 d ≤ 4)) ++ need 2 (Desc.gatesOk d) ++ need 3 (decide (2000 ≤ Desc.tNom d)) ++
    need 4 (s.shotsOk h p i d) ++ need 5 (s.pattern h (Desc.pattern d)).isSome ++ need 6 (s.groupsOk h d) ++
    need 7 (Desc.bbase d % 16 == 0 && decide ((Desc.bids d).2 ≤ 1048576)) ++
    need 8 (Desc.fsPolicy d == 0 || Desc.fsPolicy d == 3 || s.on (R.DET_FSET.PRESENT h (Desc.fsIdx d))) ++
    need 9 (s.pointsOk h d)

/-- The dwells whose BIDs meet those of another dwell of the program, or of the programs of other heads (0x07).
[DEDUCED, log 111] -/
def Prog.overlaps (p : Prog) (others : List (Nat × Nat)) : List Nat :=
  indices p.descs.length fun i =>
    let r := Desc.bids (p.descs.getD i [])
    others.any (meets r) || (p.descs.zipIdx.any fun (d, j) => j != i && meets r (Desc.bids d))

/-! ### The checks of a whole program (0x0A, R294) -/

/-- The shares of the flyback (R56, R100, R124) and its limits (0x0A). -/
def State.sharesOk (s : State) (h : Nat) (p : Prog) : Bool :=
  let rhg := s.rd (R.RET_RHG.RHG_T h)
  decide (p.fly ≤ 10000000) && decide (p.flyMin ≤ p.fly) &&
    decide (s.proofSteps h p * s.tStep h + rhg * 1000 ≤ p.flyMin) &&
    decide (2 ^ (18 + s.rd R.CAL_CFG.HITS_LOG2) ≤ 18 * rhg * (s.rd R.CAL_CFG.STALE_AGE * 1000000000 / p.frameNs))

/-- How long a run of firing dwells from the head of a list stays within BOX ÷ 2 of a set-point (R294): dwells given as
firing or not, X, Y and duration. -/
def stayNs (box x y : Int) : List (Bool × Int × Int × Nat) → Nat
  | [] => 0
  | (f, x', y', n) :: ds =>
    if f ∧ (x' - x).natAbs * 256 ≤ box ∧ (y' - y).natAbs * 256 ≤ box then n + stayNs box x y ds else 0

/-- Does a run of firing dwells, around the frame and flyback included, keep the mirror for T ms or longer (R294)? A run of all the
dwells of a program has no end. -/
def State.stays (s : State) (h : Nat) (p : Prog) : Bool :=
  let n := p.descs.length
  let ds := p.descs.zipIdx.map fun (d, i) =>
    (!Desc.skip d, Desc.mirrorX d, Desc.mirrorY d, Desc.period d + if i + 1 = n then p.fly else 0)
  let box : Int := s.rd (R.EYE_MOTION.BOX h) * 128
  let t := s.rd (R.EYE_MOTION.T h)
  t != 0 && (List.range n).any fun i =>
    let run := ds.drop i ++ ds.take i
    match run with
    | (_, x, y, _) :: _ =>
      run.all (fun (f, x', y', _) => f && decide ((x' - x).natAbs * 256 ≤ box) && decide ((y' - y).natAbs * 256 ≤ box)) ||
        decide (t * 1000000 ≤ stayNs box x y run)
    | [] => false

/-- Does a program, or the configuration of its head, fail R294? Helper heads are exempt (R369). [DEDUCED, log 111] -/
def State.eyeFails (s : State) (h : Nat) (p : Prog) : Bool :=
  let i := s.image h
  let eMax := i.patterns.foldl (fun m q => max m ((q.2.map Pattern.eOptMax).getD 0)) 0
  let lim := s.rd (R.SRV_TIMES.TRACK_LIM h)
  let helper := s.on (R.DOM_MULT.EN h) && s.on (R.DOM_MULT.ROLE h)
  !helper &&
  ((s.windows h).isEmpty ||
   (s.windows h).any (fun w =>
      let n := s.rd (R.EYE_WIN.LEN h w)
      decide (n < 8) || decide (10000000 < n) || n % 8 != 0) ||
   decide (s.rd (R.EYE_CFG.CAP_DLY h) < s.rd (R.FIRE_CFG.ECHO_MAX h) + 8) ||
   decide ((16383 - i.zero) * s.rd (R.EYE_GAIN.GAIN h) < 1250 * 65536 * eMax) ||
   lim == 0 || decide (s.rd (R.EYE_GUARD.GUARD h) < lim + i.posLag) ||
   p.descs.any (fun d => match s.pattern h (Desc.pattern d) with
      | none => false
      | some q => decide (16 < (s.dwellRange h (Desc.mirrorX d) (Desc.mirrorY d) q).sectors.length)) ||
   s.stays h p)

/-! ### Budgets (R36 to R40) -/

/-- The programs that each head brings to a budget: `h` with the program `p`, where one is given, every other head with its
own (R36). [DEDUCED, log 116] -/
def State.terms (s : State) (target : Option (Nat × Prog)) (k : Nat) : List Prog :=
  match target with
  | some (h, p) => if k = h then [p] else s.programs k
  | none => s.programs k

/-- The largest value of a figure over the programs of a head. -/
def largest (ps : List Prog) (f : Prog → Rat) : Rat := ps.foldl (fun m p => let x := f p; if m < x then x else m) 0

/-- The largest value of a figure over the dwells of a program. -/
def Prog.largest (p : Prog) (f : List Nat → Rat) : Rat := p.descs.foldl (fun m d => let x := f d; if m < x then x else m) 0

/-- A sum over the heads. -/
def overHeads (f : Nat → Rat) : Rat := (List.range 16).foldl (fun a h => a + f h) 0

/-- The increments per ns of group `g` (R37). -/
def State.increments (s : State) (t : Option (Nat × Prog)) (g : Nat) : Rat :=
  (List.range 16).foldl (fun a j =>
    let n := 16 * g + j
    let h := s.headOf n
    if 16 ≤ h then a
    else
      let sif := largest (s.terms t h) fun p => p.largest fun d => if Desc.enables d g then (Desc.sif d : Nat) else 0
      a + sif / (s.rd (R.INCFG.HOLD_OFF n) : Nat)) 0

/-- The merge rate of R38 in updates per ns. -/
def State.mergeRate (s : State) (t : Option (Nat × Prog)) : Rat :=
  overHeads fun h =>
    if s.on (R.BEAR_CFG.K h) then
      largest (s.terms t h) fun p => p.largest fun d => ((s.dwellInputs h d).length : Nat) / (Desc.tNom d : Nat)
    else 0

/-- The merge budget (R38) and the regulation of port 2 (R380). -/
def State.mergeFails (s : State) (t : Option (Nat × Prog)) : Bool :=
  let r := s.mergeRate t
  let rate := s.rd (R.MEM_PORT.RATE 2)
  decide (96 / 1000 < r) || (rate != 0 && decide ((rate : Rat) / 4 < 25 / 10 * 3272 * r))

/-- The largest leave request of a program's dwells and flyback (R40). -/
def State.progUnits (s : State) (h : Nat) (p : Prog) : Nat :=
  p.descs.foldl (fun m d => max m (s.unitsOf h d false)) (s.image h).flyUnits

/-- Energy of a dwell that the pool is charged, in 0.1 µJ (R86). -/
def State.chargeOf (s : State) (h : Nat) (d : List Nat) : Nat := s.energyOf h d

/-- Energy of a frame in 0.1 µJ (R86, R435). -/
def State.frameEnergy (s : State) (h : Nat) (p : Prog) : Nat :=
  p.descs.foldl (fun a d => a + s.chargeOf h d) (s.proofSteps h p * (s.image h).stepEnergy)

/-- The power budget (R40) and the head-supply conditions (R435). -/
def State.powerFails (s : State) (t : Option (Nat × Prog)) : Bool :=
  let units := overHeads fun h => largest (s.terms t h) fun p => (s.progUnits h p : Nat)
  let rate := overHeads fun h => largest (s.terms t h) fun p => (s.frameEnergy h p * 1000 : Nat) / (p.frameNs : Nat)
  let depth := s.rd R.PWR_HS_CFG.DEPTH * 1000
  decide (((s.rd R.PWR_CFG.BUDGET : Nat) : Rat) < (s.pwr.base + s.rd R.PWR_CFG.SAFE_RES : Nat) + units) ||
    decide (((s.rd R.PWR_HS_CFG.P_HS : Nat) : Rat) < rate) ||
    (List.range 16).any fun h => (s.terms t h).any fun p => p.descs.any fun d => decide (depth < s.chargeOf h d)

/-- Inputs of the raw-event selection of a stream. -/
def State.selected (s : State) (k : Nat) : List Nat :=
  ((List.range 256).filter fun e => s.on (R.CAP_SEL.EN e) && s.rd (R.CAP_SEL.STREAM e) == k).map fun e => s.rd (R.CAP_SEL.INPUT e)

/-- The return-list term of R245 in records per ns. -/
def State.listRate (s : State) (t : Option (Nat × Prog)) : Rat :=
  overHeads fun h =>
    if s.on R.CAP_RL.EN && s.bitOf R.CAP_RL.HEAD_MASK h then
      largest (s.terms t h) fun p => p.largest fun d => (4 * (s.dwellInputs h d).length + 1 : Nat) / (Desc.tNom d : Nat)
    else 0

/-- The rate at which the return lists drain from HBM is the return-list term of R245 (R239), in 10^-7 record per ns.
[DEDUCED, log 44] -/
def State.setListRate (s : State) : State :=
  s.updCap fun c => { c with rlRate := (s.listRate none * 10000000).floor.toNat }

/-- The capture budget (R39, R245). [DEDUCED, log 110] -/
def State.captureFails (s : State) (t : Option (Nat × Prog)) : Bool :=
  (List.range 4).any fun k =>
    s.bitOf R.CAP_CFG.STREAM_EN k &&
      let ins := s.selected k
      let ev := ins.foldl (fun a n => a + (1 : Rat) / (s.rd (R.INCFG.HOLD_OFF n) : Nat)) 0
      let shot := ((indices 16 fun h => s.bitOf R.CAP_SHOT.SHOT_EN h && (ins.any fun n => s.headOf n == h)).length : Rat)
      let rl := if s.rd R.CAP_RL.STREAM = k then s.listRate t else 0
      let st : Rat := if s.on R.CAP_STAT.EN && s.rd R.CAP_STAT.STREAM == k then 51 / 1000 else 0
      decide (8137 / 1000 < ev + 4 / 1000 * shot + rl + st + 8 / 1000)

/-- Bits on the wire of the frames that hold `n` records of a stream (R218, R224). -/
def State.wireBits (s : State) (str n : Nat) : Nat :=
  let per := max 1 (s.recsPerFrame str)
  let excess := 106 + (if s.on (R.NET_STREAM0.IPV6 str) then 20 else 0) +
    (if s.prpPort (s.rd (R.NET_STREAM0.PORT str)) then 6 else 0)
  8 * (n * 32 + ceilDiv n per * excess)

/-- The wire rate of a stream's largest dwell in Mb/s (R224). -/
def State.wireRate (s : State) (t : Option (Nat × Prog)) (str : Nat) : Rat :=
  let lo := s.rd (R.NET_STREAM_BID_LO.BID_LO str)
  let hi := s.rd (R.NET_STREAM_BID_HI.BID_HI str)
  (List.range 16).foldl (fun m h =>
    if !s.bitOf (R.NET_STREAM_SEL.HEAD_MASK str) h then m
    else
      let x := largest (s.terms t h) fun p => p.largest fun d =>
        let n := ((dwellBearings d).filter fun i => decide (lo ≤ Desc.bid d i) && decide (Desc.bid d i ≤ hi)).length
        (s.wireBits str (4 * n) * 1000 : Nat) / (Desc.period d : Nat)
      if m < x then x else m) 0

/-- The wire-rate check of the streams (R224): a stream against the idle slope of its queue, and the slopes of each port. Queue 0
has no idle slope. [DEDUCED, log 110] -/
def State.wireFails (s : State) (t : Option (Nat × Prog)) : Bool :=
  ((List.range 16).any fun str =>
    let q := s.rd (R.NET_STREAM0.QUEUE str)
    s.bitOf (R.NET_STREAM0.TYPES str) 0 && q != 0 &&
      decide (((s.slope (s.streamPort str) q : Nat) : Rat) < s.wireRate t str)) ||
  (List.range 4).any fun p =>
    s.rd (R.NET_PORT.MODE p) != 0 && decide (3 * s.portMbps p < 4 * sumTo 7 fun q => s.slope p q)

/-- The groups that fail the increment budget (R37), each with the head it serves. -/
def State.incrementFaults (s : State) (t : Option (Nat × Prog)) : List (Nat × Nat) :=
  (indices 96 fun g => decide (32 / 10 < s.increments t g)).map fun g => (((List.range 16).find? (s.groupOf · g)).getD noHead, g)

/-- Every group that fails the increment budget is named by an event; the configuration is accepted (R36, R37). -/
def State.incrementEvents (s : State) (bad : List (Nat × Nat)) : State :=
  bad.foldl (fun s (h, g) => s.raiseArg .histBudget h g g) s

/-- The increment budget (R37) of the configuration in force, with a program where one is given. -/
def State.incrementBudget (s : State) (t : Option (Nat × Prog)) : State := s.incrementEvents (s.incrementFaults t)

/-! ### The report (R65) -/

/-- The lower of two reports (cause, dwell). -/
def lowerReport (a b : Nat × Nat) : Nat × Nat := if b.1 < a.1 ∨ (b.1 = a.1 ∧ b.2 < a.2) then b else a

/-- The BIDs of the programs of every head but `h` that may run. -/
def State.otherBids (s : State) (h : Nat) : List (Nat × Nat) :=
  (List.range 16).flatMap fun k => if k = h then [] else (s.programs k).flatMap fun p => p.descs.map Desc.bids

/-- Every failing check of Table 2.3 up to 0x0A, as (cause, dwell). -/
def State.programFaults (s : State) (h : Nat) (p : Prog) (others : List (Nat × Nat)) : List (Nat × Nat) :=
  (p.descs.zipIdx.flatMap fun (d, i) => (s.dwellFaults h p i d).map fun c => (c, i)) ++
    (p.overlaps others).map (fun i => (7, i)) ++ (if s.sharesOk h p then [] else [(0x0A, 0)])

/-- The report of a commit of a program to head `h` (R65); none where it passes. A budget whose cause code Table 2.3 does
not give (R39, R224) reports a free value. [DEDUCED, log 110] -/
def State.commitReport (s : State) (h : Nat) (p : Prog) : Option (Nat × Nat) :=
  let t := some (h, p)
  let faults := s.programFaults h p (s.otherBids h) ++
    (if s.mergeFails t then [(0x0B, 0)] else []) ++
    (if s.powerFails t || s.eyeFails h p then [(0x0C, 0)] else [])
  match faults with
  | f :: fs => some (fs.foldl lowerReport f)
  | [] => if s.captureFails t || s.wireFails t then some (s.freeVal 8, 0) else none

end Sys2Proof.Machine
end

