-- ==== Sys2Proof/Machine/Chain.lean ====
section
/-! DEFINITION. The emitter chain (03_firing.md, R87 to R103): loading, patterns and their swap, the judgement of a returned
frame, diagnosis and proof steps. The frames themselves are formed in HeadOps.lean. -/

namespace Sys2Proof.Machine

/-! ### Loading (R93, R94) -/

/-- The LOAD frames of a head's patterns, in index order. [DEDUCED, log 108] -/
def State.loads (s : State) (h : Nat) : List ChainCmd :=
  (s.image h).patterns.filterMap fun q => if q.2.isSome then some (.load q.1) else none

/-- CHAIN_LOAD (R94): after the head leaves OFF, CONFIG, one LOAD per pattern, VERIFY. -/
def execChainLoad (t : Time) (h : HeadIx) (s : State) : Host.Outcome State Fault Refusal :=
  s.run t fun s =>
    let c := (s.head h).chain
    if s.headState h = hsOff ∨ s.rd (R.EMT_STATUS.CHAIN h) ≠ 1 ∨ c.flight.isSome ∨ !c.queue.isEmpty then s
    else (s.updChain h fun c => { c with queue := .config :: s.loads h ++ [.verify] }).chainNext h

/-- The memory CRC of driver `i` that the image gives (R94): CRC-16 over mask and current word of each pattern.
[DEDUCED, log 108] -/
def State.memCrc (s : State) (h i : Nat) : Nat :=
  crc16 ((s.image h).patterns.flatMap fun q =>
    if q.2.isSome then
      let (m, k) := s.patternOf h q.1 i
      bytesLE 8 m ++ bytesLE 2 (k % 16)
    else [])

/-- VERIFY has passed as a frame: READY, or the drivers are loaded again (R94). [DEDUCED, log 108] -/
def State.verified (s : State) (h : Nat) (es : List ChainEntry) : State :=
  if es.zipIdx.all fun (e, i) => e.memCrc == s.memCrc h i then (s.wr (R.EMT_STATUS.CHAIN h) 3).refreshEmitter h
  else
    let s := (s.wr (R.EMT_STATUS.CHAIN h) 1).refreshEmitter h
    s.updChain h fun c => { c with queue := s.loads h ++ .verify :: c.queue }

/-! ### Patterns (R95, R96) -/

/-- Is every enabled emitter of a pattern masked (R102)? -/
def State.allMasked (s : State) (h p : Nat) : Bool :=
  let ds := indices (s.drivers h) fun i => (s.patternOf h p i).1 != 0
  !ds.isEmpty && ds.all fun i =>
    let m := (s.patternOf h p i).1
    m &&& (s.driver h i).mask == m

/-- The descriptor of the dwell that follows: in the frame, or dwell 0 of the next one. -/
def State.nextDesc (s : State) (h : Nat) : List Nat :=
  let c := (s.head h).scan
  let a := s.rd (R.SCAN_STATUS.ACTIVE_SLOT h)
  if c.inFrame ∧ c.nextDwell < s.progLen h a then s.descAt h a c.nextDwell else s.descAt h (s.nextSlot h) 0

/-- The descriptor of the dwell whose pattern is wanted next (R95): of the dwell that waits for its SWAP, else of the dwell that
follows in the frame. -/
def State.swapDesc (s : State) (h : Nat) : Option (List Nat) :=
  let c := (s.head h).scan
  let a := s.rd (R.SCAN_STATUS.ACTIVE_SLOT h)
  if !c.inFrame then none
  else if (s.head h).chain.swapWait then some c.desc
  else if c.nextDwell < s.progLen h a then some (s.descAt h a c.nextDwell)
  else none

/-- The pattern that a PATTERN frame is due for (R95): once SWAP for dwell d has been confirmed that of dwell d + 1, and from
frame start that of dwell 0, where it differs. -/
def State.patternDue (s : State) (h : Nat) : Option Nat :=
  let x := (s.head h).chain
  match s.swapDesc h with
  | none => none
  | some d => if x.active == some (Desc.pattern d) || x.nextPat == some (Desc.pattern d) then none else some (Desc.pattern d)

/-- Is a frame in flight or waiting? -/
def State.chainBusy (s : State) (h : Nat) : Bool := (s.head h).chain.flight.isSome || !(s.head h).chain.queue.isEmpty

/-- CHAIN_PATTERN_SEND (R95). -/
def execChainPatternSend (t : Time) (h : HeadIx) (s : State) : Host.Outcome State Fault Refusal :=
  s.run t fun s => match s.patternDue h with
    | none => s
    | some p =>
      let x := (s.head h).chain
      let sent := x.queue.contains (.pattern p) || (x.flight.any fun f => f.cmd == .pattern p)
      s.when (!sent) fun s => s.chainPut h (.pattern p)

/-- The last shot of the dwell in progress: its program's, or the one that a stop notice names (R371). -/
def State.lastShot (s : State) (h : Nat) : Nat :=
  let c := (s.head h).scan
  min (Desc.shotCntM1 c.desc) (c.stopShot.getD 4095)

/-- Is the last strobe of the dwell in progress out, and 50 ns past (R95)? -/
def State.swapClear (s : State) (h : Nat) : Bool :=
  let f := (s.head h).fire
  let out := s.rd (R.SCAN_POS.PHASE h) != 3 || s.headState h != hsScanning || !(s.head h).scan.fire ||
    (f.shots.head?.map fun x => decide (s.lastShot h ≤ x.k)).getD false
  out && match f.lastStrobe with
    | none => true
    | some a => decide (a + 50 ≤ s.now)

/-- CHAIN_SWAP_SEND (R95): no earlier than 50 ns after the last strobe of the dwell in progress, once the pattern that is wanted
is in NEXT. -/
def execChainSwapSend (t : Time) (h : HeadIx) (s : State) : Host.Outcome State Fault Refusal :=
  s.run t fun s =>
    let x := (s.head h).chain
    let wanted := (s.swapDesc h).any fun d => x.nextPat == some (Desc.pattern d)
    let sent := x.queue.contains .swap || (x.flight.any fun f => f.cmd == .swap)
    s.when (wanted && !sent && s.swapClear h) fun s => s.chainPut h .swap

/-- SWAP is confirmed (R95): the dwell that waits for it has settled at the later of servo settle and now. [DEDUCED, log 109] -/
def State.swapped (s : State) (h : Nat) : State :=
  let x := (s.head h).chain
  match x.nextPat with
  | none => s
  | some p =>
    let done := x.swapWait && Desc.pattern (s.head h).scan.desc == p
    let s := s.updChain h fun x => { x with
      active := some p, nextPat := none, swapFails := 0, swapWait := x.swapWait && !done }
    let s := s.wr (R.EMT_STATUS.ACTIVE_PAT h) p
    s.when done fun s => s.updScan h fun c => { c with settledAt := c.settledAt.map fun _ => s.now }

/-! ### Diagnosis (R102, R103) -/

/-- DIAG has passed: the open and short masks are shown, newly faulty emitters are masked and reported, and MASK follows. -/
def State.diagnosed (s : State) (h : Nat) (es : List ChainEntry) : State :=
  let bad (e : ChainEntry) : Nat := e.opens ||| e.shorts
  let fresh := es.zipIdx.foldl (fun n (e, i) => n + popcount 64 (bad e &&& ((s.driver h i).mask ^^^ (2 ^ 64 - 1)))) 0
  let s := es.zipIdx.foldl (fun s (e, i) => s.updChain h fun x => { x with
    drivers := SMap.upd driverDefault x.drivers i fun D =>
      { mask := D.mask ||| bad e, opens := e.opens, shorts := e.shorts } }) s
  let s := s.each fresh fun _ s => s.raise .emitterFault h
  let n := sumTo (s.drivers h) fun i => popcount 64 (s.driver h i).mask
  let s := s.wr (R.EMT_STATUS.MASKED h) n
  let excess := decide (s.rd (R.EMT_CFG.MASK_MAX h) < n) && !(s.head h).chain.limitHeld
  let s := s.when excess fun s => (s.updChain h fun x => { x with limitHeld := true }).raise .emitterLimit h
  if fresh = 0 then (s.updChain h fun x => { x with faultPend := false }).refreshEmitter h
  else (s.updChain h fun x => { x with queue := .mask :: x.queue }).refreshEmitter h

/-- What status entries show (R92, R102): over-temperature until a later frame shows it clear in every entry; an unmasked
fault, which DIAG then names. [DEDUCED, log 109] -/
def State.chainStatus (s : State) (h : Nat) (es : List ChainEntry) : State :=
  let good := es.filter (·.crcOk)
  let hot := good.any (·.overtemp)
  let clear := good.length == s.drivers h && !hot
  let s := (s.updChain h fun x => { x with overtemp := hot || (x.overtemp && !clear) }).refreshThermal h
  if good.any (·.fault) && !(s.head h).chain.faultPend then
    (s.updChain h fun x => { x with faultPend := true, queue := .diag :: x.queue }).refreshEmitter h
  else s

/-! ### Judging a frame (R91) -/

/-- DT by which the close MARK of a frame has to be back: 10 µs and twice the frame's length after its open MARK (R91). -/
def State.chainDeadline (s : State) (h : Nat) (f : ChainFlight) : Nat :=
  f.sentAt + 10000 + 2 * chainNs f.cmd (s.chainPayload h f.cmd).length (s.drivers h)

/-- Has a returned frame failed (R91)? -/
def State.frameFails (s : State) (h : Nat) (f : ChainFlight) (r : ChainReturn) : Bool :=
  !r.headerIntact || !r.whole || r.entries.length != s.drivers h || (r.entries.any fun e => !e.crcOk || e.rxErr || !e.act) ||
    decide (s.chainDeadline h f < s.now)

/-- A frame has failed: it is repeated up to 2 times, then the head goes to FAULT (R91). A SWAP that found NEXT_VALID clear
in a driver has PATTERN sent before it, of the pattern that it swaps (R96). [DEDUCED, log 109] -/
def State.chainFailed (s : State) (h : Nat) (f : ChainFlight) (nextClear : Bool) : State :=
  let s := s.updChain h fun x => { x with flight := none }
  if 2 ≤ f.fails then
    let s := (s.updChain h fun x => { x with queue := [] }).wr (R.EMT_STATUS.CHAIN h) 4
    ((s.raise .chainFail h).headFault h 2).refreshEmitter h
  else
    let s := (s.inc (R.EMT_CNT_RETRY.COUNT h)).raise .chainRetry h
    let x := (s.head h).chain
    match f.cmd, x.nextPat.or x.active, nextClear with
    | .swap, some p, true =>
      (s.updChain h fun x => { x with swapFails := f.fails + 1, queue := .swap :: x.queue }).chainStart h (.pattern p) 0
    | c, _, _ => s.chainStart h c (f.fails + 1)

/-- A frame has passed. -/
def State.chainPassed (s : State) (h : Nat) (c : ChainCmd) (es : List ChainEntry) : State :=
  let s := s.updChain h fun x => { x with flight := none, recover := x.recover - 1 }
  let s := match c with
    | .pattern p => s.updChain h fun x => { x with nextPat := some p }
    | .swap => s.swapped h
    | .verify => s.verified h es
    | .diag => s.diagnosed h es
    | .mask => s.updChain h fun x => { x with faultPend := false }
    | .config | .load _ | .proof _ => s
  s.refreshEmitter h

/-- CHAIN_FRAME_RETURN (R87 to R96, R102, R103): nothing is judged before the close MARK is back. -/
def execChainFrameReturn (t : Time) (h : HeadIx) (r : List Nat) (s : State) : Host.Outcome State Fault Refusal :=
  s.run t fun s => match (s.head h).chain.flight with
    | none => s
    | some f => match chainRead f.cmd r with
      | none => s
      | some r =>
        if s.frameFails h f r then
          let clear := r.entries.any fun e => e.crcOk && !e.nextValid
          let s := s.when (f.cmd == .swap && r.headerIntact) fun s => s.swapped h
          (s.chainFailed h f clear).chainStatus h r.entries
        else ((s.chainPassed h f.cmd r.entries).chainStatus h r.entries).chainNext h

/-- CHAIN_FRAME_TIMEOUT (R91): the close MARK has not returned in time. -/
def execChainFrameTimeout (t : Time) (h : HeadIx) (s : State) : Host.Outcome State Fault Refusal :=
  s.run t fun s => match (s.head h).chain.flight with
    | none => s
    | some f => if s.now < s.chainDeadline h f then s else s.chainFailed h f false

/-! ### Proof steps (R98 to R101) -/

/-- DT of the last proof of emitter index `e`. [DEDUCED, log 106] -/
def State.provedAt (s : State) (h e : Nat) : Nat := SMap.get (fun _ => 0) (s.head h).chain.proofs e

/-- Emitter indices whose last proof is older than PERIOD (R101). -/
def State.lateEmitters (s : State) (h : Nat) : List Nat :=
  indices (s.emitters h) fun e => decide (s.provedAt h e + s.rd (R.EMT_PROOF.PERIOD h) * 1000000 < s.now)

/-- Proof steps of a flyback: n_f, and every step that brings the late emitters within PERIOD again (R100, R101).
[DEDUCED, log 106] -/
def State.flybackSteps (s : State) (h : Nat) (p : Prog) : Nat :=
  let n := s.emitters h
  let next := s.rd (R.EMT_PROOF_STATUS.STEP h)
  (s.lateEmitters h).foldl (fun m e => max m ((e + n - next % n) % n + 1)) (s.proofSteps h p)

/-- The age of the oldest proof in ms, as EMT_PROOF_STATUS.AGE_MAX shows it. -/
def State.proofAge (s : State) (h : Nat) : Nat :=
  satU 16 ((List.range (s.emitters h)).foldl (fun m e => max m ((s.now - s.provedAt h e) / 1000000)) 0)

/-- PROOF_LATE (R101): an emitter's last proof is older than PERIOD. [DEDUCED, log 107] -/
def execProofLate (t : Time) (h : HeadIx) (s : State) : Host.Outcome State Fault Refusal :=
  s.run t fun s => s.when (s.scanning h && !(s.lateEmitters h).isEmpty) fun s => s.raise .proofLate h

/-- May a proof step take place now (R98, R99, R288): in flyback or in the cycle before the first frame, on a free chain, with
a range of at most 16 sectors? -/
def State.proofDue (s : State) (h : Nat) : Bool :=
  let c := (s.head h).scan
  let ph := s.rd (R.SCAN_POS.PHASE h)
  s.scanning h && !c.parking && (ph == 4 || (ph == 0 && !c.inFrame && c.firstFrame)) && (s.head h).chain.stepsDue != 0 &&
    !s.chainBusy h && decide ((s.proofRange h).sectors.length ≤ 16)

/-- PROOF_STEP (R98, R99, R288): one PROOF frame with its strobe; the step that ends a cycle has VERIFY sent (R94).
[DEDUCED, log 106] -/
def execProofStep (t : Time) (h : HeadIx) (s : State) : Host.Outcome State Fault Refusal :=
  s.run t fun s => s.when (s.proofDue h) fun s =>
    let e := s.rd (R.EMT_PROOF_STATUS.STEP h)
    let next := (e + 1) % s.emitters h
    let s := (s.chainPut h (.proof e)).updChain h fun x => { x with stepsDue := x.stepsDue - 1 }
    let s := s.wr (R.EMT_PROOF_STATUS.STEP h) next
    s.when (next == 0) fun s => (s.inc (R.EMT_CNT_CYCLE.COUNT h)).chainPut h .verify

end Sys2Proof.Machine
end

