-- ==== Sys2Proof/Machine/Scan.lean ====
section
/-! DEFINITION. Heads, frames and dwells (01_architecture.md R31 to R35; 02_scan_programs.md R49 to R58). -/

namespace Sys2Proof.Machine

/-! ### Host commands of a head (R31, R32, R58) -/

/-- FIRE_INHIBIT.HOST: HEAD_CTL.HOST_INHIBIT, or MAINT without a session that enables the head (R26, R480). [DEDUCED, log 21] -/
def State.refreshHost (s : State) (h : Nat) : State :=
  s.setInh h .host (s.on (R.HEAD_CTL.HOST_INHIBIT h) || (s.devState == devMaint && !bit s.boot.session.heads h))

/-- HEAD_START (R32): a PARKED head scans, waits for its calibrations, or the write is refused. [DEDUCED, log 23, 105] -/
def execHeadStart (t : Time) (i : Iface) (h : HeadIx) (s : State) : Host.Outcome State Fault Refusal :=
  s.run t fun s =>
    let parked := s.headState h == hsParked
    if parked && s.calibrating h then s.updScan h fun c => { c with startHeld := some i }
    else if s.blocked h then s.refuse i (R.HEAD_CTL.addr h)
    else s.when parked fun s => s.headScan h

/-- HEAD_PARK (R32, R58): disarms the head; a SCANNING or INHIBITED head parks, at the close of its dwell in phase DWELL. -/
def execHeadPark (t : Time) (h : HeadIx) (s : State) : Host.Outcome State Fault Refusal :=
  s.run t fun s =>
    let s := s.updScan h fun c => { c with armed := false, startHeld := none }
    if !s.scanning h || (s.head h).scan.parking then s
    else if s.rd (R.SCAN_POS.PHASE h) = 3 then s.updScan h fun c => { c with parkPend := true }
    else s.startPark h

/-- Is the cause of a head's fault still present (Table 1.5): the link is down; the mirror is not at its park position? The
chain is tried again by the load that follows the restart (R94). [DEDUCED, log 22] -/
def State.faultPresent (s : State) (h : Nat) : Bool :=
  match s.rd (R.HEAD_STATE.FAULT_CAUSE h) with
  | 1 => s.inh h .headlink
  | 3 => !s.atPark h
  | _ => false

/-- HEAD_RESTART (Table 1.5): FAULT to PARKED, once the cause of the fault is gone. [DEDUCED, log 22] -/
def execHeadRestart (t : Time) (h : HeadIx) (s : State) : Host.Outcome State Fault Refusal :=
  s.run t fun s => s.when (s.headState h == hsFault && !s.faultPresent h) fun s => s.headPark h

/-- HOST_INHIBIT_WRITE (R31, R35). [DEDUCED, log 21] -/
def execHostInhibitWrite (t : Time) (h : HeadIx) (v : Bool) (s : State) : Host.Outcome State Fault Refusal :=
  s.run t fun s => (s.wrB (R.HEAD_CTL.HOST_INHIBIT h) v).refreshHost h

/-- AUTO_START (R32): an armed head in PARKED, in RUN or DEGRADED, with no inhibit but TOKEN. [DEDUCED, log 23, 105] -/
def execAutoStart (t : Time) (h : HeadIx) (s : State) : Host.Outcome State Fault Refusal :=
  s.run t fun s =>
    s.when ((s.head h).scan.armed && s.headState h == hsParked && s.running && !s.blocked h) fun s => s.headScan h

/-! ### Frame start (R53, R54, R57, R62, R76, R366) -/

/-- A pending commit takes effect (R61, R62); descriptors that have arrived from its slot stay (R51). [DEDUCED, log 28] -/
def State.applyCommit (s : State) (h : Nat) : State :=
  let sl := (s.head h).scan.commitSlot
  let s := (s.wr (R.SCAN_STATUS.ACTIVE_SLOT h) sl).wr (R.SCAN_STATUS.COMMIT_STATE h) 4
  let s := s.updScan h fun c => { c with commitDue := false, prefetch := c.prefetch.filter fun e => e.2.1 == sl }
  ((s.raise .commitApplied h).geometryChange h).setListRate

/-- The commit of a head at the start of frame `n`. -/
def State.frameCommit (s : State) (h n : Nat) : State :=
  let st := s.rd (R.SCAN_STATUS.COMMIT_STATE h)
  let due := (s.head h).scan.commitDue
  if (st = 2 ∨ st = 3) ∧ (due ∨ s.rd (R.SCAN_COMMIT_FRAME.FRAME h) = n) then
    (s.when due fun s => s.wr (R.SCAN_COMMIT_FRAME.FRAME h) n).applyCommit h
  else s

/-- The code identity at a frame start (R76, R333). -/
def State.frameCode (s : State) (h : Nat) : State :=
  let own := s.ownCid h
  let pair := s.on R.PAIR_CFG.EN
  let s := s.when (pair && !s.pair.formed && s.holdsToken) fun s => s.wr R.PAIR_CID.CID own
  let was := s.on (R.FIRE_CODE.FALLBACK_ACTIVE h)
  let s := s.wr (R.FIRE_CODE.CID h) (if pair && s.pair.formed then s.rd R.PAIR_CID.CID else own)
  let fb := !s.admitted && s.rd (R.FIRE_CODE.CID h) == s.rd (R.FIRE_CODE.FALLBACK h)
  let s := s.wrB (R.FIRE_CODE.FALLBACK_ACTIVE h) fb
  s.when (fb && !was) fun s => s.raise .codeFallback h

/-- The number of the frame that starts: one more, or the partner's when a shadow joins (R57, R333, R338). -/
def State.frameNumber (s : State) (h : Nat) : State :=
  match bit s.pair.adopt h, s.pair.partner with
  | true, some b =>
    let s := s.wr (R.SCAN_FRAME_NUM.FRAME h) ((b.heads[h]?.map fun x => x.frame.toNat).getD 0)
    (s.wr R.PAIR_CID.CID b.cid.toNat).updPair fun p => { p with adopt := clearBit p.adopt h, formed := true }
  | _, _ => s.inc (R.SCAN_FRAME_NUM.FRAME h)

/-- A frame that ends before its last dwell was decided is judged with what is known; a new one begins (R302). [DEDUCED, log 32] -/
def State.frameBreach (s : State) (h : Nat) : State :=
  let s := s.when (s.breachOf h false).frEnd fun s => (s.judgeFrames h).evalPairs
  s.eachIsland fun i s => s.updBreach h i fun b => { b with frProt := false, frWarn := false, frOk := true, frEnd := false }

/-- The plan entry of a head (R366, R367). -/
def State.framePlan (s : State) (h : Nat) : State :=
  let (s, changed) := s.applyPlan h
  let f := (s.prog h (s.rd (R.SCAN_STATUS.ACTIVE_SLOT h))).frameNs
  s.when (changed && decide (s.rd (R.DOM_PLAN0.PERIOD h) < f)) fun s => s.raise .domPlanShort h

/-- The fence of the frame opens (R60): an acceptance at this DT counts as during the fence. -/
def State.openFence (s : State) (h : Nat) : State :=
  let late := (s.head h).scan.acceptAt == some s.now && s.rd (R.SCAN_STATUS.COMMIT_STATE h) == 2
  let s := s.wr (R.SCAN_POS.FENCE h) 1
  s.when late fun s =>
    (s.wr (R.SCAN_STATUS.COMMIT_STATE h) 3).wr (R.SCAN_COMMIT_FRAME.FRAME h) (s.rd (R.SCAN_FRAME_NUM.FRAME h) + 2)

/-- May a frame of a head start now: the one before has had its flyback, the instant of R53 has come, the cycle of R99 is done,
and with ALIGN the instant is a slot of the plan (R54, R58, R99, R366)? [DESIGN CHOICE, log 144] -/
def State.frameDue (s : State) (h : Nat) : Bool :=
  let c := (s.head h).scan
  s.scanning h && !c.parking && (!c.inFrame || s.rd (R.SCAN_POS.PHASE h) == 4) && decide (c.nextStart ≤ s.now) &&
    (c.inFrame || (s.head h).chain.stepsDue == 0) && (!s.onPlan h || s.slotAt h s.now == s.now)

/-- FRAME_START (R53, R54, R57, R58, R60, R62, R76, R366). [DEDUCED, log 32] -/
def execFrameStart (t : Time) (h : HeadIx) (s : State) : Host.Outcome State Fault Refusal :=
  s.run t fun s => s.when (s.frameDue h) fun s =>
    let c := (s.head h).scan
    let late := !c.firstFrame && decide (c.nominal < s.now)
    let one (s : State) : Bool := s.progLen h (s.rd (R.SCAN_STATUS.ACTIVE_SLOT h)) == 1
    let s := (s.frameBreach h).frameNumber h
    let s := s.when (one s) fun s => s.openFence h
    let s := s.frameCommit h (s.rd (R.SCAN_FRAME_NUM.FRAME h))
    let s := (s.framePlan h).frameCode h
    let s := s.when late fun s => (s.inc (R.SCAN_CNT_LATE.COUNT h)).raise .frameLate h
    let s := s.leaveEnd (.flyback h)
    let s := s.updScan h fun c => { c with
      inFrame := true, firstFrame := false, start := s.now, tNom := 0, slip := 0, nextDwell := 0 }
    let s := ((s.wr (R.SCAN_SLIP.SLIP h) 0).wr (R.SCAN_POS.PHASE h) 0).wr (R.SCAN_POS.DWELL h) 0
    s.wrB (R.SCAN_POS.FENCE h) (one s)

/-! ### Move phase (R49, R51, R53, R60) -/

/-- DESCRIPTOR_PREFETCH_ARRIVAL (R51): a descriptor that fails its check, or whose read was uncorrectable, is counted.
[DEDUCED, log 25] -/
def execDescriptorPrefetchArrival (t : Time) (h : HeadIx) (d : BitVec 16) (uncorr : Bool) (s : State) :
    Host.Outcome State Fault Refusal :=
  s.run t fun s =>
    let c := (s.head h).scan
    let sl := if c.inFrame ∧ c.nextDwell ≤ d.toNat then s.rd (R.SCAN_STATUS.ACTIVE_SLOT h) else s.nextSlot h
    let ws := s.descAt h sl d.toNat
    let ok := Desc.passes ws && !uncorr && !s.stackLost (descAddr h sl d.toNat)
    let s := s.updScan h fun c => { c with
      prefetch := (d.toNat, sl, ok, ws) :: c.prefetch.filter fun e => e.1 != d.toNat || e.2.1 != sl }
    s.when (!ok) fun s => (s.inc (R.SCAN_CNT_DESC.COUNT h)).raise .descUnavailable h

/-- The descriptor of a dwell at its move phase: its words, and whether it may be used (R51). One that has not arrived is
counted. [DEDUCED, log 25] -/
def State.fetchDesc (s : State) (h sl d : Nat) : State × List Nat × Bool :=
  match (s.head h).scan.prefetch.find? fun e => e.1 == d && e.2.1 == sl with
  | some e => (s.updScan h fun c => { c with prefetch := c.prefetch.filter fun x => x.1 != d || x.2.1 != sl }, e.2.2.2, e.2.2.1)
  | none => ((s.inc (R.SCAN_CNT_DESC.COUNT h)).raise .descUnavailable h, s.descAt h sl d, false)

/-- The seed of the dwell that a head runs (R77, R369). [DEDUCED, log 33] -/
def State.dwellSeed (s : State) (h d : Nat) : Nat :=
  let f := s.rd (R.SCAN_FRAME_NUM.FRAME h)
  if s.isHelper h then ditherSeed (s.rd (R.DOM_MULT.OWNER_DID h)) (s.rd (R.DOM_MULT.OWNER_HEAD h)) f d
  else ditherSeed (s.rd (R.FIRE_CODE.CID h)) h f d

/-- The instant at which the present dwell period ends and the next begins (R53). -/
def State.periodStart (s : State) (h : Nat) : Nat :=
  let c := (s.head h).scan
  c.start + c.tNom + c.slip

/-- MOVE_PHASE_START (R49, R51, R53, R60, R77, R102, R267). [DEDUCED, log 24, 27; DESIGN CHOICE, log 144] -/
def execMovePhaseStart (t : Time) (h : HeadIx) (s : State) : Host.Outcome State Fault Refusal :=
  s.run t fun s =>
    let c := (s.head h).scan
    let sl := s.rd (R.SCAN_STATUS.ACTIVE_SLOT h)
    let len := s.progLen h sl
    let d := c.nextDwell
    if !s.scanning h || !c.inFrame || s.rd (R.SCAN_POS.PHASE h) != 0 || decide (len ≤ d) || decide (s.now < s.periodStart h) then s
    else
      let (s, ws, ok) := s.fetchDesc h sl d
      let asSkip := !ok || s.allMasked h (Desc.pattern ws)
      let skip := asSkip || Desc.skip ws
      let s := s.updScan h fun c => { c with
        desc := ws, asSkip := asSkip, target := s.periodStart h + Desc.moveT ws, nextDwell := d + 1
        settleRun := 0, settledAt := none, fire := false, stopShot := none, forced := false }
      let s := s.updServo h fun v => { v with clampSeen := false, profBank := s.rd (R.SRV_CTL.PROF_BANK h) }
      let seed := s.dwellSeed h d
      let s := s.updFire h fun f => { f with shots := [], seed := seed, latSum := 0, latN := 0 }
      let s := s.updChain h fun x => { x with swapWait := !skip && x.active != some (Desc.pattern ws) }
      let s := (s.wr (R.SCAN_POS.DWELL h) d).wr (R.SCAN_POS.PHASE h) 1
      let s := s.when (d + 1 == len) fun s => s.openFence h
      s.dwellLeave h ws asSkip

/-! ### Dwell open (R49, R53, R82, R291, R433, R434) -/

/-- The ECHO_LOST inhibit is released (R82). -/
def State.echoClear (s : State) (h : Nat) : State :=
  let s := (s.wr (R.FIRE_STATUS.ECHO_LOST h) 0).wr (R.FIRE_STATUS.MISS_RUN h) 0
  (s.updFire h fun f => { f with clrPend := false }).refreshEmitter h

/-- The leave test (R433). [DEDUCED, log 31] -/
def State.leaveTest (s : State) (h : Nat) : State :=
  let p := (s.head h).power
  if p.granted then s.setInh h .leave false
  else
    let s := (s.leaveWithdraw (headDwell h)).leaveRelease (headDwell h) p.units
    let s := (s.updPower h fun p => { p with units := 0 }).inc R.PWR_CNT_WITHDRAW.COUNT
    s.setInh h .leave true

/-- The test of the head-supply pool (R434). [DEDUCED, log 31] -/
def State.supplyTest (s : State) (h : Nat) : State :=
  let s := s.coverDwell h
  if (s.head h).power.covered then s.setInh h .supply false
  else ((s.inc R.PWR_CNT_SUPPLY.COUNT).raise .pwrSupplyShort h).setInh h .supply true

/-- Is the dwell being prepared run as SKIP? -/
def State.skips (s : State) (h : Nat) : Bool := (s.head h).scan.asSkip || Desc.skip (s.head h).scan.desc

/-- Every test made at dwell open, and the change from INHIBITED to SCANNING (R31, R49, R82, R291, R433, R434).
[DEDUCED, log 26, 27, 31] -/
def State.openTests (s : State) (h : Nat) : State :=
  let s := s.when (s.head h).fire.clrPend fun s => s.echoClear h
  let s := (s.when (!s.skips h) fun s => s.leaveTest h).supplyTest h
  let s := s.eyeDwellTest h (s.head h).scan.desc
  s.when (s.headState h == hsInhibited && !s.blocked h) fun s => (s.wr (R.HEAD_STATE.STATE h) hsScanning).showTokenOnly h

/-- The dwell opens now, with or without shots; the slip grows by what the open is later than its target (R53). -/
def State.openDwell (s : State) (h : Nat) (fire : Bool) : State :=
  let d := (s.head h).scan.desc
  let s := s.updScan h fun c => { c with
    openAt := s.now, fire := fire, forced := s.timingLost, slip := ((c.slip : Int) + s.now - c.target).toNat }
  let s := s.wr (R.SCAN_SLIP.SLIP h) (satU 32 (s.head h).scan.slip)
  let s := s.wr (R.SCAN_POS.PHASE h) 3
  let v := (s.head h).servo
  let s := s.wr (R.SRV_APPLIED.VALUE h) (wrapS 16 v.x.fApp + 2 ^ 16 * wrapS 16 v.y.fApp)
  let s := s.when (s.head h).fire.shots.isEmpty fun s => s.takeBuffers h
  let s := s.openGroups h d (s.rd (R.SCAN_POS.DWELL h)) (s.rd (R.SCAN_FRAME_NUM.FRAME h)) (s.delivered h d)
  let s := s.prefetchBearings h d (s.nextDesc h)
  s.when (Desc.trig d) fun s => s.occurNow 0x03 h

/-- Has the dwell settled by an instant, its SWAP confirmed (R52, R95)? -/
def State.settledBy (s : State) (h a : Nat) : Bool :=
  !(s.head h).chain.swapWait && match (s.head h).scan.settledAt with
    | some x => decide (x ≤ a)
    | none => false

/-- The end of the settle timeout of the dwell being prepared (R53). -/
def State.settleLimit (s : State) (h : Nat) : Nat :=
  let c := (s.head h).scan
  c.target + s.rd (R.SCAN_SETTLE.TIMEOUT h (Desc.settleProf c.desc)) * 10000

/-- Is head `h` an owner of multiply, whose opens are fixed ahead (R370)? -/
def State.isOwner (s : State) (h : Nat) : Bool :=
  s.dev.sealed && s.on (R.DOM_MULT.EN h) && !s.on (R.DOM_MULT.ROLE h)

/-- An owner fixes its open LEAD µs ahead and tells its helpers (R370). -/
def State.fixOpen (s : State) (h : Nat) : State :=
  let a := s.now + s.rd (R.DOM_MULT.LEAD h) * 1000
  let s := s.updScan h fun c => { c with fixedOpen := some a }
  s.sendNotice h [0, s.rd (R.SCAN_FRAME_NUM.FRAME h), s.rd (R.SCAN_POS.DWELL h), a, 0, Desc.timingCrc (s.head h).scan.desc]

/-- A dwell of a helper opens at the DT of its notice, or with no shots where the notice is bad (R371). -/
def State.openHelper (s : State) (h : Nat) : State :=
  let c := (s.head h).scan
  if c.noticeBad then (s.openTests h).openDwell h false
  else match c.fixedOpen with
    | none => s
    | some a => if s.now < a then s else
      let s := s.openTests h
      s.openDwell h (!s.skips h && !s.blocked h)

/-- An open that R53 computes at this instant takes place: at once, or, for an owner, LEAD µs later (R370). -/
def State.openOr (s : State) (h : Nat) (fire : Bool) : State :=
  if s.isOwner h then s.fixOpen h else s.openDwell h fire

/-- A dwell of an owner whose open is fixed at `a` (R49, R370). -/
def State.openFixed (s : State) (h a : Nat) : State :=
  if s.now < a then s
  else
    let s := s.openTests h
    s.openDwell h (!s.skips h && !s.blocked h && s.settledBy h (a - s.rd (R.DOM_MULT.LEAD h) * 1000))

/-- A dwell of any other head at or after its target (R53). At the target an inhibited head opens without shots; a head that is
not settled waits (PHASE 2), and so does one whose inhibits the tests of the open would clear: they are made at the open.
[DEDUCED, log 26] -/
def State.openNow (s : State) (h : Nat) : State :=
  let settled := s.settledBy h (min s.now (s.settleLimit h))
  let tested := if s.isOwner h then s else s.openTests h
  if s.skips h then tested.openOr h false
  else if settled then tested.openOr h (!tested.blocked h)
  else if s.rd (R.SCAN_POS.PHASE h) = 2 ∨ ¬ s.blocked h ∨ ¬ tested.blocked h then s.wr (R.SCAN_POS.PHASE h) 2
  else tested.openOr h false

/-- DWELL_OPEN (R49, R53, R55, R370, R371), never before the target. [DEDUCED, log 26; DESIGN CHOICE, log 144] -/
def execDwellOpen (t : Time) (h : HeadIx) (s : State) : Host.Outcome State Fault Refusal :=
  s.run t fun s =>
    let ph := s.rd (R.SCAN_POS.PHASE h)
    if !s.scanning h || (ph != 1 && ph != 2) then s
    else if s.isHelper h then s.openHelper h
    else match s.isOwner h, (s.head h).scan.fixedOpen with
      | true, some a => s.openFixed h a
      | _, _ => s.when (decide ((s.head h).scan.target ≤ s.now)) fun s => s.openNow h

/-- SETTLE_TIMEOUT (R53): the dwell has not settled within its timeout; it opens without shots. A head that is inhibited at the
target does not wait. [DEDUCED, log 26; DESIGN CHOICE, log 144] -/
def execSettleTimeout (t : Time) (h : HeadIx) (s : State) : Host.Outcome State Fault Refusal :=
  s.run t fun s =>
    let ph := s.rd (R.SCAN_POS.PHASE h)
    let lim := s.settleLimit h
    if !s.scanning h || (ph != 2 && (ph != 1 || (s.blocked h && (s.openTests h).blocked h))) || s.skips h || decide (s.now < lim) ||
        s.settledBy h lim || s.isHelper h || (s.head h).scan.fixedOpen.isSome then s
    else
      let s := (s.inc (R.SCAN_CNT_SKIP.COUNT h)).raise .settleSkip h
      (if s.isOwner h then s else s.openTests h).openOr h false

/-! ### Shot times (R71, R77, R78) -/

/-- The nominal slot of shot 0 in ns: dwell open, or its target before the open (R49). -/
def State.shotBase (s : State) (h : Nat) : Nat :=
  let c := (s.head h).scan
  if s.rd (R.SCAN_POS.PHASE h) = 3 then c.openAt else c.fixedOpen.getD (max c.target (c.settledAt.getD 0))

/-- Phase set, offset in 1/256 ns and F_k in 1/256 ns of shot `k` (R71, R77, R78). [DEDUCED, log 29] -/
def State.shotTime (s : State) (h k : Nat) : Nat × Nat × Nat :=
  let (phase, code) := shotCode (s.head h).fire.seed k
  let ofs := code / 2 ^ spanShift (s.rd (R.FIRE_CFG.SPAN h))
  let f : Int := (s.shotBase h + k * Desc.shotInt (s.head h).scan.desc : Nat) * 256 + (ofs : Nat) + s.rdS (R.FIRE_TRIM.TRIM h)
  (phase, ofs, f.toNat)

/-- May the dwell of a head have shots at this instant (R35, R53, R71)? With a negative TRIM the first strobes come before the
open of a dwell that is settled, granted and covered. -/
def State.mayFire (s : State) (h : Nat) : Bool :=
  let c := (s.head h).scan
  let ph := s.rd (R.SCAN_POS.PHASE h)
  let early := (ph == 1 || ph == 2) && decide (s.rdS (R.FIRE_TRIM.TRIM h) < 0) && !s.skips h && s.settledBy h s.now &&
    (s.head h).power.granted && (s.head h).power.covered
  s.headState h == hsScanning && ((ph == 3 && c.fire) || early)

/-! ### Dwell close (R17, R20, R22, R53, R134, R433) -/

/-- The items of a dwell that closes: one for each of its bearings, with the field line that has come for it (R48, R158, R164,
R176). -/
def State.closeItems (s : State) (h : Nat) (d : List Nat) : List Item :=
  (dwellBearings d).map fun n =>
    let bid := Desc.bid d n
    let l := SMap.get fieldDefault s.fields bid
    let un := s.headOf n != h
    { n := n, bid := bid, un := un, done := un, fab := l.fab != 0, a := l.a != 0, b := l.b != 0, okA := l.okA, okB := l.okB
      words := if l.words = [] then s.fieldWords bid else l.words }

/-- The lines that a dwell takes with it. [DEDUCED, log 59] -/
def State.takeFields (s : State) (d : List Nat) : State :=
  { s with fields := (dwellBearings d).foldl (fun m n => SMap.upd fieldDefault m (Desc.bid d n) fun l =>
      let r : FieldLine := { l with fab := l.fab - 1, a := l.a - 1, b := l.b - 1 }
      if r.fab = 0 ∧ r.a = 0 ∧ r.b = 0 then {} else r) s.fields }

/-- No result of the dwell is used (R164, third case). -/
def State.quietDwell (s : State) (h : Nat) (d : List Nat) : Bool :=
  Desc.fsPolicy d == 3 && !s.persists h && !((List.range 16).any fun str => s.carriesHead str 0 h) &&
    !(s.on R.CAP_RL.EN && s.bitOf R.CAP_RL.HEAD_MASK h)

/-- The nominal start of the next dwell period, and the slip after a dwell that closes past the end of its period (R53). -/
def State.closeSlip (s : State) (h : Nat) : State :=
  let s := s.updScan h fun c =>
    let tn := c.tNom + Desc.period c.desc
    { c with tNom := tn, slip := if c.start + tn + c.slip < s.now then s.now - (c.start + tn) else c.slip }
  s.wr (R.SCAN_SLIP.SLIP h) (satU 32 (s.head h).scan.slip)

/-- The units of the dwell that follows are kept, the rest is released (R433). -/
def State.keepLeave (s : State) (h : Nat) : State :=
  let need := s.unitsOf h (s.nextDesc h) false
  let held := (s.head h).power.units
  (s.leaveRelease (headDwell h) (held - need)).updPower h fun p => { p with units := min held need }

/-- What is known of the dwell that closes now. [DEDUCED, log 52] -/
def State.closedOf (s : State) (h : Nat) : Closed :=
  let c := (s.head h).scan
  let f := (s.head h).fire
  let sl := s.rd (R.SCAN_STATUS.ACTIVE_SLOT h)
  { dwell := s.rd (R.SCAN_POS.DWELL h), slot := sl, frame := s.rd (R.SCAN_FRAME_NUM.FRAME h), desc := c.desc
    shots := f.shots, openAt := c.openAt, closeAt := s.now, seed := f.seed
    fired := (f.shots.filter fun x => x.ek.isSome).length, excluded := bit s.pair.excluded h
    last := decide (s.progLen h sl ≤ c.nextDwell), forced := c.forced, od := s.odNow
    fset := s.rd (R.DET_SEL_STATUS.SELECTED h), ovrSet := s.rd (R.DET_SEL_STATUS.OVR_SET h)
    ovr := s.on (R.DET_SEL_STATUS.OVR h), quiet := s.quietDwell h c.desc, items := s.closeItems h c.desc }

/-- The dwell closes: buffers swap, the notice goes to the islands, leave is kept or released, a pending park acts.
[DEDUCED, log 24, 52] -/
def State.closeDwell (s : State) (h : Nat) : State :=
  let k := s.closedOf h
  let d := k.desc
  let saturated := (s.dwellInputs h d).any fun n => (s.inRec (n / 16) (s.group (n / 16)).use (n % 16)).saturated
  let s := (s.takeFields d).updClosed h fun _ => k
  let s := s.when saturated fun s => s.inc (R.RET_CNT_SAT.COUNT h)
  let s := s.each 96 fun g s => s.when (Desc.enables d g) fun s => s.updGroup g fun G => { G with use := 1 - G.use }
  let s := (s.echoLatency h).stageClose h d (k.fired != 0)
  let s := (s.updPair fun p => { p with excluded := clearBit p.excluded h }).closeSlip h
  let s := s.updFire h fun f => { f with shots := [] }
  let s := s.updScan h fun c => { c with closeAt := s.now, fire := false, fixedOpen := none, noticeBad := false, stopShot := none }
  let s := s.wr (R.SCAN_POS.PHASE h) 0
  let must := !Desc.skip d && Desc.fsPolicy d != 3
  let s := s.eachIsland fun i s => s.updBreach h i fun b => { b with
    frOk := b.frOk && !(must && k.fired == 0), frEnd := b.frEnd || k.last }
  let s := s.when (k.fired == 0) fun s => s.decideNone h
  let s := s.keepLeave h
  s.when (s.head h).scan.parkPend fun s => s.startPark h

/-- The end of the far gate of a shot in 1/256 ns (R17). -/
def State.gateEnd (s : State) (h : Nat) (x : Shot) : Nat :=
  (x.ek.getD (x.fk + s.rd (R.FIRE_CFG.ECHO_MAX h) * 256)) + Desc.far (s.head h).scan.desc * 256

/-- May a further shot of the dwell still be launched, or expected (R17, R53)? -/
def State.shotsDue (s : State) (h : Nat) (x : Shot) : Bool :=
  s.mayFire h && decide (x.k < s.lastShot h) && decide (s.now * 256 < (s.shotTime h (s.lastShot h)).2.2)

/-- Has the dwell of a head ended: the far gate of its last launched shot (R17), or T_nom after the open where no shot is
launched (R20)? [DESIGN CHOICE, log 144; DEDUCED, log 145] -/
def State.closeDue (s : State) (h : Nat) : Bool :=
  let c := (s.head h).scan
  match (s.head h).fire.shots.head? with
  | none => decide (c.openAt + Desc.tNom c.desc ≤ s.now)
  | some x => decide (s.gateEnd h x / 256 ≤ s.now) && !s.shotsDue h x

/-- DWELL_CLOSE (R17, R18, R20, R22, R53, R58, R84, R134, R433). -/
def execDwellClose (t : Time) (h : HeadIx) (s : State) : Host.Outcome State Fault Refusal :=
  s.run t fun s => s.when (s.rd (R.SCAN_POS.PHASE h) == 3 && s.closeDue h) fun s => s.closeDwell h

/-! ### Flyback (R53, R54, R56, R86, R100, R101, R187, R276, R367) -/

/-- Nominal and actual start of the next frame (R53, R54, R367); the extension of the flyback for late proofs has been added to
the slip (R101). [DEDUCED, log 30] -/
def State.nextFrame (s : State) (h : Nat) : State :=
  let c := (s.head h).scan
  let sl := s.rd (R.SCAN_STATUS.ACTIVE_SLOT h)
  let fly := s.rd (R.SCAN_FLY.FLYBACK h sl) * 1000
  let flyMin := s.rd (R.SCAN_FLY.FLYBACK_MIN h sl) * 1000
  let next := s.periodStart h + max (fly - c.slip) flyMin
  let nominal := if s.onPlan h then s.slotAt h (c.start + 1) else c.start + c.tNom + fly
  let next := if s.onPlan h then s.slotAt h (max next nominal) else next
  s.updScan h fun c => { c with nominal := nominal, nextStart := next }

/-- The energy of a flyback's proof steps leaves the pool (R434). -/
def State.flybackEnergy (s : State) (h n : Nat) : State :=
  let s := s.refillPool
  let s := s.updPwr fun p => { p with pool := p.pool - n * (s.image h).stepEnergy }
  s.wrRound R.PWR_HS_LEVEL.LEVEL s.pwr.pool 10

/-- Add to the slip of the frame. -/
def State.addSlip (s : State) (h n : Nat) : State :=
  let s := s.updScan h fun c => { c with slip := c.slip + n }
  s.wr (R.SCAN_SLIP.SLIP h) (satU 32 (s.head h).scan.slip)

/-- FLYBACK_START (R53, R56, R86, R100, R101, R187, R276). [DESIGN CHOICE, log 144] -/
def execFlybackStart (t : Time) (h : HeadIx) (s : State) : Host.Outcome State Fault Refusal :=
  s.run t fun s =>
    let c := (s.head h).scan
    let sl := s.rd (R.SCAN_STATUS.ACTIVE_SLOT h)
    if !s.scanning h || !c.inFrame || s.rd (R.SCAN_POS.PHASE h) != 0 || decide (c.nextDwell < s.progLen h sl) ||
        decide (s.now < s.periodStart h) then s
    else
      let p := s.prog h sl
      let n := s.flybackSteps h p
      let extra := (n - s.proofSteps h p) * s.tStep h
      let s := (s.wr (R.SCAN_POS.PHASE h) 4).updChain h fun x => { x with stepsDue := n }
      let s := ((s.addSlip h extra).nextFrame h).flybackEnergy h n
      let s := s.leaveRequest (.flyback h) (s.image h).flyUnits
      (s.visibility h).exciteFlyback h

end Sys2Proof.Machine
end

