-- ==== Sys2Proof/Machine/Commit.lean ====
section
/-! DEFINITION. Loading and committing scan programs (02_scan_programs.md R45, R59 to R65), and their forwarding in a pair
(13_twin_pair.md R340). -/

namespace Sys2Proof.Machine

/-! ### Forwarding (R340) -/

/-- The values of a forwarded write. [DEDUCED, log 28] -/
def forwardBody : Forwarded → List (Nat × Nat)
  | .word a v => [(1, 0), (4, a.toNat), (4, v.toNat)]
  | .descriptor h sl d ws => [(1, 1), (1, h.val), (1, sl.val), (2, d.toNat)] ++ ws.map fun w => (4, w.toNat)
  | .commit h sl => [(1, 2), (1, h.val), (1, sl.val)]
  | .accepted h sl f => [(1, 3), (1, h.val), (1, sl.val), (4, f.toNat)]
  | .rejected h => [(1, 4), (1, h.val)]

/-- A TYPE 0x03 frame to the partner. -/
def State.forward (s : State) (f : Forwarded) : State :=
  if s.on R.PAIR_CFG.EN ∧ s.on R.PAIR_STATUS.PARTNER then
    let bs := pack ([(2, 0x4E50), (1, 1), (1, 3)] ++ forwardBody f)
    s.updPair fun p => { p with sent := bs ++ bytesLE 4 (crc32c bs) }
  else s

/-! ### The standby slot (R45) -/

/-- Is a commit of the head being checked or pending? -/
def State.commitBusy (s : State) (h : Nat) : Bool :=
  let st := s.rd (R.SCAN_STATUS.COMMIT_STATE h)
  1 ≤ st && st ≤ 3

/-- May slot `sl` of head `h` be written (R45)? -/
def State.standbyOk (s : State) (h sl : Nat) : Bool :=
  s.on (R.SCAN_CTL.WRITE_EN h) && s.rd (R.SCAN_STATUS.ACTIVE_SLOT h) != sl &&
    !(s.commitBusy h && (s.head h).scan.commitSlot == sl)

/-- A write of SCAN_LEN of a standby slot. -/
def State.storeLen (s : State) (h sl v : Nat) : State :=
  ((s.wr (R.SCAN_LEN.LEN_M1 h sl) (v % 2 ^ 16)).wr (R.SCAN_LEN.VALID h sl) 0).dropEmpty h

/-- A write of SCAN_FLY of a standby slot. -/
def State.storeFly (s : State) (h sl v : Nat) : State :=
  let s := (s.wr (R.SCAN_FLY.FLYBACK h sl) (bits v 13 0)).wr (R.SCAN_FLY.FLYBACK_MIN h sl) (bits v 29 16)
  (s.wr (R.SCAN_LEN.VALID h sl) 0).dropEmpty h

/-- A descriptor is stored in a standby slot (R43, R45). -/
def State.storeDesc (s : State) (h sl d : Nat) (ws : List Nat) : State :=
  (s.hbmWrite (descAddr h sl d) (pack (ws.map fun w => (4, w)))).wr (R.SCAN_LEN.VALID h sl) 0 |>.dropEmpty h

/-- SCAN_LOAD_STORE (R45): word 15 stores the descriptor, and the index advances. -/
def execScanLoadStore (t : Time) (i : Iface) (h : HeadIx) (v : Word) (s : State) : Host.Outcome State Fault Refusal :=
  s.run t fun s =>
    let sl := s.rd (R.SCAN_LOAD_IDX.SLOT h)
    let d := s.rd (R.SCAN_LOAD_IDX.DWELL h)
    if !s.standbyOk h sl then s.refuse i (R.SCAN_LOAD_DATA.addr h 15)
    else
      let s := s.wr (R.SCAN_LOAD_DATA.WORD h 15) v.toNat
      let ws := (List.range 16).map fun w => s.rd (R.SCAN_LOAD_DATA.WORD h w)
      let s := (s.storeDesc h sl d ws).wr (R.SCAN_LOAD_IDX.DWELL h) (d + 1)
      s.forward (.descriptor h (Fin.ofNat 2 sl) (BitVec.ofNat 16 d) (ws.map (BitVec.ofNat 32)))

/-! ### Commits (R59 to R65) -/

/-- A commit request is taken up, or refused (R63). -/
def State.requestCommit (s : State) (h sl : Nat) : State :=
  if s.commitBusy h ∨ s.rd (R.SCAN_STATUS.ACTIVE_SLOT h) = sl then s.latch (R.SCAN_STATUS.REFUSED h)
  else (s.wr (R.SCAN_STATUS.COMMIT_STATE h) 1).updScan h fun c => { c with commitSlot := sl, commitDue := false }

/-- COMMIT_REQUEST (R59, R63): a shadow forwards it to the active (R340). [DEDUCED, log 28] -/
def execCommitRequest (t : Time) (h : HeadIx) (slot : Fin 2) (s : State) : Host.Outcome State Fault Refusal :=
  s.run t fun s =>
    if s.on R.PAIR_CFG.EN ∧ s.rd R.PAIR_STATUS.ROLE = 2 ∧ s.on R.PAIR_STATUS.PARTNER then s.forward (.commit h slot)
    else s.requestCommit h slot

/-- COMMIT_CANCEL (R64). -/
def execCommitCancel (t : Time) (h : HeadIx) (s : State) : Host.Outcome State Fault Refusal :=
  s.run t fun s => s.when (s.commitBusy h) fun s =>
    (s.wr (R.SCAN_STATUS.COMMIT_STATE h) 6).updScan h fun c => { c with
      commitDue := false, prefetch := c.prefetch.filter fun e => e.2.1 != c.commitSlot }

/-- A commit is accepted for frame `n` (R59 to R61): pending while the head runs, else in force at once. The spec states OFF and
PARKED; a head in FAULT, where no frame runs, is taken with them. [DESIGN CHOICE, log 175] -/
def State.acceptCommit (s : State) (h n : Nat) (after : Bool) : State :=
  let sl := (s.head h).scan.commitSlot
  let s := (s.wr (R.SCAN_LEN.VALID h sl) 1).updScan h fun c => { c with acceptAt := some s.now }
  if s.scanning h then (s.wr (R.SCAN_COMMIT_FRAME.FRAME h) n).wr (R.SCAN_STATUS.COMMIT_STATE h) (if after then 3 else 2)
  else ((s.wr (R.SCAN_COMMIT_FRAME.FRAME h) (s.rd (R.SCAN_FRAME_NUM.FRAME h))).applyCommit h).tryLeaveOff h

/-- A commit has failed its checks (R65). -/
def State.rejectCommit (s : State) (h cause dwell : Nat) : State :=
  let s := (s.wr (R.SCAN_REJECT.CAUSE h) cause).wr (R.SCAN_REJECT.DWELL h) dwell
  (s.wr (R.SCAN_STATUS.COMMIT_STATE h) 5).raise .commitRejected h

/-- COMMIT_CHECK_COMPLETE (R37 to R41, R59 to R61, R65): the checks of Table 2.3 and the budgets. -/
def execCommitCheckComplete (t : Time) (h : HeadIx) (s : State) : Host.Outcome State Fault Refusal :=
  s.run t fun s =>
    if s.rd (R.SCAN_STATUS.COMMIT_STATE h) ≠ 1 then s
    else
      let sl := (s.head h).scan.commitSlot
      let p := s.prog h sl
      let report := s.commitReport h p
      let s := s.drawn.incrementBudget (some (h.val, p))
      match report with
      | some (cause, dwell) => s.rejectCommit h cause dwell
      | none =>
        let after := s.on (R.SCAN_POS.FENCE h)
        let n := (s.rd (R.SCAN_FRAME_NUM.FRAME h) + if after then 2 else 1) % 2 ^ 32
        (s.acceptCommit h n after).forward (.accepted h (Fin.ofNat 2 sl) (BitVec.ofNat 32 n))

/-! ### Forwarded writes (R340) -/

/-- The head and slot whose SCAN_LEN (false) or SCAN_FLY (true) stands at an address. -/
def standbyReg (a : Nat) : Option (Nat × Nat × Bool) :=
  (List.range 64).findSome? fun i =>
    let h := i / 4
    let sl := i / 2 % 2
    if i % 2 = 0 then (if a = R.SCAN_LEN.addr h sl then some (h, sl, false) else none)
    else (if a = R.SCAN_FLY.addr h sl then some (h, sl, true) else none)

/-- The shadow takes over a commit that the active has accepted for frame `n`, when its own loader passes it too. -/
def State.shadowCommit (s : State) (h sl n : Nat) : State :=
  let p := s.prog h sl
  let report := s.commitReport h p
  let s := s.drawn.incrementBudget (some (h, p))
  match report with
  | some (cause, dwell) =>
    ((s.rejectCommit h cause dwell).forward (.rejected (Fin.ofNat 16 h))).raise .pairDiverged h
  | none =>
    let s := s.updScan h fun c => { c with commitSlot := sl, commitDue := false }
    s.acceptCommit h n (n != (s.rd (R.SCAN_FRAME_NUM.FRAME h) + 1) % 2 ^ 32)

/-- FORWARDED_WRITE (R340). -/
def execForwardedWrite (t : Time) (p : Fin 2) (rx : LinkRx) (f : Forwarded) (s : State) : Host.Outcome State Fault Refusal :=
  s.run t fun s =>
    let s := s.codeword (24 + p.val) rx
    if !linkGood rx || !s.on R.PAIR_CFG.EN || !s.dev.sealed then s
    else match f with
      | .word a v => match standbyReg a.toNat with
        | none => s
        | some (h, sl, fly) =>
          if !s.standbyOk h sl then s else if fly then s.storeFly h sl v.toNat else s.storeLen h sl v.toNat
      | .descriptor h sl d ws =>
        s.when (s.standbyOk h sl) fun s => s.storeDesc h sl d.toNat ((List.range 16).map fun i => (ws.getD i 0).toNat)
      | .commit h sl => s.requestCommit h sl
      | .accepted h sl n => s.shadowCommit h sl n.toNat
      | .rejected h => s.raise .pairDiverged h

end Sys2Proof.Machine
end

