-- ==== Sys2Proof/Machine/Firing.lean ====
section
/-! DEFINITION. The fire scheduler (03_firing.md, R71 to R85): strobes, shot records and fire echoes. -/

namespace Sys2Proof.Machine

/-! ### The strobe (R71, R75, R77 to R79, R84, R85) -/

/-- Is shot `k` the next one or a later one of the dwell, up to the last that a stop notice names? -/
def State.shotDue (s : State) (h k : Nat) : Bool :=
  let c := (s.head h).scan
  decide (k ≤ Desc.shotCntM1 c.desc) && ((s.head h).fire.shots.head?.map fun x => decide (x.k < k)).getD true &&
    (c.stopShot.map fun j => decide (k ≤ j)).getD true

/-- A shot is recorded for the groups of the head (R79). -/
def State.recordShot (s : State) (h k : Nat) (launched : Bool) : State :=
  let (phase, ofs, fk) := s.shotTime h k
  let s := s.when ((s.head h).fire.shots.isEmpty && s.rd (R.SCAN_POS.PHASE h) != 3) fun s => s.takeBuffers h
  (s.updFire h fun f => { f with shots := ⟨k, launched, fk, phase, ofs, none, false⟩ :: f.shots }).eyePulse h k fk

/-- What a launched strobe leaves (R71, R72, R349). -/
def State.launched (s : State) (h k : Nat) : State :=
  let s := (s.inc (R.FIRE_CNT_SHOT.COUNT h)).wr (R.FIRE_STATUS.LAST_SHOT h) k
  let s := s.wr64 (R.FIRE_LAST_DT_LO.VALUE h) (R.FIRE_LAST_DT_HI.VALUE h) s.now
  let s := (s.updFire h fun f => { f with lastStrobe := some s.now, fireUntil := s.now + s.rd (R.FIRE_CFG.STROBE_W h) }).vernier
    h (((s.head h).fire.shots.head?.map (·.fk)).getD 0)
  match s.pair.gapFrom with
  | none => s
  | some a => (s.wr R.PAIR_GAP.VALUE (satU 32 (s.now - a))).updPair fun p => { p with gapFrom := none }

/-- Firing has stopped within the dwell of an owner: its helpers are told the last shot, once (R370). [DEDUCED, log 29] -/
def State.stopNotice (s : State) (h : Nat) : State :=
  match (s.head h).fire.shots.head?, (s.head h).scan.stopShot with
  | some x, none =>
    if s.isOwner h then
      (s.updScan h fun c => { c with stopShot := some x.k }).sendNotice h
        [1, s.rd (R.SCAN_FRAME_NUM.FRAME h), s.rd (R.SCAN_POS.DWELL h), x.k]
    else s
  | _, _ => s

/-- FIRE_STROBE_LAUNCH (R35, R71, R73, R75, R79, R85, R347): at F_k, launched while every permission of the fire gate holds; expected
while only TOKEN is set, or where F_k lies before TOKEN cleared (R33). [DEDUCED, log 29; DESIGN CHOICE, log 144] -/
def execFireStrobeLaunch (t : Time) (h : HeadIx) (k : BitVec 12) (s : State) : Host.Outcome State Fault Refusal :=
  s.run t fun s =>
    if s.blocked h then s.stopNotice h
    else if !s.mayFire h || !s.shotDue h k.toNat || decide (s.now < (s.shotTime h k.toNat).2.2 / 256) then s
    else if s.inh h .token || decide ((s.shotTime h k.toNat).2.2 < s.pair.tokenAt * 256) then s.recordShot h k.toNat false
    else s.when (s.gateOpen h) fun s => (s.recordShot h k.toNat true).launched h k.toNat

/-! ### The echo (R80 to R83, R134, R339) -/

/-- The number of the next shot of the dwell. -/
def State.nextShot (s : State) (h : Nat) : Nat := ((s.head h).fire.shots.head?.map fun x => x.k + 1).getD 0

/-- Is `a` (1/256 ns) in the echo window of a shot at `fk`, or within `before` ahead of its start (R80)? -/
def State.inEchoWindow (s : State) (h fk a before : Nat) : Bool :=
  decide (fk + s.rd (R.FIRE_CFG.ECHO_MIN h) * 256 ≤ a + before) && decide (a ≤ fk + s.rd (R.FIRE_CFG.ECHO_MAX h) * 256)

/-- Is an echo window of head `h` open at `a`, or within `before` ahead of its start: that of a shot launched or expected, or
of the next one (R80, R123)? -/
def State.echoWindowAt (s : State) (h a before : Nat) : Bool :=
  ((s.head h).fire.shots.any fun f => s.inEchoWindow h f.fk a before) ||
    (s.mayFire h && s.shotDue h (s.nextShot h) && s.inEchoWindow h (s.shotTime h (s.nextShot h)).2.2 a before)

/-- Does the generator run on the ECHO input of head `h` at an instant (R123)? -/
def State.echoGeneratorOn (s : State) (h a : Nat) : Bool := s.calHeld h || !s.echoWindowAt h a (20 * 256)

/-- RANDOM_HIT_INJECT (R113, R122, R123). [DEDUCED, log 146] -/
def execRandomHitInject (t : Time) (i : Fin 1558) (tapsA tapsB : BitVec 288) (s : State) :
    Host.Outcome State Fault Refusal :=
  s.run t fun s =>
    let on := if i.val < 1536 then s.generatorOn i
      else if i.val < 1552 then s.echoGeneratorOn (i - 1536) (s.now * 256) else true
    s.when on fun s => s.countHit i tapsA tapsB

/-- Change shot `k` of the dwell. -/
def State.updShot (s : State) (h k : Nat) (f : Shot → Shot) : State :=
  s.updFire h fun y => { y with shots := y.shots.map fun x => if x.k = k then f x else x }

/-- An edge outside every echo window: a stray (R83), or a sign that the pair's twins differ (R339). -/
def State.strayEcho (s : State) (h : Nat) : State :=
  if s.on (R.HEAD_STATE.TOKEN_ONLY h) then
    (s.inc R.PAIR_CNT_STRAY.COUNT).updPair fun p => { p with excluded := setBit p.excluded h }
  else (s.inc (R.FIRE_CNT_STRAY.COUNT h)).raise .echoStray h

/-- The first edge of the window of shot `x`, with its stamp (R80, R82, R134, R238). -/
def State.matchEcho (s : State) (h : Nat) (x : Shot) (stamp : Nat) : State :=
  let e := s.corrected (1536 + h) stamp
  let s := s.updShot h x.k fun y => { y with ek := some e }
  let s := s.updEye h fun a => { a with pulses := a.pulses.map fun p => { p with matched := p.matched || p.k == x.k } }
  let s := s.wr (R.FIRE_STATUS.MISS_RUN h) 0
  let s := s.when x.launched fun s =>
    s.updFire h fun f => { f with latSum := f.latSum + (stamp - x.fk), latN := f.latN + 1 }
  (s.captureShot h x.phase x.k e).updPair fun p => { p with lastEcho := s.now }

/-- The shot in whose echo window an instant lies (R80). -/
def State.echoShot (s : State) (h a : Nat) : Option Shot :=
  (s.head h).fire.shots.find? fun x =>
    decide (x.fk + s.rd (R.FIRE_CFG.ECHO_MIN h) * 256 ≤ a) && decide (a ≤ x.fk + s.rd (R.FIRE_CFG.ECHO_MAX h) * 256)

/-- ECHO_EDGE (R80 to R83, R122, R123, R339): an edge while the random-hit generator runs is detected, not stamped. -/
def execEchoEdge (t : Time) (h : HeadIx) (tapsA tapsB : BitVec 288) (s : State) :
    Host.Outcome State Fault Refusal :=
  s.run t fun s =>
    let stamp := s.stampOf (1536 + h.val) tapsA tapsB
    let s := s.when (!s.echoGeneratorOn h stamp && !s.phaseFixed h (s.corrected (1536 + h.val) stamp)) fun s =>
      s.countHit (1536 + h.val) tapsA tapsB
    match s.echoShot h stamp with
    | none => s.strayEcho h
    | some x =>
      if s.calHeld h then s.strayEcho h
      else if x.ek.isSome || x.missed then s
      else s.matchEcho h x stamp

/-- The misses of a head reach ECHO_MISS_MAX (R82). -/
def State.echoMissed (s : State) (h : Nat) : State :=
  let s := s.inc (R.FIRE_CNT_MISS.COUNT h)
  let s := s.incSat (R.FIRE_STATUS.MISS_RUN h)
  if s.rd (R.FIRE_CFG.ECHO_MISS_MAX h) ≤ s.rd (R.FIRE_STATUS.MISS_RUN h) ∧ ¬ s.on (R.FIRE_STATUS.ECHO_LOST h) then
    ((s.wr (R.FIRE_STATUS.ECHO_LOST h) 1).raise .echoLost h).refreshEmitter h
  else s

/-- ECHO_WINDOW_EXPIRY (R81, R82, R339): no edge fell in the window. -/
def execEchoWindowExpiry (t : Time) (h : HeadIx) (k : BitVec 12) (s : State) : Host.Outcome State Fault Refusal :=
  s.run t fun s =>
    match (s.head h).fire.shots.find? fun x => x.k == k.toNat && x.ek.isNone && !x.missed with
    | none => s
    | some x => if s.now < (x.fk + s.rd (R.FIRE_CFG.ECHO_MAX h) * 256) / 256 then s else
      let s := s.updShot h x.k fun y => { y with missed := true }
      if x.launched then s.echoMissed h else s.inc R.PAIR_CNT_NOECHO.COUNT

/-- CLR_ECHO (R82): at once outside SCANNING and INHIBITED, else at the first dwell open after it. -/
def execClrEcho (t : Time) (h : HeadIx) (s : State) : Host.Outcome State Fault Refusal :=
  s.run t fun s =>
    if !s.on (R.FIRE_STATUS.ECHO_LOST h) then s
    else if s.scanning h then s.updFire h fun f => { f with clrPend := true }
    else s.echoClear h

end Sys2Proof.Machine
end

