-- ==== Sys2Proof/Machine/HostBus.lean ====
section
/-! DEFINITION. The register bus (22_register_map.md, R491 to R496; R5, R7 to R9, R519): what a read or a write of a word
does, for the MSPI and for a session. A write that is the whole of another command acts by that command's meaning. -/

namespace Sys2Proof.Machine

/-- The state after a command whose effect is part of another command's. -/
def State.does (s : State) (x : State → Host.Outcome State Fault Refusal) : State :=
  match x s with
  | .next s' => s'
  | _ => s

/-! ### Fields (R7, R9, R494, R519) -/

/-- The numerically lower of two access-error causes; 0 is none (R496). -/
def minCause (a b : Nat) : Nat := if a = 0 then b else if b = 0 then a else min a b

/-- Is a value no reserved encoding of a field? [DEDUCED, log 17] -/
def FieldRow.allows (f : FieldRow) (v : Nat) : Bool := f.legal.isEmpty || f.legal.any fun r => r.1 ≤ v && v ≤ r.2

/-- A host write of `v` to a field that holds `old`: the field's value after it, and the cause of a refusal (Table 0.5,
R9, R494). The W1C bits of `keep` have been set by the device at this DT and stay set (R7). -/
def FieldRow.write (f : FieldRow) (config : Bool) (old v keep : Nat) : Nat × Nat :=
  match f.acc with
  | .ro | .wo => (old, 0)
  | .rw => if f.allows v then (v, 0) else (old, 3)
  | .w1c => (old &&& (old ^^^ (v ^^^ (v &&& keep))), 0)
  | .seal => (old, if v = old then 0 else 1)
  | .maint => if v = old then (old, 0) else if !config then (old, 2) else if f.allows v then (v, 0) else (old, 3)

/-- The fields of a word under a write: those for which `p` holds act by their class; the word after it and the lowest
cause (R519). -/
def writeFields (fs : List FieldRow) (p : FieldRow → Bool) (config : Bool) (old v keep : Nat) : Nat × Nat :=
  fs.foldl (fun (w, c) f =>
    if p f then
      let (x, c') := f.write config (bits old f.hi f.lo) (bits v f.hi f.lo) (bits keep f.hi f.lo)
      (putBits w f.hi f.lo x, minCause c c')
    else (w, c)) (old, 0)

/-- The bits of a word that the device has set at this DT (R7). -/
def State.keepBits (s : State) (a : Nat) : Nat := maskOf 32 (s.latched a)

/-- A write of a word by the classes of its fields alone. -/
def State.classWrite (s : State) (i : Iface) (a v : Nat) : State :=
  match regRow a with
  | none => s
  | some r =>
    let (w, c) := writeFields r.fields (fun _ => true) (s.mayConfig i) (s.word a) v (s.keepBits a)
    let s := s.setWord a w
    s.when (c != 0) fun s => s.accessError i true a c

/-! ### Registers whose write is more than its fields -/

/-- The head of an address in the HEAD block, and the offset in its block. -/
def addrHead (a : Nat) : HeadIx := Fin.ofNat 16 ((a - 0x100000) / 0x10000)
def addrOff (a : Nat) : Nat := a % 0x10000

/-- Bits of a word whose fields the register's own rule writes. -/
def ownBits (a : Nat) : Nat :=
  if 0x100000 ≤ a ∧ a < 0x200000 then
    let o := addrOff a
    if 0x420 ≤ o ∧ o < 0x430 then 0xFFFFFFFF            -- SCAN_LEN, SCAN_FLY
    else if o = 0x2000 then 0x300                        -- SRV_CTL.EXC_LEVEL
    else if 0x2100 ≤ o ∧ o < 0x2180 then 0xFFFFFFFF      -- SRV_COEF
    else 0
  else if a = R.CLK_CFG.addr then 0x300
  else if a = R.HK_CTL.addr then 0xD
  else if R.HK_SINGLE_CFG0.addr ≤ a ∧ a ≤ R.HK_SINGLE_CFG3.addr then 0xFFFFFFFF
  else if a = R.MEM_CTL.addr then 2
  else if 0x91000 ≤ a ∧ a < 0x91400 ∧ a % 0x40 = 0 then 0x80000000     -- NET_STREAM.EN
  else if 0xA0800 ≤ a ∧ a < 0xA0C00 ∧ 0x80 ≤ a % 0x100 then 0xFFFFFFFF  -- SEQ_ST0, SEQ_ST1
  else if 0xC0000 ≤ a ∧ a < 0xC9000 then
    if a % 0x400 = 8 then 0xF                            -- LANE_QCTL
    else if 0x40 ≤ a % 0x400 ∧ a % 0x20 = 0 then 3       -- LANE_CFG
    else 0
  else 0

/-- A write to the CTL and SCAN registers of a head, or to another that acts at once (01, 02, 03, 10, 11). -/
def State.headWrite (s : State) (i : Iface) (a v : Nat) : State :=
  let h := addrHead a
  let o := addrOff a
  if o = 0 then
    let s := s.refreshHost h
    let s := s.when (bit v 3) fun s => s.does (execHeadRestart s.dt h)
    if bit v 1 then s.does (execHeadPark s.dt h)
    else s.when (bit v 0) fun s => s.does (execHeadStart s.dt i h)
  else if o = 0x404 then
    if bit v 2 then s.does (execCommitCancel s.dt h)
    else s.when (bit v 1) fun s => s.does (execCommitRequest s.dt h (Fin.ofNat 2 v))
  else if 0x420 ≤ o ∧ o < 0x430 then
    let sl := (o - 0x420) / 8
    if !s.standbyOk h sl then s.refuse i a
    else
      let s := if o % 8 = 0 then s.storeLen h sl v else s.storeFly h sl v
      s.forward (.word (BitVec.ofNat 32 a) (BitVec.ofNat 32 v))
  else if 0x444 ≤ o ∧ o < 0x480 then
    if !s.standbyOk h (s.rd (R.SCAN_LOAD_IDX.SLOT h)) then s.refuse i a else s.setWord a v
  else if o = 0x480 then s.does (execScanLoadStore s.dt i h (BitVec.ofNat 32 v))
  else if o = 0x80C then s.when (bit v 0) fun s => s.does (execClrEcho s.dt h)
  else if o = 0x2000 then s.excitationLevel i h (bits v 9 8)
  else if 0x2100 ≤ o ∧ o < 0x2180 then
    let j := o % 0x20 / 4
    let v := if j = 7 then v % 2 else v
    if v = s.word a then s
    else if !s.mayConfig i then s.accessError i true a 2
    else s.coefWrite h (o % 0x80 / 0x40) (o % 0x40 / 0x20) j v
  else if o = 0x2854 then s.when (bit v 0) fun s => s.does (execEyeLatchClear s.dt h)
  else s

/-- Codes of the eight gains as the converter finds them at a calibration: free values. -/
def State.gainCodes (s : State) : List (BitVec 24) :=
  (List.range 8).map fun g => BitVec.ofNat 24 (Config.freeBits (s.free + g)).toNat

/-- A write of HK_CTL (R459 to R461). -/
def hkWrite (i : Iface) (v : Nat) : List (State → State) := [
  fun s => if s.on R.HK_CTL.MODE = bit v 0 then s else s.does (execHkModeWrite s.dt i (bit v 0)),
  fun s => s.when (bit v 2) fun s => s.does (execHkSingleStart s.dt i),
  fun s => s.when (bit v 3) fun s =>
    let s := s.does (execHkCalibrate s.dt (some i) s.gainCodes)
    { s with free := s.free + 8 },
  fun s => s.when (bit v 4) fun s => s.does (execHkUrgentRequest s.dt i (Fin.ofNat 16 (bits v 11 8)))]

/-- A write of the sleep bits of a lane (R394): only for a direction of a port that is OFF, and a direction that the port
does not use cannot be woken. -/
def State.sleepWrite (s : State) (i : Iface) (a v : Nat) : State :=
  let q := (a - 0xC0000) / 0x400
  let l := (a % 0x400 - 0x40) / 0x20
  let (off, tx, rx) := match quadPort q with
    | some p => (s.rd (R.LANE_QSTATUS.PORT_STATE (portQuad p)) == 0, bit (txLanes p) (portLane p q l), bit (rxLanes p) (portLane p q l))
    | none => (!s.dev.sealed, s.netLane q l, s.netLane q l)
  let one (s : State) (f : FRef) (used want : Bool) : State :=
    if s.on f = want then s else if off && (used || want) then s.wrB f want else s.refuse i a
  one (one s (R.LANE_CFG.TX_SLEEP q l) tx (bit v 0)) (R.LANE_CFG.RX_SLEEP q l) rx (bit v 1)

/-- A write of SEC_ATTEST_CTL.REQ (R476). -/
def State.attestReq (s : State) (i : Iface) : State :=
  if s.on R.SEC_ATTEST_STATUS.BUSY then s.refuse i R.SEC_ATTEST_CTL.addr
  else (s.wr R.SEC_ATTEST_STATUS.BUSY 1).wr R.SEC_ATTEST_STATUS.DONE 0

/-- A write of a sequencer's register (R246, R250). -/
def State.seqWrite (s : State) (i : Iface) (a v old : Nat) : State :=
  let q := (a - 0xA0800) / 0x100
  let o := a % 0x100
  if o = 0 then s.when (bit v 7 != bit old 7) fun s => s.seqEnable q
  else if o = 8 then
    let s := s.when (bit v 0) fun s => s.does (execSequencerRestart s.dt (Fin.ofNat 4 q))
    s.when (bit v 1) fun s => s.does (execSequencerForce s.dt (Fin.ofNat 4 q))
  else if 0x80 ≤ o then
    if s.on (R.SEQ_CFG.EN q) then s.refuse i a else s.classWrite i a v
  else s

/-- What a write of `v` sets off beside the fields of its word, one thing after the other; `old` is the word before. -/
def triggers (i : Iface) (a v old : Nat) : List (State → State) :=
  if 0x100000 ≤ a ∧ a < 0x200000 then [fun s => s.headWrite i a v]
  else if 0xC0000 ≤ a ∧ a < 0xC9000 then
    if a % 0x400 = 8 then
      [fun s => s.does (execLaneReaddWrite s.dt i (Fin.ofNat 36 ((a - 0xC0000) / 0x400)) (BitVec.ofNat 4 v))]
    else if 0x40 ≤ a % 0x400 ∧ a % 0x20 = 0 then [fun s => s.sleepWrite i a v]
    else []
  else if 0xA0800 ≤ a ∧ a < 0xA0C00 then [fun s => s.seqWrite i a v old]
  else if 0x91000 ≤ a ∧ a < 0x91400 ∧ a % 0x40 = 0 then
    [fun s =>
      let i := (a - 0x91000) / 0x40
      if bit v 31 then s.wr (R.NET_STREAM0.EN i) 1 else s.streamOff i]
  else if a = R.DEV_EVT_RD.addr then
    [fun s => s.when (v == s.rd R.EVT_WR.WR) fun s => s.updDev fun d => { d with eventLatch := false }]
  else if a = R.SEC_ATTEST_CTL.addr then [fun s => s.when (bit v 0) fun s => s.attestReq i]
  else if a = R.CLK_CFG.addr then
    [fun s => s.does (execTimingPllBypass s.dt i (bit v 8)), fun s => s.does (execLogicPllBypass s.dt i (bit v 9))]
  else if a = R.HK_CTL.addr then hkWrite i v
  else if R.HK_SINGLE_CFG0.addr ≤ a ∧ a ≤ R.HK_SINGLE_CFG3.addr then
    [fun s => if s.hk.run ≠ .idle ∧ s.mayConfig i then s.refuse i a else s.classWrite i a v]
  else if a = R.PAIR_CTL.addr then
    [fun s => s.when (bit v 0) fun s => s.does (execPairHandover s.dt i),
     fun s => s.when (bit v 1) fun s => s.does (execPairRejoin s.dt)]
  else if a = R.CAP_SLOT_GEN.addr then [fun s => s.setWord a v]
  else if a = R.CAP_SLOT_CTL.addr then
    [fun s => if bit v 3 = bit v 4 then s
      else if bit v 3 then s.does (execSlotArm s.dt (Fin.ofNat 8 v)) else s.does (execSlotRelease s.dt (Fin.ofNat 8 v))]
  else if a = R.MEM_CTL.addr then
    [fun s => s.when (bit v 1) fun s => s.does (execRateChangeRequest s.dt (some i) (bit v 0))]
  else if a = R.CAL_CTL.addr then
    [fun s => s.when (bit v 31) fun s => s.does (execCalRestore s.dt i (BitVec.ofNat 11 v))]
  else []

/-- Do one thing and keep its access error for the word's own report: the state with the count as before, and the lowest
cause so far (R496). -/
def watch (x : State × Nat) (f : State → State) : State × Nat :=
  let n := x.1.rd R.DEV_ACC_CNT.COUNT
  let s := f x.1
  if s.rd R.DEV_ACC_CNT.COUNT = n then (s, x.2)
  else (s.wr R.DEV_ACC_CNT.COUNT n, minCause x.2 (s.rd R.DEV_ACC_INFO.CAUSE))

/-- Is an address in a range that its chapter defines and that has no register row: the bearing window and DEV_DT?
[DEDUCED, log 16] -/
def isWindow (a : Nat) : Bool := (0x400000 ≤ a && a < 0x410000) || a == 0x30 || a == 0x34

/-- A host write of a word (R491, R492, R494 to R496, R519). [DEDUCED, log 16, 17, 18] -/
def State.hostWrite (s : State) (i : Iface) (a v : Nat) : State :=
  if a % 4 ≠ 0 then s.accessError i true a 6
  else match regRow a with
  | none => if isWindow a then s else s.accessError i true a 4
  | some r =>
    let old := s.word a
    let own := ownBits a
    let (w, c) := writeFields r.fields (fun f => !bit own f.lo) (s.mayConfig i) old v (s.keepBits a)
    let (s, c) := (triggers i a v old).foldl watch (s.setWord a w, c)
    s.when (c != 0) fun s => s.accessError i true a c

/-! ### Reads (R5, R457, R491 to R493, R495) -/

/-- The word of a 64-bit value that a _LO register's read freezes: the register's _HI address (R5). -/
def isLo (a : Nat) : Bool :=
  [R.DEV_STATE_DT_LO.addr, 0x30, R.SEC_SERIAL_LO.addr, R.SEC_SESSION_EXP_LO.addr, R.HK_CLAMP_LO.addr,
    R.PAIR_PARTNER_SN_LO.addr, R.PAIR_TAKE_DT_LO.addr, R.MEM_UE_ADDR_LO.addr, R.ODO_LO.addr].contains a ||
  (0xA0800 ≤ a && a < 0xA0C00 && a % 0x100 == 0x18) ||
  (0x100000 ≤ a && a < 0x200000 && [0x820, 0xC14, 0xC1C, 0xC24, 0x286C].contains (a % 0x10000)) ||
  (0x600000 ≤ a && a < 0x618400 && a % 64 == 0x34) ||
  (0x620104 ≤ a && a < 0x620150 && a % 16 == 4)

/-- Word 0 of a result of the housekeeping converter, whose read freezes words 1 to 3 (R457). -/
def isHkRes (a : Nat) : Bool := (0x50200 ≤ a && a < 0x50300 && a % 16 == 0) || a == R.HK_SINGLE_RES0.addr

/-- AGE of entry `e` in ms, saturating; 0xFFFF before the first completion (R457). -/
def State.hkAgeMs (s : State) (e : Nat) : Nat :=
  match s.hkAge e with
  | none => 0xFFFF
  | some a => satU 16 (a / 1000000)

/-- The emitters of the driver that EMT_SEL selects (R102). -/
def State.emitterMask (s : State) (h o : Nat) : Nat :=
  let d := s.driver h (s.rd (R.EMT_SEL.DRIVER h))
  let m := if o < 0xC1C then d.mask else if o < 0xC24 then d.opens else d.shorts
  if o % 8 = 4 then m % 2 ^ 32 else m / 2 ^ 32 % 2 ^ 32

/-- What a read of a register shows where it is computed and not held. [DESIGN CHOICE, log 15] -/
def State.shown (s : State) (a : Nat) : Option Nat :=
  if a = 0x30 then some (s.now % 2 ^ 32)
  else if a = 0x34 then some (s.now / 2 ^ 32)
  else if a = R.CLK_HOLD.addr then some s.holdMs
  else if a = R.HK_STATUS.addr then some (putBits (s.word a) 2 0 s.hkPhase)
  else if (0x50200 ≤ a ∧ a < 0x50300 ∧ a % 16 = 8) ∨ a = R.HK_SINGLE_RES2.addr then
    some (putBits (s.word a) 15 0 (s.hkAgeMs ((a - 0x50200) / 16 % 17)))
  else if a = R.PAIR_STATUS.addr then some (putBits (s.word a) 7 6 s.tokenIn)
  else if 0x12000 ≤ a ∧ a < 0x127C0 then
    some (if s.rd R.SEC_STATUS.LC = 0 then 0
      else (Config.identityKey s.boot.fuses.seedEd s.boot.fuses.seedMl ((a - 0x12000) / 4)).toNat)
  else if a = R.ODO_LO.addr then some (wrapS 64 s.odNow % 2 ^ 32)
  else if a = R.ODO_HI.addr then some (wrapS 64 s.odNow / 2 ^ 32)
  else if 0x100000 ≤ a ∧ a < 0x200000 then
    let h := addrHead a
    let o := addrOff a
    if o = 0xC0C then some (putBits (s.word a) 31 16 (s.proofAge h))
    else if 0xC14 ≤ o ∧ o < 0xC2C then some (s.emitterMask h o)
    else if o = 0x1C0C then
      let k := s.rd (R.BEAR_CFG.K h) != 0
      some (flag k + 2 * flag (k && s.speedInvalid))
    else if o = 0x2878 then some (s.eyeSum h (s.rd (R.EYE_SECT_SEL.WIN h)) (s.rd (R.EYE_SECT_SEL.SECTOR h)))
    else none
  else none

/-- The bits of a word that belong to WO fields. -/
def RegRow.woBits (r : RegRow) : Nat :=
  r.fields.foldl (fun m f => if f.acc == .wo then m + (2 ^ (f.hi - f.lo + 1) - 1) * 2 ^ f.lo else m) 0

/-- The value of a word as a read shows it: unmapped addresses and WO fields read 0, and so do the bearing window and the
CAL records before the wipe is done (R7, R211, R491, R495). -/
def State.readWord (s : State) (a : Nat) : Nat :=
  let window := 0x400000 ≤ a && a < 0x410000
  if !s.on R.MEM_STATUS.WIPE_DONE && (window || (0x600000 ≤ a && a < 0x618400)) then 0
  else if window then s.hbmNat (s.rd R.BWIN_BASE.BASE * 16 * 4096 + (a - 0x400000)) 4
  else match s.shown a with
  | some v => v
  | none =>
    match regRow a with
    | none => 0
    | some r => s.word a &&& (r.woBits ^^^ 0xFFFFFFFF)

/-- The shadow of an interface at an address: the value plus 1, or 0 for none (R493). -/
def State.shadow (s : State) (i : Iface) (a : Nat) : Nat :=
  SMap.get (fun _ => 0) (match i with | .mspi => s.mspi.shadowM | .session => s.mspi.shadowS) a

def State.setShadow (s : State) (i : Iface) (a v : Nat) : State :=
  match i with
  | .mspi => { s with mspi := { s.mspi with shadowM := SMap.set (fun _ => 0) s.mspi.shadowM a v } }
  | .session => { s with mspi := { s.mspi with shadowS := SMap.set (fun _ => 0) s.mspi.shadowS a v } }

/-- The addresses that a read of `a` freezes. -/
def frozenBy (a : Nat) : List Nat := if isLo a then [a + 4] else if isHkRes a then [a + 4, a + 8, a + 12] else []

/-- A host read of a word (R5, R457, R491 to R493): the state after it, and the value. -/
def State.hostRead (s : State) (i : Iface) (a : Nat) : State × Nat :=
  if a % 4 ≠ 0 then (s.accessError i false a 6, 0)
  else if s.shadow i a ≠ 0 then (s.setShadow i a 0, s.shadow i a - 1)
  else ((frozenBy a).foldl (fun s' b => s'.setShadow i b (s.readWord b + 1)) s, s.readWord a)

/-- Read words one after the other, ascending (R492): the state, the values and the causes, 0 for none. -/
def State.hostReads (s : State) (i : Iface) (a n : Nat) : State × List (Nat × Nat) :=
  (List.range n).foldl (fun (s, vs) k =>
    let c := s.rd R.DEV_ACC_CNT.COUNT
    let (s', v) := s.hostRead i (a + 4 * k)
    (s', vs ++ [(v, if s'.rd R.DEV_ACC_CNT.COUNT = c then 0 else s'.rd R.DEV_ACC_INFO.CAUSE)])) (s, [])

/-- Write words one after the other, ascending (R492, R499, R500): the state and the causes, 0 for none. -/
def State.hostWrites (s : State) (i : Iface) (a : Nat) (ws : List Word) : State × List Nat :=
  ((List.range ws.length).zip ws).foldl (fun (s, cs) (k, w) =>
    let c := s.rd R.DEV_ACC_CNT.COUNT
    let s' := s.hostWrite i (a + 4 * k) w.toNat
    (s', cs ++ [if s'.rd R.DEV_ACC_CNT.COUNT = c then 0 else s'.rd R.DEV_ACC_INFO.CAUSE])) (s, [])

/-- HOST_REGISTER_WRITE (R519). -/
def execHostRegisterWrite (t : Time) (i : Iface) (addr v : Word) (s : State) : Host.Outcome State Fault Refusal :=
  s.run t fun s => s.hostWrite i addr.toNat v.toNat

/-! ### Management SPI (R497 to R499) -/

/-- Is a transaction ignored: PORST_N asserted, or less than 2 ms after its release (R497)? [DEDUCED, log 19] -/
def State.mspiDeaf (s : State) : Bool :=
  s.dev.porst || match s.dev.releasedAt with
    | some a => decide (s.now < a + 2000000)
    | none => false

/-- The result bits of a transaction other than STATUS. [DEDUCED, log 19] -/
def State.mspiResult (s : State) (abort accErr crcErr done : Bool) : State :=
  (((s.wrB R.MSPI_STATUS.ABORT abort).wrB R.MSPI_STATUS.ACC_ERR accErr).wrB R.MSPI_STATUS.CRC_ERR crcErr).wrB R.MSPI_STATUS.DONE done

def State.mspiOut (s : State) (bs : List Byte) : State := { s with mspi := { s.mspi with out := bs } }

/-- MSPI_READ (R492, R497, R498). CRC_ERR and DONE, which tell of the last write, stay. [DEDUCED, log 19] -/
def execMspiRead (t : Time) (addr : Word) (lenM1 waits : BitVec 8) (s : State) : Host.Outcome State Fault Refusal :=
  s.run t fun s =>
    if s.mspiDeaf then s
    else
      let crc := s.on R.MSPI_STATUS.CRC_ERR
      let done := s.on R.MSPI_STATUS.DONE
      if 64 < waits.toNat then (s.mspiOut (List.replicate 64 0 ++ [0xE1])).mspiResult true false crc done
      else
        let (s, vs) := s.hostReads .mspi addr.toNat (lenM1.toNat + 1)
        let data := vs.flatMap fun x => bytesLE 4 x.1
        (s.mspiOut (List.replicate waits.toNat 0 ++ [0xA5] ++ data ++ bytesLE 2 (crc16 data))).mspiResult
          false (vs.any fun x => x.2 != 0) crc done

/-- MSPI_WRITE (R492, R497, R499): nothing is written unless the transaction is complete and its CRC is right. -/
def execMspiWrite (t : Time) (addr : Word) (lenM1 : BitVec 8) (words : List Word) (crc : BitVec 16) (s : State) :
    Host.Outcome State Fault Refusal :=
  s.run t fun s =>
    let bs := 0x02 :: bytesLE 4 addr.toNat ++ bytesLE 1 lenM1.toNat ++ words.flatMap fun w => bytesLE 4 w.toNat
    if s.mspiDeaf then s
    else if words.length ≠ lenM1.toNat + 1 then s.mspiResult true false (s.on R.MSPI_STATUS.CRC_ERR) (s.on R.MSPI_STATUS.DONE)
    else if crc.toNat ≠ crc16 bs then s.mspiResult false false true false
    else
      let (s, cs) := s.hostWrites .mspi addr.toNat words
      (s.inc R.MSPI_STATUS.WRITES).mspiResult false (cs.any (· != 0)) false true

/-- MSPI_STATUS (R497): the four bytes of MSPI_STATUS, no bit of which changes. -/
def execMspiStatus (t : Time) (s : State) : Host.Outcome State Fault Refusal :=
  s.run t fun s => if s.mspiDeaf then s else s.mspiOut (bytesLE 4 (s.word R.MSPI_STATUS.addr))

/-- MSPI_ABORT (R497): nothing is written. -/
def execMspiAbort (t : Time) (s : State) : Host.Outcome State Fault Refusal :=
  s.run t fun s =>
    if s.mspiDeaf then s else s.mspiResult true false (s.on R.MSPI_STATUS.CRC_ERR) (s.on R.MSPI_STATUS.DONE)

/-- EVENT_LATCH_CLEAR (R501): a write of DEV_EVT_RD; the latch clears when the value equals EVT_WR. -/
def execEventLatchClear (t : Time) (v : Word) (s : State) : Host.Outcome State Fault Refusal :=
  s.run t fun s =>
    let s := s.wr R.DEV_EVT_RD.RD v.toNat
    s.when (v.toNat == s.rd R.EVT_WR.WR) fun s => s.updDev fun d => { d with eventLatch := false }

end Sys2Proof.Machine
end

