-- ==== Sys2Proof/Machine/Loader.lean ====
section
/-! DEFINITION. The loader (20_boot_security.md, R463 to R474; checks of the other chapters): the checks of a slot, what an
image puts in place, and the seal. -/

namespace Sys2Proof.Machine

/-! ### Fuses (R467, R468) -/

/-- The life-cycle state: stages of which a copy is programmed. -/
def lcOf (f : Fuses) : Nat := (f.stages.filter (· != 0)).length

/-- Roots programmed, in the order of Table 20.4. -/
def rootsOf (f : Fuses) : Nat := maskOf 4 fun i => f.roots.getD i 0 != 0

/-- Is a class (1 owner) allowed to sign images and certificates in a life-cycle state (R468)? -/
def classAllowed (lc cls : Nat) : Bool :=
  match lc with
  | 0 | 1 | 3 => cls == 0
  | 2 => cls == 1
  | _ => false

/-- Is a root accepted for keys with a SHA-384 (R468)? -/
def accepted (f : Fuses) (cls index : Bool) (hash : Nat) : Bool :=
  let i := 2 * flag cls + flag index
  let r := f.roots.getD i 0
  r != 0 && !bit f.revoked i && classAllowed (lcOf f) (flag cls) && r == hash

/-- Show the fuses in the SEC registers (R467). -/
def State.showFuses (s : State) : State :=
  let f := s.boot.fuses
  let s := s.wr64 R.SEC_SERIAL_LO.SERIAL R.SEC_SERIAL_HI.SERIAL f.serial
  let s := (s.wr R.SEC_ROOTS.PROGRAMMED (rootsOf f)).wr R.SEC_ROOTS.REVOKED f.revoked
  (s.wr R.SEC_STATUS.LC (lcOf f)).wr R.SEC_STATUS.ROLLBACK f.rollback

def State.updBoot (s : State) (f : Boot → Boot) : State := { s with boot := f s.boot }

/-- Program fuses: they change, and the registers show them. -/
def State.setFuses (s : State) (f : Fuses → Fuses) : State := (s.updBoot fun b => { b with fuses := f b.fuses }).showFuses

/-! ### Checks 1 to 4 (R464, R465, R470) -/

/-- Do the section entries lie in order, without overlap, from `lo` to `hi` (R465)? -/
def sectsFrom (hi : Nat) : Nat → List Sect → Bool
  | _, [] => true
  | lo, x :: xs => decide (lo ≤ x.offset.toNat) && decide (x.offset.toNat + x.length.toNat ≤ hi) && x.offset.toNat % 64 == 0 &&
      x.reserved && sectsFrom hi (x.offset.toNat + x.length.toNat) xs

/-- Check 1 of R470: MAGIC, FORMAT, the lengths, the section table. [DEDUCED, log 115] -/
def layoutOk (m : Manifest) : Bool :=
  let n := m.sects.length
  let types := m.sects.map fun x => x.type.toNat
  m.magic.toNat == 0x54535249 && m.format == 1 && m.reserved && decide (2 ≤ n) && decide (n ≤ 16) &&
    m.manLen.toNat == 0x800 + 96 * n && m.sigOff.toNat % 64 == 0 && decide (0x40 + m.manLen.toNat ≤ m.sigOff.toNat) &&
    decide (m.sigOff.toNat + 64 + 3309 ≤ m.imageLen.toNat) && decide (m.imageLen.toNat ≤ 0x4000000) &&
    sectsFrom m.sigOff.toNat (0x40 + m.manLen.toNat) m.sects && types.contains 1 && types.contains 2 &&
    types.all fun t => decide (1 ≤ t) && decide (t ≤ 7) && types.count t == 1

/-- The cause of checks 1 to 4 of R470; 0 where a slot is a candidate. [DEDUCED, log 115] -/
def State.manifestCause (s : State) (m : Manifest) : Nat :=
  let f := s.boot.fuses
  if !layoutOk m then 1
  else if m.part != 0x1536 || m.rev != 0xA1 || (m.bindSerial != 0 && m.bindSerial.toNat != f.serial) ||
      !m.lcMask.getLsbD (lcOf f) then 2
  else if !accepted f m.cls m.index m.keyHash.toNat then 3
  else if m.secVer.toNat < f.rollback then 4
  else 0

/-- A slot has failed (R470). -/
def State.slotFail (s : State) (slot cause : Nat) : State :=
  let s := s.wr (if slot = 0 then R.SEC_BOOT.CAUSE_A else R.SEC_BOOT.CAUSE_B) cause
  s.raiseArg .bootSlotFail noHead (256 * slot + cause) noHead

/-- No slot succeeds (R472). -/
def State.noImage (s : State) : State := s.raise .bootNoImage noHead

/-- The order in which candidates are tried (R469): is `a` before `b`? -/
def candBefore (a b : Nat × Manifest) : Bool :=
  let x := a.2
  let y := b.2
  decide (y.secVer < x.secVer) ||
    (x.secVer == y.secVer && (decide (y.imageSeq < x.imageSeq) || (x.imageSeq == y.imageSeq && decide (a.1 ≤ b.1))))

/-- May the boot go on: in BOOT, and in SAFE, to which a SAFE event leads during the boot (Table 1.4). DEDUCED: no rule ends the
boot there. [DEDUCED, log 118] -/
def State.booting (s : State) : Bool := s.devState == devBoot || s.devState == devSafe

/-- FUSE_LOAD_COMPLETE (R443, R467, R469, R470): blank fuses take the factory's contents; stages partly programmed are
completed inside the window; both manifests are checked. [DEDUCED, log 112] -/
def execFuseLoadComplete (t : Time) (factory : Fuses) (a b : Option Manifest) (s : State) :
    Host.Outcome State Fault Refusal :=
  s.run t fun s =>
    if ¬ s.booting ∨ s.boot.loaded then s
    else
      let s := s.setFuses fun f => if f = {} then factory else f
      let partly := s.boot.fuses.stages.any fun x => x != 0 && x != 7
      let s := if !partly then s else if s.fuseWindow then
          s.setFuses fun f => { f with stages := f.stages.map fun x => if x = 0 then 0 else 7 }
        else s.writeRefused
      let one (s : State) (slot : Nat) (m : Option Manifest) : State × List (Nat × Manifest) :=
        match m with
        | none => (s.slotFail slot 1, [])
        | some m => let c := s.manifestCause m; if c = 0 then (s, [(slot, m)]) else (s.slotFail slot c, [])
      let (s, xa) := one s 0 a
      let (s, xb) := one s 1 b
      let cands := match xa, xb with
        | [x], [y] => if candBefore x y then [x, y] else [y, x]
        | x, y => x ++ y
      let s := s.updBoot fun b => { b with loaded := true, cands := cands, tried := 0 }
      s.when cands.isEmpty State.noImage

/-- HBM_TRAINING_COMPLETE (R384, R391, R417): the settings are stored, both stacks run, DT begins anew, and the wipe starts.
[DEDUCED, log 51, 95] -/
def execHbmTrainingComplete (t : Time) (fast slow : List Word) (s : State) : Host.Outcome State Fault Refusal :=
  s.run t fun s =>
    if s.boot.trained ∨ s.devState = devReset then s
    else
      let s := { s with dt := 0, fine := 0 }
      let s := (s.updDev fun d => { d with releasedAt := none }).updBoot fun b => { b with trained := true }
      let s := s.each 64 fun i s => s.updMem fun m => { m with
        pcs := SMap.upd (fun _ => {}) m.pcs i fun p => { p with fast := fast.getD i 0, slow := slow.getD i 0 } }
      (s.wr R.CLK_STATUS.HBM_LOCK 3).wipeStart

/-! ### What an image puts in place (R44, R105, R150, R170, R200, R473) -/

/-- May CONFIG hold a value for a field of this class? -/
def Access.config : Access → Bool
  | .seal | .maint | .rw => true
  | _ => false

/-- The bits of a word that CONFIG may set. -/
def RegRow.configBits (r : RegRow) : Nat :=
  r.fields.foldl (fun m f => if f.acc.config then m + (2 ^ (f.hi - f.lo + 1) - 1) * 2 ^ f.lo else m) 0

/-- Is a word of CONFIG admitted: no RO or WO field, reserved bit or reserved encoding (R473)? [DEDUCED, log 114] -/
def configWordOk (a v : Nat) : Bool :=
  match regRow a with
  | none => false
  | some r => a % 4 == 0 && (v &&& (r.configBits ^^^ 0xFFFFFFFF)) == 0 &&
      r.fields.all fun f => !f.acc.config || f.allows (bits v f.hi f.lo)

/-- Write a word of CONFIG. [DEDUCED, log 114] -/
def State.configWord (s : State) (a v : Nat) : State :=
  match regRow a with
  | none => s
  | some r => s.setWord a ((s.word a &&& (r.configBits ^^^ 0xFFFFFFFF)) ||| (v &&& r.configBits))

/-- Does CONFIG give a register? -/
def gives (img : Image) (a : Nat) : Bool := img.config.any fun x => x.1.toNat == a

/-- Rounded to nearest. -/
def roundDiv (a b : Nat) : Nat := (2 * a + b) / (2 * b)

/-- DET_RANGE_K for a refractive index in 10^-6 (R170). [DEDUCED, log 113] -/
def rangeK (n : Nat) : Nat := roundDiv (2 ^ 32 * 299792458 * 4000 * 1000000) (2 * n * 8192 * 1000000000)

/-- BEAR_RANGE_KD (R200). [DEDUCED, log 113] -/
def rangeKD (n : Nat) : Nat := roundDiv (2 ^ 32 * 512000 * n) (299792458 * 1000000)

/-- DEC_LOG2 of group `g` for a shots-in-flight value (R150). -/
def State.decSeal (s : State) (g sif : Nat) : Nat :=
  let sum : Rat := (List.range 16).foldl (fun a j =>
    let n := 16 * g + j
    if 16 ≤ s.headOf n then a else a + (1 : Rat) / (s.rd (R.INCFG.HOLD_OFF n) : Nat)) 0
  ((List.range 6).find? fun e => decide ((sif : Rat) * sum ≤ 32 / 10 * (2 ^ e : Nat))).getD 5

/-- The derived values (R473). -/
def State.derive (s : State) (img : Image) : State :=
  let s := s.eachHead fun h s =>
    (s.wr (R.DET_RANGE_K.K h) (rangeK img.index)).wr (R.BEAR_RANGE_KD.KD h) (rangeKD img.index)
  s.each 96 fun g s =>
    (((s.wr (R.GRP_DEC.DEC_SIF1 g) (s.decSeal g 1)).wr (R.GRP_DEC.DEC_SIF2 g) (s.decSeal g 2)).wr
      (R.GRP_DEC.DEC_SIF4 g) (s.decSeal g 4)).wr (R.GRP_DEC.DEC_SIF8 g) (s.decSeal g 8)

/-- A program of the image goes into its slot (R44). -/
def State.placeProgram (s : State) (p : ProgImage) : State :=
  let h := p.head.val
  let sl := p.slot.val
  let s := p.descs.zipIdx.foldl (fun s (d, i) => s.hbmWrite (descAddr h sl i) (d.flatMap fun w => bytesLE 4 w.toNat)) s
  let s := (s.wr (R.SCAN_LEN.LEN_M1 h sl) (p.descs.length - 1)).wr (R.SCAN_LEN.VALID h sl) 1
  (s.wr (R.SCAN_FLY.FLYBACK h sl) p.fly.toNat).wr (R.SCAN_FLY.FLYBACK_MIN h sl) p.flyMin.toNat

/-- A line of field entries and its check (R174, R300). -/
def State.placeFields (s : State) (bid : Nat) (ws : List Word) : State :=
  let line := (List.range 8).flatMap fun i => bytesLE 4 (ws.getD i 0).toNat
  (s.hbmWrite (0x100000000 + 32 * bid) line).hbmWrite (0x102000000 + 4 * bid) (bytesLE 4 (crc32c (bytesLE 4 bid ++ line)))

/-- Everything of the image before its checks (R473). [DEDUCED, log 136] -/
def State.applyImage (s : State) (img : Image) : State :=
  let s := img.config.foldl (fun s x => s.configWord x.1.toNat x.2.toNat) s
  let s := s.eachHead fun h s =>
    s.when (!gives img (R.INCFG.addr (1536 + h))) fun s => s.wr (R.INCFG.HEAD (1536 + h)) h
  let s := img.programs.foldl State.placeProgram s
  let s := s.eachHead fun h s => s.wr (R.SCAN_STATUS.ACTIVE_SLOT h) (s.rd (R.SCAN_CTL.INIT_SLOT h))
  let s := img.fields.foldl (fun s x => s.placeFields x.1.toNat x.2) s
  let s := img.heads.foldl (fun s x => s.updHead x.1 fun H => { H with image := x.2 }) s
  let p := img.power
  let s := s.updPwr fun w => { w with
    base := p.base, retrainUnits := p.retrainUnits, wipeUnits := p.wipeUnits, scrubUnits := p.scrubUnits
    snapUnits := p.snapUnits, catchUnits := p.catchUnits, maintUnits := p.maintUnits }
  s.derive img

/-! ### Check 8 of R470 -/

/-- Registers of CONFIG, INCFG and the pads (R105, R473, R505). [DEDUCED, log 114] -/
def configOk (img : Image) : Bool :=
  (img.config.all fun x => configWordOk x.1.toNat x.2.toNat) &&
    ((List.range 16).all fun h => img.config.all fun x =>
      x.1.toNat != R.INCFG.addr (1536 + h) || bits x.2.toNat 4 0 == h) &&
    img.pads.zipIdx.all fun (c, i) => !(decide (2 ≤ c.toNat) && (decide (i < 16) || (decide (20 ≤ i) && decide (i < 33))))

/-- The inputs of a group belong to at most one head (R16). -/
def State.groupsAssigned (s : State) : Bool :=
  (List.range 96).all fun g =>
    let hs := ((List.range 16).map fun j => s.headOf (16 * g + j)).filter fun h => decide (h < 16)
    hs.all fun h => h == hs.headD 0

/-- The units of a field entry in cm (Table 6.2). -/
def fieldScale (w : Nat) : Nat :=
  match bits w 31 30 with
  | 0 => 1
  | 1 => 5
  | 2 => 50
  | _ => 250

/-- NEAR, PROT and WARN of a field entry in cm. -/
def fieldEntry (w : Nat) : Nat × Nat × Nat :=
  (bits w 9 0 * fieldScale w, bits w 19 10 * fieldScale w, bits w 29 20 * fieldScale w)

/-- Does a LARGEST entry contain an entry (R175)? -/
def contains (large e : Nat) : Bool :=
  let (n, p, w) := fieldEntry e
  let (n', p', w') := fieldEntry large
  let none_ (x : Nat) : Bool := bits x 29 0 == 0
  none_ e || (!none_ large && decide (n' ≤ n) && decide (p ≤ p') && decide (w ≤ w'))

/-- The field entries of a bearing pass R175 for head `h`. -/
def State.fieldsOk (s : State) (h bid : Nat) : Bool :=
  let ws := (List.range 8).map fun f => s.hbmNat (0x100000000 + 32 * bid + 4 * f) 4
  let large := ws.getD (s.rd (R.DET_SEL_CFG.LARGEST h)) 0
  (List.range 8).all fun f => !s.on (R.DET_FSET.PRESENT h f) ||
    (let e := ws.getD f 0
     let (n, p, w) := fieldEntry e
     decide (n ≤ p) && decide (p ≤ w) && contains large e)

/-- The dwells of a program that fail R175. -/
def State.fieldFaults (s : State) (h : Nat) (p : Prog) : List Nat :=
  indices p.descs.length fun i =>
    (s.dwellInputs h (p.descs.getD i [])).any fun n => !s.fieldsOk h (Desc.bid (p.descs.getD i []) n)

/-- Enabled speed bands hold strictly rising UPPER values (R177). -/
def State.bandsOk (s : State) (h : Nat) : Bool :=
  let us := ((List.range 8).filter fun i => s.on (R.DET_BAND.EN h i)).map fun i => s.rd (R.DET_BAND.UPPER h i)
  (us.zip (us.drop 1)).all fun (a, b) => decide (a < b)

/-- The servo's limits and park point (registers of 10). -/
def State.servoOk (s : State) (h : Nat) : Bool :=
  (List.range 2).all fun a =>
    let lo := s.rdS (R.SRV_LIM.MIN h a)
    let hi := s.rdS (R.SRV_LIM.MAX h a)
    let dlo := s.rdS (R.SRV_DRV.DRV_MIN h a)
    let dhi := s.rdS (R.SRV_DRV.DRV_MAX h a)
    let sp := s.rdS (R.SRV_PARK.PARK_SP h a)
    let dr := s.rdS (R.SRV_PARK.PARK_DRV h a)
    decide (lo < hi) && decide (dlo < dhi) && decide (lo ≤ sp) && decide (sp ≤ hi) && decide (dlo ≤ dr) && decide (dr ≤ dhi)

/-- Safety inputs and connections (R316, R326). -/
def State.safetyOk (s : State) : Bool :=
  let func (n : Nat) : Nat := s.rd (R.SAFE_SI_CFG.FUNC n)
  let tpw := s.rd R.SAFE_TP_CFG.TPW
  let tpp := s.rd R.SAFE_TP_CFG.TPP
  let conns := (List.range 4).filter fun c => s.on (R.SAFE_CONN1.EN c)
  let apart (f : Nat → Nat → Bool) : Bool := conns.all fun c => conns.all fun d => c == d || f c d
  ((List.range 8).all fun n =>
    let a := s.rd (R.SAFE_SI_CFG.SRC_A n)
    a != s.rd (R.SAFE_SI_CFG.SRC_B n) || a == 4) &&
  ([4, 5, 6].all fun f => decide (((List.range 8).filter fun n => func n == f).length ≤ 1)) &&
  ((List.range 16).all fun h => !s.hasProgram h ||
    (List.range 8).any fun n => func n == 1 && bit (s.rd (R.SAFE_SI_HEADS.HEAD_MASK n)) h) &&
  decide (100 ≤ tpw) && decide (tpw ≤ 500) && decide (5 ≤ tpp) && decide (tpp ≤ 100) && decide (4 * (tpw + 20) ≤ 1000 * tpp) &&
  apart (fun c d => s.rd (R.SAFE_CONN2.HEAD_MASK c) &&& s.rd (R.SAFE_CONN2.HEAD_MASK d) == 0) &&
  apart (fun c d => s.rd (R.SAFE_CONN1.UDP_PORT c) != s.rd (R.SAFE_CONN1.UDP_PORT d)) &&
  decide ((conns.filter fun c => bit (s.rd (R.SAFE_CONN1.CMD_MASK c)) 3).length ≤ 1)

/-- Snapshot slots that have a size (R251), and the raw-event selection (R245). -/
def State.captureOk (s : State) : Bool :=
  let size (i : Nat) : Nat := s.rd (R.CAP_SLOT0.SIZE i)
  let base (i : Nat) : Nat := s.rd (R.CAP_SLOT0.BASE i)
  let used := (List.range 8).filter fun i => size i != 0
  let sel := ((List.range 256).filter fun e => s.on (R.CAP_SEL.EN e)).map fun e => s.rd (R.CAP_SEL.INPUT e)
  (used.all fun i => used.all fun j => i == j || decide (base i + size i ≤ base j) || decide (base j + size j ≤ base i)) &&
  (used.all fun i => decide (base i + size i ≤ 24576) && s.bitOf R.CAP_CFG.STREAM_EN (s.rd (R.CAP_SLOT2.STREAM i)) &&
    decide (ceilDiv ((s.rd (R.CAP_SLOT1.PRE i) + s.rd (R.CAP_SLOT1.POST i) + 2) * 490189) 10000 ≤ size i * 1024 - 4)) &&
  (sel.all fun n => decide (n < 1536) && sel.count n == 1)

/-- Ports and preferred DID of the domain (R355, R363), direction source (R196). [DEDUCED, log 117] -/
def State.domainOk (s : State) : Bool :=
  let roles := (List.range 4).map fun c => s.rd (R.DOM_PORT.ROLE c)
  let master := s.on R.DOM_CFG.EN && s.rd R.DOM_CFG.ROLE_CFG == domMaster
  decide (roles.count 1 ≤ 1) && decide (roles.count 2 ≤ 1) &&
    (!master || (!s.on R.DOM_CFG.DID_ANY && roles.count 1 == 0 && roles.count 2 == 0)) &&
    (s.rd R.TACH_CFG.DIR_SRC != 1 || s.rd R.TACH_CFG.MODE == 2)

/-- Channels of Table 19.1. -/
def hkChannelOk (c : Nat) : Bool := decide (c ≤ 73) || c == 127

/-- The entries that the steps name, in order. -/
def State.hkSteps (s : State) : List Nat := (List.range (s.rd R.HK_CFG.NSTEP_M1 + 1)).map s.hkStepEntry

/-- Length of a step of entry `e` in ns (R447). -/
def State.hkStepNs (s : State) (e : Nat) : Nat := (s.hkCfg e 0 25 24 + 1) * s.periodTP + 220000

/-- The longest interval between completions of entry `e`, from a list of steps that begins after one: running sum and
maximum. -/
def longestGap (e : Nat) (len : Nat → Nat) : Nat → Nat → List Nat → Nat
  | _, m, [] => m
  | sum, m, x :: xs => let n := sum + len x; if x = e then longestGap e len 0 (max m n) xs else longestGap e len n m xs

/-- The longest interval between completions of an entry over the cycle; none where no step names it. [DEDUCED, log 117] -/
def State.hkInterval (s : State) (e : Nat) : Option Nat :=
  match s.hkSteps.findIdx? (· == e) with
  | none => none
  | some i => some (longestGap e s.hkStepNs 0 0 (s.hkSteps.drop (i + 1) ++ s.hkSteps.take (i + 1)))

/-- Housekeeping entries and steps (R458). [DEDUCED, log 117] -/
def State.hkOk (s : State) (img : Image) : Bool :=
  let given (e : Nat) : Bool := (List.range 4).any fun w => gives img (R.HK_ENT0.addr e + 4 * w)
  let tc (e : Nat) : Bool := decide (4 ≤ s.hkCurve e) && decide (s.hkCurve e ≤ 7)
  let follow := (List.range 16).filterMap fun h =>
    if s.rd (R.SRV_FOLLOW_CFG.SRC h) = 2 then some (s.rd (R.SRV_FOLLOW_CFG.HK_ENTRY h)) else none
  ((List.range 16).all fun e => !given e ||
    (let c := s.hkCurve e
     let ext := bit (s.hkCfg e 0 26 26) 0
     let cj := s.hkCfg e 1 19 16
     decide (c ≤ 10) && hkChannelOk (s.hkChanP e) && hkChannelOk (s.hkCfg e 0 14 8) && s.hkChanP e != 127 &&
       (if c = 1 ∨ tc e then !ext else if c = 0 then true else ext) &&
       (!tc e || (!tc cj && s.hkSteps.contains cj)))) &&
  s.hkSteps.all given &&
  (s.rd R.THM_BOARD.HK_ENTRY :: follow).all fun e => match s.hkInterval e with
    | none => false
    | some n => decide (n ≤ 90000000)

/-- Requests of the power model (R429) and the patterns (R93). -/
def State.modelOk (s : State) (img : Image) : Bool :=
  let p := img.power
  ([p.retrainUnits, p.wipeUnits, p.scrubUnits, p.snapUnits, p.catchUnits, p.maintUnits].all fun u => decide (u ≤ 8)) &&
  (List.range 16).all fun h =>
    decide ((s.image h).flyUnits ≤ 8) && decide ((s.image h).parkUnits ≤ 8) &&
      (s.image h).patterns.all fun x => decide (x.1 < 4096) && decide ((x.2.map Pattern.units).getD 0 ≤ 8)

/-- What the programs of head `h` in both slots fail of Table 2.3, with R175 and R294. [DEDUCED, log 116] -/
def State.headFaults (s : State) (h : Nat) : List (Nat × Nat) :=
  (List.range 2).flatMap fun sl =>
    if !s.on (R.SCAN_LEN.VALID h sl) then []
    else
      let p := s.prog h sl
      s.programFaults h p (s.otherBids h) ++ (s.fieldFaults h p).map (fun i => (8, i)) ++
        (if s.eyeFails h p then [(0x0C, 0)] else [])

/-- Programs that fit their slots (R42). -/
def sizesOk (img : Image) : Bool := img.programs.all fun p => decide (1 ≤ p.descs.length) && decide (p.descs.length ≤ 65536)

/-- The loader checks of an image that has been put in place (R470, check 8); `copies`: the islands' copies read back as
written (R299). [DEDUCED, log 116, 158] -/
def State.loaderOk (s : State) (img : Image) (copies : Bool) : Bool :=
  copies && configOk img && sizesOk img && s.groupsAssigned && s.safetyOk && s.captureOk && s.domainOk && s.hkOk img && s.modelOk img &&
    ((List.range 16).all fun h => s.bandsOk h && s.servoOk h && (s.headFaults h).isEmpty) &&
    !s.mergeFails none && !s.captureFails none && !s.powerFails none && !s.wireFails none &&
    (!s.on R.NET_PRP.EN || s.rd (R.NET_PORT.MODE 0) == s.rd (R.NET_PORT.MODE 1))

/-- What the programs of head `h` in an image fail of Table 2.3 with the budgets of all heads together: the merge budget for
a head with persistence, the power and head-supply budgets for every head that has a program (R65, R69). [DEDUCED, log 116] -/
def State.bootFaults (s : State) (h : Nat) : List (Nat × Nat) :=
  if !s.hasProgram h then []
  else s.headFaults h ++ (if s.persists h && s.mergeFails none then [(0x0B, 0)] else []) ++
    (if s.powerFails none then [(0x0C, 0)] else [])

/-- SCAN_REJECT of the heads whose programs fail (R65). -/
def State.reportFaults (s applied : State) : State :=
  s.eachHead fun h s => match applied.bootFaults h with
    | [] => s
    | f :: fs =>
      let r := fs.foldl lowerReport f
      (s.wr (R.SCAN_REJECT.CAUSE h) r.1).wr (R.SCAN_REJECT.DWELL h) r.2

/-- The cause of checks 5 to 9 of R470; 0 where the slot passes. [DEDUCED, log 115] -/
def slotCause (applied : State) (r : SlotRead) : Nat :=
  if !r.digests then 5
  else if !r.signatures then 6
  else if !r.vendorSeal then 7
  else if !applied.loaderOk r.image r.copies then 8
  else if !r.answered then 9
  else 0

/-- SLOT_READ_COMPLETE (R36, R65, R464 to R466, R469, R470, R472): the candidate passes, or fails and what it wrote is wiped.
[DEDUCED, log 115] -/
def execSlotReadComplete (t : Time) (r : SlotRead) (s : State) : Host.Outcome State Fault Refusal :=
  s.run t fun s =>
    if ¬ s.booting ∨ !s.boot.loaded ∨ !s.boot.trained ∨ s.boot.passed.isSome ∨ s.dev.sealed then s
    else match s.boot.cands with
    | [] => s
    | (slot, m) :: rest =>
      let applied := s.applyImage r.image
      let c := slotCause applied r
      if c = 0 then s.updBoot fun b => { b with passed := some (slot, m, r.image) }
      else
        let s := (s.slotFail slot c).when (c == 8) fun s =>
          (s.reportFaults applied).incrementEvents (applied.incrementFaults none)
        let s := { s with hbm := [] }
        let s := s.updBoot fun b => { b with cands := rest, tried := b.tried + 1 }
        s.when rest.isEmpty State.noImage

/-! ### Seal (R473) -/

/-- The identity of the sealed image in the SEC registers. -/
def State.showImage (s : State) (slot : Nat) (m : Manifest) (img : Image) (fallback : Bool) : State :=
  let s := ((s.wr R.SEC_STATUS.SEALED 1).wr R.SEC_STATUS.SLOT slot).wr R.SEC_STATUS.SEC_VER m.secVer.toNat
  let s := (s.wr R.SEC_IMAGE_SEQ.SEQ m.imageSeq.toNat).wr R.DEV_FW_VER.FW_VER img.fwVer.toNat
  let s := s.each 16 fun w s => s.wr (R.SEC_DIGEST.DIGEST w) (m.digest.toNat / 2 ^ (32 * w) % 2 ^ 32)
  s.when fallback fun s => (s.wr R.SEC_STATUS.FALLBACK 1).raise .bootFallback noHead

/-- A delay line starts from the calibration defaults of the image when their DEVTAG is the device's, else from the nominal
selection (R130, R132, R136). -/
def State.lineSeal (s : State) (img : Image) (i : Nat) : State :=
  let tag := s.boot.fuses.serial % 65536
  let s := s.wr (R.CAL_REC0.DEVTAG i) tag
  let s := match (img.cal.find? fun d => d.line.val == i), decide (img.devtag.toNat = tag) with
    | some d, true =>
      let s := s.updLine i fun l => { l with selA := d.selA, selB := d.selB }
      (s.wrB (R.CAL_REC0.CHAIN i) d.chain).wr (R.CAL_REC_SKEW.SKEW i) d.skew.toNat
    | _, _ => s
  let s := s.when (decide (1536 ≤ i)) fun s => s.wr (R.CAL_REC_SKEW.SKEW i) (s.image (i - 1536)).echoSkew.toNat
  (((s.writeTaps i).sealRecord i).updLine i fun l => { l with passAt := s.now }).newEpoch i

/-- Head `h` at seal: prefill, energy zero, selection, permissions, automatic start (R32, R76, R285, R295, R314, R434, R473). -/
def State.headSeal (s : State) (h : Nat) : State :=
  let s := (s.eyePrefill h).wr (R.EYE_ZERO.ZERO h) (s.image h).zero
  let s := s.updServo h fun v => { v with profBank := s.rd (R.SRV_CTL.PROF_BANK h) }
  let s := s.updScan h fun c => { c with armed := s.on (R.HEAD_CTL.AUTO_START h) }
  let s := ((s.setInh h .config false).setInh h .supply false).refreshSafetyIn h
  s.refreshHost h

/-- A master takes the plan of the domain, whose generation is not stated, and the entries of its own heads (R366).
[DESIGN CHOICE, log 92] -/
def State.planSeal (s : State) (img : Image) : State :=
  if img.plan.isEmpty ∨ s.domRole ≠ domMaster then s
  else
    let own := (img.plan.filter fun e => e.1.toNat == s.did).map Prod.snd
    let s := s.updDom fun D => { D with
      domPlan := img.plan.map fun e => (e.1.toNat, e.2), planGen := s.freeVal 32, plans := [⟨s.freeVal 32, s.now, own⟩] }
    s.drawn

/-- The seal takes effect on the parts of the device (R32, R150, R245, R309, R324, R331, R355, R389, R401, R434, R460). -/
def State.sealParts (s : State) (img : Image) : State :=
  let s := s.updPwr fun w => { w with pool := s.rd R.PWR_HS_CFG.DEPTH * 1000, poolAt := s.now }
  let s := (s.wr R.PWR_HS_LEVEL.LEVEL (s.rd R.PWR_HS_CFG.DEPTH * 100)).showPower
  let s := s.updDev fun d => { d with sealed := true, pads := img.pads }
  let s := s.safeSeal.eachHead fun h s => s.refreshSel h
  let s := s.updTach fun x => { x with gateAt := s.now }
  let s := s.each 1552 fun i s => s.lineSeal img i
  let s := s.eachHead fun h s => s.headSeal h
  let s := s.each 4 fun q s => s.when (s.on (R.SEQ_CFG.EN q)) fun s => s.seqEnable q
  let s := ((s.pairSeal.domSeal).planSeal img).setListRate
  let s := s.each 26 fun p s => s.portStart p
  let s := s.each 2 fun i s => s.when (s.quadOn (34 + i)) fun s =>
    s.wrB (R.LANE_QSTATUS.PLL_LOCK (34 + i)) (s.bitOf R.CLK_STATUS.LREF_OK (lrefPair (34 + i)))
  let s := (s.updMem fun m => { m with scrubFrom := s.now }).hkSequence.leaveRequest .scrub s.pwr.scrubUnits
  let s := s.incrementBudget none
  s.eachHead fun h s => s.when (s.hasProgram h) fun s => s.geometryChange h

/-- SEAL (R391, R473, R474; Table 1.4), once the wipe has reached every region that the loader writes: BOOT goes to RUN, or to
DEGRADED while a DEGRADE cause is active. [DESIGN CHOICE, log 36; DEDUCED, log 118] -/
def execSeal (t : Time) (s : State) : Host.Outcome State Fault Refusal :=
  s.run t fun s =>
    match s.boot.passed with
    | none => s
    | some (slot, m, img) =>
      if s.dev.sealed ∨ ¬ s.booting ∨ ¬ s.on R.MEM_STATUS.WIPE_DONE then s
      else
        let s := s.applyImage img
        let s := s.showImage slot m img (s.boot.tried != 0)
        let s := (s.sealParts img).updBoot fun b => { b with autoCommit := m.autoCommit }
        let s := s.settleDev
        let s := if s.devState ≠ devBoot ∨ s.safeActive then s
          else s.setDev (if s.degActive then devDegraded else devRun)
        s.eachHead fun h s => s.tryLeaveOff h

end Sys2Proof.Machine
end

