-- ==== Sys2Proof/Machine/Device.lean ====
section
/-! DEFINITION. Reset, supplies, watchdog and thermal shutdown (01_architecture.md R25 to R30; 18_power_thermal.md R441, R442;
23_pins_package.md R506, R510 to R512), and a slow input's clamp and stamped edges. -/

namespace Sys2Proof.Machine

/-! ### Entry to RESET and start of the boot (R25, R30, R441, R442, R484, R510, R511) -/

/-- Does supplies-good hold: every rail in tolerance, and no thermal hold (R442, R510)? -/
def State.suppliesGood (s : State) : Bool := s.dev.supplies && !s.on R.THM_TRIP.HOLD

/-- RESET to BOOT when PORST_N is released and supplies-good holds (Table 1.4): the device state is as reset values give it,
and a hardware shutdown before it is logged (R441). [DEDUCED, log 49] -/
def State.tryBoot (s : State) : State :=
  if s.devState ≠ devReset ∨ s.dev.porst ∨ ¬ s.suppliesGood then s
  else
    let s := s.wr R.DEV_STATE.STATE devBoot
    s.when s.thm.tripLog fun s => (s.updThm fun m => { m with tripLog := false }).raise .thmTripped noHead

/-- Every register and memory at its reset value, but for what survives: fuses, boot flash, THM_TRIP (R441, R484), the cause
of this entry (R30), the levels at the pins, DT, and the last answer sent. [DEDUCED, log 49, 50] -/
def State.enterReset (s : State) (cause : Nat) : State :=
  let r := State.reset
  let n : State := { r with
    pending := s.pending, dt := s.dt, fine := s.fine, free := s.free
    dev := { r.dev with porst := s.dev.porst, supplies := s.dev.supplies, clamps := s.dev.clamps, releasedAt := none }
    thm := { r.thm with tripLog := s.thm.tripLog }
    boot := { r.boot with fuses := s.boot.fuses, flash := s.boot.flash, answer := s.boot.answer } }
  let n := (n.wr R.DEV_STATE.STATE devReset).wr R.DEV_RESET_CAUSE.CAUSE cause
  n.setWord R.THM_TRIP.addr (s.word R.THM_TRIP.addr)

/-- PORST_N_ASSERT (R25, R511). -/
def execPorstNAssert (t : Time) (s : State) : Host.Outcome State Fault Refusal :=
  s.run t fun s =>
    let s := s.updDev fun d => { d with porst := true }
    if s.devState = devReset then s else s.enterReset 1

/-- PORST_N_RELEASE (R511): the boot starts where supplies-good holds. -/
def execPorstNRelease (t : Time) (s : State) : Host.Outcome State Fault Refusal :=
  s.run t fun s => s.when s.dev.porst fun s =>
    (s.updDev fun d => { d with porst := false, releasedAt := some s.now }).tryBoot

/-- SUPPLIES_GOOD (R510, R511). -/
def execSuppliesGood (t : Time) (s : State) : Host.Outcome State Fault Refusal :=
  s.run t fun s => (s.updDev fun d => { d with supplies := true }).tryBoot

/-- RAIL_OUT_OF_TOLERANCE (R510): the comparators only gate supplies-good. [DEDUCED, log 119] -/
def execRailOutOfTolerance (t : Time) (_rail : Fin 13) (s : State) : Host.Outcome State Fault Refusal :=
  s.run t fun s => s.updDev fun d => { d with supplies := false }

/-- WATCHDOG_EXPIRY (R30). [DEDUCED, log 50] -/
def execWatchdogExpiry (t : Time) (s : State) : Host.Outcome State Fault Refusal :=
  s.run t fun s => s.when (s.devState != devReset) fun s => (s.enterReset 2).tryBoot

/-! ### DEGRADE occurrence causes (R29) -/

/-- Is a DEGRADE occurrence cause past its hold: DEG_HOLD s since the last event of its code (R29)? -/
def State.degPast (s : State) (occ : Nat × Nat) : Bool :=
  decide (occ.2 + s.rd R.DEV_CAUSE.DEG_HOLD * 1000000000 ≤ s.now)

/-- DEG_HOLD_EXPIRY (R29): the occurrence cause of a code ends, once its hold has passed without another event of the code. -/
def execDegHoldExpiry (t : Time) (code : BitVec 16) (s : State) : Host.Outcome State Fault Refusal :=
  s.run t fun s =>
    (s.updDev fun d => { d with degOcc := d.degOcc.filter fun o => o.1 != code.toNat || !s.degPast o }).settleDev

/-! ### Hardware shutdown (R441, R442) -/

/-- The sensors that read 125 °C or more, or are faulty (R437). -/
def State.hotSensors (s : State) : List Nat :=
  indices 48 fun i => s.on (R.THM_SENSOR.FAULTY i) || decide (2000 ≤ s.rdS (R.THM_SENSOR.TEMP i))

/-- THERMAL_SHUTDOWN (R25, R441): all heads OFF, the OSSD outputs off, THM_TRIP latched. [DEDUCED, log 125] -/
def execThermalShutdown (t : Time) (s : State) : Host.Outcome State Fault Refusal :=
  s.run t fun s =>
    match s.hotSensors with
    | a :: b :: _ =>
      if s.devState = devReset ∨ s.on R.THM_TRIP.HOLD then s
      else
        let s := (s.wr R.THM_TRIP.HOLD 1).wr R.THM_TRIP.SENSORS (a + 256 * b)
        let s := s.updThm fun m => { m with tripLog := true, coolSince := none }
        (s.setDev devShutdown).headsOff
    | _ => s

/-- THERMAL_HOLD_RELEASE (R25, R441, R442): below 100 °C for 10 s, and never with more than 8 faulty sensors.
[DESIGN CHOICE, log 144] -/
def execThermalHoldRelease (t : Time) (s : State) : Host.Outcome State Fault Refusal :=
  s.run t fun s =>
    if !s.on R.THM_TRIP.HOLD || !(s.thm.coolSince.any fun a => decide (a + 10000000000 ≤ s.now)) || decide (s.goodSensors.length < 40) then s
    else
      let s := s.when (s.devState == devShutdown) fun s => s.enterReset 5
      (s.wr R.THM_TRIP.HOLD 0).tryBoot

/-! ### Slow inputs (R113, R247, R506) -/

/-- SLOW_INPUT_CLAMP (R506): the input is read in its safe state while its clamp conducts and for 10 µs after. TOKEN_IN reads
CONFLICT at once. [DEDUCED, log 67] -/
def execSlowInputClamp (t : Time) (i : Fin 34) (on : Bool) (s : State) : Host.Outcome State Fault Refusal :=
  s.run t fun s =>
    let c : Clamp := if on then { on := true } else { until_ := s.now + 10000 }
    let s := s.updDev fun d => { d with clamps := SMap.set (fun _ => {}) d.clamps i c }
    s.when (i.val == 6 || i.val == 7) State.readTokenIn

/-- TRIG_IN_EDGE (R113, R247, R506): outside the hold-off of 20 ns the edge is stamped and reaches the sequencers.
[DEDUCED, log 128] -/
def execTrigInEdge (t : Time) (idx : Fin 4) (fall : Bool) (taps : BitVec 288) (s : State) : Host.Outcome State Fault Refusal :=
  s.run t fun s =>
    let at_ := s.auxStamp (2 + idx) taps
    let last := SMap.get (fun _ => none) s.cap.trigAt idx
    if s.clampedIn (2 + idx) || s.inHoldOff last at_ 20 then s.drawn
    else (s.drawn.updCap fun c => { c with trigAt := SMap.set (fun _ => none) c.trigAt idx (some at_) }).trigInEdge idx fall
      at_

end Sys2Proof.Machine
end

