-- ==== Sys2Proof/Machine/Electrum.lean ====
section
/-! DEFINITION. Electrum's services (20_boot_security.md, R471, R475 to R483; R256, R500): attestation, maintenance sessions,
the boot flash, and the fuse steps. What cryptography decides (does a signature verify, does a record authenticate, what is
a digest) comes as operands. -/

namespace Sys2Proof.Machine

/-! ### Fuse steps (R443, R471, R482) -/

/-- A fuse step outside its window is refused (R443, R482). [DEDUCED, log 122] -/
def State.fuseRefused (s : State) : State := s.writeRefused.raise .fuseRefused noHead

/-- The thermometer of a rollback counter is programmed up to the SEC_VER of the sealed image (R471). -/
def State.advanceRollback (s : State) : State :=
  let v := s.rd R.SEC_STATUS.SEC_VER
  if v ≤ s.boot.fuses.rollback then s
  else if !s.fuseWindow then s.fuseRefused
  else (s.setFuses fun f => { f with rollback := v }).raise .rollbackAdvanced noHead

/-- ROLLBACK_AUTO_COMMIT (R471): AUTO_COMMIT, and 60 s in RUN or DEGRADED without a break; a refused step is tried again every 60 s. -/
def execRollbackAutoCommit (t : Time) (s : State) : Host.Outcome State Fault Refusal :=
  s.run t fun s =>
    let due := match s.dev.runSince with
      | some a => decide (a + 60000000000 ≤ s.now)
      | none => false
    s.when (s.dev.sealed && s.boot.autoCommit && s.running && due && s.dueAgain s.boot.triedAt 60000000000) fun s =>
      let refused := !s.fuseWindow
      (s.advanceRollback).updBoot fun b => { b with triedAt := if refused then some s.now else b.triedAt }

/-! ### Attestation (R475, R476) -/

/-- A list cut or filled with zeros to `n` bytes. -/
def fitTo (n : Nat) (bs : List Byte) : List Byte := (bs ++ List.replicate n 0).take n

/-- The report (Table 20.6). -/
def State.report (s : State) (x : Signed) : List Byte :=
  let digest := (List.range 16).flatMap fun w => bytesLE 4 (s.rd (R.SEC_DIGEST.DIGEST w))
  let nonce := (List.range 8).flatMap fun w => bytesLE 4 (s.rd (R.SEC_NONCE.NONCE w))
  let cals := (List.range 5).flatMap fun k =>
    pack [(4, s.rd (R.CAL_CNT.VALUE k)), (8, s.rd64 (R.CAL_DT_LO.VALUE k) (R.CAL_DT_HI.VALUE k))]
  pack [(2, 0x4E41), (1, 1), (1, 0), (1, s.rd R.SEC_STATUS.LC + 16 * s.devState + 128 * s.rd R.SEC_STATUS.SEALED), (3, 0),
      (8, s.boot.fuses.serial)] ++ nonce ++ pack [(8, s.now)] ++ digest ++
    pack [(1, s.rd R.SEC_STATUS.SLOT), (1, s.rd R.SEC_STATUS.SEC_VER), (1, s.rd R.SEC_STATUS.ROLLBACK), (1, 0),
      (4, s.rd R.SEC_IMAGE_SEQ.SEQ), (1, s.rd R.SEC_ROOTS.PROGRAMMED + 16 * s.rd R.SEC_ROOTS.REVOKED), (7, 0)] ++
    fitTo 48 x.fuseDigest ++ cals ++ pack [(12, 0)] ++ fitTo 64 x.ed ++ fitTo 3309 x.ml ++ pack [(3, 0)]

/-- The words of a byte string. -/
def wordsOf : Nat → List Byte → List Nat
  | 0, _ => []
  | n + 1, bs => ofBytesLE (bs.take 4) :: wordsOf n (bs.drop 4)

/-- A report is formed: it stands in SEC_ATTEST and is counted (R476). -/
def State.showReport (s : State) (bs : List Byte) : State :=
  let s := (wordsOf 908 bs).zipIdx.foldl (fun s (v, w) => s.wr (R.SEC_ATTEST.DATA w) v) s
  (((s.wr R.SEC_ATTEST_STATUS.BUSY 0).wr R.SEC_ATTEST_STATUS.DONE 1).inc R.SEC_ATTEST_STATUS.COUNT)

/-- ATTEST_REQUEST (R476). -/
def execAttestRequest (t : Time) (i : Iface) (s : State) : Host.Outcome State Fault Refusal :=
  s.run t fun s => s.attestReq i

/-- ATTEST_COMPLETE (R476). -/
def execAttestComplete (t : Time) (x : Signed) (s : State) : Host.Outcome State Fault Refusal :=
  s.run t fun s => s.when (s.on R.SEC_ATTEST_STATUS.BUSY) fun s => s.showReport (s.report x)

/-! ### Opening a session (R477, R478) -/

def State.updSession (s : State) (f : Session → Session) : State := s.updBoot fun b => { b with session := f b.session }

/-- The states of SEC_SESSION.STATE. -/
def State.sessionState (s : State) : Nat := s.rd R.SEC_SESSION.STATE

/-- May a session open in the device state (Table 1.4)? [DEDUCED, log 121] -/
def State.mayMaintain (s : State) : Bool := s.running || s.devState == devSafe

/-- Does a HELLO come to the port that offers sessions: the recovery port while nothing is sealed, else PORT, where UDP_PORT
is not 0 (R472, R478)? -/
def State.helloPort (s : State) (p : Option (Fin 4)) : Bool :=
  match p with
  | none => !s.dev.sealed
  | some p => s.dev.sealed && s.rd R.SEC_MAINT_CFG.UDP_PORT != 0 && p.val == s.rd R.SEC_MAINT_CFG.PORT

/-- The checks of a certificate (R468, R477, R478). -/
def State.certOk (s : State) (c : Cert) : Bool :=
  c.form && c.signed && accepted s.boot.fuses c.cls c.index c.keyHash.toNat &&
    (c.serial == 0 || c.serial.toNat == s.boot.fuses.serial) && decide (c.notBefore.toNat ≤ s.now) &&
    decide (s.now < c.notAfter.toNat)

/-- A handshake check fails (R478). -/
def State.authFail (s : State) : State :=
  ((s.wr R.SEC_SESSION.STATE 0).inc R.SEC_CNT_AUTH_FAIL.COUNT).raise .sessionAuthFail noHead

/-- HELLO_RECEIVE (R478): discarded while a session is open or in handshake. -/
def execHelloReceive (t : Time) (p : Option (Fin 4)) (c : Cert) (s : State) : Host.Outcome State Fault Refusal :=
  s.run t fun s =>
    if s.sessionState ≠ 0 ∨ ¬ s.mayMaintain ∨ ¬ s.helloPort p then s
    else if !s.certOk c then s.authFail
    else
      let x : Session := { recovery := p.isNone, root := 2 * flag c.cls + flag c.index
                           perm := c.perm.toNat, notAfter := c.notAfter.toNat }
      (s.wr R.SEC_SESSION.STATE 1).updSession fun _ => x

/-- AUTH_RECEIVE (R344, R478, Table 1.4): OPEN, and the device enters MAINT: OSSD off, heads to PARKED. [DEDUCED, log 120, 123] -/
def execAuthReceive (t : Time) (good : Bool) (s : State) : Host.Outcome State Fault Refusal :=
  s.run t fun s =>
    if s.sessionState ≠ 1 ∨ ¬ s.mayMaintain then s
    else if !good then s.authFail
    else
      let x := s.boot.session
      let s := (s.wr R.SEC_SESSION.STATE 2).wr R.SEC_SESSION.PERM x.perm
      let s := s.wr64 R.SEC_SESSION_EXP_LO.VALUE R.SEC_SESSION_EXP_HI.VALUE x.notAfter
      let s := (s.wr R.SEC_STATUS.SESSION 1).inc R.SEC_CNT_SESSION.COUNT
      let s := s.updSession fun x => { x with lastAt := s.now }
      let s := s.setDev devMaint
      let s := s.eachHead fun h s => s.refreshHost h
      let s := s.eachHead fun h s => s.when (s.scanning h && !(s.head h).scan.parking) fun s =>
        if s.rd (R.SCAN_POS.PHASE h) = 3 then s.updScan h fun c => { c with parkPend := true } else s.startPark h
      s.raise .sessionOpen noHead

/-! ### Records, and the end of a session (R478 to R480) -/

/-- The session ends: SESSION_END, and the device enters RESET (R26, R479). -/
def State.sessionEnd (s : State) : State := ((s.raise .sessionEnd noHead).enterReset 3).tryBoot

def State.answer (s : State) (ok : Bool) (data : List Byte) : State := s.updBoot fun b => { b with answer := ⟨ok, data⟩ }

/-- A service is refused, and answered with its cause (R480): 1 its PERM bit is clear, 2 a condition of the service does not hold,
3 the window of R443, 4 what was read back differs. The spec gives no codes. [DESIGN CHOICE, log 172] -/
def State.denied (s : State) (why : Nat) : State := s.answer false [BitVec.ofNat 8 why]

/-- The services of Table 20.7 by PERM bit. -/
inductive Perm where
  | read | config | flash | heads | lc | fuse
deriving DecidableEq, Repr

def Perm.bit : Perm → Nat
  | .read => 0 | .config => 1 | .flash => 2 | .heads => 3 | .lc => 4 | .fuse => 5

/-- Does the open session hold a permission? -/
def State.hasPerm (s : State) (p : Perm) : Bool := s.bitOf R.SEC_SESSION.PERM p.bit

/-- A record: one that does not authenticate, or whose number is not the next expected, is discarded; a service without its
permission is refused; a session ends at 2^31 records (R478 to R480). [DEDUCED, log 120] -/
def State.service (s : State) (r : SessRec) (p : Option Perm) (f : State → State) : State :=
  let x := s.boot.session
  if s.sessionState ≠ 2 ∨ ¬ r.authentic ∨ r.seq.toNat ≠ x.rxSeq then s
  else
    let s := s.updSession fun x => { x with rxSeq := x.rxSeq + 1, txSeq := x.txSeq + 1, lastAt := s.now }
    let s := match p with
      | none => f s
      | some p => if s.hasPerm p then f s else s.denied 1
    s.when (s.sessionState == 2 && decide (2 ^ 31 ≤ s.boot.session.rxSeq)) State.sessionEnd

/-- CLOSE (R479). -/
def execClose (t : Time) (r : SessRec) (s : State) : Host.Outcome State Fault Refusal :=
  s.run t fun s => s.service r none fun s => (s.answer true []).sessionEnd

/-- SESSION_LOST (R479): LOST_T seconds without a valid record. [DESIGN CHOICE, log 144] -/
def execSessionLost (t : Time) (s : State) : Host.Outcome State Fault Refusal :=
  s.run t fun s =>
    s.when (s.sessionState == 2 && decide (s.boot.session.lastAt + s.rd R.SEC_MAINT_CFG.LOST_T * 1000000000 ≤ s.now)) State.sessionEnd

/-- SESSION_EXPIRY (R479): DT has reached NOT_AFTER. -/
def execSessionExpiry (t : Time) (s : State) : Host.Outcome State Fault Refusal :=
  s.run t fun s => s.when (s.sessionState == 2 && decide (s.boot.session.notAfter ≤ s.now)) State.sessionEnd

/-! ### Registers, snapshots, reports (R256, R476, R500) -/

/-- The answer to a register service (R500): bytes 0 to 7 of the request, RESULT. -/
def regAnswer (op addr count : Nat) (causes : List Nat) : List Byte :=
  let refused := causes.filter (· != 0)
  let first := causes.findIdx (· != 0)
  pack [(1, op), (1, 0), (2, count), (4, addr), (2, refused.length), (1, refused.headD 0),
    (1, if refused.isEmpty then 0 else satU 8 first)]

/-- REG_READ (R500). -/
def execRegRead (t : Time) (r : SessRec) (addr : Word) (count : BitVec 16) (s : State) : Host.Outcome State Fault Refusal :=
  s.run t fun s => s.service r (some .read) fun s =>
    let n := count.toNat
    if n = 0 ∨ 256 < n then s.denied 2
    else
      let (s, vs) := s.hostReads .session addr.toNat n
      s.answer true (regAnswer 1 addr.toNat n (vs.map (·.2)) ++ vs.flatMap fun x => bytesLE 4 x.1)

/-- REG_WRITE (R494, R500): CONFIG decides about MAINT fields, word by word; the service itself is performed for every
session. [DEDUCED, log 121] -/
def execRegWrite (t : Time) (r : SessRec) (addr : Word) (words : List Word) (s : State) : Host.Outcome State Fault Refusal :=
  s.run t fun s => s.service r none fun s =>
    let n := words.length
    if n = 0 ∨ 256 < n then s.denied 2
    else
      let (s, cs) := s.hostWrites .session addr.toNat words
      s.answer true (regAnswer 2 addr.toNat n cs)

/-- SNAP_READ (R256, R379, R429): the header and frames in ring order, asked for at the snapshot port; the answer is formed at once.
The readout asks for its leave. [DESIGN CHOICE, log 36; DEDUCED, log 93] -/
def execSnapRead (t : Time) (r : SessRec) (i : Fin 8) (gen first count : Word) (s : State) :
    Host.Outcome State Fault Refusal :=
  s.run t fun s => s.service r (some .read) fun s =>
    let x := s.slot i
    let n := count.toNat
    if s.slotState i ≠ slFull ∨ s.rd (R.CAP_SLOT3.GEN i) ≠ gen.toNat ∨ n = 0 ∨ 64 < n ∨ x.nFrames < first.toNat + n then s.denied 2
    else
      let (s, head) := s.memRead 7 (s.slotAddr i) 1
      let (s, frames) := (List.range n).foldl (fun (s, out) k =>
        let (s, bs) := s.memRead 7 (s.frameAddr i ((x.first + first.toNat + k) % max 1 (s.ringLen i))) 16
        (s, out ++ bs)) (s, [])
      (s.leaveRequest .snapshot s.pwr.snapUnits).answer true (head ++ frames)

/-- ATTEST (R476, R480): refused while a report is being formed. -/
def execAttest (t : Time) (r : SessRec) (x : Signed) (s : State) : Host.Outcome State Fault Refusal :=
  s.run t fun s => s.service r (some .read) fun s =>
    if s.on R.SEC_ATTEST_STATUS.BUSY then s.denied 2
    else
      let bs := s.report x
      (s.showReport bs).answer true bs

/-! ### The boot flash (R443, R463, R480, R481) -/

/-- What a byte of the flash that nothing has written reads as: erased. [DESIGN CHOICE, log 5; PRESUMED, log 126] -/
def flashDefault (_ : Nat) : Byte := 0xFF

def State.flashByte (s : State) (a : Nat) : Byte := SMap.get flashDefault s.boot.flash a
def State.flashBytes (s : State) (a n : Nat) : List Byte := (List.range n).map fun i => s.flashByte (a + i)

def State.flashPut (s : State) (a : Nat) (bs : List Byte) : State :=
  s.updBoot fun b => { b with flash := writeBytes flashDefault b.flash a bs }

/-- The slot that holds a range of flash addresses (R463); none where it crosses a slot's end or the flash's. -/
def flashSlot (a n : Nat) : Option Nat :=
  if n = 0 then none
  else if a / 0x4000000 = (a + n - 1) / 0x4000000 ∧ a / 0x4000000 < 2 then some (a / 0x4000000) else none

/-- Is a range open to a flash service: in the slot not booted (R480, R481)? [DEDUCED, log 127] -/
def State.flashOpen (s : State) (a n : Nat) : Bool :=
  match flashSlot a n with
  | none => false
  | some sl => !s.dev.sealed || sl != s.rd R.SEC_STATUS.SLOT

/-- Is a flash operation inside its window (R443)? -/
def State.flashWindow (s : State) : Bool :=
  let e := s.rd R.THM_BOARD.HK_ENTRY
  let v := s.rdS (R.HK_RES0.RESULT e)
  decide (-20000 ≤ v) && decide (v ≤ 70000) && !s.on (R.HK_RES0.OVR e) && !s.hkOlder e 100 && decide (s.rdS R.THM_STATUS.TJ ≤ 1600)

/-- FLASH_ERASE (R443, R481): the sector of 64 KiB. [DEDUCED, log 127] -/
def execFlashErase (t : Time) (r : SessRec) (addr : Word) (s : State) : Host.Outcome State Fault Refusal :=
  s.run t fun s => s.service r (some .flash) fun s =>
    let a := addr.toNat / 0x10000 * 0x10000
    if !s.flashOpen a 0x10000 then s.denied 2
    else if !s.flashWindow then s.writeRefused.denied 3
    else (s.updBoot fun b => { b with flash := b.flash.filter fun x => decide (x.1 < a) || decide (a + 0x10000 ≤ x.1) }).answer
      true []

/-- Bytes that the spec leaves open. [PRESUMED, log 126] -/
def State.freeBytes (s : State) (n : Nat) : List Byte := (List.range n).map fun i => BitVec.ofNat 8 (Config.freeBits (s.free + i)).toNat

/-- FLASH_WRITE (R443, R481): pages of 256 bytes are programmed, which clears bits, and read back; what a page that fails
holds is a free value. [PRESUMED, log 126] -/
def execFlashWrite (t : Time) (r : SessRec) (addr : Word) (data : List Byte) (good : Bool) (s : State) :
    Host.Outcome State Fault Refusal :=
  s.run t fun s => s.service r (some .flash) fun s =>
    let a := addr.toNat
    let n := data.length
    if !s.flashOpen a n then s.denied 2
    else if !s.flashWindow then s.writeRefused.denied 3
    else if !good then ({ (s.flashPut a (s.freeBytes n)) with free := s.free + n }).denied 4
    else
      let s := s.flashPut a (List.zipWith (· &&& ·) (s.flashBytes a n) data)
      if s.flashBytes a n == data then s.answer true [] else s.denied 4

/-- FLASH_READ (R480). -/
def execFlashRead (t : Time) (r : SessRec) (addr : Word) (n : BitVec 16) (s : State) : Host.Outcome State Fault Refusal :=
  s.run t fun s => s.service r (some .flash) fun s =>
    if !s.flashOpen addr.toNat n.toNat then s.denied 2 else s.answer true (s.flashBytes addr.toNat n.toNat)

/-! ### Heads, life cycle, fuses (R471, R475, R480, R482, R483) -/

/-- HEAD_ENABLE (R480): the named heads may leave PARKED; every other permission still applies. [DEDUCED, log 21] -/
def execHeadEnable (t : Time) (r : SessRec) (heads : BitVec 16) (s : State) : Host.Outcome State Fault Refusal :=
  s.run t fun s => s.service r (some .heads) fun s =>
    let s := s.updSession fun x => { x with heads := x.heads ||| heads.toNat }
    (s.eachHead fun h s => s.refreshHost h).answer true []

/-- Is a root programmed and not revoked? -/
def rootLive (f : Fuses) (i : Nat) : Bool := f.roots.getD i 0 != 0 && !bit f.revoked i

/-- Is a transition allowed (Table 20.8) to a session whose certificate's root has class `cls`? -/
def lcAllowed (f : Fuses) (cls target : Nat) : Bool :=
  match lcOf f, target with
  | 0, 1 => cls == 0
  | 1, 2 => cls == 0 && (rootLive f 2 || rootLive f 3)
  | 2, 3 => cls == 1
  | 1, 4 | 2, 4 | 3, 4 => classAllowed (lcOf f) cls
  | _, _ => false

/-- The fuses after a transition (R475, R483). -/
def lcFuses (f : Fuses) (target seedEd seedMl : Nat) : Fuses :=
  let lc := lcOf f
  match target with
  | 4 => { f with stages := f.stages.map fun x => if x = 0 then 7 else x, seedEd := 2 ^ 256 - 1, seedMl := 2 ^ 256 - 1 }
  | _ =>
    let f := { f with stages := f.stages.set (f.stages.findIdx (· == 0)) 7 }
    if lc = 0 then { f with seedEd := seedEd, seedMl := seedMl }
    else if lc = 2 then { f with revoked := f.revoked ||| 0xC }
    else f

/-- LC_CHANGE (R475, R483): the stages are programmed and the device enters RESET. [DEDUCED, log 122] -/
def execLcChange (t : Time) (r : SessRec) (target : BitVec 3) (seedEd seedMl : BitVec 256) (s : State) :
    Host.Outcome State Fault Refusal :=
  s.run t fun s => s.service r (some .lc) fun s =>
    if !lcAllowed s.boot.fuses (s.boot.session.root / 2) target.toNat then s.denied 2
    else if !s.fuseWindow then s.fuseRefused.denied 3
    else
      let s := s.setFuses fun f => lcFuses f target.toNat seedEd.toNat seedMl.toNat
      (((s.raise .lcChange noHead).answer true []).enterReset 4).tryBoot

/-- ROLLBACK_COMMIT (R471, R482). -/
def execRollbackCommit (t : Time) (r : SessRec) (s : State) : Host.Outcome State Fault Refusal :=
  s.run t fun s => s.service r (some .fuse) fun s =>
    if !s.dev.sealed then s.denied 2
    else
      let s := s.advanceRollback
      if s.rd R.SEC_STATUS.SEC_VER ≤ s.boot.fuses.rollback then s.answer true [] else s.denied 3

/-- ROOT_PROGRAM (R482): an unprogrammed owner root, only in PROVISION. [DEDUCED, log 122] -/
def execRootProgram (t : Time) (r : SessRec) (i : Fin 2) (hash : BitVec 384) (s : State) : Host.Outcome State Fault Refusal :=
  s.run t fun s => s.service r (some .fuse) fun s =>
    let k := 2 + i.val
    if lcOf s.boot.fuses ≠ 1 ∨ s.boot.fuses.roots.getD k 0 ≠ 0 then (s.raise .fuseRefused noHead).denied 2
    else if !s.fuseWindow then s.fuseRefused.denied 3
    else (s.setFuses fun f => { f with roots := f.roots.set k hash.toNat }).answer true []

/-- The class of root that a life-cycle state requires (R468); none in END. -/
def lcClass (lc : Nat) : Option Nat := if lc = 2 then some 1 else if lc < 4 then some 0 else none

/-- Would the fuses leave no accepted root of the class that a life-cycle state requires? -/
def bare (f : Fuses) (lc : Nat) : Bool :=
  match lcClass lc with
  | none => false
  | some c => !rootLive f (2 * c) && !rootLive f (2 * c + 1)

/-- ROOT_REVOKE (R482). [DEDUCED, log 122] -/
def execRootRevoke (t : Time) (r : SessRec) (i : Fin 4) (s : State) : Host.Outcome State Fault Refusal :=
  s.run t fun s => s.service r (some .fuse) fun s =>
    let f := s.boot.fuses
    let f' := { f with revoked := setBit f.revoked i }
    if s.boot.session.root = i.val ∨ bare f' (lcOf f) ∨ bare f' (lcOf f + 1) then (s.raise .fuseRefused noHead).denied 2
    else if !s.fuseWindow then s.fuseRefused.denied 3
    else (s.setFuses fun _ => f').answer true []

end Sys2Proof.Machine
end

