-- ==== Sys2Proof/Machine/Pins.lean ====
section
/-! DEFINITION. Received network frames (08_outputs.md, R227, R229, R231, R232, R234; R324, R417), and the pins
(23_pins_package.md, R502, R503, R511 to R513). -/

namespace Sys2Proof.Machine

/-! ### Received frames -/

/-- A received frame that no consumer takes is dropped and counted; the first after a quiet second is reported (R231,
R234). [DEDUCED, log 124] -/
def State.rxDrop (s : State) : State :=
  let quiet := match s.net.dropAt with
    | some a => decide (a + 1000000000 ≤ s.now)
    | none => true
  let s := (s.inc R.NET_CNT_RX_DROP.COUNT).updNet fun N => { N with dropAt := some s.now }
  s.when quiet fun s => s.raise .netRxDrop noHead

/-- Is a frame of the PRP node a copy of one that the duplicate table holds (R229)? -/
def State.prpSeen (s : State) (src seq : Nat) : Bool :=
  s.net.seen.any fun e => e.src == src && e.seq == seq && decide (s.now < e.at_ + 400000000)

/-- A frame enters the duplicate table: at most 256 entries of a source, none older than 400 ms (R229). -/
def State.prpNote (s : State) (src seq : Nat) : State :=
  let young := s.net.seen.filter fun e => decide (s.now < e.at_ + 400000000)
  let own := (young.filter fun e => e.src == src).take 255
  s.updNet fun N => { N with seen := ⟨src, seq, s.now⟩ :: own ++ young.filter fun e => e.src != src }

/-- The answer to an ARP request or a neighbour solicitation (R227, R231), for the shared address or for that of the node, of
which the spec gives no IP address: a free value. [PRESUMED, log 84] -/
def State.resolveAnswer (s : State) (p : Nat) (v6 shared : Bool) (src asker : Nat) : State :=
  let mac := if shared then s.srcMac else s.nodeMac
  let free := s.freeVal 64
  let ip := if shared then s.srcIp v6 else if v6 then be 16 free else be 4 (free % 2 ^ 32)
  let bs := if v6 then advertFrame (be 6 src) mac 0x60000000 ip (be 16 asker)
    else arpFrame (be 6 src) mac 2 ip (be 6 src) (be 4 (asker % 2 ^ 32))
  (s.enqueueRaw (if s.prpPort p then 0 else p) shared bs).drawn

/-- The enabled safety connection that a UDP port reaches (R322, R326). -/
def State.connOfPort (s : State) (port : Nat) : Option Nat :=
  (List.range 4).find? fun c => s.on (R.SAFE_CONN1.EN c) && s.rd (R.SAFE_CONN1.UDP_PORT c) == port

/-- A safety command message is queued with its stamp; at a full queue it is discarded and counted (R324). [DEDUCED, log 101] -/
def State.queueCommand (s : State) (c stamp : Nat) (data : List Byte) : State :=
  if 16 ≤ (s.conn c).queue.length then s.discard
  else s.updConn c fun x => { x with queue := x.queue ++ [(stamp, data)] }

/-- Does the IEEE 802.1AS instance of a port steer device time (R417)? -/
def State.steersTime (s : State) (p : Nat) : Bool :=
  s.on R.DOM_CFG.EN &&
    if s.domRole = domMaster then s.on R.CLK_CFG.GM_EN && s.rd R.CLK_CFG.GM_PORT == p
    else s.on R.DOM_STATUS.VIA_NET

/-- A message of IEEE 802.1AS (R232, R360, R417): a request for the peer delay is answered; an answer with its follow-up gives
the peer delay; a Sync starts a new exchange, and its follow-up gives the offset. [PRESUMED, log 159; DESIGN CHOICE, log 160] -/
def State.gptp (s : State) (p stamp : Nat) (m : PtpMsg) : State :=
  let x := SMap.get (fun _ => ({} : Ptp)) s.net.ptp p
  let at_ := stamp * 256
  match m with
  | .pdelayReq seq port => s.enqueuePtp p (.pdelayResp seq port (BitVec.ofNat 72 at_))
  | .pdelayResp seq _ t2 =>
    s.when (seq.toNat == x.seq) fun s => s.updPtp p fun x => { x with t2 := some t2.toNat, t4 := at_ }
  | .pdelayRespFollowUp seq _ t3 =>
    match x.t1, x.t2, decide (seq.toNat = x.seq) with
    | some t1, some t2, true =>
      let d := s.roundFree (((x.t4 : Int) - t1) - ((t3.toNat : Int) - t2)) 2
      s.drawn.updPtp p fun x => { x with delay := some d, t1 := none, t2 := none }
    | _, _, _ => s
  | .sync seq => (s.updPtp p fun x => { x with sync := some (seq.toNat, at_) }).peerDelay p
  | .followUp seq origin =>
    match x.sync, x.delay with
    | some (q, t2), some d =>
      let s := s.updPtp p fun x => { x with sync := none }
      s.when (q == seq.toNat && s.steersTime p) fun s =>
        s.offsetSample ((t2 : Int) - origin.toNat - d) (s.sampleInterval 125000000)
    | _, _ => s
  | .other => s

/-- A frame reaches its consumer, or is dropped (R231). Sessions and the domain protocol act by their own commands.
[DEDUCED, log 124, 139] -/
def State.deliver (s : State) (p : Nat) (x : NetRx) : State :=
  match x.payload with
  | .udp own port data =>
    match own, s.connOfPort port.toNat with
    | true, some c => s.queueCommand c x.stamp.toNat data
    | true, none =>
      if s.rd R.SEC_MAINT_CFG.UDP_PORT ≠ 0 ∧ s.rd R.SEC_MAINT_CFG.UDP_PORT = port.toNat ∧ s.rd R.SEC_MAINT_CFG.PORT = p then s
      else s.rxDrop
    | false, _ => s.rxDrop
  | .resolve v6 shared asker =>
    if shared && s.rd R.PAIR_STATUS.ROLE == roleShadow then s else s.resolveAnswer p v6 shared x.src.toNat asker.toNat
  | .gptp m => s.gptp p x.stamp.toNat m
  | .domain => if s.on R.DOM_CFG.EN then s else s.rxDrop
  | .supervision | .other => s.rxDrop

/-- A PRP frame or a supervision frame has come on a plane (R234). -/
def State.planeHeard (s : State) (p : Nat) (x : NetRx) : State :=
  if s.prpPort p && (x.rct.isSome || x.payload == .supervision) then
    (s.updNet fun N => { N with planeAt := SMap.set (fun _ => 0) N.planeAt p s.now }).condOff .netPrpPlane p
  else s

/-- NET_FRAME_RECEIVE (R229, R231, R234): a second copy under PRP is discarded. [DEDUCED, log 124, 139] -/
def execNetFrameReceive (t : Time) (p : Fin 4) (x : NetRx) (s : State) : Host.Outcome State Fault Refusal :=
  s.run t fun s =>
    if !s.on (R.NET_PORT.LINK p) || decide (s.devState < 2) || s.devState == devShutdown then s
    else
      let s := s.planeHeard p x
      match s.prpPort p, x.rct with
      | true, some seq =>
        if s.prpSeen x.src.toNat seq.toNat then s else (s.prpNote x.src.toNat seq.toNat).deliver p x
      | _, _ => s.deliver p x

/-! ### Pins (R511 to R513) -/

/-- What a pin shows. -/
inductive Pin where
  | low | high | released | idle | driven
deriving DecidableEq, Repr

/-- Are the outputs in their states of RESET, BOOT and SHUTDOWN (Table 23.8)? -/
def State.pinsHeld (s : State) : Bool := decide (s.devState < 2) || s.devState == devShutdown

/-- An output that is driven from seal on, and low before. -/
def State.drive (s : State) (v : Bool) : Pin := if !s.pinsHeld && v then .high else .low

/-- FIRE of head `h` (R71, R72). -/
def State.firePin (s : State) (h : Nat) : Pin := s.drive (s.now < (s.head h).fire.fireUntil)

/-- OSSD channel A or B of pair `m` (R304): high is on. In a test the channel is low. -/
def State.ossdPin (s : State) (m : Nat) (b : Bool) : Pin :=
  s.drive (s.bitOf (if b then R.SAFE_OSSD_STATUS.ON_B else R.SAFE_OSSD_STATUS.ON_A) m &&
    !bit s.safe.testing (if b then m + 4 else m))

/-- CHAIN_TX of head `h` (R87, R88): the level of the frame that was sent last, cell by cell of 20 ns. -/
def State.chainTxPin (s : State) (h : Nat) : Pin :=
  let c := (s.head h).chain
  s.drive (match c.flight with
    | some f => chainLevel c.sent ((s.now - f.sentAt) * 10)
    | none => false)

/-- TP_k (R308): high from seal on but for its low pulse. -/
def State.tpPin (s : State) (k : Nat) : Pin := s.drive (s.dev.sealed && decide (1000 * s.rd R.SAFE_TP_CFG.TPW ≤ s.tpOffset k))

/-- TOKEN_OUT_A, TOKEN_OUT_B (R330, Table 13.1). -/
def State.tokenOutPin (s : State) (b : Bool) : Pin := s.drive (bit (s.rd R.PAIR_STATUS.TOKEN_OUT) (if b then 0 else 1))

/-- TRIG_OUT (R249). -/
def State.trigOutPin (s : State) (i : Nat) : Pin := s.drive (s.trigOutHigh i)

/-- EVENT_N (R501): asserted, low, while the latch is set. -/
def State.eventN (s : State) : Pin := if s.dev.eventLatch && !s.pinsHeld then .low else .released

/-- THERM_TRIP_N: asserted in SHUTDOWN and during the hold of R442 (Table 23.8). -/
def State.thermTripN (s : State) : Pin := if s.devState == devShutdown || s.on R.THM_TRIP.HOLD then .low else .released

/-- A lane transmitter: electrical idle before seal (R401). -/
def State.laneTxPin (s : State) : Pin := if s.pinsHeld then .idle else .driven

/-- Does the test port respond: only in life-cycle state TEST (R513)? -/
def State.testPort (s : State) : Bool := s.rd R.SEC_STATUS.LC == 0

/-! ### Ball grid (R502, R503) -/

/-- The letters of rows. -/
def rowLetters : List Char := "ABCDEFGHJKLMNPTUVWY".toList

/-- The name of a row index, 0 to 73 (R502). -/
def rowName (r : Nat) : List Char :=
  let l := rowLetters.getD (r % 19) 'A'
  match r / 19 with
  | 0 => [l]
  | 1 => ['A', l]
  | 2 => ['B', l]
  | _ => ['C', l]

/-- Row index and column of RI_P[n]; RI_N[n] is in the next column (R503). -/
def riBall (n : Nat) : Nat × Nat :=
  let g := n / 16
  let j := n % 16
  (if g < 48 then g / 2 else 50 + (g - 48) / 2, 9 * (4 * (g % 2) + j / 4) + 2 + 2 * (j % 4))

/-- Row index and column of TX_P of lane `l` = 4 q + l; TX_N, RX_P and RX_N follow (R503). -/
def laneBall (l : Nat) : Nat × Nat :=
  if l < 72 then (25 + l / 3, 4 * (l % 3) + 1) else (25 + (l - 72) / 3, 63 + 4 * ((l - 72) % 3))

/-- Row index and column of the k-th signal of Table 23.2 (R503). -/
def signalBall (k : Nat) : Nat × Nat := (24 + k / 50, 13 + k % 50)

end Sys2Proof.Machine
end

