-- ==== Sys2Proof/Machine/Dispatch.lean ====
section
/-! DEFINITION. What each command does: one arm for each row of the table of operations and events. -/

namespace Sys2Proof.Machine

def exec (i : Instr) (s : State) : Host.Outcome State Fault Refusal :=
  match i with
  | .porstNAssert t => Sys2Proof.Machine.execPorstNAssert t s
  | .porstNRelease t => Sys2Proof.Machine.execPorstNRelease t s
  | .suppliesGood t => Sys2Proof.Machine.execSuppliesGood t s
  | .railOutOfTolerance t rail => Sys2Proof.Machine.execRailOutOfTolerance t rail s
  | .watchdogExpiry t => Sys2Proof.Machine.execWatchdogExpiry t s
  | .degHoldExpiry t code => Sys2Proof.Machine.execDegHoldExpiry t code s
  | .eventLatchClear t v => Sys2Proof.Machine.execEventLatchClear t v s
  | .slowInputClamp t ix on => Sys2Proof.Machine.execSlowInputClamp t ix on s
  | .headStart t ix h => Sys2Proof.Machine.execHeadStart t ix h s
  | .headPark t h => Sys2Proof.Machine.execHeadPark t h s
  | .headRestart t h => Sys2Proof.Machine.execHeadRestart t h s
  | .hostInhibitWrite t h v => Sys2Proof.Machine.execHostInhibitWrite t h v s
  | .autoStart t h => Sys2Proof.Machine.execAutoStart t h s
  | .frameStart t h => Sys2Proof.Machine.execFrameStart t h s
  | .movePhaseStart t h => Sys2Proof.Machine.execMovePhaseStart t h s
  | .descriptorPrefetchArrival t h d uncorr => Sys2Proof.Machine.execDescriptorPrefetchArrival t h d uncorr s
  | .settleTimeout t h => Sys2Proof.Machine.execSettleTimeout t h s
  | .dwellOpen t h => Sys2Proof.Machine.execDwellOpen t h s
  | .dwellClose t h => Sys2Proof.Machine.execDwellClose t h s
  | .flybackStart t h => Sys2Proof.Machine.execFlybackStart t h s
  | .scanLoadStore t ix h v => Sys2Proof.Machine.execScanLoadStore t ix h v s
  | .commitRequest t h slot => Sys2Proof.Machine.execCommitRequest t h slot s
  | .commitCancel t h => Sys2Proof.Machine.execCommitCancel t h s
  | .commitCheckComplete t h => Sys2Proof.Machine.execCommitCheckComplete t h s
  | .forwardedWrite t p rx f => Sys2Proof.Machine.execForwardedWrite t p rx f s
  | .chainLoad t h => Sys2Proof.Machine.execChainLoad t h s
  | .chainPatternSend t h => Sys2Proof.Machine.execChainPatternSend t h s
  | .chainSwapSend t h => Sys2Proof.Machine.execChainSwapSend t h s
  | .chainFrameReturn t h r => Sys2Proof.Machine.execChainFrameReturn t h r s
  | .chainFrameTimeout t h => Sys2Proof.Machine.execChainFrameTimeout t h s
  | .proofStep t h => Sys2Proof.Machine.execProofStep t h s
  | .proofLate t h => Sys2Proof.Machine.execProofLate t h s
  | .fireStrobeLaunch t h k => Sys2Proof.Machine.execFireStrobeLaunch t h k s
  | .echoEdge t h tapsA tapsB => Sys2Proof.Machine.execEchoEdge t h tapsA tapsB s
  | .echoWindowExpiry t h k => Sys2Proof.Machine.execEchoWindowExpiry t h k s
  | .clrEcho t h => Sys2Proof.Machine.execClrEcho t h s
  | .returnEdge t n back tapsA tapsB gate => Sys2Proof.Machine.execReturnEdge t n back tapsA tapsB gate s
  | .saturationDetect t n => Sys2Proof.Machine.execSaturationDetect t n s
  | .saturationEnd t n => Sys2Proof.Machine.execSaturationEnd t n s
  | .randomHitInject t ix tapsA tapsB => Sys2Proof.Machine.execRandomHitInject t ix tapsA tapsB s
  | .calEpochClose t ix => Sys2Proof.Machine.execCalEpochClose t ix s
  | .calSelectionApply t ix => Sys2Proof.Machine.execCalSelectionApply t ix s
  | .calStaleExpiry t ix => Sys2Proof.Machine.execCalStaleExpiry t ix s
  | .calRestore t ix index => Sys2Proof.Machine.execCalRestore t ix index s
  | .vernierCalComplete t h y0 y1 y2 y3 y4 => Sys2Proof.Machine.execVernierCalComplete t h y0 y1 y2 y3 y4 s
  | .coincDecision t g j => Sys2Proof.Machine.execCoincDecision t g j s
  | .hypothesisEntry t g => Sys2Proof.Machine.execHypothesisEntry t g s
  | .bufferComplete t h g => Sys2Proof.Machine.execBufferComplete t h g s
  | .evaluatorRun t h g corr bad => Sys2Proof.Machine.execEvaluatorRun t h g corr bad s
  | .fieldLineArrival t h n bid fab a b => Sys2Proof.Machine.execFieldLineArrival t h n bid fab a b s
  | .recordMove t h g => Sys2Proof.Machine.execRecordMove t h g s
  | .recordDropDeadline t h g => Sys2Proof.Machine.execRecordDropDeadline t h g s
  | .bearingStageArrival t n uncorr => Sys2Proof.Machine.execBearingStageArrival t n uncorr s
  | .bearingMerge t g corr bad => Sys2Proof.Machine.execBearingMerge t g corr bad s
  | .writeBackComplete t n => Sys2Proof.Machine.execWriteBackComplete t n s
  | .tachEdge t b taps => Sys2Proof.Machine.execTachEdge t b taps s
  | .tachGateEnd t => Sys2Proof.Machine.execTachGateEnd t s
  | .speedValidTimer t => Sys2Proof.Machine.execSpeedValidTimer t s
  | .pointFormat t h => Sys2Proof.Machine.execPointFormat t h s
  | .pointFrameFlush t str h => Sys2Proof.Machine.execPointFrameFlush t str h s
  | .geometryRepeat t str => Sys2Proof.Machine.execGeometryRepeat t str s
  | .alarmFieldStatus t h => Sys2Proof.Machine.execAlarmFieldStatus t h s
  | .eventFrameQueue t => Sys2Proof.Machine.execEventFrameQueue t s
  | .statusFrame t => Sys2Proof.Machine.execStatusFrame t s
  | .streamDisable t str => Sys2Proof.Machine.execStreamDisable t str s
  | .frameTransmit t p q => Sys2Proof.Machine.execFrameTransmit t p q s
  | .prpSupervision t => Sys2Proof.Machine.execPrpSupervision t s
  | .netPrpPlane t p => Sys2Proof.Machine.execNetPrpPlane t p s
  | .netLinkDown t p => Sys2Proof.Machine.execNetLinkDown t p s
  | .netLinkUp t p => Sys2Proof.Machine.execNetLinkUp t p s
  | .captureStatusTick t => Sys2Proof.Machine.execCaptureStatusTick t s
  | .captureFrameClose t k => Sys2Proof.Machine.execCaptureFrameClose t k s
  | .trigInEdge t idx fall taps => Sys2Proof.Machine.execTrigInEdge t idx fall taps s
  | .sequencerOccurrence t q => Sys2Proof.Machine.execSequencerOccurrence t q s
  | .sequencerTimerExpiry t q => Sys2Proof.Machine.execSequencerTimerExpiry t q s
  | .trigOutPulseEnd t idx => Sys2Proof.Machine.execTrigOutPulseEnd t idx s
  | .rearmEnd t q => Sys2Proof.Machine.execRearmEnd t q s
  | .sequencerForce t q => Sys2Proof.Machine.execSequencerForce t q s
  | .sequencerRestart t q => Sys2Proof.Machine.execSequencerRestart t q s
  | .slotArm t ix => Sys2Proof.Machine.execSlotArm t ix s
  | .slotRelease t ix => Sys2Proof.Machine.execSlotRelease t ix s
  | .slotFull t ix => Sys2Proof.Machine.execSlotFull t ix s
  | .servoSample t h doneX doneY => Sys2Proof.Machine.execServoSample t h doneX doneY s
  | .servoOverrun t h y => Sys2Proof.Machine.execServoOverrun t h y s
  | .feedbackLost t h y => Sys2Proof.Machine.execFeedbackLost t h y s
  | .faultParkHoldEnd t h => Sys2Proof.Machine.execFaultParkHoldEnd t h s
  | .parkTimeout t h => Sys2Proof.Machine.execParkTimeout t h s
  | .servoOffsetCalPhaseEnd t h => Sys2Proof.Machine.execServoOffsetCalPhaseEnd t h s
  | .excitationLevelWrite t ix h level => Sys2Proof.Machine.execExcitationLevelWrite t ix h level s
  | .excitationHoldEnd t h => Sys2Proof.Machine.execExcitationHoldEnd t h s
  | .coefBankWrite t h a k ix v => Sys2Proof.Machine.execCoefBankWrite t h a k ix v s
  | .sdBlockReceive t h seq rx ctr x y => Sys2Proof.Machine.execSdBlockReceive t h seq rx ctr x y s
  | .hkUpReceive t h rx values => Sys2Proof.Machine.execHkUpReceive t h rx values s
  | .mgmtUpReceive t h rx status data tag => Sys2Proof.Machine.execMgmtUpReceive t h rx status data tag s
  | .energyMonitorSample t h shot code ecc => Sys2Proof.Machine.execEnergyMonitorSample t h shot code ecc s
  | .eyeBucketAdvance t h w ecc => Sys2Proof.Machine.execEyeBucketAdvance t h w ecc s
  | .eyeLatchClear t h => Sys2Proof.Machine.execEyeLatchClear t h s
  | .zeroCalComplete t h codes => Sys2Proof.Machine.execZeroCalComplete t h codes s
  | .safetyDecision t h slow differ => Sys2Proof.Machine.execSafetyDecision t h slow differ s
  | .decisionDeadline t h a b => Sys2Proof.Machine.execDecisionDeadline t h a b s
  | .safetyTick t v => Sys2Proof.Machine.execSafetyTick t v s
  | .safeClockCheck t b dev => Sys2Proof.Machine.execSafeClockCheck t b dev s
  | .dtAdvanceTimeout t b => Sys2Proof.Machine.execDtAdvanceTimeout t b s
  | .inputFilterChange t c level => Sys2Proof.Machine.execInputFilterChange t c level s
  | .testPulse t k => Sys2Proof.Machine.execTestPulse t k s
  | .discrepancyTimeout t n => Sys2Proof.Machine.execDiscrepancyTimeout t n s
  | .fieldCodeHold t => Sys2Proof.Machine.execFieldCodeHold t s
  | .resetAccept t same => Sys2Proof.Machine.execResetAccept t same s
  | .rstStuck t c => Sys2Proof.Machine.execRstStuck t c s
  | .ossdOnDelayExpiry t m => Sys2Proof.Machine.execOssdOnDelayExpiry t m s
  | .headStale t h => Sys2Proof.Machine.execHeadStale t h s
  | .ossdTestStart t m b => Sys2Proof.Machine.execOssdTestStart t m b s
  | .ossdTestEnd t m b => Sys2Proof.Machine.execOssdTestEnd t m b s
  | .cmdNop t c stamp seq arg0 arg1 both => Sys2Proof.Machine.execCmdNop t c stamp seq arg0 arg1 both s
  | .cmdFieldSelect t c stamp seq arg0 arg1 both => Sys2Proof.Machine.execCmdFieldSelect t c stamp seq arg0 arg1 both s
  | .cmdOverride t c stamp seq arg0 arg1 both => Sys2Proof.Machine.execCmdOverride t c stamp seq arg0 arg1 both s
  | .cmdSpeedPlaus t c stamp seq arg0 arg1 both => Sys2Proof.Machine.execCmdSpeedPlaus t c stamp seq arg0 arg1 both s
  | .connTimeout t c => Sys2Proof.Machine.execConnTimeout t c s
  | .heartbeatSend t => Sys2Proof.Machine.execHeartbeatSend t s
  | .heartbeatReceive t p rx hb join => Sys2Proof.Machine.execHeartbeatReceive t p rx hb join s
  | .heartbeatLost t => Sys2Proof.Machine.execHeartbeatLost t s
  | .pairJoinTimeout t => Sys2Proof.Machine.execPairJoinTimeout t s
  | .tokenClaim t => Sys2Proof.Machine.execTokenClaim t s
  | .tokenInhibitClear t => Sys2Proof.Machine.execTokenInhibitClear t s
  | .tokenInChange t a b => Sys2Proof.Machine.execTokenInChange t a b s
  | .tokenRetry t => Sys2Proof.Machine.execTokenRetry t s
  | .holderHbSilence t b => Sys2Proof.Machine.execHolderHbSilence t b s
  | .pairHandover t ix => Sys2Proof.Machine.execPairHandover t ix s
  | .pairRejoin t => Sys2Proof.Machine.execPairRejoin t s
  | .digestReceive t p rx d => Sys2Proof.Machine.execDigestReceive t p rx d s
  | .digestTimeout t h => Sys2Proof.Machine.execDigestTimeout t h s
  | .catchupRecord t p rx bid record => Sys2Proof.Machine.execCatchupRecord t p rx bid record s
  | .beaconSend t => Sys2Proof.Machine.execBeaconSend t s
  | .beaconReceive t via hdr master gen members => Sys2Proof.Machine.execBeaconReceive t via hdr master gen members s
  | .beaconTimeout t => Sys2Proof.Machine.execBeaconTimeout t s
  | .markerSend t c fine => Sys2Proof.Machine.execMarkerSend t c fine s
  | .markerReceive t c rx hdr fine turn phase => Sys2Proof.Machine.execMarkerReceive t c rx hdr fine turn phase s
  | .markerFuReceive t c rx hdr t1 t4 => Sys2Proof.Machine.execMarkerFuReceive t c rx hdr t1 t4 s
  | .joinSend t => Sys2Proof.Machine.execJoinSend t s
  | .joinReceive t via hdr pref depth heads => Sys2Proof.Machine.execJoinReceive t via hdr pref depth heads s
  | .admitReceive t via hdr serial a => Sys2Proof.Machine.execAdmitReceive t via hdr serial a s
  | .rollSend t => Sys2Proof.Machine.execRollSend t s
  | .rollReceive t via hdr => Sys2Proof.Machine.execRollReceive t via hdr s
  | .rollAnsReceive t via hdr did serial role depth heads => Sys2Proof.Machine.execRollAnsReceive t via hdr did serial role depth heads s
  | .planReceive t via hdr gen eff entries => Sys2Proof.Machine.execPlanReceive t via hdr gen eff entries s
  | .tableReceive t via hdr op => Sys2Proof.Machine.execTableReceive t via hdr op s
  | .noticeReceive t via hdr owner n => Sys2Proof.Machine.execNoticeReceive t via hdr owner n s
  | .noticeDeadline t h => Sys2Proof.Machine.execNoticeDeadline t h s
  | .syncReqReceive t via hdr at_ => Sys2Proof.Machine.execSyncReqReceive t via hdr at_ s
  | .dividerReset t => Sys2Proof.Machine.execDividerReset t s
  | .syncInEdge t => Sys2Proof.Machine.execSyncInEdge t s
  | .didReservationExpiry t did => Sys2Proof.Machine.execDidReservationExpiry t did s
  | .holdoverLong t => Sys2Proof.Machine.execHoldoverLong t s
  | .holdAlignExpiry t => Sys2Proof.Machine.execHoldAlignExpiry t s
  | .memRequestIssue t r => Sys2Proof.Machine.execMemRequestIssue t r s
  | .memReadComplete t p addr sev other => Sys2Proof.Machine.execMemReadComplete t p addr sev other s
  | .retrainPause t pc res => Sys2Proof.Machine.execRetrainPause t pc res s
  | .selfRefreshEntry t c => Sys2Proof.Machine.execSelfRefreshEntry t c s
  | .rateChangeRequest t ix slow => Sys2Proof.Machine.execRateChangeRequest t ix slow s
  | .stackRateChange t st => Sys2Proof.Machine.execStackRateChange t st s
  | .scrubUnit t sev written => Sys2Proof.Machine.execScrubUnit t sev written s
  | .wipeComplete t => Sys2Proof.Machine.execWipeComplete t s
  | .hbmPllLossOfLock t st => Sys2Proof.Machine.execHbmPllLossOfLock t st s
  | .laneTrainTimeout t q l => Sys2Proof.Machine.execLaneTrainTimeout t q l s
  | .codewordLock t q l pos => Sys2Proof.Machine.execCodewordLock t q l pos s
  | .laneFailure t q l c => Sys2Proof.Machine.execLaneFailure t q l c s
  | .linkReportSend t p => Sys2Proof.Machine.execLinkReportSend t p s
  | .linkReportReceive t p good rxOk => Sys2Proof.Machine.execLinkReportReceive t p good rxOk s
  | .transmitSetApply t p => Sys2Proof.Machine.execTransmitSetApply t p s
  | .headlinkFault t h => Sys2Proof.Machine.execHeadlinkFault t h s
  | .laneReadd t q l => Sys2Proof.Machine.execLaneReadd t q l s
  | .laneReaddWrite t ix q lanes => Sys2Proof.Machine.execLaneReaddWrite t ix q lanes s
  | .refclkLoss t => Sys2Proof.Machine.execRefclkLoss t s
  | .refclkGood t => Sys2Proof.Machine.execRefclkGood t s
  | .timingPllLossOfLock t => Sys2Proof.Machine.execTimingPllLossOfLock t s
  | .timingPllRelock t => Sys2Proof.Machine.execTimingPllRelock t s
  | .logicPllLossOfLock t => Sys2Proof.Machine.execLogicPllLossOfLock t s
  | .logicPllRelock t => Sys2Proof.Machine.execLogicPllRelock t s
  | .laneRefLoss t ix => Sys2Proof.Machine.execLaneRefLoss t ix s
  | .laneRefReturn t ix => Sys2Proof.Machine.execLaneRefReturn t ix s
  | .timingPllBypass t ix on => Sys2Proof.Machine.execTimingPllBypass t ix on s
  | .logicPllBypass t ix on => Sys2Proof.Machine.execLogicPllBypass t ix on s
  | .stewardStep t => Sys2Proof.Machine.execStewardStep t s
  | .thermalRound t readings hbm0 hbm1 => Sys2Proof.Machine.execThermalRound t readings hbm0 hbm1 s
  | .thermalShutdown t => Sys2Proof.Machine.execThermalShutdown t s
  | .thermalHoldRelease t => Sys2Proof.Machine.execThermalHoldRelease t s
  | .headTempTimeout t h => Sys2Proof.Machine.execHeadTempTimeout t h s
  | .hkConversionComplete t v ref swing compl => Sys2Proof.Machine.execHkConversionComplete t v ref swing compl s
  | .hkUrgentRequest t ix e => Sys2Proof.Machine.execHkUrgentRequest t ix e s
  | .hkSingleStart t ix => Sys2Proof.Machine.execHkSingleStart t ix s
  | .hkCalibrate t ix codes => Sys2Proof.Machine.execHkCalibrate t ix codes s
  | .hkModeWrite t ix seq => Sys2Proof.Machine.execHkModeWrite t ix seq s
  | .hkClampConduct t n => Sys2Proof.Machine.execHkClampConduct t n s
  | .fuseLoadComplete t factory a b => Sys2Proof.Machine.execFuseLoadComplete t factory a b s
  | .hbmTrainingComplete t fast slow => Sys2Proof.Machine.execHbmTrainingComplete t fast slow s
  | .slotReadComplete t r => Sys2Proof.Machine.execSlotReadComplete t r s
  | .seal t => Sys2Proof.Machine.execSeal t s
  | .rollbackAutoCommit t => Sys2Proof.Machine.execRollbackAutoCommit t s
  | .attestRequest t ix => Sys2Proof.Machine.execAttestRequest t ix s
  | .attestComplete t x => Sys2Proof.Machine.execAttestComplete t x s
  | .helloReceive t p c => Sys2Proof.Machine.execHelloReceive t p c s
  | .authReceive t good => Sys2Proof.Machine.execAuthReceive t good s
  | .regRead t r addr count => Sys2Proof.Machine.execRegRead t r addr count s
  | .regWrite t r addr words => Sys2Proof.Machine.execRegWrite t r addr words s
  | .snapRead t r ix gen first count => Sys2Proof.Machine.execSnapRead t r ix gen first count s
  | .attest t r x => Sys2Proof.Machine.execAttest t r x s
  | .flashErase t r addr => Sys2Proof.Machine.execFlashErase t r addr s
  | .flashWrite t r addr data good => Sys2Proof.Machine.execFlashWrite t r addr data good s
  | .flashRead t r addr n => Sys2Proof.Machine.execFlashRead t r addr n s
  | .headEnable t r heads => Sys2Proof.Machine.execHeadEnable t r heads s
  | .lcChange t r target seedEd seedMl => Sys2Proof.Machine.execLcChange t r target seedEd seedMl s
  | .rollbackCommit t r => Sys2Proof.Machine.execRollbackCommit t r s
  | .rootProgram t r ix hash => Sys2Proof.Machine.execRootProgram t r ix hash s
  | .rootRevoke t r ix => Sys2Proof.Machine.execRootRevoke t r ix s
  | .close t r => Sys2Proof.Machine.execClose t r s
  | .sessionLost t => Sys2Proof.Machine.execSessionLost t s
  | .sessionExpiry t => Sys2Proof.Machine.execSessionExpiry t s
  | .hostRegisterWrite t ix addr v => Sys2Proof.Machine.execHostRegisterWrite t ix addr v s
  | .mspiRead t addr lenM1 waits => Sys2Proof.Machine.execMspiRead t addr lenM1 waits s
  | .mspiWrite t addr lenM1 words crc => Sys2Proof.Machine.execMspiWrite t addr lenM1 words crc s
  | .mspiStatus t => Sys2Proof.Machine.execMspiStatus t s
  | .mspiAbort t => Sys2Proof.Machine.execMspiAbort t s
  | .netFrameReceive t p x => Sys2Proof.Machine.execNetFrameReceive t p x s

end Sys2Proof.Machine
end

