-- ==== Sys2Proof/Machine/Step.lean ====
section
/-! DEFINITION. The step of the block: the command at the front of the queue, or one tick of the timing clock. -/

namespace Sys2Proof.Machine

/-- An edge of the timing clock with no command waiting: DT advances by 1 ns (R4, R416). [DESIGN CHOICE, log 6] -/
def State.tick (s : State) : State := { s with dt := s.dt + 1 }

/-- One step: the command at the front of the queue has its effect on everything but the queue's rest; with an empty queue
the timing clock ticks. [DESIGN CHOICE, log 1, 6] -/
def step (s : State) : Host.Outcome State Fault Refusal :=
  match s.pending with
  | [] => .next s.tick
  | c :: rest => exec c { s with pending := rest }

/-- Put the command that a word spells in front of the queue; the table gives no row any bits, so no word spells one.
[DESIGN CHOICE, log 7] -/
def State.withFetchWord (s : State) (nbits w : Nat) : State :=
  match decodeTableWord nbits w with
  | some c => { s with pending := c :: s.pending }
  | none => s

end Sys2Proof.Machine
end

