-- ==== Sys2Proof/Safety.lean ====
section
/-! DEFINITION. What a safe state of the block is, in the terms the statements use: the memories keep their canonical form,
and the outputs of the safety islands and the heads stand as the spec says in every device state; and which registers the operations
that many commands share may change. -/

namespace Sys2Proof.Machine

/-- The registers, the HBM and the boot flash are in canonical form. -/
def State.wf (s : State) : Bool :=
  SMap.wf resetWord s.regs && SMap.wf hbmDefault s.hbm && SMap.wf flashDefault s.boot.flash

/-- No OSSD channel is on, and none is low only for its test, outside RUN and DEGRADED (R304, Table 1.4). -/
def State.ossdSafe (s : State) : Bool :=
  s.running || (s.safe.testing % 256 == 0 && (List.range 4).all fun m => !s.ossdOn m)

/-- Every head is OFF in RESET, BOOT and SHUTDOWN (R28, Table 1.4). -/
def State.headsSafe (s : State) : Bool :=
  (s.devState != devReset && s.devState != devBoot && s.devState != devShutdown) ||
    (List.range 16).all fun h => s.headState h == hsOff

/-! ### Footprints of shared operations -/

/-- The registers of a head that its inhibits and its state are shown in. -/
def gateRegs (h : Nat) : List Nat := [R.FIRE_INHIBIT.addr h, R.FIRE_INHIBIT_LATCH.addr h, R.HEAD_STATE.addr h]

/-- The registers that record an access error (R496). -/
def errorRegs : List Nat := [R.DEV_ACC_CNT.addr, R.DEV_ACC_ADDR.addr, R.DEV_ACC_INFO.addr]

/-- Registers that an event may change with its reaction (R25, R29, R221, R304, R344, R489): the event log, the device state and its
causes, the OSSD status, the status of the pair, and the TOKEN inhibit of the heads. -/
def eventWrites (a : Nat) : Prop :=
  a ∈ [R.DEV_STATE.addr, R.DEV_STATE_DT_LO.addr, R.DEV_STATE_DT_HI.addr, R.DEV_CAUSE.addr, R.EVT_WR.addr, R.SAFE_OSSD_STATUS.addr,
      R.PAIR_STATUS.addr] ∨ (∃ w, a = R.EVENT_LOG.addr w) ∨ ∃ h, a ∈ gateRegs h

/-- The counters of corrected and uncorrectable codewords of the lanes that a frame came over (R398). -/
def linkWrites (a : Nat) : Prop := ∃ q l, a = R.LANE_CNT_CORR.addr q l ∨ a = R.LANE_CNT_UNCORR.addr q l

end Sys2Proof.Machine
end

