-- ==== Sys2Proof/WellFormed.lean ====
section
/-! DEFINITION. Which commands are well formed: lists have the lengths that the tables of the spec give, and a memory request
lies within one granule. Everything else an operand's type already bounds. -/

namespace Sys2Proof

/-- A program of an image: whole descriptors of 16 words (Table 2.1). -/
def ProgImage.wf (p : ProgImage) : Bool := p.descs.all fun d => d.length == 16

/-- An image: descriptors of 16 words, lines of 8 field entries (R174), 37 slew codes (R505). -/
def Image.wf (i : Image) : Bool :=
  i.programs.all ProgImage.wf && i.fields.all (fun x => x.2.length == 8) && i.pads.length == 37

/-- Fuses: four roots and four stages of three copies (Table 20.4). -/
def Fuses.wf (f : Fuses) : Bool :=
  f.roots.length == 4 && f.roots.all (fun r => decide (r < 2 ^ 384)) && f.stages.length == 4 &&
    f.stages.all (fun x => decide (x < 8)) && decide (f.revoked < 16) && decide (f.rollback < 256)

/-- A heartbeat: 16 heads and 16 streams (Table 13.2). -/
def Heartbeat.wf (h : Heartbeat) : Bool := h.heads.length == 16 && h.streamSeq.length == 16

/-- A memory request lies within one granule of 256 bytes, and a write carries its bytes (R376, R382). -/
def MemReq.wf (r : MemReq) : Bool :=
  decide (1 ≤ r.len.toNat) && decide (r.addr.toNat % 256 + r.len.toNat ≤ 256) && (!r.write || r.data.length == r.len.toNat)

/-- What Electrum's units form: a SHA-384 and the two signatures (Table 20.6). -/
def Signed.wf (x : Signed) : Bool := x.fuseDigest.length == 48 && x.ed.length == 64 && x.ml.length == 3309

/-- What a forwarded write carries: a descriptor has 16 words. -/
def Forwarded.wf : Forwarded → Bool
  | .descriptor _ _ _ words => words.length == 16
  | _ => true

/-- Is a command well formed? -/
def Instr.wf : Instr → Bool
  | .thermalRound _ readings _ _ => readings.length == 48
  | .zeroCalComplete _ _ codes => codes.length == 256
  | .hkCalibrate _ _ codes => codes.length == 8
  | .heartbeatReceive _ _ _ hb _ => hb.wf
  | .forwardedWrite _ _ _ f => f.wf
  | .catchupRecord _ _ _ _ record => record.length == 4096
  | .hbmTrainingComplete _ fast slow => fast.length == 64 && slow.length == 64
  | .hkUpReceive _ _ _ values => values.length == 6
  | .memRequestIssue _ r => r.wf
  | .fuseLoadComplete _ factory _ _ => factory.wf
  | .slotReadComplete _ r => r.image.wf
  | .attestComplete _ x | .attest _ _ x => x.wf
  | .mspiWrite _ _ _ words _ => decide (words.length ≤ 256)
  | _ => true

end Sys2Proof
end

