-- ==== Sys2Proof/Certificates/Slice0/Obligations.lean ====
section
/-! DEFINITION. The statements about the model, for the provers. Each is a proposition; its docstring names the rules of
spec/ that it formalises. A statement that a command answers a next state says what that state holds by the rules, in
terms of the state the command finds; it says so for every state that meets its hypotheses. -/

open Sys2Proof Sys2Proof.Machine

/-- The command `c` in state `s` answers a next state of which `P` holds. -/
abbrev Answers (c : Instr) (s : State) (P : State → Prop) : Prop := ∃ u, exec c s = .next u ∧ P u

/-- A counter field that wraps has advanced by one (R487). -/
abbrev Advanced (s u : State) (f : FRef) : Prop := u.rd f = (s.rd f + 1) % 2 ^ f.width

/-- Event `e` of a head (or 0xFF) is the next record of the event log (R489, R221): word 0 holds code, class and head, words 2
and 3 the DT of the command. -/
abbrev Logged (s u : State) (e : Event) (head : Nat) : Prop :=
  let i := s.rd R.EVT_WR.WR % 4096
  u.rd R.EVT_WR.WR = (s.rd R.EVT_WR.WR + 1) % 2 ^ 32 ∧
    u.word (R.EVENT_LOG.addr (4 * i)) = e.code + 0x10000 * e.cls + 0x1000000 * head ∧
    u.word (R.EVENT_LOG.addr (4 * i + 2)) + 2 ^ 32 * u.word (R.EVENT_LOG.addr (4 * i + 3)) = u.now


/-- Event `e` of a head (or 0xFF) is the first record that the command logs (R489); events that follow from it may be logged
after it. -/
abbrev Recorded (s u : State) (e : Event) (head : Nat) : Prop :=
  let i := s.rd R.EVT_WR.WR % 4096
  u.word (R.EVENT_LOG.addr (4 * i)) = e.code + 0x10000 * e.cls + 0x1000000 * head ∧
    u.word (R.EVENT_LOG.addr (4 * i + 2)) + 2 ^ 32 * u.word (R.EVENT_LOG.addr (4 * i + 3)) = u.now

/-! ### Heads, frames and dwells (01, 02) -/

/-- The host's commands of a head (R31, R32, R35, R58): START takes a PARKED head whose calibrations have ended and whose
permissions are given to SCANNING, and so does an armed start; PARK disarms the head, and acts at dwell close in the dwell
phase, else at once (a fault park that runs goes on: log 166); RESTART takes a head in FAULT, whose cause is gone, to PARKED; HOST_INHIBIT drives FIRE_INHIBIT.HOST. -/
def Obligations.HeadCommandsComplete : Prop :=
  ∀ (s : State) (t : Time) (i : Iface) (h : HeadIx) (v : Bool),
    (s.headState h = hsParked → s.calibrating h = false → s.blocked h = false → (s.upTo t).servoCause h = 0 →
      Answers (.headStart t i h) s fun u =>
        u.headState h = hsScanning ∧ (u.head h).scan.nextDwell = 0 ∧ (u.head h).scan.inFrame = false) ∧
    ((s.head h).scan.armed = true → s.headState h = hsParked → s.running = true → s.blocked h = false →
        (s.upTo t).servoCause h = 0 →
      Answers (.autoStart t h) s fun u =>
        u.headState h = hsScanning ∧ (u.head h).scan.nextDwell = 0 ∧ (u.head h).scan.inFrame = false) ∧
    (s.scanning h = true → (s.head h).scan.parking = false →
      Answers (.headPark t h) s fun u =>
        (u.head h).scan.armed = false ∧
          (s.rd (R.SCAN_POS.PHASE h) = 3 → (u.head h).scan.parkPend = true ∧ u.headState h = s.headState h) ∧
          (s.rd (R.SCAN_POS.PHASE h) ≠ 3 → u.rd (R.SCAN_POS.PHASE h) = 0 ∧
            ((s.head h).servo.faultPark = false → (u.head h).scan.parking = true))) ∧
    (s.headState h = hsFault → s.faultPresent h = false →
      Answers (.headRestart t h) s fun u =>
        u.headState h = hsParked ∧ u.rd (R.HEAD_STATE.FAULT_CAUSE h) = 0 ∧ u.calibrating h = true) ∧
    (s.isHelper h = false → s.devState ≠ devMaint →
      Answers (.hostInhibitWrite t h v) s fun u =>
        u.on (R.HEAD_CTL.HOST_INHIBIT h) = v ∧ u.inh h .host = v ∧
          (v = true → s.headState h = hsScanning → u.headState h = hsInhibited))

/-- A frame and its dwells begin (R53, R57, R60): a frame start that is due advances SCAN_FRAME_NUM and stands before dwell 0; a
move phase at or after the end of the period before shows the next dwell and opens the fence at the last one; the flyback follows
the last dwell. -/
def Obligations.FrameCommandsComplete : Prop :=
  ∀ (s : State) (t : Time) (h : HeadIx),
    ((s.upTo t).frameDue h = true → bit s.pair.adopt h = false →
      Answers (.frameStart t h) s fun u =>
        Advanced s u (R.SCAN_FRAME_NUM.FRAME h) ∧ u.rd (R.SCAN_POS.PHASE h) = 0 ∧ u.rd (R.SCAN_POS.DWELL h) = 0 ∧
          u.rd (R.SCAN_SLIP.SLIP h) = 0 ∧ (u.head h).scan.inFrame = true ∧ (u.head h).scan.start = (s.upTo t).now) ∧
    (s.scanning h = true → (s.head h).scan.inFrame = true → s.rd (R.SCAN_POS.PHASE h) = 0 →
        (s.head h).scan.nextDwell < s.progLen h (s.rd (R.SCAN_STATUS.ACTIVE_SLOT h)) → s.periodStart h ≤ (s.upTo t).now →
      Answers (.movePhaseStart t h) s fun u =>
        u.rd (R.SCAN_POS.PHASE h) = 1 ∧ u.rd (R.SCAN_POS.DWELL h) = (s.head h).scan.nextDwell ∧
          (u.head h).scan.nextDwell = (s.head h).scan.nextDwell + 1 ∧
          ((s.head h).scan.nextDwell + 1 = s.progLen h (s.rd (R.SCAN_STATUS.ACTIVE_SLOT h)) →
            u.on (R.SCAN_POS.FENCE h) = true)) ∧
    (s.scanning h = true → (s.head h).scan.inFrame = true → s.rd (R.SCAN_POS.PHASE h) = 0 →
        s.progLen h (s.rd (R.SCAN_STATUS.ACTIVE_SLOT h)) ≤ (s.head h).scan.nextDwell → s.periodStart h ≤ (s.upTo t).now →
      Answers (.flybackStart t h) s fun u =>
        u.rd (R.SCAN_POS.PHASE h) = 4 ∧ u.rd (R.SCAN_POS.DWELL h) = s.rd (R.SCAN_POS.DWELL h))

/-- A dwell opens and closes (R17, R20, R49, R51, R53, R370, R371): a dwell that has settled opens at its target or after, and may fire
when the tests of its open leave the head free; an owner fixes that open LEAD µs ahead, and a helper opens at the DT of its notice;
one that has not settled at the end of its timeout is counted and opens without shots; at its end the dwell closes. A descriptor that
arrives (R51) stands by with its words for its dwell, usable where they pass the check of R46 and the read was good; where they do not,
it is counted and DESC_UNAVAILABLE raised. It is of the program that runs while its dwell is to come, else of the one that runs next:
that slot is the model's reading (log 25). -/
def Obligations.DwellCommandsComplete : Prop :=
  ∀ (s : State) (t : Time) (h : HeadIx) (a : Nat) (d : BitVec 16) (uncorr : Bool),
    (s.scanning h = true → (s.rd (R.SCAN_POS.PHASE h) = 1 ∨ s.rd (R.SCAN_POS.PHASE h) = 2) → s.isHelper h = false →
        (s.isOwner h = true → (s.head h).scan.fixedOpen = none) → s.skips h = false → (s.head h).scan.target ≤ (s.upTo t).now →
        s.settledBy h (min (s.upTo t).now (s.settleLimit h)) = true →
      Answers (.dwellOpen t h) s fun u =>
        (s.isOwner h = true → (u.head h).scan.fixedOpen = some ((s.upTo t).now + s.rd (R.DOM_MULT.LEAD h) * 1000)) ∧
        (s.isOwner h = false → u.rd (R.SCAN_POS.PHASE h) = 3 ∧ (u.head h).scan.openAt = (s.upTo t).now ∧
          (u.head h).scan.fire = !((s.upTo t).openTests h).blocked h)) ∧
    (s.scanning h = true → (s.rd (R.SCAN_POS.PHASE h) = 1 ∨ s.rd (R.SCAN_POS.PHASE h) = 2) →
        (s.isHelper h = true ∨ s.isOwner h = true) → (s.head h).scan.noticeBad = false → (s.head h).scan.fixedOpen = some a →
        a ≤ (s.upTo t).now →
      Answers (.dwellOpen t h) s fun u =>
        u.rd (R.SCAN_POS.PHASE h) = 3 ∧ (u.head h).scan.openAt = (s.upTo t).now) ∧
    (s.scanning h = true → s.rd (R.SCAN_POS.PHASE h) = 2 → s.isHelper h = false → s.isOwner h = false → s.skips h = false →
        s.settleLimit h ≤ (s.upTo t).now → s.settledBy h (s.settleLimit h) = false → (s.head h).scan.fixedOpen = none →
      Answers (.settleTimeout t h) s fun u =>
        u.rd (R.SCAN_POS.PHASE h) = 3 ∧ (u.head h).scan.fire = false ∧ Advanced s u (R.SCAN_CNT_SKIP.COUNT h)) ∧
    (s.rd (R.SCAN_POS.PHASE h) = 3 → (s.upTo t).closeDue h = true →
      Answers (.dwellClose t h) s fun u =>
        u.rd (R.SCAN_POS.PHASE h) = 0 ∧ (u.head h).closed.dwell = s.rd (R.SCAN_POS.DWELL h) ∧
          (u.head h).closed.frame = s.rd (R.SCAN_FRAME_NUM.FRAME h) ∧ (u.head h).closed.closeAt = (s.upTo t).now ∧
          (u.head h).fire.shots = []) ∧
    let sl := if (s.head h).scan.inFrame ∧ (s.head h).scan.nextDwell ≤ d.toNat then s.rd (R.SCAN_STATUS.ACTIVE_SLOT h) else s.nextSlot h
    let ws := s.descAt h sl d.toNat
    let ok := Desc.passes ws && !uncorr && !s.stackLost (descAddr h sl d.toNat)
    Answers (.descriptorPrefetchArrival t h d uncorr) s fun u =>
      (u.head h).scan.prefetch.find? (fun e => e.1 == d.toNat && e.2.1 == sl) = some (d.toNat, sl, ok, ws) ∧
        (ok = true → u.rd (R.SCAN_CNT_DESC.COUNT h) = s.rd (R.SCAN_CNT_DESC.COUNT h)) ∧
        (ok = false → Advanced s u (R.SCAN_CNT_DESC.COUNT h) ∧ Logged s u .descUnavailable h)

/-! ### Scan programs (02) -/

/-- A program is loaded and committed (R45, R59, R60, R61, R63, R64, R65): word 15 stores the descriptor at its place of the
standby slot and clears VALID; a request is taken up for checking, or refused, which leaves a pending commit as it is; a cancel ends a
pending commit, and is ignored where none is pending, as after the frame start at which it took effect; the end of the checks
rejects the program with its cause and dwell, or accepts it for the frame that the fence gives, at once in a head that is OFF or
PARKED. A write that the partner of a pair forwards (R340) acts alike: an intact commit request is taken up as a host's would be; a
descriptor is stored in the standby slot, and no other byte of the memory changes; a length or a flyback is stored there; a program
that the partner's loader has rejected raises PAIR_DIVERGED. -/
def Obligations.CommitCommandsComplete : Prop :=
  ∀ (s : State) (t : Time) (i : Iface) (h : HeadIx) (slot : Fin 2) (v : Word) (p : Fin 2) (rx : LinkRx) (d : BitVec 16)
      (ws : List Word) (a : Word) (sl : Nat) (fly : Bool),
    (s.standbyOk h (s.rd (R.SCAN_LOAD_IDX.SLOT h)) = true →
      Answers (.scanLoadStore t i h v) s fun u =>
        let a := descAddr h (s.rd (R.SCAN_LOAD_IDX.SLOT h)) (s.rd (R.SCAN_LOAD_IDX.DWELL h))
        (∀ w < 15, u.hbmNat (a + 4 * w) 4 = s.rd (R.SCAN_LOAD_DATA.WORD h w)) ∧ u.hbmNat (a + 60) 4 = v.toNat ∧
          (∀ b, b < a ∨ a + 64 ≤ b → u.hbmByte b = s.hbmByte b) ∧
          u.on (R.SCAN_LEN.VALID h (s.rd (R.SCAN_LOAD_IDX.SLOT h))) = false ∧
          u.rd (R.SCAN_LOAD_IDX.DWELL h) = (s.rd (R.SCAN_LOAD_IDX.DWELL h) + 1) % 2 ^ 16) ∧
    (¬(s.on R.PAIR_CFG.EN = true ∧ s.rd R.PAIR_STATUS.ROLE = 2 ∧ s.on R.PAIR_STATUS.PARTNER = true) →
      Answers (.commitRequest t h slot) s fun u =>
        if s.commitBusy h = true ∨ s.rd (R.SCAN_STATUS.ACTIVE_SLOT h) = slot.val then
          u.on (R.SCAN_STATUS.REFUSED h) = true ∧
            u.rd (R.SCAN_STATUS.COMMIT_STATE h) = s.rd (R.SCAN_STATUS.COMMIT_STATE h) ∧
            (u.head h).scan.commitSlot = (s.head h).scan.commitSlot ∧
            u.rd (R.SCAN_COMMIT_FRAME.FRAME h) = s.rd (R.SCAN_COMMIT_FRAME.FRAME h)
        else u.rd (R.SCAN_STATUS.COMMIT_STATE h) = 1 ∧ (u.head h).scan.commitSlot = slot.val) ∧
    (s.commitBusy h = true →
      Answers (.commitCancel t h) s fun u => u.rd (R.SCAN_STATUS.COMMIT_STATE h) = 6) ∧
    (s.rd (R.SCAN_STATUS.COMMIT_STATE h) = 1 →
      Answers (.commitCheckComplete t h) s fun u =>
        (∀ r ∈ (s.upTo t).commitReport h (s.prog h (s.head h).scan.commitSlot),
          u.rd (R.SCAN_STATUS.COMMIT_STATE h) = 5 ∧ u.rd (R.SCAN_REJECT.CAUSE h) = r.1 % 2 ^ 8 ∧
            u.rd (R.SCAN_REJECT.DWELL h) = r.2 % 2 ^ 16 ∧
            u.rd (R.SCAN_STATUS.ACTIVE_SLOT h) = s.rd (R.SCAN_STATUS.ACTIVE_SLOT h)) ∧
          ((s.upTo t).commitReport h (s.prog h (s.head h).scan.commitSlot) = none → s.scanning h = true →
            u.on (R.SCAN_LEN.VALID h (s.head h).scan.commitSlot) = true ∧
              u.rd (R.SCAN_STATUS.COMMIT_STATE h) = (if s.on (R.SCAN_POS.FENCE h) = true then 3 else 2) ∧
              u.rd (R.SCAN_COMMIT_FRAME.FRAME h) =
                (s.rd (R.SCAN_FRAME_NUM.FRAME h) + if s.on (R.SCAN_POS.FENCE h) = true then 2 else 1) % 2 ^ 32) ∧
          ((s.upTo t).commitReport h (s.prog h (s.head h).scan.commitSlot) = none →
              s.headState h = hsOff ∨ s.headState h = hsParked →
            u.on (R.SCAN_LEN.VALID h (s.head h).scan.commitSlot) = true ∧ u.rd (R.SCAN_STATUS.COMMIT_STATE h) = 4 ∧
              u.rd (R.SCAN_STATUS.ACTIVE_SLOT h) = (s.head h).scan.commitSlot % 2)) ∧
    (linkGood rx = true → s.on R.PAIR_CFG.EN = true → s.dev.sealed = true →
        s.commitBusy h = false → s.rd (R.SCAN_STATUS.ACTIVE_SLOT h) ≠ slot.val →
      Answers (.forwardedWrite t p rx (.commit h slot)) s fun u =>
        u.rd (R.SCAN_STATUS.COMMIT_STATE h) = 1 ∧ (u.head h).scan.commitSlot = slot.val) ∧
    (linkGood rx = true → s.on R.PAIR_CFG.EN = true → s.dev.sealed = true →
        ws.length = 16 → s.standbyOk h slot.val = true →
      Answers (.forwardedWrite t p rx (.descriptor h slot d ws)) s fun u =>
        (∀ w < 16, u.hbmNat (descAddr h slot.val d.toNat + 4 * w) 4 = (ws.getD w 0).toNat) ∧
          (∀ b, b < descAddr h slot.val d.toNat ∨ descAddr h slot.val d.toNat + 64 ≤ b → u.hbmByte b = s.hbmByte b) ∧
          u.on (R.SCAN_LEN.VALID h slot.val) = false) ∧
    (linkGood rx = true → s.on R.PAIR_CFG.EN = true → s.dev.sealed = true →
        standbyReg a.toNat = some (h.val, sl, fly) → s.standbyOk h sl = true →
      Answers (.forwardedWrite t p rx (.word a v)) s fun u =>
        u.on (R.SCAN_LEN.VALID h sl) = false ∧
          (if fly = true then
            u.rd (R.SCAN_FLY.FLYBACK h sl) = bits v.toNat 13 0 ∧ u.rd (R.SCAN_FLY.FLYBACK_MIN h sl) = bits v.toNat 29 16
          else u.rd (R.SCAN_LEN.LEN_M1 h sl) = v.toNat % 2 ^ 16)) ∧
    (linkGood rx = true → s.on R.PAIR_CFG.EN = true → s.dev.sealed = true →
      Answers (.forwardedWrite t p rx (.rejected h)) s fun u => Logged s u .pairDiverged h) ∧
    (s.commitBusy h = false →
      Answers (.commitCancel t h) s fun u =>
        u.rd (R.SCAN_STATUS.COMMIT_STATE h) = s.rd (R.SCAN_STATUS.COMMIT_STATE h) ∧
          u.rd (R.SCAN_STATUS.ACTIVE_SLOT h) = s.rd (R.SCAN_STATUS.ACTIVE_SLOT h))

/-! ### Firing and the emitter chain (03) -/

/-- A strobe is launched at its F_k while every FIRE_INHIBIT bit is clear and no vernier calibration runs, and only expected while
only TOKEN is set; in both cases the shot is recorded for the groups (R33, R35, R71, R73, R79, R85). No strobe passes the gate: while
a FIRE_INHIBIT bit is set, a launch changes no count and records no launched shot, and no command whatever that finds and leaves one
set, a proof step included, begins a FIRE pulse of the head. -/
def Obligations.FireStrobeComplete : Prop :=
  ∀ (s : State) (t : Time) (h : HeadIx) (k : BitVec 12),
    ((s.upTo t).mayFire h = true → s.shotDue h k.toNat = true → (s.shotTime h k.toNat).2.2 / 256 ≤ (s.upTo t).now →
        s.pair.tokenAt * 256 ≤ (s.shotTime h k.toNat).2.2 → s.gateOpen h = true →
      Answers (.fireStrobeLaunch t h k) s fun u =>
        Advanced s u (R.FIRE_CNT_SHOT.COUNT h) ∧ u.rd (R.FIRE_STATUS.LAST_SHOT h) = k.toNat ∧
          u.rd64 (R.FIRE_LAST_DT_LO.VALUE h) (R.FIRE_LAST_DT_HI.VALUE h) = (s.upTo t).now ∧
          (u.head h).fire.shots.head?.map (fun x => (x.k, x.launched)) = some (k.toNat, true)) ∧
    ((s.upTo t).mayFire h = true → s.shotDue h k.toNat = true → (s.shotTime h k.toNat).2.2 / 256 ≤ (s.upTo t).now →
        s.inhWord h = 2 ^ 6 →
      Answers (.fireStrobeLaunch t h k) s fun u =>
        u.rd (R.FIRE_CNT_SHOT.COUNT h) = s.rd (R.FIRE_CNT_SHOT.COUNT h) ∧
          (u.head h).fire.shots.head?.map (fun x => (x.k, x.launched)) = some (k.toNat, false)) ∧
    (s.inhWord h ≠ 0 →
      Answers (.fireStrobeLaunch t h k) s fun u =>
        u.rd (R.FIRE_CNT_SHOT.COUNT h) = s.rd (R.FIRE_CNT_SHOT.COUNT h) ∧
          (u.head h).fire.lastStrobe = (s.head h).fire.lastStrobe ∧ (u.head h).fire.fireUntil = (s.head h).fire.fireUntil ∧
          ((u.head h).fire.shots.filter (·.launched)) = ((s.head h).fire.shots.filter (·.launched))) ∧
    (∀ (c : Instr) (u : State), s.inhWord h ≠ 0 → exec c s = .next u → u.inhWord h ≠ 0 →
      (u.head h).fire.fireUntil = (s.head h).fire.fireUntil)

/-- The fire echo (R80 to R83, R339): an edge outside every echo window is a stray, in a TOKEN_ONLY head a sign that the twins
differ; the first one of a window gives the shot its echo, corrected by the skew of the line, and ends the run of misses; a window that
ends without one is a miss; CLR_ECHO acts at once outside SCANNING and INHIBITED, else at the next dwell open. -/
def Obligations.EchoCommandsComplete : Prop :=
  ∀ (s : State) (t : Time) (h : HeadIx) (a b : BitVec 288) (k : BitVec 12),
    (s.echoShot h ((s.upTo t).stampOf (1536 + h.val) a b) = none →
      Answers (.echoEdge t h a b) s fun u =>
        if s.on (R.HEAD_STATE.TOKEN_ONLY h) = true then Advanced s u R.PAIR_CNT_STRAY.COUNT ∧ bit u.pair.excluded h = true
        else Advanced s u (R.FIRE_CNT_STRAY.COUNT h) ∧ Logged s u .echoStray h) ∧
    (∀ x ∈ s.echoShot h ((s.upTo t).stampOf (1536 + h.val) a b), s.calHeld h = false → x.ek.isNone = true → x.missed = false →
      Answers (.echoEdge t h a b) s fun u =>
        (u.head h).fire.shots.any (fun y => y.k == x.k &&
            y.ek == some (s.corrected (1536 + h.val) ((s.upTo t).stampOf (1536 + h.val) a b))) = true ∧
          u.rd (R.FIRE_STATUS.MISS_RUN h) = 0) ∧
    (∀ x ∈ ((s.head h).fire.shots.find? fun (x : Shot) => x.k == k.toNat && x.ek.isNone && !x.missed),
        (x.fk + s.rd (R.FIRE_CFG.ECHO_MAX h) * 256) / 256 ≤ (s.upTo t).now →
      Answers (.echoWindowExpiry t h k) s fun u =>
        (if x.launched = true then Advanced s u (R.FIRE_CNT_MISS.COUNT h) else Advanced s u R.PAIR_CNT_NOECHO.COUNT) ∧
          (u.head h).fire.shots.any (fun y => y.k == k.toNat && y.missed) = true) ∧
    (s.on (R.FIRE_STATUS.ECHO_LOST h) = true →
      Answers (.clrEcho t h) s fun u =>
        if s.scanning h = true then (u.head h).fire.clrPend = true ∧ u.on (R.FIRE_STATUS.ECHO_LOST h) = true
        else u.on (R.FIRE_STATUS.ECHO_LOST h) = false ∧ u.rd (R.FIRE_STATUS.MISS_RUN h) = 0)

/-- Frames of the emitter chain (R88, R91, R94, R95): loading sends CONFIG first and then each LOAD and VERIFY; PATTERN and SWAP are
sent when due, in the symbols of their frame; a PATTERN that passes is in NEXT, and a SWAP that passes makes it the active one; a frame
that fails, or that has not returned in time, is repeated, and after the third failure the head is in FAULT with cause 2. -/
def Obligations.ChainCommandsComplete : Prop :=
  ∀ (s : State) (t : Time) (h : HeadIx) (r : List Nat),
    (s.headState h ≠ hsOff → s.rd (R.EMT_STATUS.CHAIN h) = 1 → (s.head h).chain.flight = none →
        (s.head h).chain.queue = [] →
      Answers (.chainLoad t h) s fun u =>
        (u.head h).chain.flight.map (·.cmd) = some .config ∧ (u.head h).chain.queue = s.loads h ++ [.verify] ∧
          (u.head h).chain.sent = chainSent .config (s.chainPayload h .config)) ∧
    (∀ p ∈ s.patternDue h, (s.head h).chain.flight = none → (s.head h).chain.queue = [] →
      Answers (.chainPatternSend t h) s fun u =>
        (u.head h).chain.flight.map (·.cmd) = some (.pattern p) ∧
          (u.head h).chain.sent = chainSent (.pattern p) (chainField (bytesLE 2 p))) ∧
    (∀ d ∈ s.swapDesc h, (s.head h).chain.nextPat = some (Desc.pattern d) → (s.upTo t).swapClear h = true →
        (s.head h).chain.flight = none → (s.head h).chain.queue = [] →
      Answers (.chainSwapSend t h) s fun u =>
        (u.head h).chain.flight.map (·.cmd) = some .swap ∧ (u.head h).chain.sent = chainSent .swap []) ∧
    (∀ f ∈ (s.head h).chain.flight, ∀ q ∈ chainRead f.cmd r, (s.upTo t).frameFails h f q = false →
      Answers (.chainFrameReturn t h r) s fun u =>
        (∀ p, f.cmd = .pattern p → (u.head h).chain.nextPat = some p) ∧
          (∀ p ∈ (s.head h).chain.nextPat, f.cmd = .swap →
            (u.head h).chain.active = some p ∧ (u.head h).chain.nextPat = none ∧ u.rd (R.EMT_STATUS.ACTIVE_PAT h) = p % 2 ^ 12)) ∧
    (∀ f ∈ (s.head h).chain.flight, s.headState h = hsParked ∨ s.headState h = hsScanning ∨ s.headState h = hsInhibited →
      ((∀ q ∈ chainRead f.cmd r, (s.upTo t).frameFails h f q = true →
        Answers (.chainFrameReturn t h r) s fun u =>
          if 2 ≤ f.fails then
            u.headState h = hsFault ∧ u.rd (R.HEAD_STATE.FAULT_CAUSE h) = 2 ∧ u.rd (R.EMT_STATUS.CHAIN h) = 4
          else Advanced s u (R.EMT_CNT_RETRY.COUNT h) ∧ (u.head h).chain.flight.isSome = true) ∧
      ((s.upTo t).chainDeadline h f ≤ (s.upTo t).now →
        Answers (.chainFrameTimeout t h) s fun u =>
          if 2 ≤ f.fails then
            u.headState h = hsFault ∧ u.rd (R.HEAD_STATE.FAULT_CAUSE h) = 2 ∧ u.rd (R.EMT_STATUS.CHAIN h) = 4
          else Advanced s u (R.EMT_CNT_RETRY.COUNT h) ∧ (u.head h).chain.flight.isSome = true)))

/-- Proof steps (R98, R99, R101): a step that is due sends PROOF for the emitter index, advances the index modulo E, and has its
strobe where the gate is open; a late proof of a scanning head is logged. -/
def Obligations.ProofCommandsComplete : Prop :=
  ∀ (s : State) (t : Time) (h : HeadIx),
    ((s.upTo t).proofDue h = true →
      Answers (.proofStep t h) s fun u =>
        (u.head h).chain.flight.map (·.cmd) = some (.proof (s.rd (R.EMT_PROOF_STATUS.STEP h))) ∧
          u.rd (R.EMT_PROOF_STATUS.STEP h) = (s.rd (R.EMT_PROOF_STATUS.STEP h) + 1) % s.emitters h ∧
          (u.head h).chain.stepsDue = (s.head h).chain.stepsDue - 1 ∧
          (s.gateOpen h = true →
            u.rd64 (R.FIRE_LAST_DT_LO.VALUE h) (R.FIRE_LAST_DT_HI.VALUE h) = (s.upTo t).now)) ∧
    (s.scanning h = true → (s.upTo t).lateEmitters h ≠ [] →
      Answers (.proofLate t h) s fun u => Logged s u .proofLate h)

/-! ### Return inputs and calibration (04) -/

/-- Return inputs (R107, R108, R114, R116, R117, R118, R121, R123). While the generator runs on the input an edge is detected, not
stamped, and counted nowhere. Else an edge in hold-off is lost and extends nothing; a stamped edge begins a new hold-off, and of an
input that has not failed it is counted exactly once, as BLANK, OUT or ACC in the order of Table 4.2, of one that has failed nowhere. A
level high beyond WIDTH is counted once and begins the blanking; its fall ends it RECOV later. -/
def Obligations.ReturnInputCommandsComplete : Prop :=
  ∀ (s : State) (t : Time) (n : Fin 1536) (back : BitVec 8) (a b : BitVec 288) (gate : BitVec 512),
    let arr := (s.upTo t).now * 256 - back.toNat
    let lost := (s.upTo t).inHoldOff (s.line n).lastEdge arr (s.rd (R.INCFG.HOLD_OFF n))
    let same (u : State) (f : FRef) : Prop := u.rd f = s.rd f
    (s.generatorOn n = true →
      Answers (.returnEdge t n back a b gate) s fun u =>
        same u (R.INSTAT_LOST.LOST n) ∧ same u (R.INSTAT_BLANK.BLANK n) ∧ same u (R.INSTAT_OUT.OUT n) ∧
          same u (R.INSTAT_ACC.ACC n) ∧ (u.line n).lastEdge = (s.line n).lastEdge) ∧
    (s.generatorOn n = false → lost = true →
      Answers (.returnEdge t n back a b gate) s fun u =>
        Advanced s u (R.INSTAT_LOST.LOST n) ∧ same u (R.INSTAT_BLANK.BLANK n) ∧ same u (R.INSTAT_OUT.OUT n) ∧
          same u (R.INSTAT_ACC.ACC n) ∧ (u.line n).lastEdge = (s.line n).lastEdge) ∧
    (s.generatorOn n = false → lost = false →
      Answers (.returnEdge t n back a b gate) s fun u =>
        let c := s.corrected n ((s.upTo t).stampOf n a b)
        let h := s.headOf n
        let level := gate.getLsbD ((s.upTo t).now + s.rd (R.RET_CFG.GATE_DLY h) - c / 256)
        let off := decide (h < 16) && s.on (R.RET_CFG.GATE_EN h) && level == s.on (R.RET_CFG.GATE_POL h)
        let out := off || !(decide (h < 16) && s.inWindow h (n / 16) c)
        let counts := !s.inputFailed n
        (if counts = true ∧ s.isBlanked n c = true then Advanced s u (R.INSTAT_BLANK.BLANK n) else same u (R.INSTAT_BLANK.BLANK n)) ∧
        (if counts = true ∧ s.isBlanked n c = false ∧ out = true then Advanced s u (R.INSTAT_OUT.OUT n)
          else same u (R.INSTAT_OUT.OUT n)) ∧
        (if counts = true ∧ s.isBlanked n c = false ∧ out = false then Advanced s u (R.INSTAT_ACC.ACC n)
          else same u (R.INSTAT_ACC.ACC n)) ∧
        same u (R.INSTAT_LOST.LOST n) ∧ (u.line n).lastEdge = some arr) ∧
    ((s.line n).sat = false →
      Answers (.saturationDetect t n) s fun u =>
        Advanced s u (R.INSTAT_SAT.SAT n) ∧ (u.line n).sat = true ∧
          (u.line n).satFrom = (s.line n).riseAt.getD (s.corrected n ((s.upTo t).now * 256))) ∧
    ((s.line n).sat = true →
      Answers (.saturationEnd t n) s fun u =>
        (u.line n).sat = false ∧ (u.line n).blanks.head? = some ((s.line n).satFrom,
          s.corrected n ((s.upTo t).now * 256) + s.rd (R.RET_SAT.RECOV (s.satHead n)) * 4 * 256))

/-- Calibration (R122, R123, R125, R127, R129, R133, R138). A hit that the generator injects while it runs on the line is counted in
the epoch and in its half of the spread triangle; an epoch at its end with fewer than 2^18 hits is discarded and reported, one with more
is evaluated and its record is left complete, and in both cases a new one begins; a change of selection that has not to wait is applied,
its chain in service, and counted; staleness is reported once per period. A restored record that meets every condition waits to be put
in service under R127 and discards the epoch; a refused one changes nothing of the line and is reported; the vernier calibration is
counted as kind 1. -/
def Obligations.CalibrationCommandsComplete : Prop :=
  ∀ (s : State) (t : Time) (i : Fin 1558) (n : Fin 1552) (a b : BitVec 288) (j : Iface) (x : BitVec 11) (h : HeadIx)
      (y0 y1 y2 y3 y4 : BitVec 32),
    ((if i.val < 1536 then s.generatorOn i else if i.val < 1552 then s.echoGeneratorOn (i - 1536) ((s.upTo t).now * 256) else true) = true →
      Answers (.randomHitInject t i a b) s fun u =>
        (u.line i).hits = (s.line i).hits + 1 ∧
          (u.line i).riseN = (s.line i).riseN + (if (s.upTo t).spreadRising then 1 else 0)) ∧
    (i.val < 1552 → (s.upTo t).epochDue i = true → (s.line i).hits < 2 ^ 18 →
      Answers (.calEpochClose t i) s fun u =>
        Logged s u .tdcCalStarved (s.lineHead i) ∧ (u.line i).hits = 0 ∧ (u.line i).selA = (s.line i).selA ∧
          (u.line i).selB = (s.line i).selB ∧ (u.line i).epochAt = (s.upTo t).now) ∧
    (i.val < 1552 → (s.upTo t).epochDue i = true → 2 ^ 18 ≤ (s.line i).hits →
      Answers (.calEpochClose t i) s fun u =>
        Advanced s u (R.CAL_REC0.SEQ_HEAD i) ∧ u.rd (R.CAL_REC_CRC.SEQ_TAIL i) = u.rd (R.CAL_REC0.SEQ_HEAD i) ∧
          (u.line i).hits = 0 ∧ (u.line i).epochAt = (s.upTo t).now) ∧
    (1552 ≤ i.val → (s.upTo t).epochDue i = true →
      Answers (.calEpochClose t i) s fun u => (u.line i).hits = 0 ∧ (u.line i).epochAt = (s.upTo t).now) ∧
    (∀ p ∈ (s.line i).pend, s.on R.CAL_CFG.HOLD = false → (i.val < 1552 → (s.upTo t).selectionWaits (s.headOf i) = false) →
      Answers (.calSelectionApply t i) s fun u =>
        (u.line i).pend = none ∧ (u.line i).selA = p.2.1 ∧ (u.line i).selB = p.2.2.1 ∧
          (i.val < 1552 → u.rd (R.CAL_REC0.CHAIN i) = p.1 % 2 ∧ Advanced s u (R.CAL_CNT.VALUE 0))) ∧
    (s.on (R.CAL_REC0.STALE n) = false → (s.line n).passAt + s.rd R.CAL_CFG.STALE_AGE * 1000000000 ≤ (s.upTo t).now →
      Answers (.calStaleExpiry t n) s fun u =>
        u.on (R.CAL_REC0.STALE n) = true ∧ Logged s u .tdcCalStale (s.lineHead n)) ∧
    (x.toNat < 1552 → (s.upTo t).restoreCheck x.toNat = 0 →
      Answers (.calRestore t j x) s fun u =>
        u.rd R.CAL_RESTORE_STATUS.RESULT = 1 ∧ (u.line x.toNat).pend.isSome = true ∧ (u.line x.toNat).hits = 0) ∧
    (x.toNat < 1552 → (s.upTo t).restoreCheck x.toNat ≠ 0 →
      Answers (.calRestore t j x) s fun u =>
        u.rd R.CAL_RESTORE_STATUS.RESULT = s.restoreCheck x.toNat ∧ u.line x.toNat = s.line x.toNat ∧
          Logged s u .calRestoreReject (s.lineHead x.toNat)) ∧
    ((s.head h).scan.calVernier = true →
      Answers (.vernierCalComplete t h y0 y1 y2 y3 y4) s fun u =>
        (u.head h).scan.calVernier = false ∧ Advanced s u (R.CAL_CNT.VALUE 1))

/-! ### Histograms (05) -/

/-- The filter decides the next event of a position once its interval is over (R148, R149, R151, R152): an event that fails is counted
in COINC_W and HIST_CNT_COINC; one that passes advances c[j]; where it is not kept it is counted in SHED_W and HIST_CNT_SHED, and where
it is kept its hypotheses, one for each window that holds it, go to the end of the entry queue, if it has room. The engine takes the
front of the queue and enters it in the record of its input (R153). At the close marker what the engine still holds of the buffer is
entered, in order, and SHOTS, N_P and DT_CLOSE of every record of the group are completed (R145, R158). The entry arithmetic (R153): a
hypothesis inside the gate adds one to its coarse bin, to its phase block and phase set, to HYP_W, and, for each enabled window that it
falls into, to its fine bin and its phase set, with its offset and the square in the sums, each up to its width; one outside changes
nothing. -/
def Obligations.BenchCommandsComplete : Prop :=
  (∀ (s : State) (t : Time) (h : HeadIx) (g : Fin 96) (j : Fin 16) (c b : Nat) (y : Hyp) (ys : List Hyp),
    (nextEvent j (s.group g).events = some c → s.bufferAt (s.headOf (16 * g + j)) g c = some b →
        c + (s.rd (R.HIST_COINC.W_M1 (s.groupHead g)) + 1) * 64 + 256 < ((s.upTo t).now + 1) * 256 →
      Answers (.coincDecision t g j) s fun u =>
        let k := s.headOf (16 * g + j)
        let n := SMap.get (fun _ => 0) (s.group g).passed (16 * b + j)
        let kept := keep n j (s.seedOf k g b) (2 ^ (s.inRec g b j).dec)
        if s.coincPasses k g j c = false then
          Advanced s u (R.HIST_CNT_COINC.COUNT k) ∧ (u.inRec g b j).coinc = up16 (s.inRec g b j).coinc ∧
            (u.group g).events = settleEvent j .rejected (s.group g).events ∧ (u.group g).queue = (s.group g).queue
        else
          SMap.get (fun _ => 0) (u.group g).passed (16 * b + j) = n + 1 ∧
            (kept = false → Advanced s u (R.HIST_CNT_SHED.COUNT k) ∧ (u.inRec g b j).shed = up16 (s.inRec g b j).shed ∧
              (u.group g).events = settleEvent j .shed (s.group g).events ∧ (u.group g).queue = (s.group g).queue) ∧
            (kept = true → (u.group g).events = settleEvent j .kept (s.group g).events ∧
              ((s.group g).queue.length + (s.eventHyps k g b j c).length ≤ 128 →
                (u.group g).queue = (s.group g).queue ++ s.eventHyps k g b j c))) ∧
    ((s.group g).queue = y :: ys →
      Answers (.hypothesisEntry t g) s fun u =>
        (u.group g).queue = ys ∧
          u.inRec g y.buf y.pos = (s.inRec g y.buf y.pos).enter false (y.stamp % 2 ^ 32) y.echo y.phase) ∧
    (Desc.enables (s.head h).closed.desc g = true → (s.head h).closed.complete.contains g.val = false →
      Answers (.bufferComplete t h g) s fun u =>
        let b := 1 - (s.group g).use
        let mine := (s.group g).queue.filter fun y => y.buf == b && y.pos == j.val
        let r := mine.foldl (fun (r : InRec) y => r.enter false (y.stamp % 2 ^ 32) y.echo y.phase) (s.inRec g b j)
        (u.head h).closed.complete.contains g.val = true ∧ (u.group g).queue = (s.group g).queue.filter (·.buf != b) ∧
          (u.inRec g b j).coarse = r.coarse ∧ (u.inRec g b j).hyp = r.hyp ∧
          (u.inRec g b j).shots = (s.head h).closed.fired ∧
          (u.inRec g b j).nP = phaseCounts (s.head h).closed.shots ∧
          (u.inRec g b j).dtClose = (s.head h).closed.closeAt)) ∧
  (∀ (r : InRec) (c e phase : Nat), phase < 8 →
    let d := (c + 2 ^ 32 - e % 2 ^ 32) % 2 ^ 32
    let x := d - r.near * 256
    let b := x / 2 ^ (8 + r.binW)
    let q := r.enter false c e phase
    let get (m : SMap Nat) (i : Nat) : Nat := SMap.get (fun _ => 0) m i
    if d < r.near * 256 ∨ r.far * 256 ≤ d then q = r
    else
      get q.coarse b = min (get r.coarse b + 1) 0xFFFF ∧ (∀ i, i ≠ b → get q.coarse i = get r.coarse i) ∧
        get q.pblk (8 * (b / 8) + phase) = min (get r.pblk (8 * (b / 8) + phase) + 1) 0xFFFF ∧
        (∀ i, i ≠ 8 * (b / 8) + phase → get q.pblk i = get r.pblk i) ∧
        q.hyp = min (r.hyp + 1) 0xFFFFFFFF ∧
        ∀ z < 4,
          let zs := r.zs.getD z 0 % 2 ^ 17 * 32
          let v := x - zs
          if bit r.zen z = true ∧ zs ≤ x ∧ v < 2048 then
            get q.zbin (64 * z + v / 32) = min (get r.zbin (64 * z + v / 32) + 1) 0xFFFF ∧
              (∀ i < 64, i ≠ v / 32 → get q.zbin (64 * z + i) = get r.zbin (64 * z + i)) ∧
              get q.zph (8 * z + phase) = min (get r.zph (8 * z + phase) + 1) 0xFFFF ∧
              get q.csum (3 * z) = min (get r.csum (3 * z) + 1) 0xFFFFFFFF ∧
              get q.csum (3 * z + 1) = min (get r.csum (3 * z + 1) + v) 0xFFFFFFFF ∧
              get q.csum (3 * z + 2) = min (get r.csum (3 * z + 2) + v * v) 0xFFFFFFFFFFFFFFFF
          else
            (∀ i < 64, get q.zbin (64 * z + i) = get r.zbin (64 * z + i)) ∧
              (∀ i < 8, get q.zph (8 * z + i) = get r.zph (8 * z + i)) ∧
              ∀ i < 3, get q.csum (3 * z + i) = get r.csum (3 * z + i))

/-- Two records that read alike: every counter that the entry arithmetic writes. -/
def InRec.Alike (a b : InRec) : Prop :=
  (∀ i, SMap.get (fun _ => 0) a.coarse i = SMap.get (fun _ => 0) b.coarse i) ∧
    (∀ i, SMap.get (fun _ => 0) a.pblk i = SMap.get (fun _ => 0) b.pblk i) ∧
    (∀ i, SMap.get (fun _ => 0) a.zbin i = SMap.get (fun _ => 0) b.zbin i) ∧
    (∀ i, SMap.get (fun _ => 0) a.zph i = SMap.get (fun _ => 0) b.zph i) ∧
    (∀ i, SMap.get (fun _ => 0) a.csum i = SMap.get (fun _ => 0) b.csum i) ∧ a.hyp = b.hyp

/-- The contents of a buffer do not depend on the order in which hypotheses were entered (R154): two orders of the same
hypotheses (stamp, echo start, phase set) leave records that read alike. -/
def Obligations.EntryOrderDoesNotMatter : Prop :=
  ∀ (r : InRec) (xs ys : List (Nat × Nat × Nat)), xs.Perm ys →
    InRec.Alike (xs.foldl (fun r y => r.enter false y.1 y.2.1 y.2.2) r) (ys.foldl (fun r y => r.enter false y.1 y.2.1 y.2.2) r)

/-! ### Detection (06) -/

/-- The evaluator and the field lines (R162, R164, R165, R176): a run of a complete group of a dwell that fired evaluates it once and
leaves, for every input, results with its live fraction, of at most eight candidates and four slots; an input that is not assigned to
the head has NO_EVAL. A field line whose stack has not failed is held with its eight entries, for the evaluator and the islands it has
come to; a late one of the dwell that closed last goes to the islands that lack it, until the dwell is decided. -/
def Obligations.DetectionCommandsComplete : Prop :=
  ∀ (s : State) (t : Time) (h : HeadIx) (g : Fin 96) (corr bad : List (Fin 16)) (j : Fin 16) (n : Fin 1536)
      (bid : BitVec 20) (fab : Bool) (a b : LineRead),
    let k := (s.head h).closed
    let awaits := !k.decided && k.items.any fun i => i.n == n.val && i.bid == bid.toNat &&
      ((a != .missing && !i.a) || (b != .missing && !i.b))
    (k.complete.contains g.val = true → k.evaluated.contains g.val = false → k.fired ≠ 0 →
      Answers (.evaluatorRun t h g corr bad) s fun u =>
        let x := SMap.get (fun _ => ({} : Det)) (u.group g).dets j
        (u.head h).closed.evaluated.contains g.val = true ∧ x.live = liveOf (s.inRec g (1 - (s.group g).use) j) ∧ x.fset = k.fset ∧
          x.cands.length ≤ 8 ∧ x.slots.length ≤ 4 ∧ (s.headOf (16 * g + j) ≠ h.val → x.noEval = true)) ∧
    (s.stackLost (0x100000000 + 32 * bid.toNat) = false → awaits = false →
      Answers (.fieldLineArrival t h n bid fab a b) s fun u =>
        let m := SMap.get fieldDefault s.fields bid.toNat
        let l := SMap.get fieldDefault u.fields bid.toNat
        l.words = s.fieldWords bid.toNat ∧ l.fab = m.fab + flag fab ∧ l.a = m.a + flag (a != .missing) ∧
          l.b = m.b + flag (b != .missing) ∧ (a = .whole → l.okA = s.fieldCheck bid.toNat) ∧
          (b = .whole → l.okB = s.fieldCheck bid.toNat)) ∧
    (s.stackLost (0x100000000 + 32 * bid.toNat) = false → awaits = true →
      Answers (.fieldLineArrival t h n bid fab a b) s fun u =>
        ∀ i ∈ (u.head h).closed.items, i.n = n.val →
          i.words = s.fieldWords bid.toNat ∧ (a ≠ .missing → i.a = true) ∧ (b ≠ .missing → i.b = true))

/-- A candidate is a maximal run of consecutive bins above threshold, and the runs come in ascending order (R169): every bin
of a run is above, neither neighbour of a run is, and every bin above threshold lies in a run. The shot-phase balance test
needs at least 8 shots (R171): with fewer a candidate carries BAL_NA and does not fail; the test changes nothing of a
candidate but its balance. -/
def Obligations.CandidatesAreMaximalRuns : Prop :=
  (∀ above : List Bool,
    (∀ r ∈ runsOf above, 0 < r.2 ∧ r.1 + r.2 ≤ above.length ∧ (∀ b, r.1 ≤ b → b < r.1 + r.2 → above.getD b false = true) ∧
        above.getD (r.1 + r.2) false = false ∧ (0 < r.1 → above.getD (r.1 - 1) false = false)) ∧
      (∀ b, above.getD b false = true → ∃ r ∈ runsOf above, r.1 ≤ b ∧ b < r.1 + r.2) ∧
      (runsOf above).Pairwise (fun x y => x.1 + x.2 < y.1)) ∧
  (∀ (r : InRec) (bins : List Bin) (lg eMin dom setsMin : Nat) (c : Cand),
    let q := balance r bins lg eMin dom setsMin c
    (r.shots < 8 → q.balNa = true ∧ q.balFail = c.balFail) ∧
      (q.start, q.len, q.peak, q.excess, q.be, q.lc) = (c.start, c.len, c.peak, c.excess, c.be, c.lc) ∧ q.balRatio ≤ max c.balRatio 0xFFFF)

/-! ### Bearings and speed (07) -/

/-- The records that RECORD_MOVE moves for a group (R160): of the group's inputs, those with results that have not been placed. -/
def recordsDue (s : State) (h g : Nat) : List Item :=
  (s.head h).closed.items.filter fun i => i.n / 16 == g && !i.moved && !i.done && i.det.isSome

/-- The records of a group (R160, R161, R162, R189 to R193, R199, R210), where memory ports 2 and 3 are not regulated: the results go to
the merge queue in the order of the inputs, or, when the queue has no room or the ring holds records of the group, all of them to the
spill ring; what the deadline finds is dropped. A bearing that arrives is staged, and one that fails its check, or whose read was
uncorrectable, is INVALID and counted; a merge takes the next record, advances SEQ, writes the record back with its CHECK and leaves the
reserved range, and is frozen while speed is invalid; a record that reads as uncorrectable is dropped, and no byte of the memory
changes; a completed write-back frees the line. -/
def Obligations.BearingCommandsComplete : Prop :=
  ∀ (s : State) (t : Time) (h : HeadIx) (g : Fin 96) (n : Fin 1536) (uncorr : Bool) (corr : BitVec 8),
    ((s.head h).closed.evaluated.contains g.val = true → s.persists h = true → recordsDue s h g ≠ [] → s.regulated 3 = false →
        s.spill.length + (recordsDue s h g).length ≤ 8192 →
      Answers (.recordMove t h ⟨g, [], []⟩) s fun u =>
        if (s.group g).mq.length + (recordsDue s h g).length ≤ 32 ∧ s.spillHeld g = 0 then
          (u.group g).mq.map (·.n) = (s.group g).mq.map (·.n) ++ (recordsDue s h g).map (·.n) ∧
            u.rd (R.GRP_MQ.MQ_USED g) = (u.group g).mq.length
        else
          (u.group g).mq = (s.group g).mq ∧ Logged s u .mergeSpill h ∧
            u.spill.map (·.2.n) = s.spill.map (·.2.n) ++ (recordsDue s h g).map (·.n)) ∧
    ((s.head h).closed.fired ≠ 0 → s.persists h = true → (s.head h).closed.closeAt + 1900 ≤ (s.upTo t).now →
      Answers (.recordDropDeadline t h g) s fun u =>
        u.rd (R.HIST_CNT_DROP.COUNT h) =
            (s.rd (R.HIST_CNT_DROP.COUNT h) +
              ((s.head h).closed.items.filter fun i => i.n / 16 == g.val && !i.moved && !i.done).length) % 2 ^ 32 ∧
          (∀ i ∈ (u.head h).closed.items, i.n / 16 = g.val → i.moved = true ∨ i.done = true)) ∧
    (∀ l ∈ (s.staging n).lines.find? (·.at_ == .fetching), s.stackLost (4096 * l.bid) = false → s.regulated 2 = false →
        (s.staging n).lines.Pairwise (fun x y => x.bid ≠ y.bid) →
      Answers (.bearingStageArrival t n uncorr) s fun u =>
        let bad := uncorr = false ∧ bearCheck l.bid (s.hbmBytes (4096 * l.bid) 0xCC0) ≠ s.hbmNat (4096 * l.bid + 0xFF8) 8 ∧
          ¬ ((s.bearing l.bid).valid = false ∧ s.hbmNat (4096 * l.bid + 0xFF8) 8 = 0)
        (u.staging n).lines.any (fun y => y.bid == l.bid && y.at_ == .staged) = true ∧
          (bad ∨ uncorr = true → (u.staging n).lines.any (fun y => y.bid == l.bid && y.bear.invalid) = true) ∧
          (bad → Advanced s u R.BEAR_CNT_INTEG.VALUE) ∧ (¬ bad → u.rd R.BEAR_CNT_INTEG.VALUE = s.rd R.BEAR_CNT_INTEG.VALUE) ∧
          (uncorr = true → s.headOf n < 16 → Advanced s u (R.BEAR_CNT_INVALID.COUNT (s.headOf n)))) ∧
    (∀ x ∈ s.nextRecord g, ∀ l ∈ s.stagedLine x.1.n x.1.input.bid, x.1.input.head < 16 →
      Answers (.bearingMerge t g 0 false) s fun u =>
        let y := u.bearing x.1.input.bid
        Advanced s u (R.BEAR_CNT_UPD.COUNT x.1.input.head) ∧ y.valid = true ∧ y.seq = (l.bear.seq + 1) % 2 ^ 32 ∧
          u.hbmNat (4096 * x.1.input.bid + 0xFF8) 8 =
            bearCheck x.1.input.bid (u.hbmBytes (4096 * x.1.input.bid) 0xCC0) ∧
          (∀ a < 0x338, u.hbmByte (4096 * x.1.input.bid + 0xCC0 + a) = s.hbmByte (4096 * x.1.input.bid + 0xCC0 + a)) ∧
          (s.speedInvalid = true → y.frozen = true ∧ y.epoch = l.bear.epoch % 2 ^ 16)) ∧
    (∀ x ∈ s.nextRecord g, x.1.input.head < 16 →
      Answers (.bearingMerge t g corr true) s fun u =>
        Advanced s u (R.HIST_CNT_DROP.COUNT x.1.input.head) ∧ (u.group g).mq = (s.group g).mq.tail ∧
          ∀ a, u.hbmByte a = s.hbmByte a) ∧
    (∀ l ∈ (s.staging n).lines.find? (·.at_ == .writing), (s.staging n).wanted = [] → s.regulated 2 = false →
      Answers (.writeBackComplete t n) s fun u => (u.staging n).lines = (s.staging n).lines.erase l)

/-- The merge of R202 invents nothing: the interpolation never exceeds the largest stored count divided by 2^k, and the stored
counts saturate at 0xFFFF. -/
def Obligations.MergeNeverInventsACount : Prop :=
  ∀ (p : List Nat) (f : Nat → Nat) (d k lg : Nat) (sh : Int) (m b : Nat), (∀ x ∈ p, x ≤ m) →
    interp p lg b sh 256 k ≤ m / 2 ^ k ∧ (mergeCoarse p f d sh k lg).length = 1024 ∧
      (∀ x ∈ mergeCoarse p f d sh k lg, x ≤ 0xFFFF) ∧
      (lg ≤ b → b < 1024 → (mergeCoarse p f d sh k lg).getD b 0 ≤ m / 2 ^ k)

/-- The speed of the train (R113, R194 to R199): an edge outside the hold-off is stamped, one inside is lost; a gate end, GATE_MS
after the one before, sets the channel speeds, the odometer and the state of the speed; speed that becomes invalid starts a new epoch
and the odometer stands, and VALID_T after the last cause it is valid again. -/
def Obligations.SpeedCommandsComplete : Prop :=
  ∀ (s : State) (t : Time) (b : Bool) (taps : BitVec 288),
    let due := s.dev.sealed = true ∧ s.tach.gateAt + s.rd R.TACH_CFG.GATE_MS * 1000000 ≤ (s.upTo t).now
    ((s.upTo t).clampedIn (flag b) = false →
      Answers (.tachEdge t b taps) s fun u =>
        let at_ := (s.upTo t).auxStamp (flag b) taps
        (u.tach.chan b).stamps = (if (s.upTo t).inHoldOff (s.tach.chan b).stamps.head? at_ 20 = true then (s.tach.chan b).stamps
          else at_ :: (s.tach.chan b).stamps) ∧
          u.tach.chan (!b) = s.tach.chan (!b)) ∧
    (due → s.rd R.TACH_CFG.MODE = 0 → s.rd R.TACH_CFG.DIR_SRC = 0 → s.plausibility = none → s.tach.reverse = false →
        s.tach.a.speed = some ((s.upTo t).tachSpeed false) → s.speedInvalid = false →
      Answers (.tachGateEnd t) s fun u =>
        u.rd R.SPEED_STATUS.STATE = (if (s.upTo t).tachSpeed false = 0 then 2 else 1) ∧ u.rd R.SPEED_STATUS.CAUSE = 0 ∧
          u.rd R.SPEED_CH.VA = satU 16 ((s.upTo t).tachSpeed false / 10000) ∧ u.tach.gateAt = (s.upTo t).now ∧
          u.tach.v = ((s.upTo t).tachSpeed false : Nat) ∧ u.rd R.SPEED_EPOCH.EPOCH = s.rd R.SPEED_EPOCH.EPOCH ∧
          u.tach.od - s.tach.od - ((s.upTo t).tachSpeed false * s.rd R.TACH_CFG.GATE_MS / 1000 : Nat) ∈ [0, 1]) ∧
    (due → s.rd R.TACH_CFG.DIR_SRC = 2 → s.plausibility = none → s.speedInvalid = false →
      Answers (.tachGateEnd t) s fun u =>
        u.rd R.SPEED_STATUS.STATE = 0 ∧ u.rd R.SPEED_STATUS.CAUSE ≠ 0 ∧ Advanced s u R.SPEED_EPOCH.EPOCH ∧
          Recorded s u .speedInvalid noHead ∧ u.tach.od = s.tach.od) ∧
    (∀ a ∈ s.tach.clearAt, s.speedInvalid = true → a + s.rd R.TACH_LIM.VALID_T * 10000000 ≤ (s.upTo t).now →
      Answers (.speedValidTimer t) s fun u =>
        u.rd R.SPEED_STATUS.STATE = (if s.tach.v = 0 then 2 else 1) ∧ Recorded s u .speedValid noHead ∧
          u.rd R.SPEED_EPOCH.EPOCH = s.rd R.SPEED_EPOCH.EPOCH)

/-! ### Frames, streams and ports (08) -/

/-- The frames in egress queue `q` of port `p`, first to leave first. -/
def queueOf (s : State) (p q : Nat) : List EgFrame := SMap.get (fun _ => []) s.net.queues (p * 8 + q)

/-- The point records that the formatter forms for the closed dwell of a head, in the order of their bearings (R24, R214). -/
def pointsDue (s : State) (h : Nat) : List Point :=
  let k := (s.head h).closed
  (k.items.foldl (fun out it => insertItem it out) []).flatMap fun it =>
    (it.reported k.fired).zipIdx.map fun (x, i) => pointOf h k it i x

/-- How many geometry frames a stream sends of a head's table when it repeats what is GEO_S seconds old (R218, R219, R223). -/
def geoFrames (s : State) (str h : Nat) : Nat :=
  if SMap.get (fun _ => 0) s.net.geoGen h = 0 ∨ s.carriesHead str 1 h = false ∨
      s.now < SMap.get (fun _ => 0) s.net.geoAt (str * 16 + h) + s.rd (R.NET_STREAM_CTL.GEO_S str) * 1000000000 then 0
  else
    let n := max 1 (s.recsPerFrame str)
    (((s.geoTable h).filter fun x => decide (s.rd (R.NET_STREAM_BID_LO.BID_LO str) ≤ x.1) &&
      decide (x.1 ≤ s.rd (R.NET_STREAM_BID_HI.BID_HI str))).length + n - 1) / n

/-- Points and their frames (R213, R214, R215, R218, R223): the formatter writes every record of the dwell into the ring at successive
indices; a flush, FLUSH µs after the first record, closes the open frame and queues it with the next SEQ; a stream that is disabled
closes its open frames, each with the next SEQ. -/
def Obligations.PointCommandsComplete : Prop :=
  ∀ (s : State) (t : Time) (h : HeadIx) (str : Fin 16),
    ((s.upTo t).formatReady h = true → 16 ≤ s.rd (R.NET_RING.RING_LOG2 h) → s.rd (R.NET_RING.RING_LOG2 h) ≤ 22 →
        (pointsDue s h).length ≤ 2 ^ 16 →
      Answers (.pointFormat t h) s fun u =>
        (u.head h).closed.formatted = true ∧
          u.rd (R.NET_RING_WR.WR_IDX h) = (s.rd (R.NET_RING_WR.WR_IDX h) + (pointsDue s h).length) % 2 ^ 32 ∧
          ∀ i < (pointsDue s h).length,
            u.hbmBytes (s.ringAddr h ((s.rd (R.NET_RING_WR.WR_IDX h) + i) % 2 ^ 32)) 32 = ((pointsDue s h).map (·.bytes)).getD i []) ∧
    ((s.openFrame str h).recs ≠ [] →
        (s.openFrame str h).openAt + s.rd (R.NET_STREAM_CTL.FLUSH str) * 1000 ≤ (s.upTo t).now →
      Answers (.pointFrameFlush t str h) s fun u =>
        (u.openFrame str h).recs = [] ∧ Advanced s u (R.NET_STREAM_SEQ.SEQ str) ∧
          queueOf u (s.streamPort str) (s.rd (R.NET_STREAM0.QUEUE str)) =
            queueOf s (s.streamPort str) (s.rd (R.NET_STREAM0.QUEUE str)) ++
              [{ kind := .points, stream := str, head := h, seq := u.rd (R.NET_STREAM_SEQ.SEQ str), dt := u.now,
                 first := (s.openFrame str h).recs.getLastD 0, count := (s.openFrame str h).recs.length,
                 recs := (s.openFrame str h).recs.reverse }]) ∧
    (s.on (R.NET_STREAM0.EN str) = true →
      Answers (.streamDisable t str) s fun u =>
        u.on (R.NET_STREAM0.EN str) = false ∧ (u.openFrame str h).recs = [] ∧
          u.rd (R.NET_STREAM_SEQ.SEQ str) = (s.rd (R.NET_STREAM_SEQ.SEQ str) +
            (indices 16 fun g => !(s.openFrame str g).recs.isEmpty).length) % 2 ^ 32)

/-- The other frames (R219 to R222, R225): the geometry tables that are GEO_S seconds old repeated; an alarm frame of each island with
one SEQ on N0 and N1, ALARM_MS after the one before; the events logged since the last event frame; and a status frame of 192 bytes,
STATUS_MS after the one before. -/
def Obligations.FrameQueueCommandsComplete : Prop :=
  ∀ (s : State) (t : Time) (h : HeadIx) (str : Fin 16),
    (s.rd (R.NET_STREAM_CTL.GEO_S str) ≠ 0 →
      Answers (.geometryRepeat t str) s fun u =>
        u.rd (R.NET_STREAM_SEQ.SEQ str) =
          (s.rd (R.NET_STREAM_SEQ.SEQ str) + ((List.range 16).map fun g => geoFrames (s.upTo t) str g).sum) % 2 ^ 32) ∧
    (s.hasProgram h = true → (s.upTo t).alarmDue h = true →
      Answers (.alarmFieldStatus t h) s fun u =>
        let f (b : Bool) : EgFrame := ⟨.alarm b, 0, h.val, (s.net.safeSeq + 1) % 2 ^ 32, u.now, 0, 1, [], u.alarmBody h 1 b⟩
        u.net.safeSeq = (s.net.safeSeq + 1) % 2 ^ 32 ∧ queueOf u 0 7 = queueOf s 0 7 ++ [f false] ∧
          queueOf u 1 7 = queueOf s 1 7 ++ [f true] ∧ (f false).body.length = 60) ∧
    (s.dev.evtSent < 2 ^ 32 →
      Answers (.eventFrameQueue t) s fun u =>
        let n := min 4096 ((s.rd R.EVT_WR.WR + 2 ^ 32 - s.dev.evtSent) % 2 ^ 32)
        let m := max 1 (s.recsPerFrame str)
        u.dev.evtSent = s.rd R.EVT_WR.WR ∧
          u.rd (R.NET_STREAM_SEQ.SEQ str) =
            (s.rd (R.NET_STREAM_SEQ.SEQ str) + if s.carries str 3 = true then (n + m - 1) / m else 0) % 2 ^ 32) ∧
    (s.carries str 4 = true → (∀ a ∈ s.net.statusAt, a + s.rd R.NET_SAFE.STATUS_MS * 1000000 ≤ (s.upTo t).now) →
      Answers (.statusFrame t) s fun u =>
        Advanced s u (R.NET_STREAM_SEQ.SEQ str) ∧
          (queueOf u (s.streamPort str) (s.rd (R.NET_STREAM0.QUEUE str))).any (fun f => f.kind == .status && f.stream == str.val &&
            f.seq == u.rd (R.NET_STREAM_SEQ.SEQ str) && f.body == (s.upTo t).statusBody && f.body.length == 192) = true)

/-- The ports (R217, R226, R229, R230, R232 to R234): the first frame that the device may send from a queue that is ready leaves it.
A frame of a stream is on the port as an Ethernet frame, on both ports of a PRP node with one trailer sequence, or is counted as LOST
where no link is up; an alarm frame, a message of IEEE 802.1AS and a frame without a stream leave on their port. A supervision frame is
queued every SUP_MS with its own sequence number; a silent plane and a lost or regained link are logged. -/
def Obligations.PortCommandsComplete : Prop :=
  ∀ (s : State) (t : Time) (p : Fin 4) (q : Fin 8) (i : Fin 2),
    (∀ f ∈ (s.sendable p q).head?, (s.upTo t).mayTransmit p q = true → f.kind.type ≠ 3 → f.kind.type ≠ 0 →
      Answers (.frameTransmit t p q) s fun u =>
        let bs := (s.upTo t).ethFrame (s.streamAddress f.stream)
          ((s.upTo t).payload f (f.kind == .points && bit s.net.gap f.stream))
        queueOf u p q = (queueOf s p q).erase f ∧ SMap.get (fun _ => 0) u.net.sentSeq f.stream = f.seq ∧
          (s.linked p = false → u.rd (R.NET_STREAM_LOST.LOST f.stream) = (s.rd (R.NET_STREAM_LOST.LOST f.stream) +
            (if f.kind.type = 1 then f.recs.length else f.count)) % 2 ^ 32) ∧
          (s.prpPort p = false → s.on (R.NET_PORT.LINK p) = true → SMap.get (fun _ => []) u.net.onPort p = bs) ∧
          (s.prpPort p = true → s.on (R.NET_PORT.LINK i) = true → Advanced s u R.NET_PRP.RCT_SEQ ∧
            SMap.get (fun _ => []) u.net.onPort i = bs ++ rct (u.rd R.NET_PRP.RCT_SEQ) i (bs.length - 14 + 6))) ∧
    (∀ f ∈ (s.sendable p q).head?, (s.upTo t).mayTransmit p q = true → s.on (R.NET_PORT.LINK p) = true →
      Answers (.frameTransmit t p q) s fun u =>
        let on := SMap.get (fun _ => []) u.net.onPort p
        (∀ b, f.kind = .alarm b →
          u.net.safeSent = f.seq ∧ on = (s.upTo t).ethFrame (alarmAddressing b) ((s.upTo t).payload f false)) ∧
        (∀ m, f.kind = .gptp m → on = s.gptpFrame p m) ∧ (∀ b, f.kind = .raw b → s.prpPort p = false → on = f.body)) ∧
    (s.on R.NET_PRP.EN = true → (∀ a ∈ s.net.supAt, a + s.rd R.NET_PRP.SUP_MS * 2000000 ≤ (s.upTo t).now) →
      Answers (.prpSupervision t) s fun u =>
        u.net.supSeq = (s.net.supSeq + 1) % 2 ^ 16 ∧ u.net.supAt = some (s.upTo t).now ∧
          queueOf u 0 0 = queueOf s 0 0 ++ [⟨.raw false, 0, 0, 0, (s.upTo t).now, 0, 1, [], s.supFrame⟩]) ∧
    (s.on R.NET_PRP.EN = true → SMap.get (fun _ => 0) s.net.planeAt i + 3 * (s.rd R.NET_PRP.SUP_MS * 2000000) ≤ (s.upTo t).now →
      Answers (.netPrpPlane t i) s fun u => Recorded s u .netPrpPlane noHead) ∧
    (s.on (R.NET_PORT.LINK p) = true →
      Answers (.netLinkDown t p) s fun u =>
        u.on (R.NET_PORT.LINK p) = false ∧ Recorded s u .netLinkDown noHead) ∧
    (s.on (R.NET_PORT.LINK p) = false → s.rd (R.NET_PORT.MODE p) ≠ 0 →
      Answers (.netLinkUp t p) s fun u =>
        u.on (R.NET_PORT.LINK p) = true ∧ Recorded s u .netLinkUp noHead)

/-! ### Capture, sequencers and snapshots (09) -/

/-- The state of slot `i` after it goes to WAIT (R252): PRE at once where its stream has no slot in PRE or POST and no lower
slot of the stream waits. -/
def afterWait (s : State) (i : Nat) : Nat :=
  if (List.range 8).any fun j => s.slotStream j == s.slotStream i &&
      (s.slotState j == slPre || s.slotState j == slPost || (decide (j < i) && s.slotState j == slWait)) then slWait else slPre

/-- Capture frames and snapshot slots (R240, R241, R242, R252, R254, R255), while capture runs and no MISSED mark waits: a tick, once
in 2,048 ns, records the sources that are due; the open frame closes with the next number when its frame time is over, the queue fills
the next one, and the active slot stores it unless its post-trigger has ended (a stream that drains the return list is not meant here);
a slot is armed, becomes FULL with its header written when its post-trigger has ended, and is released only by its generation. -/
def Obligations.CaptureCommandsComplete : Prop :=
  ∀ (s : State) (t : Time) (k : Fin 4) (i : Fin 8),
    s.capturing = true → (∀ q < 4, (s.seqr q).missN = 0) →
    (s.on R.CAP_STAT.EN = true → s.dev.sealed = true → s.cap.statusTick ≠ some ((s.upTo t).now / 2048) →
      Answers (.captureStatusTick t) s fun u =>
        ∀ src ∈ statusSources, (SMap.get (fun _ => none) u.cap.status src) =
          match SMap.get (fun _ => none) s.cap.status src with
          | none => some (s.statusValue src)
          | some old => some (if s.statusDiffers src old (s.statusValue src) = true then s.statusValue src else old)) ∧
    (s.bitOf R.CAP_CFG.STREAM_EN k = true → (s.on R.CAP_RL.EN && s.rd R.CAP_RL.STREAM == k.val) = false →
        (s.stream k).opened.length ≤ 166 → (s.upTo t).capFrameDue k = true →
      Answers (.captureFrameClose t k) s fun u =>
        Advanced s u (R.CAP_STREAM_FSEQ.FSEQ k) ∧ (u.stream k).opened = ((s.stream k).queue.take 166).reverse ∧
          (u.stream k).queue = (s.stream k).queue.drop 166 ∧ (u.stream k).loss = false ∧
          (∀ j ∈ s.activeSlot k, (s.stream k).opened ≠ [] →
              ¬(s.slotState j = slPost ∧ s.slotEnd j < (s.upTo t).now * 256) →
            u.hbmBytes (s.frameAddr j (s.slot j).wr) 1024 =
              (s.upTo t).capFrame k (u.rd (R.CAP_STREAM_FSEQ.FSEQ k)) (s.stream k).loss (s.stream k).opened.reverse)) ∧
    (s.slotState i = slIdle →
      Answers (.slotArm t i) s fun u =>
        u.rd R.CAP_SLOT_RESULT.RESULT = 2 ∧ u.slotState i = afterWait s i ∧
          (u.slotState i = slPre → (u.slot i).armAt = u.now)) ∧
    (s.slotState i = slFull → s.rd (R.CAP_SLOT3.GEN i) = s.rd R.CAP_SLOT_GEN.GEN →
      Answers (.slotRelease t i) s fun u =>
        u.rd R.CAP_SLOT_RESULT.RESULT = 1 ∧
          u.slotState i = if s.on (R.CAP_SLOT2.REARM i) = true then afterWait s i else slIdle) ∧
    (s.slotState i ≠ slFull ∨ s.rd (R.CAP_SLOT3.GEN i) ≠ s.rd R.CAP_SLOT_GEN.GEN →
      Answers (.slotRelease t i) s fun u =>
        u.rd R.CAP_SLOT_RESULT.RESULT = (if s.slotState i = slFull then 4 else 3) ∧
          u.slotState i = s.slotState i ∧ Recorded s u .capRelRefused noHead) ∧
    (s.slotState i = slPost → s.slotEnd i ≤ (s.upTo t).now * 256 →
      Answers (.slotFull t i) s fun u =>
        u.slotState i = slFull ∧ u.hbmBytes (u.slotAddr i) 64 = u.slotHeader i ∧ Recorded s u .capSlotFull noHead)

/-- The trigger sequencers (R246 to R250), what a sequencer decides being 2.5 µs old and below no lower sequencer's: an occurrence that
the condition matches counts, and at COUNT_M1 + 1 the action is taken at its time; a timer expires at entry + T, after the occurrences up
to that time, and goes to TO_STATE or triggers; the pulses of TRIG_OUT end after OUT_W; re-arm ends in state 0, not before its time and
not while a slot is in POST; a forced occurrence waits for its turn; a restart leads to state 0. -/
def Obligations.SequencerCommandsComplete : Prop :=
  ∀ (s : State) (t : Time) (q idx : Fin 4) (j : Fin 16),
    s.capturing = true → s.on (R.SEQ_CFG.EN q) = true → s.rd (R.SEQ_STAT.STATE q) = j.val →
    (∀ o ∈ (s.seqr q).waiting.head?, s.on (R.SEQ_STAT.REARMING q) = false → s.occMatches q j o = true →
        s.occAdmitted q j o.time = true → (∀ e ∈ s.seqTimer q, o.time ≤ e) → (s.upTo t).seqMay q o.time = true →
      Answers (.sequencerOccurrence t q) s fun u =>
        if s.rd (R.SEQ_STAT.COUNT q) < s.rd (R.SEQ_ST0.COUNT_M1 q j) then
          u.rd (R.SEQ_STAT.COUNT q) = s.rd (R.SEQ_STAT.COUNT q) + 1 ∧ u.rd (R.SEQ_STAT.STATE q) = j
        else
          (s.rd (R.SEQ_ST0.ACTION q j) = 0 → u.rd (R.SEQ_STAT.STATE q) = (j.val + 1) % 16 ∧ u.rd (R.SEQ_STAT.COUNT q) = 0 ∧
            (u.seqr q).entry = u.now * 256) ∧
          (s.rd (R.SEQ_ST0.ACTION q j) = 1 → u.rd (R.SEQ_STAT.STATE q) = s.rd (R.SEQ_ST0.GOTO q j) ∧
            u.rd (R.SEQ_STAT.COUNT q) = 0) ∧
          (s.rd (R.SEQ_ST0.ACTION q j) = 2 → Advanced s u (R.SEQ_TRIGS.TRIGS q) ∧ u.on (R.SEQ_STAT.REARMING q) = true ∧
            (u.seqr q).rearmAt = o.time / 256 + s.rd (R.SEQ_CFG.REARM q) * 1000 ∧
            (∀ k < 4, k ∈ s.markStreams q → ∀ i ∈ s.preSlot k o.time,
              u.slotState i = slPost ∧ Advanced s u (R.CAP_SLOT3.GEN i) ∧ (u.slot i).trigAt = o.time))) ∧
    (∀ e ∈ s.seqTimer q, ((s.seqr q).waiting.all fun o => decide (e < o.time)) = true → (s.upTo t).seqMay q e = true →
      Answers (.sequencerTimerExpiry t q) s fun u =>
        (s.rd (R.SEQ_ST1.TMODE q j) = 1 → u.rd (R.SEQ_STAT.STATE q) = s.rd (R.SEQ_ST1.TO_STATE q j) ∧
          u.rd (R.SEQ_STAT.COUNT q) = 0 ∧ (u.seqr q).entry = e) ∧
        (s.rd (R.SEQ_ST1.TMODE q j) = 3 → s.rd (R.SEQ_ST0.ACTION q j) = 2 → Advanced s u (R.SEQ_TRIGS.TRIGS q) ∧
          u.rd64 (R.SEQ_TRIG_DT_LO.VALUE q) (R.SEQ_TRIG_DT_HI.VALUE q) = e / 256 % 2 ^ 64)) ∧
    (s.trigOutHigh idx = true → (∀ e ∈ SMap.get (fun _ => []) s.cap.trigOut idx, e ≤ (s.upTo t).now) →
      Answers (.trigOutPulseEnd t idx) s fun u => u.trigOutHigh idx = false) ∧
    (s.on (R.SEQ_STAT.REARMING q) = true → (s.seqr q).rearmAt ≤ (s.upTo t).now → (s.seqr q).slots = 0 →
      Answers (.rearmEnd t q) s fun u =>
        u.on (R.SEQ_STAT.REARMING q) = false ∧ u.rd (R.SEQ_STAT.STATE q) = 0 ∧ u.rd (R.SEQ_STAT.COUNT q) = 0) ∧
    (Answers (.sequencerForce t q) s fun u =>
      (u.seqr q).waiting.contains ⟨0x0A, 0, false, u.now * 256⟩ = true ∧
        (u.seqr q).waiting.length = (s.seqr q).waiting.length + 1) ∧
    Answers (.sequencerRestart t q) s fun u =>
      u.rd (R.SEQ_STAT.STATE q) = 0 ∧ u.rd (R.SEQ_STAT.COUNT q) = 0 ∧ u.on (R.SEQ_STAT.REARMING q) = false

/-! ### The servo engine (10) -/

/-- Samples and faults of a loop (R260, R261, R265, R266, R277 to R280): at a sample instant of a head that is not OFF the error of
each axis is formed from its set-point and estimate, both are shown, and a DRIVE cell leaves where the link has lanes; a computation
that is late is counted after 2 µs, and the third in a row starts the fault park, as feedback does whose blocks have failed for 10 µs;
the hold of a fault park ends in the open-loop ramp after 1 ms; a park that is not complete by its time-out takes the head to FAULT
with cause 3; the steps of the offset calibration end in turn, each after its time. -/
def Obligations.ServoCommandsComplete : Prop :=
  ∀ (s : State) (t : Time) (h : HeadIx) (a : Fin 2) (y dx dy : Bool),
    s.headState h ≠ hsOff →
    ((s.upTo t).sampleInstant h = true →
      Answers (.servoSample t h dx dy) s fun u =>
      let x := (u.head h).servo.axis a
      x.err = satEU (x.sp * 256 - x.est) ∧ u.rd (R.SRV_ERR.VALUE h a) = wrapS 24 x.err ∧
        u.rd (R.SRV_POS.VALUE h a) = wrapS 24 x.est ∧ x.fresh = 0 ∧ (u.head h).servo.sampleAt = u.now ∧
        (s.rd (R.LANE_QSTATUS.TX_SET h) ≠ 0 → s.rd (R.LANE_QSTATUS.PORT_STATE h) ≠ 0 →
          (u.head h).servo.cells = (s.head h).servo.cells + 1)) ∧
    (s.headState h ≠ hsFault → (s.head h).servo.faultPark = false → ((s.head h).servo.axis (flag y)).ovr = 2 →
        ((s.head h).servo.axis (flag y)).late = true → (s.head h).servo.sampleAt + 2000 ≤ (s.upTo t).now →
      Answers (.servoOverrun t h y) s fun u =>
        Advanced s u (R.SRV_CNT_OVR.COUNT h) ∧ u.rd (R.SRV_STATUS.SEQ h) = 3 ∧ (u.head h).servo.faultPark = true ∧
          ((u.head h).servo.axis (flag y)).drive = ((s.head h).servo.axis (flag y)).drive ∧ Recorded s u .srvOverrun h) ∧
    (((s.head h).servo.axis (flag y)).ovr ≠ 2 → ((s.head h).servo.axis (flag y)).late = true →
        (s.head h).servo.sampleAt + 2000 ≤ (s.upTo t).now →
      Answers (.servoOverrun t h y) s fun u =>
        Advanced s u (R.SRV_CNT_OVR.COUNT h) ∧ u.rd (R.SRV_STATUS.SEQ h) = s.rd (R.SRV_STATUS.SEQ h) ∧
          ((u.head h).servo.axis (flag y)).ovr = ((s.head h).servo.axis (flag y)).ovr + 1) ∧
    (s.headState h ≠ hsFault → (s.head h).servo.faultPark = false → ((s.head h).servo.axis (flag y)).lost = false →
        (s.upTo t).blocksGone h = true →
      Answers (.feedbackLost t h y) s fun u =>
        Advanced s u (R.SRV_CNT_LOST.COUNT h) ∧ u.rd (R.SRV_STATUS.SEQ h) = 3 ∧ (u.head h).servo.faultPark = true ∧
          (s.isHelper h = false → u.on (R.FIRE_INHIBIT.SERVO h) = true) ∧ Recorded s u .srvFeedbackLost h) ∧
    ((s.head h).servo.faultPark = true → s.rd (R.SRV_STATUS.SEQ h) = 3 →
        (s.head h).servo.faultAt + 1000000 ≤ (s.upTo t).now →
      Answers (.faultParkHoldEnd t h) s fun u => u.rd (R.SRV_STATUS.SEQ h) = 4) ∧
    ((s.head h).scan.parking = true → s.headState h = hsParked ∨ s.headState h = hsScanning ∨ s.headState h = hsInhibited →
        (∃ d ∈ (s.head h).servo.parkDeadline, d ≤ (s.upTo t).now) →
      Answers (.parkTimeout t h) s fun u =>
        u.headState h = hsFault ∧ u.rd (R.HEAD_STATE.FAULT_CAUSE h) = 3 ∧ Recorded s u .srvParkFail h) ∧
    ((s.head h).servo.calStep = 3 → (s.head h).servo.calAt + s.calTime h ≤ (s.upTo t).now →
      Answers (.servoOffsetCalPhaseEnd t h) s fun u =>
        (u.head h).servo.calStep = 0 ∧ (u.head h).scan.calServo = false ∧ Advanced s u (R.CAL_CNT.VALUE 2)) ∧
    ((s.head h).servo.calStep = 1 ∨ (s.head h).servo.calStep = 2 →
        (s.head h).servo.calAt + s.calTime h ≤ (s.upTo t).now →
      Answers (.servoOffsetCalPhaseEnd t h) s fun u =>
        (u.head h).servo.calStep = (s.head h).servo.calStep + 1 ∧
          ((s.head h).servo.calStep = 2 → u.rd (R.SRV_STATUS.MODE h) = 2))

/-- The compensator of R266 keeps the drive word and the stored output within the limits of the axis and shifts the history of
errors and outputs by one. -/
def Obligations.CompensatorStaysInLimits : Prop :=
  ∀ (s : State) (h : HeadIx) (a k : Fin 2) (x : Axis) (e : Int),
    s.rdS (R.SRV_DRV.DRV_MIN h a) ≤ s.rdS (R.SRV_DRV.DRV_MAX h a) →
      let y := s.compensate h a k x e
      s.rdS (R.SRV_DRV.DRV_MIN h a) ≤ y.drive ∧ y.drive ≤ s.rdS (R.SRV_DRV.DRV_MAX h a) ∧
        s.rdS (R.SRV_DRV.DRV_MIN h a) * 256 ≤ y.y1 ∧ y.y1 ≤ s.rdS (R.SRV_DRV.DRV_MAX h a) * 256 ∧
        (y.e1, y.e2, y.e3) = (e, x.e1, x.e2) ∧ (y.y2, y.y3) = (x.y1, x.y2)

/-- Excitation, banks and blocks (R261, R268, R276): a level is written, and waits for the flyback while the head scans; a hold
that has ended is released; inside a maintenance session the coefficients of a bank that is not active are written, and outside one the
write is an access error; a block that arrives in sequence joins the stream of each axis. -/
def Obligations.ServoWritesComplete : Prop :=
  ∀ (s : State) (t : Time) (i : Iface) (h : HeadIx) (a k : Fin 2) (j : Fin 8) (v : Word) (level : BitVec 2) (seq : BitVec 4)
      (rx : LinkRx) (ctr : BitVec 6) (x y : BitVec 64),
    (level ≠ 3 →
      Answers (.excitationLevelWrite t i h level) s fun u =>
        u.rd (R.SRV_CTL.EXC_LEVEL h) = level.toNat ∧ (s.scanning h = true → (u.head h).servo.excPend = true)) ∧
    (Answers (.excitationHoldEnd t h) s fun u =>
      ((u.head h).servo.axis a).holdUntil =
        if ((s.head h).servo.axis a).holdUntil ≤ u.now then 0 else ((s.head h).servo.axis a).holdUntil) ∧
    (s.mayConfig .session = true → ((s.head h).servo.axis a).bank ≠ k →
      Answers (.coefBankWrite t h a k j v) s fun u =>
        u.rd (R.SRV_COEF.COEF h a k j) = if j = 7 then v.toNat % 2 else v.toNat) ∧
    (s.mayConfig .session = false →
      Answers (.coefBankWrite t h a k j v) s fun u =>
        u.rd (R.SRV_COEF.COEF h a k j) = s.rd (R.SRV_COEF.COEF h a k j) ∧ u.rd R.DEV_ACC_INFO.CAUSE = 2) ∧
    (linkGood rx = true → (s.head h).servo.sdCtr = some ((ctr.toNat + 63) % 64) → (s.head h).servo.sdSeq ≠ seq.toNat →
      Answers (.sdBlockReceive t h seq rx ctr x y) s fun u =>
        (u.head h).servo.x.blocks = (x :: (s.head h).servo.x.blocks).take 40 ∧
          (u.head h).servo.y.blocks = (y :: (s.head h).servo.y.blocks).take 40 ∧
          (u.head h).servo.x.fresh = (s.head h).servo.x.fresh + 1 ∧ (u.head h).servo.x.lost = false ∧
          (u.head h).servo.sdCtr = some ctr.toNat)

/-! ### The eye-safety accountant (11) -/

/-- The accountant's commands (R283 to R285, R289, R290), on a memory of rings in its canonical form: a proof pulse within its bound
whose code is ready is charged, rounded up, to every sector of its range in every enabled window, in the bucket that DT is in, and a
sum past its limit closes the gate; the full-scale code of a shot latches PULSE_HIGH; the rings of a window move on by the buckets that
have passed; the latches clear in PARKED after a later zero calibration; a zero calibration whose cycles are over and whose codes agree
sets ZERO, one whose codes differ by more than 64 fails. No reading lowers a sum below what the passing of the buckets leaves of it. -/
def Obligations.EyeCommandsComplete : Prop :=
  ∀ (s : State) (t : Time) (h : HeadIx) (w : Fin 4) (sec : BitVec 12) (k : BitVec 12) (code : BitVec 14) (z : Nat) (shot : Option (BitVec 12))
      (ecc : EyeEcc),
    SMap.wf ringDefault (s.eye h).rings = true →
    (∀ f ∈ (s.eye h).proofAt, (s.upTo t).codeReady h (f * 256) = true →
        s.energyPJ h code.toNat ≤ (s.image h).eProof * 1000 → code.toNat ≠ 0x3FFF →
      Answers (.energyMonitorSample t h none code .ok) s fun u =>
        let v := (s.upTo t).eyeTurn h w
        let e := ceilDiv (s.energyPJ h code.toNat) 1000
        let r := (s.eye h).proof
        u.rd64 (R.EYE_ENERGY_LO.VALUE h) (R.EYE_ENERGY_HI.VALUE h) =
            (s.rd64 (R.EYE_ENERGY_LO.VALUE h) (R.EYE_ENERGY_HI.VALUE h) + e) % 2 ^ 64 ∧
          (s.winOn h w = true → r.sectors.contains sec.toNat = true →
            (SMap.get ringDefault (v.eye h).rings (ringKey w sec.toNat)).held = 0 →
            u.eyeSum h w sec.toNat = satSum (v.eyeSum h w sec.toNat + e) ∧
              (s.rd (R.EYE_WIN_LIMIT.LIMIT h w) < u.eyeSum h w sec.toNat + 2 * (s.image h).eProof →
                u.on (R.EYE_STATUS.LIMIT h) = true ∧ (s.isHelper h = false → u.on (R.FIRE_INHIBIT.EYE h) = true))) ∧
          (s.winOn h w = true → r.sectors.contains sec.toNat = false → u.eyeSum h w sec.toNat = v.eyeSum h w sec.toNat)) ∧
    (∀ x ∈ (s.eye h).pulses.find? (fun (x : Pulse) => x.k == k.toNat), (s.upTo t).codeReady h x.fk = true → code.toNat = 0x3FFF →
      Answers (.energyMonitorSample t h (some k) code .ok) s fun u =>
        Advanced s u (R.EYE_CNT_HIGH.COUNT h) ∧ u.on (R.EYE_STATUS.PULSE_HIGH h) = true ∧
          (s.isHelper h = false → u.on (R.FIRE_INHIBIT.EYE h) = true) ∧ Recorded s u .eyePulseHigh h) ∧
    (Answers (.eyeBucketAdvance t h w .ok) s fun u =>
      let k := (s.upTo t).now / max 1 (s.bucketLen h w)
      let n := k - SMap.get (fun _ => 0) (s.eye h).bucket w
      if n = 0 then u.eye h = s.eye h
      else
        SMap.get (fun _ => 0) (u.eye h).bucket w = k ∧
        SMap.get ringDefault (u.eye h).rings (ringKey w sec.toNat) =
          (SMap.get ringDefault (s.eye h).rings (ringKey w sec.toNat)).turn n ∧
        SMap.get prefillDefault (u.eye h).prefill w =
          (List.replicate (min n 9) 0 ++ SMap.get prefillDefault (s.eye h).prefill w).take 9) ∧
    (s.headState h = hsParked → (s.eye h).zeroAt = some z → (s.eye h).latchAt ≤ z →
      Answers (.eyeLatchClear t h) s fun u =>
        u.on (R.EYE_STATUS.MON_FAIL h) = false ∧ u.on (R.EYE_STATUS.PULSE_HIGH h) = false) ∧
    ((s.head h).scan.calZero = true → (s.upTo t).codeReady h (((s.eye h).zeroFrom + 255000) * 256) = true →
      Answers (.zeroCalComplete t h (List.replicate 256 code)) s fun u =>
        u.rd (R.EYE_ZERO.ZERO h) = code.toNat ∧ Advanced s u (R.CAL_CNT.VALUE 4) ∧ (u.head h).scan.calZero = false ∧
          u.on (R.EYE_STATUS.ZERO_PEND h) = false) ∧
    ((s.head h).scan.calZero = true → (s.upTo t).codeReady h (((s.eye h).zeroFrom + 255000) * 256) = true → 64 < code.toNat →
      Answers (.zeroCalComplete t h (0 :: List.replicate 255 code)) s fun u =>
        u.rd (R.EYE_ZERO.ZERO h) = s.rd (R.EYE_ZERO.ZERO h) ∧ u.on (R.EYE_STATUS.MON_FAIL h) = true ∧
          Recorded s u .eyeMonFail h) ∧
    Answers (.energyMonitorSample t h shot code ecc) s fun u =>
      ((s.upTo t).eyeTurn h w).eyeSum h w sec.toNat ≤ u.eyeSum h w sec.toNat

/-! ### Safety inputs, outputs and communication (12) -/

/-- Pair `m` holds a latched channel fault (R307). -/
def faulted (s : State) (m : Nat) : Bool := s.bitOf R.SAFE_OSSD_STATUS.FAULT m

/-- The OSSD pairs and the reset (R303, R304, R306, R317 to R319): a pair whose conditions have held for ON_DLY on both islands goes
on; an island's channel that lacks a condition is off, and the pair shows the condition that both lack; a test of a channel that is on,
at its time, takes that channel alone off, and on again after TEST_W; an accepted reset clears the occurrence causes, a refused one is
counted; a reset channel that has been closed for 5 s is shown stuck, and no longer when the filtered levels of both are open. -/
def Obligations.OssdCommandsComplete : Prop :=
  ∀ (s : State) (t : Time) (h : HeadIx) (m : Fin 4) (b : Bool) (c : Fin 2),
    ((∀ i, (s.upTo t).chanCause m i = none) → faulted s m = false → (∀ i, s.chanOn m i = false) →
        (∀ i, ∃ d ∈ SMap.get (fun _ => none) s.safe.okSince (chanIx m i),
          d + s.rd (R.SAFE_OSSD_CFG.ON_DLY m) * 10000000 ≤ (s.upTo t).now) →
        (s.on (R.SAFE_OSSD_CFG.RESTART m) = false ∨ ∀ i, bit s.safe.need (chanIx m i) = false) →
      Answers (.ossdOnDelayExpiry t m) s fun u =>
        u.bitOf R.SAFE_OSSD_STATUS.ON_A m = true ∧ u.bitOf R.SAFE_OSSD_STATUS.ON_B m = true ∧ u.rd (ossdCause m) = 0) ∧
    (Answers (.headStale t h) s fun u =>
      ((s.upTo t).chanCause m b ≠ none → u.chanOn m b = false) ∧
        ∀ c, (∀ i, (s.upTo t).chanCause m i = some c) → faulted s m = false → u.ossdOn m = false ∧ u.rd (ossdCause m) = c) ∧
    (s.bitOf (onField b) m = true → (s.upTo t).testTime b = true →
      Answers (.ossdTestStart t m b) s fun u =>
        u.bitOf (onField b) m = false ∧ bit u.safe.testing (testBit m b) = true ∧
          u.bitOf (onField (!b)) m = s.bitOf (onField (!b)) m) ∧
    (bit s.safe.testing (testBit m b) = true →
        SMap.get (fun _ => 0) s.safe.chanAt (chanIx m b) + s.rd R.SAFE_OSSD_TEST.TEST_W * 1000 ≤ (s.upTo t).now →
      Answers (.ossdTestEnd t m b) s fun u =>
        u.bitOf (onField b) m = true ∧ bit u.safe.testing (testBit m b) = false ∧
          u.bitOf (onField (!b)) m = s.bitOf (onField (!b)) m) ∧
    (s.safe.rstDone = some true → s.dev.safeOcc ≠ [] →
      Answers (.resetAccept t true) s fun u =>
        Advanced s u R.SAFE_RST_STATUS.ACCEPTED ∧ u.dev.safeOcc = [] ∧ u.safe.rstDone = none ∧
          u.rd R.SAFE_CNT_RST_INVALID.COUNT = s.rd R.SAFE_CNT_RST_INVALID.COUNT) ∧
    (s.safe.rstDone = some false →
      Answers (.resetAccept t true) s fun u =>
        Advanced s u R.SAFE_CNT_RST_INVALID.COUNT ∧ u.dev.safeOcc = s.dev.safeOcc ∧ Recorded s u .rstInvalid noHead) ∧
    ((∃ a ∈ (s.channel (16 + c)).highSince, a + 5000000000 ≤ (s.upTo t).now) → s.on R.SAFE_RST_STATUS.STUCK = false →
      Answers (.rstStuck t c) s fun u => u.on R.SAFE_RST_STATUS.STUCK = true ∧ Recorded s u .rstStuck noHead) ∧
    ((s.channel (16 + c)).filt = true → (s.channel (17 - c)).filt = false → s.dev.sealed = true →
        100 ≤ (s.channel (16 + c)).count →
      Answers (.inputFilterChange t (Fin.natAdd 16 c) false) s fun u => u.on R.SAFE_RST_STATUS.STUCK = false)

/-- Decisions, ticks and supervision (R22, R23, R298, R301, R304): a dwell with all its results is decided once, and its slow decision
is made once when every bearing has been merged or will not be; 178 ns after the close the deadline forces the decision and is counted;
after a tick a channel that is on meets conditions 1 to 3 and has no fault; a clock that differs by more than 2 %, or DT that does not
advance, is SAFE_CLOCK. -/
def Obligations.DecisionCommandsComplete : Prop :=
  ∀ (s : State) (t : Time) (h : HeadIx) (b i differ : Bool) (dev : BitVec 16) (v : SafeLevels) (m : Fin 4),
    ((s.head h).closed.fired ≠ 0 → (s.head h).closed.items.all (fun i => i.det.isSome) = true →
        (s.head h).closed.decided = false →
      Answers (.safetyDecision t h false differ) s fun u =>
        (u.head h).closed.decided = true ∧ (u.alarm h i).dwell = (s.head h).closed.dwell ∧
          (u.alarm h i).close = (s.head h).closed.closeAt) ∧
    ((s.head h).closed.fired ≠ 0 → (s.upTo t).slowReady h = true →
      Answers (.safetyDecision t h true differ) s fun u =>
        (u.head h).closed.slowDone = true ∧ (u.alarm h i).dwell = (s.head h).closed.dwell ∧
          (u.alarm h i).close = (s.head h).closed.closeAt) ∧
    ((s.head h).closed.fired ≠ 0 → (s.head h).closed.decided = false → (s.head h).closed.closeAt + 178 ≤ (s.upTo t).now →
      Answers (.decisionDeadline t h true b) s fun u =>
        Advanced s u R.SAFE_CNT_MISS.COUNT ∧ (u.head h).closed.decided = true ∧ Recorded s u .safeDecisionMiss h) ∧
    (s.dev.sealed = true → (s.upTo t).now % 10000 = 0 →
      Answers (.safetyTick t v) s fun u =>
        u.safe.dtSeen = u.now ∧ (u.chanOn m i = true → u.chanCause m i = none ∧ faulted u m = false)) ∧
    (200 < dev.toInt.natAbs →
      Answers (.safeClockCheck t b dev) s fun u =>
        u.on R.SAFE_STATUS.CLOCK = true ∧ Recorded s u .safeClock noHead ∧ (s.running = true → u.devState = devSafe)) ∧
    (Answers (.dtAdvanceTimeout t b) s fun u =>
      u.on R.SAFE_STATUS.CLOCK = true ∧ Recorded s u .safeClock noHead ∧ (s.running = true → u.devState = devSafe))

/-- A protective breach that an island finds in a dwell of the present frame sets that island's breach state of the head and leaves off
its channel of every pair mapped to the head with the protective zone, within the same decision (R301, R302, R304). -/
def Obligations.BreachSwitchesPairsOff : Prop :=
  ∀ (s : State) (t : Time) (h : HeadIx) (m : Fin 4) (it : Item) (island differ : Bool),
    (s.head h).closed.fired ≠ 0 → (s.head h).closed.items.all (fun i => i.det.isSome) = true →
    (s.head h).closed.decided = false → (s.head h).closed.items.contains it = true → it.un = false →
    (s.itemBreach h (s.head h).closed island false it).1 = true → (s.head h).closed.frame = s.rd (R.SCAN_FRAME_NUM.FRAME h) →
      Answers (.safetyDecision t h false differ) s fun u =>
        (u.breachOf h island).prot = true ∧
          (bit (s.rd (R.SAFE_OSSD_CFG.HEAD_MASK m)) h = true → s.on (R.SAFE_OSSD_CFG.ZONE m) = false → u.chanOn m island = false)

/-- The safety inputs after seal (R309 to R312, R315): when the count of a channel fills, its filtered level changes, and an input
without a fault is closed exactly when both filtered levels are high in EQUIV mode, or SI_A is high and SI_B low in ANTI mode; the
second failed test in a row, judged once after the pulse, is a CROSS fault; channels that still disagree when DISC_T has passed are a
DISC fault; a field code that has held for FSEL_T takes effect. -/
def Obligations.SafetyInputCommandsComplete : Prop :=
  ∀ (s : State) (t : Time) (c : Fin 16) (n : Fin 8) (k : Fin 4) (level : Bool),
    (s.dev.sealed = true → (s.channel c).filt ≠ level → s.filterTicks c ≤ (s.channel c).count + 1 → s.inputFault (c / 2) = false →
      Answers (.inputFilterChange t (Fin.castLE (by decide) c) level) s fun u =>
        (u.channel c).filt = level ∧ (u.channel c).count = 0 ∧
          u.siClosed (c / 2) = ((u.channel (2 * (c / 2))).filt &&
            if s.on (R.SAFE_SI_CFG.MODE (c / 2)) = true then !(u.channel (2 * (c / 2) + 1)).filt
            else (u.channel (2 * (c / 2) + 1)).filt)) ∧
    (s.chanSrc c = k → (s.channel c).filt = true → (s.channel c).testHigh = true → (s.channel c).fails = 1 →
        s.dev.sealed = true → 1000 * s.rd R.SAFE_TP_CFG.TPW ≤ (s.upTo t).tpOffset k →
        SMap.get (fun _ => none) s.safe.tpDone k ≠ some ((s.upTo t).now - (s.upTo t).tpOffset k) →
      Answers (.testPulse t k) s fun u => s.bitOf R.SAFE_SI_STATE.CROSS (c / 2) = true ∨
        (u.bitOf R.SAFE_SI_STATE.CROSS (c / 2) = true ∧ u.siClosed (c / 2) = false)) ∧
    (s.atClosed (2 * n) ≠ s.atClosed (2 * n + 1) →
        (∃ d ∈ (s.safeInput n).discAt, d + s.rd (R.SAFE_SI_CFG.DISC_T n) * 10000000 ≤ (s.upTo t).now) → s.bitOf R.SAFE_SI_STATE.DISC n = false →
      Answers (.discrepancyTimeout t n) s fun u =>
        u.bitOf R.SAFE_SI_STATE.DISC n = true ∧ u.siClosed n = false ∧ u.bitOf R.SAFE_SI_STATE.TIMING n = false) ∧
    (s.inputCode ≠ s.safe.code → s.safe.codeAt + s.rd R.SAFE_FSEL_CFG.FSEL_T * 1000000 ≤ (s.upTo t).now →
      Answers (.fieldCodeHold t) s fun u => u.safe.code = s.inputCode)

/-- The message, taken at a tick that its stamp does not follow, passes checks 3 to 5 of R323 on both islands. -/
abbrev passesChecks (s : State) (t : Time) (c cmd stamp seq a0 a1 : Nat) : Prop :=
  (s.upTo t).mayTake stamp = true ∧ s.on (R.SAFE_CONN1.EN c) = true ∧ s.cmdAllowed c cmd a0 a1 = true ∧ s.seqAllowed c seq = true ∧
    ¬ (s.connState c = 1 ∧ (s.conn c).deadline < stamp)

/-- What every accepted message does to its connection (R323). -/
abbrev acceptedOn (s u : State) (c stamp seq : Nat) : Prop :=
  u.rd (R.SAFE_CONN3.LAST_SEQ c) = seq ∧ u.connState c = 1 ∧
    (u.conn c).deadline = stamp + s.rd (R.SAFE_CONN1.TIMEOUT c) * 1000000 ∧
    u.rd R.SAFE_CNT_CMD_DISCARD.COUNT = s.rd R.SAFE_CNT_CMD_DISCARD.COUNT

/-- Safety commands, taken at a tick which their stamp does not follow (R323 to R325, Table 12.3): an accepted message takes its SEQ,
sets the deadline and has the effect of its command; an override that fails check 3 is counted and changes neither its connection nor
the override; a deadline that has passed puts the connection in TIMEOUT with no plausibility value in force. -/
def Obligations.SafetyMessagesComplete : Prop :=
  ∀ (s : State) (t : Time) (c : Fin 4) (h : HeadIx) (stamp : Time) (seq a0 a1 : Word),
    (s.connState c = 1 → (s.conn c).deadline < (s.upTo t).now →
      Answers (.connTimeout t c) s fun u =>
        u.connState c = 2 ∧ (u.conn c).plaus = none ∧ Recorded s u .connTimeout noHead) ∧
    (passesChecks s t c 0 stamp.toNat seq.toNat a0.toNat a1.toNat →
      Answers (.cmdNop t c stamp seq a0 a1 true) s fun u => acceptedOn s u c stamp.toNat seq.toNat) ∧
    (passesChecks s t c 1 stamp.toNat seq.toNat a0.toNat a1.toNat →
      Answers (.cmdFieldSelect t c stamp seq a0 a1 true) s fun u =>
        acceptedOn s u c stamp.toNat seq.toNat ∧
          (bit a0.toNat h = true → s.rd (R.DET_SEL_CFG.SRC h) = 2 →
            SMap.get (fun _ => 0) u.safe.cmdSet h = bits a0.toNat 18 16 + 1)) ∧
    (passesChecks s t c 2 stamp.toNat seq.toNat a0.toNat a1.toNat →
      Answers (.cmdOverride t c stamp seq a0 a1 true) s fun u =>
        acceptedOn s u c stamp.toNat seq.toNat ∧
          (bit a0.toNat h = true → u.on (R.DET_SEL_STATUS.OVR h) = bit a0.toNat 19 ∧
            (bit a0.toNat 19 = true → u.rd (R.DET_SEL_STATUS.OVR_SET h) = bits a0.toNat 18 16))) ∧
    (passesChecks s t c 3 stamp.toNat seq.toNat a0.toNat a1.toNat →
      Answers (.cmdSpeedPlaus t c stamp seq a0 a1 true) s fun u =>
        acceptedOn s u c stamp.toNat seq.toNat ∧ (u.conn c).plaus = some (a0.toInt)) ∧
    ((s.upTo t).mayTake stamp.toNat = true → s.on (R.SAFE_CONN1.EN c) = true → s.cmdAllowed c 2 a0.toNat a1.toNat = false →
      Answers (.cmdOverride t c stamp seq a0 a1 true) s fun u =>
        Advanced s u R.SAFE_CNT_CMD_DISCARD.COUNT ∧ Recorded s u .cmdReject noHead ∧
          u.rd (R.SAFE_CONN3.LAST_SEQ c) = s.rd (R.SAFE_CONN3.LAST_SEQ c) ∧ u.connState c = s.connState c ∧
          (u.conn c).deadline = (s.conn c).deadline ∧ u.on (R.DET_SEL_STATUS.OVR h) = s.on (R.DET_SEL_STATUS.OVR h))

/-! ### Twin pairs (13) -/

/-- The token (R332, R344 to R346, R351, R353): a claim drives CLAIM once the partner's lines are free, and 1 µs after it
FIRE_INHIBIT.TOKEN clears; a conflict releases at once and is tried again; an island that has seen no own heartbeat for 4 µs and a
handover give the token up and set TOKEN on every head; without a partner the device decides to claim when JOIN_T has passed since the
seal. -/
def Obligations.TokenCommandsComplete : Prop :=
  ∀ (s : State) (t : Time) (h : HeadIx) (a b : Bool) (i : Iface),
    (s.pair.claim = true → (s.upTo t).tokenFree = true → s.pair.busyAt = none →
      Answers (.tokenClaim t) s fun u =>
        u.rd R.PAIR_STATUS.TOKEN_OUT = 2 ∧ u.rd R.PAIR_STATUS.ROLE ≠ roleShadow ∧ u.pair.claimAt = some u.now ∧
          u.rd64 R.PAIR_TAKE_DT_LO.VALUE R.PAIR_TAKE_DT_HI.VALUE = u.now ∧
          (s.pair.takeover = true → Advanced s u R.PAIR_CNT_TAKEOVER.COUNT)) ∧
    ((∃ x ∈ s.pair.claimAt, x + 1000 ≤ (s.upTo t).now) → s.rd R.PAIR_STATUS.TOKEN_OUT = 2 →
      Answers (.tokenInhibitClear t) s fun u =>
        (s.isHelper h = false → u.on (R.FIRE_INHIBIT.TOKEN h) = false) ∧ u.pair.claimAt = none) ∧
    (s.on R.PAIR_CFG.EN = true → s.rd R.PAIR_STATUS.TOKEN_OUT = 2 →
      Answers (.tokenInChange t true b) s fun u =>
        u.rd R.PAIR_STATUS.TOKEN_IN = 2 + flag b ∧ u.rd R.PAIR_STATUS.TOKEN_OUT = 1 ∧ Advanced s u R.PAIR_CNT_CONFLICT.COUNT ∧
          u.pair.retryDue = true ∧ Recorded s u .pairTokenConflict noHead ∧ u.on (R.FIRE_INHIBIT.TOKEN h) = true) ∧
    (s.on R.PAIR_CFG.EN = false →
      Answers (.tokenInChange t a b) s fun u =>
        u.rd R.PAIR_STATUS.TOKEN_IN = 2 * flag a + flag b ∧ u.rd R.PAIR_STATUS.TOKEN_OUT = s.rd R.PAIR_STATUS.TOKEN_OUT) ∧
    (s.pair.retryDue = true → (s.upTo t).tokenFree = true → s.pair.busyAt = none →
      Answers (.tokenRetry t) s fun u =>
        u.rd R.PAIR_STATUS.TOKEN_OUT = 2 ∧ u.pair.retry = s.pair.retry + 1 ∧ u.pair.retryDue = false) ∧
    (s.on R.PAIR_CFG.EN = true → s.rd R.PAIR_STATUS.TOKEN_OUT = 2 → s.rd R.PAIR_STATUS.ROLE ≠ roleShadow →
        (s.upTo t).silentFor 4000 = true →
      Answers (.holderHbSilence t b) s fun u =>
        u.rd R.PAIR_STATUS.TOKEN_OUT = (if b = true then 3 else 0) ∧ u.rd R.PAIR_STATUS.ROLE = roleShadow ∧
          u.on (R.FIRE_INHIBIT.TOKEN h) = true) ∧
    (s.shadowFit = true →
      Answers (.pairHandover t i) s fun u =>
        u.pair.handover = true ∧ u.rd R.PAIR_STATUS.TOKEN_OUT = 1 ∧ u.on (R.FIRE_INHIBIT.TOKEN h) = true ∧
          u.pair.released = true) ∧
    (s.rd R.PAIR_STATUS.ROLE = roleShadow → 2 ≤ s.sync →
      Answers (.pairRejoin t) s fun u =>
        u.sync = syncCatchup ∧ u.rd R.PAIR_CATCHUP.PASS = 1 ∧ u.rd R.PAIR_CATCHUP.BID = 0) ∧
    (s.on R.PAIR_CFG.EN = true → s.dev.sealed = true → s.rd R.PAIR_STATUS.ROLE = roleShadow → s.sync = syncNone →
        s.pair.partner = none → s.pair.released = false →
        s.pair.sealAt + s.rd R.PAIR_CFG.JOIN_T * 1000000 ≤ (s.upTo t).now →
      Answers (.pairJoinTimeout t) s fun u => u.pair.claim = true)

/-- Heartbeats, digests and catch-up (R335, R336, R342, R345, R353): a heartbeat of 384 bytes with the next HB_SEQ goes out when the last
one is 1.95 µs old; one that arrives first is accepted and sets the deadline; one that is lost at a safety tick lets a FIT shadow claim
and leaves a holder ALONE; the two digests of a dwell are compared; a digest that has waited 20 µs is a mismatch; in the first pass a
record not older than the own one is installed. -/
def Obligations.HeartbeatCommandsComplete : Prop :=
  ∀ (s : State) (t : Time) (p : Fin 2) (h : HeadIx) (rx : LinkRx) (hb : Heartbeat) (join : Option JoinState) (d : Digest)
      (bid : BitVec 20) (record : List Byte),
    (s.on R.PAIR_CFG.EN = true → s.dev.sealed = true → 2 ≤ s.devState → s.devState ≠ 5 → (s.upTo t).silentFor 1950 = true →
      Answers (.heartbeatSend t) s fun u =>
        u.pair.hbSeq = (s.pair.hbSeq + 1) % 2 ^ 32 ∧ u.pair.sent = (s.upTo t).heartbeat ∧ u.pair.sent.length = 384) ∧
    (s.on R.PAIR_CFG.EN = true → s.dev.sealed = true → linkGood rx = true → s.pair.rxSeq = none →
      Answers (.heartbeatReceive t p rx hb join) s fun u =>
        u.on R.PAIR_STATUS.PARTNER = true ∧ u.pair.partner = some hb ∧ u.pair.rxSeq = some hb.seq.toNat ∧
          u.pair.deadline = some (u.now + s.rd R.PAIR_CFG.HB_TIMEOUT * 1000) ∧
          u.rd64 R.PAIR_PARTNER_SN_LO.SERIAL R.PAIR_PARTNER_SN_HI.SERIAL = hb.serial.toNat) ∧
    (∀ x ∈ s.pair.deadline, x < (s.upTo t).now → (s.upTo t).now % 10000 = 0 →
      Answers (.heartbeatLost t) s fun u =>
        Advanced s u R.PAIR_CNT_HB_LOST.COUNT ∧ u.on R.PAIR_STATUS.PARTNER = false ∧ u.pair.deadline = none ∧
          Recorded s u .pairHbLost noHead ∧ (s.rd R.PAIR_STATUS.TOKEN_OUT = 2 → u.rd R.PAIR_STATUS.ROLE = roleAlone) ∧
          (s.rd R.PAIR_STATUS.TOKEN_OUT ≠ 2 → (s.upTo t).tokenIn ≠ 2 → (s.upTo t).refreshFit.on R.PAIR_STATUS.FIT = true →
            u.pair.claim = true ∧ u.pair.takeover = true)) ∧
    (∀ x ∈ (s.ownDigests d.head).find? (fun (x : Digest × Nat) => sameDwell x.1 d), linkGood rx = true → s.comparing = true →
        (s.theirDigests d.head).length < 64 →
        ((s.ownDigests d.head).any fun a => (s.theirDigests d.head).any (sameDwell a.1)) = false →
      Answers (.digestReceive t p rx d) s fun u =>
        u.ownDigests d.head = (s.ownDigests d.head).filter (fun a => !sameDwell a.1 d) ∧
          u.theirDigests d.head = s.theirDigests d.head ∧
          (SMap.get (fun _ => []) u.pair.history d.head).headD false = digestMismatch x.1 d ∧
          (digestMismatch x.1 d = true → Advanced s u R.PAIR_CNT_MISMATCH.COUNT)) ∧
    (∀ x ∈ (s.ownDigests h).head?, x.2 + 20000 ≤ (s.upTo t).now →
      Answers (.digestTimeout t h) s fun u =>
        Advanced s u R.PAIR_CNT_MISMATCH.COUNT ∧ u.ownDigests h = (s.ownDigests h).tail ∧
          Recorded s u .pairDigestMismatch h) ∧
    (linkGood rx = true → s.rd R.PAIR_STATUS.ROLE = roleShadow → s.rd R.PAIR_CATCHUP.PASS = 1 → record.length = 4096 →
        bid.toNat < 0xFFFFF →
        (s.bearing bid.toNat).dtLast ≤ (Bear.read fun o n => ofBytesLE ((record.drop o).take n)).dtLast →
      Answers (.catchupRecord t p rx bid record) s fun u =>
        u.hbmBytes (4096 * bid.toNat) 4096 = record ∧ u.rd R.PAIR_CATCHUP.BID = bid.toNat + 1)

/-! ### Domains (14) -/

/-- The message arrived whole, and this device belongs to a domain (R357). -/
abbrev usable (s : State) (via : DomVia) (hdr : DomHdr) : Prop :=
  s.on R.DOM_CFG.EN = true ∧ (match via with | .port _ rx => linkGood rx | .net ok => ok) = true ∧ hdr.hops.toNat ≤ 16

/-- The bytes of the message sent last on a port; 4 is the network. -/
def lastOn (s : State) (port : Nat) : List Byte := ((SMap.get (fun _ => (0, [])) s.dom.sent port).2.getLast?).getD []

/-- The message sent last on a port is the one this device formed last: a type, address and body under the last SEQ it took (R357). -/
abbrev Sent (u : State) (port type : Nat) (bcast : Bool) (dst : Nat) (body : List Nat) : Prop :=
  lastOn u port = (⟨type, { u.domHdr bcast dst with seq := BitVec.ofNat 32 (u.dom.seq + 2 ^ 32 - 1) }, body⟩ : DomMsg).bytes

/-- A message on a port finds its tokens: the network takes none, and memory port 4 is not regulated (R381). -/
abbrev passes (s : State) (port : Nat) : Prop := port = 4 ∨ s.regulated 4 = false

/-- The cascade port a message came on; 4 is the network. -/
def viaPort (via : DomVia) : Nat := match via with | .port c _ => c.val | .net _ => 4

/-- The master and the backup (R363 to R365, R372): a beacon and a roll call go out when they are due; a JOIN that can be granted enters
the table; a member that missed three rolls is released; a second serial under one DID is revoked; a reservation ends 10 s after the
release; the backup enters a member that its master admits. -/
def Obligations.DomainMasterCommandsComplete : Prop :=
  ∀ (s : State) (t : Time) (via : DomVia) (hdr : DomHdr) (pref : Option (BitVec 14)) (depth : BitVec 4) (heads : BitVec 16)
      (did : BitVec 14) (serial : BitVec 64) (role : BitVec 2),
    (s.on R.DOM_CFG.EN = true → s.domRole = domMaster → s.dev.sealed = true → (s.upTo t).dueAgain s.dom.beaconAt 8000 = true →
      Answers (.beaconSend t) s fun u =>
        u.dom.seq = (s.dom.seq + 1) % 2 ^ 32 ∧
          Sent u 4 1 true 0 [s.did, u.now, s.rd R.DOM_PLAN_GEN.VALUE, s.dom.table.length] ∧
          (∀ c < 4, s.rd (R.DOM_PORT.ROLE c) = 3 → passes s c → lastOn u c = lastOn u 4)) ∧
    (∀ d ∈ s.grant hdr.serial.toNat (pref.map BitVec.toNat), usable s via hdr → s.domRole = domMaster →
      Answers (.joinReceive t via hdr pref depth heads) s fun u =>
        u.dom.table.any (fun m => m.did == d && m.serial == hdr.serial.toNat) = true ∧
          u.rd R.DOM_COUNT.MEMBERS = u.dom.table.length % 2 ^ R.DOM_COUNT.MEMBERS.width) ∧
    (s.on R.DOM_CFG.EN = true → s.domRole = domMaster → s.dev.sealed = true →
        (s.upTo t).dueAgain s.dom.rollAt (s.rd R.DOM_TIMERS.ROLL_S * 1000000000) = true →
      Answers (.rollSend t) s fun u =>
        Sent u 4 6 true 0 [] ∧ (∀ m ∈ u.dom.table, m.serial ≠ s.serial → m.missed < 3 ∧ m.answered = false)) ∧
    (usable s via hdr → hdr.bcast = true → s.domRole = domMaster →
      Answers (.rollAnsReceive t via hdr did serial role depth heads) s fun u =>
        if (s.dom.table.any fun m => m.did == did.toNat && m.serial != serial.toNat) = true then
          Advanced s u R.DOM_CNT_REVOKE.COUNT ∧ u.dom.table = s.dom.table
        else ∀ m ∈ u.dom.table, m.did = did.toNat → m.answered = true ∧ m.missed = 0) ∧
    (usable s via hdr → hdr.bcast = true → s.domRole = domBackup →
      Answers (.tableReceive t via hdr (.admits did serial)) s fun u =>
        u.dom.table.any (fun m => m.did == did.toNat && m.serial == serial.toNat) = true) ∧
    (Answers (.didReservationExpiry t did) s fun u =>
      (∀ r ∈ u.dom.reserved, r.did = did.toNat → u.now < r.at_ + 10000000000) ∧
        ∀ r ∈ s.dom.reserved, r.did ≠ did.toNat ∨ u.now < r.at_ + 10000000000 → r ∈ u.dom.reserved)

/-- Members and helpers (R355, R363 to R366, R371 to R374): a device whose hop delay is ready asks to join and takes the DID it is
granted; a roll is answered; a beacon with a later term is followed; when no beacon has come on any port the backup takes the term over
at a safety tick and a member holds over; a plan is kept beside the one in force; a helper takes the open of a notice that comes in time
with its own timing fields, and the stop; else it closes its dwell with no shots. A message on a cascade port is meant where its memory
port is not regulated. -/
def Obligations.DomainMemberCommandsComplete : Prop :=
  ∀ (s : State) (t : Time) (h owner : HeadIx) (via : DomVia) (hdr : DomHdr) (did : BitVec 14) (gn : Word)
      (members : BitVec 15) (eff : Time) (entries : List PlanEntry) (f crc : Word) (d : BitVec 16) (fine : BitVec 8) (k : BitVec 12),
    (s.on R.DOM_CFG.EN = true → s.admitted = false → s.dev.sealed = true → s.domRole ≠ domMaster →
        s.rd R.DOM_STATUS.DEPTH ≤ 8 → (s.upTo t).hopReady = true →
      Answers (.joinSend t) s fun u =>
        u.domState = (if s.domState = dsRefused then dsRefused else dsJoining) ∧
          (s.on R.DOM_CFG.NET_JOIN = true → u.upstream = some 4) ∧
          ∀ p ∈ u.upstream, passes s p → Sent u p 4 false (s.rd R.DOM_MASTER.MASTER_DID) s.joinBody) ∧
    (usable s via hdr →
      Answers (.admitReceive t via hdr (BitVec.ofNat 64 s.serial) (.granted did)) s fun u =>
        u.did = did.toNat ∧ u.domState = dsJoined) ∧
    (usable s via hdr → hdr.bcast = true → s.admitted = true → s.domRole ≠ domMaster →
      Answers (.rollReceive t via hdr) s fun u =>
        let p := (s.upstream.or (some 4)).getD 4
        passes s p → Sent u p 7 false (s.rd R.DOM_MASTER.MASTER_DID) [s.did, s.serial, s.domRole, s.rd R.DOM_STATUS.DEPTH,
          maskOf 16 fun h => s.headState h != hsOff]) ∧
    (usable s via hdr → hdr.bcast = true → s.domRole ≠ domMaster → s.laterTerm hdr.term.toNat = true →
      Answers (.beaconReceive t via hdr did gn members) s fun u =>
        u.term = hdr.term.toNat ∧ u.rd R.DOM_MASTER.MASTER_DID = did.toNat ∧ u.rd R.DOM_COUNT.MEMBERS = members.toNat ∧
          SMap.get (fun _ => none) u.dom.deadlines (viaPort via) =
            some (u.now + s.rd R.DOM_TIMERS.BEACON_TO * 1000)) ∧
    (s.on R.DOM_CFG.EN = true → s.domState = dsJoined → s.upstream.isSome = true → (∀ p < 5, (s.upTo t).beaconDead p = true) →
        s.domRole ≠ domMaster → (s.upTo t).now % 10000 = 0 →
      Answers (.beaconTimeout t) s fun u =>
        if s.domRole = domBackup then
          u.domRole = domMaster ∧ u.term = (s.term + 1) % 2 ^ 16 ∧ u.rd R.DOM_MASTER.MASTER_DID = s.did ∧
            Recorded s u .domMasterLost noHead ∧
            Sent u 4 1 true 0 [s.did, u.now, s.rd R.DOM_PLAN_GEN.VALUE, s.dom.table.length]
        else u.domState = dsHoldover) ∧
    (s.domState = dsHoldover → (s.upTo t).heldOver (s.rd R.DOM_TIMERS.HOLD_T) = true →
      Answers (.holdoverLong t) s fun u => Recorded s u .domHoldoverLong noHead) ∧
    (usable s via hdr → hdr.bcast = true →
      Answers (.planReceive t via hdr gn eff entries) s fun u =>
        u.dom.plans.getLast? = some ⟨gn.toNat, eff.toNat, entries⟩ ∧ ∀ p ∈ duePlan u.now s.dom.plans, p ∈ u.dom.plans) ∧
    (let v := if s.headState h = hsParked ∧ s.calibrating h = false then (s.upTo t).headScan h else s.upTo t;
      usable s via hdr → hdr.bcast = true → (s.helpersOf hdr.srcDid.toNat owner).contains h = true →
        v.helperDwell h = d.toNat →
      Answers (.noticeReceive t via hdr owner (.opens f d eff fine crc)) s fun u =>
        if Desc.timingCrc (v.descAt h (v.rd (R.SCAN_STATUS.ACTIVE_SLOT h)) d.toNat) = crc.toNat ∧ u.now ≤ eff.toNat then
          (u.head h).scan.fixedOpen = some eff.toNat
        else (u.head h).scan.noticeBad = true) ∧
    (usable s via hdr → hdr.bcast = true → (s.helpersOf hdr.srcDid.toNat owner).contains h = true →
        s.rd (R.SCAN_POS.DWELL h) = d.toNat →
      Answers (.noticeReceive t via hdr owner (.stop f d k)) s fun u => (u.head h).scan.stopShot = some k.toNat) ∧
    (s.isHelper h = true → (s.head h).scan.fixedOpen = none → (s.head h).scan.noticeBad = false →
        s.rd (R.SCAN_POS.PHASE h) = 1 ∨ s.rd (R.SCAN_POS.PHASE h) = 2 → (s.head h).scan.target ≤ (s.upTo t).now →
      Answers (.noticeDeadline t h) s fun u =>
        (u.head h).scan.noticeBad = true ∧ Advanced s u R.DOM_CNT_LATE_NOTICE.COUNT ∧ Recorded s u .domNoticeLate h)

/-- Time in a domain (R358, R361, R362, R416, R419): markers are sent every 125 µs, stamped, answered and followed up; hop delay and
offset come from the four stamps, a half rounded either way; dividers are aligned at the DT named once the time has converged, or 20 ns
after an edge of SYNC_IN, to one of the two next whole multiples of 5 ns; a phase more than 0.5 ns off is a timing cause, as a holdover
of HOLD_ALIGN seconds is. A message on a cascade port is meant where its memory port is not regulated. -/
def Obligations.DomainTimeCommandsComplete : Prop :=
  ∀ (s : State) (t : Time) (c : Fin 4) (rx : LinkRx) (via : DomVia) (hdr : DomHdr) (fine : BitVec 8) (turn : Word)
      (phase : BitVec 16) (t1 t4 : BitVec 72) (a : Time),
    (let down := s.rd (R.DOM_PORT.ROLE c) = 3;
      let last := SMap.get (fun _ => 0) (if down then s.dom.t1 else s.dom.t3) c;
      s.on R.DOM_CFG.EN = true → s.rd (R.DOM_PORT.ROLE c) ≠ 0 → (last ≠ 0 → last / 256 + 125000 ≤ (s.upTo t).now) →
      Answers (.markerSend t c fine) s fun u =>
        SMap.get (fun _ => 0) (if down then u.dom.t1 else u.dom.t3) c = u.now * 256 + fine.toNat ∧
          (passes s c → Sent u c 2 false 0 [])) ∧
    (usable s (.port c rx) hdr → s.rd (R.DOM_PORT.ROLE c) ≠ 0 →
      Answers (.markerReceive t c rx hdr fine turn phase) s fun u =>
        (if s.rd (R.DOM_PORT.ROLE c) = 3 then
          passes s c → Sent u c 3 false hdr.srcDid.toNat [SMap.get (fun _ => 0) s.dom.t1 c, u.now * 256 + fine.toNat]
        else SMap.get (fun _ => 0) u.dom.t2 c = u.now * 256 + fine.toNat ∧
          SMap.get (fun _ => 0) u.dom.t3 c = u.now * 256 + fine.toNat + turn.toNat ∧
          (passes s c → Sent u c 2 false 0 [])) ∧
        (s.on R.CLK_STATUS.ALIGNED = true → 128 < phase.toInt.natAbs →
          u.on R.CLK_STATUS.ALIGNED = false ∧ u.on R.CLK_TIMING_CAUSE.ALIGN = true)) ∧
    (usable s (.port c rx) hdr → s.rd (R.DOM_PORT.ROLE c) = 1 ∨ s.rd (R.DOM_PORT.ROLE c) = 2 →
        SMap.get (fun _ => 0) s.dom.t2 c ≠ 0 →
      Answers (.markerFuReceive t c rx hdr t1 t4) s fun u =>
        let x := ((t4.toNat : Int) - t1.toNat) - (((SMap.get (fun _ => 0) s.dom.t3 c : Nat) : Int) - SMap.get (fun _ => 0) s.dom.t2 c)
        ∃ k ∈ [x / 2, (x + 1) / 2],
        let d := k + s.rdS (R.DOM_PORT.ASYM c)
        u.rd (R.DOM_HOP.VALUE c) = wrapS 32 d ∧
          u.rd R.DOM_TIME_ERR.VALUE = wrapS R.DOM_TIME_ERR.VALUE.width (((SMap.get (fun _ => 0) s.dom.t2 c : Nat) : Int) - t1.toNat - d)) ∧
    (usable s via hdr → hdr.bcast = true → a.toNat % 5 = 0 → s.anyScanning = false →
      Answers (.syncReqReceive t via hdr a) s fun u => u.clk.syncAt = some a.toNat) ∧
    (s.on R.DOM_CFG.SYNC_PIN = true → s.portOfRole 1 = none → s.on R.DOM_STATUS.VIA_NET = false → s.anyScanning = false →
      Answers (.syncInEdge t) s fun u => u.clk.syncEdge = some u.now ∧ u.dom.syncOut = some u.now) ∧
    (s.anyScanning = false → (∃ e ∈ s.clk.syncEdge, e + 20 ≤ (s.upTo t).now) ∨
          (s.clk.syncEdge = none ∧ s.clk.syncAt = some (s.upTo t).now ∧ s.timeConverged = true) →
        (s.upTo t).fullTime + 1280 < 2 ^ 72 →
      Answers (.dividerReset t) s fun u =>
        u.on R.CLK_STATUS.ALIGNED = true ∧ u.on R.CLK_TIMING_CAUSE.ALIGN = false ∧ u.clk.syncEdge = none ∧
          u.clk.syncAt = none ∧ (s.clk.syncEdge.isSome = true → u.fullTime % 1280 = 0 ∧
            u.fullTime < (s.upTo t).fullTime + 1280 ∧ (s.upTo t).fullTime < u.fullTime + 1280)) ∧
    (s.on R.CLK_STATUS.HOLDOVER = true → s.on R.CLK_DISC.HOLD_ALIGN = true →
        (s.upTo t).heldOver (s.rd R.CLK_DISC.HOLD_ALIGN) = true →
      Answers (.holdAlignExpiry t) s fun u => u.on R.CLK_TIMING_CAUSE.HOLD = true)

/-! ### Memory (15) -/

/-- The pseudo-channel of a request has nothing to do, and its port, which the wipe does not hold back, has no request to hold and is
not regulated (R379, R382, R391). -/
abbrev quiet (s : State) (r : MemReq) : Prop :=
  (s.pc (pcOf r.addr.toNat)).reads = [] ∧ (s.pc (pcOf r.addr.toNat)).writes = [] ∧ (s.pc (pcOf r.addr.toNat)).out = [] ∧
    (s.memPort r.port).held = [] ∧ s.regulated r.port = false ∧ (r.port = 9 ∨ s.on R.MEM_STATUS.WIPE_DONE = true)

/-- Pseudo-channel `i` has received no request for SR_IDLE at an instant (R386). -/
abbrev idleFor (s : State) (i now : Nat) : Prop :=
  (s.pc i).inFlight = 0 ∧ (s.pc i).lastAt + 1000 * s.rd R.MEM_CFG.SR_IDLE ≤ now

/-- The memory controllers (R379, R382, R383, R385 to R391): a write reaches its bytes and a read takes them; a completed read hands
its data to the port, with an error indication when it is uncorrectable; in a pause that is due the settings of the rate in use are
replaced by a retraining that succeeds, unless a change of rate waits for them, and two failed ones fail the stack; a channel without
requests goes to self-refresh; the stacks change rate one after the other, outside every retraining window; the scrubber clears a unit
it cannot correct; the wipe is complete when its time after the leave has passed; a PLL that loses lock fails its stack. -/
def Obligations.MemoryCommandsComplete : Prop :=
  ∀ (s : State) (t : Time) (r : MemReq) (p : Fin 10) (addr : BitVec 35) (other : Bool) (pc : Fin 64) (w : Word) (c : Fin 32)
      (slow : Bool) (st : Fin 2),
    (quiet s r → r.write = true →
      Answers (.memRequestIssue t r) s fun u =>
        u.hbmBytes r.addr.toNat r.data.length = r.data ∧
          (∀ a, a < r.addr.toNat ∨ r.addr.toNat + r.data.length ≤ a → u.hbmByte a = s.hbmByte a)) ∧
    (quiet s r → r.write = false →
      Answers (.memRequestIssue t r) s fun u =>
        (u.pc (pcOf r.addr.toNat)).out.map (·.data) = [s.hbmBytes r.addr.toNat r.len.toNat] ∧ u.hbm = s.hbm) ∧
    (∀ j ∈ (s.pc (pcOf addr.toNat)).out.find? fun j => j.req.addr == addr && j.req.port == p, s.stackLost addr.toNat = false →
      Answers (.memReadComplete t p addr .ok other) s fun u =>
        (u.memPort p).data = j.data ∧ (u.memPort p).bad = false ∧ u.rd (R.MEM_ECC.UNCORR 0) = s.rd (R.MEM_ECC.UNCORR 0) ∧
          u.rd (R.MEM_ECC.UNCORR 1) = s.rd (R.MEM_ECC.UNCORR 1)) ∧
    (Answers (.memReadComplete t p addr .uncorrectable other) s fun u =>
      (u.memPort p).bad = true ∧ Recorded s u .memEccUncorr noHead ∧
        u.rd64 R.MEM_UE_ADDR_LO.ADDR R.MEM_UE_ADDR_HI.ADDR = addr.toNat / 64 * 64) ∧
    ((s.upTo t).pauseDue pc = true →
      Answers (.retrainPause t pc (some w)) s fun u =>
        (u.pc pc).fails = 0 ∧ (if s.on R.MEM_STATUS.RATE_PEND = true ∧ s.bitOf R.MEM_STATUS.RATE (pc / 32) ≠ s.on R.MEM_STATUS.TARGET ∧
            (pc.val / 32 = 0 ∨ s.bitOf R.MEM_STATUS.RATE 0 = s.on R.MEM_STATUS.TARGET)
          then (u.pc pc).fast = (s.pc pc).fast ∧ (u.pc pc).slow = (s.pc pc).slow else if s.bitOf R.MEM_STATUS.RATE (pc / 32) = true
          then (u.pc pc).slow = w ∧ (u.pc pc).fast = (s.pc pc).fast else (u.pc pc).fast = w ∧ (u.pc pc).slow = (s.pc pc).slow)) ∧
    ((s.upTo t).pauseDue pc = true →
      Answers (.retrainPause t pc none) s fun u =>
      (u.pc pc).fails = (s.pc pc).fails + 1 ∧ Advanced s u R.MEM_CNT_RETRAIN_FAIL.COUNT ∧ (u.pc pc).fast = (s.pc pc).fast ∧
        (u.pc pc).slow = (s.pc pc).slow ∧ ((s.pc pc).fails = 1 → u.bitOf R.MEM_STATUS.STACK_FAIL (pc / 32) = true)) ∧
    (s.on R.MEM_CFG.SR_EN = true → bit s.mem.asleep c = false →
        idleFor s (2 * c) (s.upTo t).now → idleFor s (2 * c + 1) (s.upTo t).now →
      Answers (.selfRefreshEntry t c) s fun u => bit u.mem.asleep c = true ∧ Advanced s u R.MEM_CNT_SR.COUNT) ∧
    (Answers (.rateChangeRequest t none slow) s fun u => u.on R.MEM_STATUS.TARGET = slow ∧
      (s.rd R.MEM_STATUS.RATE ≠ (if slow = true then 3 else 0) → u.on R.MEM_STATUS.RATE_PEND = true)) ∧
    (s.on R.MEM_STATUS.RATE_PEND = true → s.bitOf R.MEM_STATUS.RATE st ≠ s.on R.MEM_STATUS.TARGET →
        (st = 1 → s.bitOf R.MEM_STATUS.RATE 0 = s.on R.MEM_STATUS.TARGET) →
        (∀ i < 32, (s.upTo t).windowOpen (32 * st + i) = false) →
      Answers (.stackRateChange t st) s fun u =>
        u.bitOf R.MEM_STATUS.RATE st = s.on R.MEM_STATUS.TARGET ∧
          (u.bitOf R.MEM_STATUS.RATE 0 = u.bitOf R.MEM_STATUS.RATE 1 →
            u.on R.MEM_STATUS.RATE_PEND = false ∧ Advanced s u R.MEM_CNT_RATE.COUNT ∧ Recorded s u .memRateChange noHead)) ∧
    ((s.upTo t).scrubDue = true → ((s.upTo t).portTake 9 64).2 = true →
      Answers (.scrubUnit t .uncorrectable false) s fun u =>
      u.hbmBytes (64 * s.mem.scrubAt) 64 = List.replicate 64 0 ∧ u.mem.scrubAt = (s.mem.scrubAt + 1) % 2 ^ 29 ∧
        Recorded s u .memEccUncorr noHead) ∧
    (s.on R.MEM_STATUS.WIPE_DONE = false → (∃ l ∈ s.pwr.grants, l.who = .wipe ∧ l.at_ + 34359739 ≤ (s.upTo t).now) →
      Answers (.wipeComplete t) s fun u =>
        u.on R.MEM_STATUS.WIPE_DONE = true ∧ u.pwr.grants.any (·.who == .wipe) = false) ∧
    (Answers (.hbmPllLossOfLock t st) s fun u =>
      u.bitOf R.CLK_STATUS.HBM_LOCK st = false ∧ u.bitOf R.MEM_STATUS.STACK_FAIL st = true ∧
        Recorded s u .clkHbmPllLol noHead)


/-! ### Lanes (16) -/

/-- Lane `l` of quad `q` is in the receive set of its port. -/
def receiving (s : State) (q l : Nat) : Bool :=
  match quadPort q with
  | some p => bit (s.rxSet p) (portLane p q l)
  | none => false

/-- LANE_QCFG.AUTO_READD for the lanes of quad `q`: that of the port's first quad (R407). -/
def autoReadd (s : State) (q : Nat) : Bool := s.on (R.LANE_QCFG.AUTO_READD (((quadPort q).map portQuad).getD q))

/-- Lanes (R401, R403, R406, R407): a lane that locks while the PLL of its quad has lock joins the receive set of its port; one that
fails leaves it, is counted and dated, and the third failure within 10 s holds it out; a failed lane that has run for 100 ms without a
cause is restored, a held one released by READD; a lane that has not locked 100 ms after its training began is reported. -/
def Obligations.LaneCommandsComplete : Prop :=
  ∀ (s : State) (t : Time) (q : Fin 36) (l : Fin 4) (pos : BitVec 4) (c : LaneCause) (i : Iface) (m : BitVec 4),
    (s.laneRx q l = true → s.on (R.LANE_STATUS.CW_LOCK q l) = false →
        (∃ a ∈ (s.lane q l).trainAt, a + 100000000 ≤ (s.upTo t).now) →
      Answers (.laneTrainTimeout t q l) s fun u =>
        Recorded s u .laneTrainFail noHead ∧ u.on (R.LANE_STATUS.CW_LOCK q l) = false) ∧
    (s.laneRx q l = true → (s.lane q l).failed = false → s.on (R.LANE_STATUS.HELD q l) = false →
        s.on (R.LANE_QSTATUS.PLL_LOCK q) = true →
      Answers (.codewordLock t q l pos) s fun u =>
        u.on (R.LANE_STATUS.CW_LOCK q l) = true ∧ u.rd (R.LANE_STATUS.POS q l) = pos.toNat ∧ u.on (R.LANE_STATUS.LOS q l) = false ∧
          u.on (R.LANE_STATUS.LOL q l) = false ∧ (q.val < 34 → receiving u q l = true)) ∧
    (s.laneRx q l = true → c ≠ .txFault → s.on (R.LANE_STATUS.CW_LOCK q l) = true → (s.lane q l).failing = false →
        (s.lane q l).fails = 0 →
      Answers (.laneFailure t q l c) s fun u =>
        u.on (R.LANE_STATUS.CW_LOCK q l) = false ∧ receiving u q l = false ∧ Advanced s u (R.LANE_CNT_LOSS.COUNT q l) ∧
          Recorded s u (if c = .los then .laneLos else .laneLol) noHead ∧ (u.lane q l).fails = 1 ∧
          (u.lane q l).firstAt = u.now ∧ u.on (R.LANE_STATUS.HELD q l) = s.on (R.LANE_STATUS.HELD q l)) ∧
    (s.laneRx q l = true → c ≠ .txFault → s.on (R.LANE_STATUS.CW_LOCK q l) = true → (s.lane q l).failing = false →
        2 ≤ (s.lane q l).fails → (s.upTo t).now ≤ (s.lane q l).firstAt + 10000000000 →
      Answers (.laneFailure t q l c) s fun u => u.on (R.LANE_STATUS.HELD q l) = true) ∧
    (s.laneTx q l = true → (s.lane q l).failing = false →
      Answers (.laneFailure t q l .txFault) s fun u =>
        u.on (R.LANE_STATUS.TX_FAULT q l) = true ∧ Advanced s u (R.LANE_CNT_LOSS.COUNT q l) ∧
          Recorded s u .laneLos noHead ∧
          (∀ p ∈ quadPort q, bit (s.txSet p) (portLane p q l) = true →
            ∃ w ∈ (u.port p).pend, bit w (portLane p q l) = false)) ∧
    ((s.lane q l).failed = true → (s.lane q l).cleanAt + 100000000 ≤ (s.upTo t).now → s.on (R.LANE_STATUS.HELD q l) = false →
        autoReadd s q = true → s.laneRx q l = true →
        s.on (R.LANE_STATUS.CW_LOCK q l) = true → q.val < 34 →
      Answers (.laneReadd t q l) s fun u =>
        receiving u q l = true ∧ (u.lane q l).failing = false) ∧
    (s.mayConfig i = true → m ≠ 0 →
      Answers (.laneReaddWrite t i q m) s fun u =>
        ∀ k < 4, if bit m.toNat k = true then u.on (R.LANE_STATUS.HELD q k) = false
          else u.on (R.LANE_STATUS.HELD q k) = s.on (R.LANE_STATUS.HELD q k))

/-- Reports and head links (R399, R402, R404 to R406, R444): a report that is due carries RX_OK and, of a port that is no head link, the
held lanes, and is numbered; a good report makes the transmit set that it calls for pending, without the faulty transmitters; the
pending set is applied 200 ns later, a re-stripe of a port that frames data counted; 50 µs without a lane puts the head into FAULT; the head temperature and the answer of a management request are taken
from cells that arrived whole. -/
def Obligations.ReportCommandsComplete : Prop :=
  ∀ (s : State) (t : Time) (p : Fin 26) (rxOk : BitVec 8) (h : HeadIx) (rx : LinkRx) (v : BitVec 24)
      (rest : List (BitVec 8 × BitVec 24)) (st : BitVec 8) (data : Word) (tag : BitVec 16),
    (rxLanes p ≠ 0 → s.portState p ≠ psOff → (s.upTo t).reportDue p = true →
      Answers (.linkReportSend t p) s fun u =>
        (u.port p).sent = s.reportBytes p ∧ (u.port p).reports = ((s.port p).reports + 1) % 2 ^ 32) ∧
    (16 ≤ p.val → (s.reportBytes p).length = 16 ∧ (s.reportBytes p).take 6 =
      [0x4E#8, 0x4C#8].reverse ++ [1#8, 1#8, BitVec.ofNat 8 (s.rxSet p), BitVec.ofNat 8 (s.heldLanes p)]) ∧
    (rxLanes p ≠ 0 → s.portState p ≠ psOff →
      Answers (.linkReportReceive t p true rxOk) s fun u =>
        (∀ w ∈ (u.port p).pend, w ≠ s.txSet p) ∧
          (∀ k < 8, bit ((u.port p).pend.getD (s.txSet p)) k =
            (bit rxOk.toNat k && bit (txLanes p) k && !bit (s.txFaults p) k))) ∧
    (∀ m ∈ (s.port p).pend, m < 256 → (s.port p).pendAt + 200 ≤ (s.upTo t).now →
      Answers (.transmitSetApply t p) s fun u =>
        u.txSet p = m ∧ (u.port p).pend = none ∧
          (s.portUp p = true → Advanced s u (R.LANE_QCNT_RESTRIPE.COUNT (portQuad p)))) ∧
    ((∃ a ∈ (s.port h).noLane, a + 50000 ≤ (s.upTo t).now) → s.headState h = hsParked ∨ s.headState h = hsScanning ∨ s.headState h = hsInhibited →
      Answers (.headlinkFault t h) s fun u => u.headState h = hsFault ∧ u.rd (R.HEAD_STATE.FAULT_CAUSE h) = 1) ∧
    (linkGood rx = true →
      Answers (.hkUpReceive t h rx ((0, v) :: rest)) s fun u =>
        SMap.get (fun _ => 0) u.thm.headTemp h = v.toNat ∧ SMap.get (fun _ => 0) u.thm.headAt h = u.now ∧
          (v.toInt < s.rdS (R.THM_HEAD.TMIN h) ∨ s.rdS (R.THM_HEAD.TMAX h) < v.toInt →
            bit u.thm.headBad h = true)) ∧
    (linkGood rx = true →
      Answers (.mgmtUpReceive t h rx st data tag) s fun u =>
        SMap.get (fun _ => (0, 0, 0)) u.lanes.mgmt h = (st.toNat, data.toNat, tag.toNat))

/-! ### Clocks (17) -/

/-- Clocks (R413, R423 to R425): a lost reference or timing lock is a timing cause of every head and forces the dwells that are open; a
reference is good again 100 µs after its loss;
a relock starts every calibration epoch anew under the calibration hold; the logic PLL sends the device to SAFE; a bypass takes a
session that may configure, that of the logic PLL only in life-cycle state TEST; a lost lane reference fails every lane of its
quads. -/
def Obligations.ClockCommandsComplete : Prop :=
  ∀ (s : State) (t : Time) (i : Iface) (on : Bool) (r : Fin 9),
    (s.on R.CLK_STATUS.REFCLK_OK = true →
      Answers (.refclkLoss t) s fun u =>
        u.on R.CLK_STATUS.REFCLK_OK = false ∧ u.on R.CLK_TIMING_CAUSE.REFCLK = true ∧ u.rd R.CLK_TIMING_CAUSE.HEADS = 0xFFFF ∧
          (∀ h < 16, s.isHelper h = false → u.inh h .timing = true) ∧ Recorded s u .clkRefclkLoss noHead ∧
          (∀ h < 16, s.rd (R.SCAN_POS.PHASE h) = 3 → (u.head h).scan.forced = true)) ∧
    ((s.upTo t).refGood s.clk.refLostAt = true →
      Answers (.refclkGood t) s fun u =>
      u.on R.CLK_STATUS.REFCLK_OK = true ∧ u.on R.CLK_TIMING_CAUSE.REFCLK = false ∧
        (∀ h < 16, s.isHelper h = false → u.inh h .timing = bit (u.rd R.CLK_TIMING_CAUSE.HEADS) h)) ∧
    (s.on R.CLK_STATUS.TPLL_LOCK = true →
      Answers (.timingPllLossOfLock t) s fun u =>
        u.on R.CLK_STATUS.TPLL_LOCK = false ∧ u.on R.CLK_TIMING_CAUSE.TPLL = true ∧ (∀ h < 16, s.isHelper h = false → u.inh h .timing = true) ∧
          Advanced s u R.CLK_CNT_LOL.COUNT ∧ Recorded s u .clkTpllLol noHead ∧
          (∀ h < 16, s.rd (R.SCAN_POS.PHASE h) = 3 → (u.head h).scan.forced = true)) ∧
    (s.on R.CLK_STATUS.TPLL_LOCK = false → s.on R.CLK_CFG.TPLL_BYP = false → s.on R.CLK_STATUS.REFCLK_OK = true →
      Answers (.timingPllRelock t) s fun u =>
        u.on R.CLK_STATUS.TPLL_LOCK = true ∧ u.on R.CLK_TIMING_CAUSE.TPLL = false ∧ u.on R.CLK_TIMING_CAUSE.CAL = true ∧
          (∀ h < 16, s.isHelper h = false → u.inh h .timing = true) ∧ (∀ k < 1552, (u.line k).hits = 0 ∧ (u.line k).evaluated = false)) ∧
    (s.mayConfig i = true → s.on R.CLK_CFG.TPLL_BYP ≠ on →
      Answers (.timingPllBypass t i on) s fun u =>
        u.on R.CLK_CFG.TPLL_BYP = on ∧ (on = true → ∀ h < 16, s.isHelper h = false → u.inh h .timing = true)) ∧
    (s.on R.CLK_STATUS.LPLL_LOCK = true →
      Answers (.logicPllLossOfLock t) s fun u =>
        u.on R.CLK_STATUS.LPLL_LOCK = false ∧ Advanced s u R.CLK_CNT_LOL.COUNT ∧ Recorded s u .clkLpllLol noHead ∧
          (s.running = true → u.devState = devSafe)) ∧
    (Answers (.logicPllRelock t) s fun u =>
      u.on R.CLK_STATUS.LPLL_LOCK = true ∧ u.clk.lpllLost = false ∧ u.dev.conds.contains (Event.clkLpllLol.code, noHead) = false) ∧
    (s.mayConfig i = true → s.on R.CLK_CFG.LPLL_BYP ≠ on →
      Answers (.logicPllBypass t i on) s fun u =>
        if s.rd R.SEC_STATUS.LC = 0 then u.on R.CLK_CFG.LPLL_BYP = on
        else u.on R.CLK_CFG.LPLL_BYP = s.on R.CLK_CFG.LPLL_BYP ∧ Advanced s u R.DEV_ACC_CNT.COUNT ∧
          u.rd R.DEV_ACC_INFO.CAUSE = 5) ∧
    (s.bitOf R.CLK_STATUS.LREF_OK r = true →
      Answers (.laneRefLoss t r) s fun u =>
        u.bitOf R.CLK_STATUS.LREF_OK r = false ∧ Recorded s u .clkLrefLoss noHead ∧
          (∀ q < 36, lrefPair q = r.val → u.on (R.LANE_QSTATUS.PLL_LOCK q) = false ∧
            (∀ l < 4, (s.laneTx q l = true → u.on (R.LANE_STATUS.TX_FAULT q l) = true) ∧
              (s.laneRx q l = true → u.on (R.LANE_STATUS.LOL q l) = true ∧ u.on (R.LANE_STATUS.CW_LOCK q l) = false)))) ∧
    ((s.upTo t).refGood (SMap.get (fun _ => none) s.clk.lrefLostAt r) = true →
      Answers (.laneRefReturn t r) s fun u =>
      u.bitOf R.CLK_STATUS.LREF_OK r = true ∧
        (∀ q < 36, lrefPair q = r.val → s.quadOn q = true → u.on (R.LANE_QSTATUS.PLL_LOCK q) = true))

/-! ### Power and temperature (18) -/

/-- The state in which a steward step takes its decisions: the pool has risen, and pauses that are over have given their leave
back (R432, R434). -/
def stepStart (s : State) (t : Time) : State :=
  ((s.upTo t).updPwr fun p => { p with stepAt := some (s.upTo t).now }).refillPool.retrainOver

/-- What the budget leaves for the requesters other than SAFETY (R430). -/
def room (s : State) : Int := (s.budget : Int) - s.pwr.base - s.rd R.PWR_CFG.SAFE_RES

/-- One step of the steward, at a DT that is a multiple of 1 µs and once (R430, R434): at most eight released units are applied; the non-SAFETY grants rise by no more than
eight units beside them; what is granted and not yet applied stays inside the budget wherever anything is granted; every SAFETY
request that waited is granted; a single request that fits is granted; the pool rises with DT up to its depth. -/
def Obligations.StewardNeverOverspends : Prop :=
  ∀ (s : State) (t : Time) (l : Leave),
    (s.upTo t).now % 1000 = 0 → s.pwr.stepAt ≠ some (s.upTo t).now →
    (Answers (.stewardStep t) s fun u =>
      let v := stepStart s t
      let rel := min v.pwr.released 8
      u.pwr.released = v.pwr.released - rel ∧ v.pwr.granted ≤ u.pwr.granted ∧ u.pwr.granted ≤ v.pwr.granted + 8 + rel ∧
        (u.pwr.granted = v.pwr.granted ∨ ((u.pwr.granted + u.pwr.released : Nat) : Int) ≤ room u) ∧
        (∀ q ∈ v.pwr.waiting, q.who.cls = 0 → q.at_ < v.now →
          u.pwr.waiting.all (·.who != q.who) = true ∧ u.pwr.grants.any (fun g => g.who == q.who && g.units == q.units) = true)) ∧
    (s.pwr.grants = [] → s.pwr.released = 0 → s.pwr.waiting = [l] → l.at_ < (s.upTo t).now → l.units ≤ 8 →
        (l.units : Int) ≤ room s →
      Answers (.stewardStep t) s fun u =>
        u.pwr.waiting = [] ∧ u.pwr.grants.map (fun g => (g.who, g.units)) = [(l.who, l.units)]) ∧
    (s.pwr.pool ≤ 1000 * s.rd R.PWR_HS_CFG.DEPTH → s.pwr.grants = [] → s.pwr.waiting = [] →
      Answers (.stewardStep t) s fun u =>
        u.pwr.pool = min (s.pwr.pool + (u.now / 1000 - s.pwr.poolAt / 1000) * s.rd R.PWR_HS_CFG.P_HS) (1000 * s.rd R.PWR_HS_CFG.DEPTH))

/-- A condition of Table 18.2 after a round: set by `set`, cleared by `clear`, kept otherwise (R439). -/
abbrev condAfter (s u : State) (i : Nat) (set clear : Bool) : Prop :=
  u.on (condBit i) = (set || (s.on (condBit i) && !clear))

/-- A thermal round that is due (R436, R437, R439, R440): each sensor holds its reading, faulty when it is out of range; Tj is the largest of the
good ones; the conditions follow their thresholds; a cut holds while LIMIT or RISE_CUT does, and stops every head. A head whose
temperature has not come for 10 ms is stopped (R444). -/
def Obligations.ThermalRoundComplete : Prop :=
  ∀ (s : State) (t : Time) (readings : List SensorReading) (h0 h1 : BitVec 16) (h : HeadIx),
    ((s.upTo t).dueAgain s.thm.roundAt s.periodTP = true →
      Answers (.thermalRound t readings h0 h1) s fun u =>
        (∀ i < 48, ∀ r ∈ readings[i]?, u.rdS (R.THM_SENSOR.TEMP i) = r.temp.toInt ∧
          (r.inRange = false → u.on (R.THM_SENSOR.FAULTY i) = true) ∧
          (u.on (R.THM_SENSOR.FAULTY i) = false → r.temp.toInt ≤ u.rdS R.THM_STATUS.TJ)) ∧
        ((∀ i < 48, u.on (R.THM_SENSOR.FAULTY i) = true) ∨
          ∃ i, i < 48 ∧ u.on (R.THM_SENSOR.FAULTY i) = false ∧ u.rdS (R.THM_SENSOR.TEMP i) = u.rdS R.THM_STATUS.TJ)) ∧
    ((s.upTo t).dueAgain s.thm.roundAt s.periodTP = true →
      Answers (.thermalRound t readings h0 h1) s fun u =>
      let tj := u.rdS R.THM_STATUS.TJ
      let warn : Int := s.rd R.THM_CFG.WARN * 16
      let limit : Int := s.rd R.THM_CFG.LIMIT * 16
      let hyst : Int := s.rd R.THM_CFG.HYST * 16
      let relief : Int := s.rd R.THM_CFG.HBM_RELIEF * 16
      condAfter s u 0 (decide (warn ≤ tj)) (decide (tj < warn - hyst)) ∧
        condAfter s u 2 (decide (limit ≤ tj)) (decide (tj < limit - hyst)) ∧
        condAfter s u 5 (decide (tj < -640)) (decide (-608 ≤ tj)) ∧
        u.on (condBit 3) = u.riseAbove u.largestRise 5 ∧
        (u.riseAbove u.largestRise 20 = true → u.on (condBit 4) = true) ∧
        (relief ≤ h0.toInt ∨ relief ≤ h1.toInt → u.on (condBit 1) = true) ∧
        u.on R.PWR_STATUS.CUT = (u.on (condBit 2) || u.on (condBit 4)) ∧
        (u.on R.PWR_STATUS.CUT = true → ∀ k < 16, u.isHelper k = false → u.inh k .thermal = true) ∧
        (u.on R.PWR_STATUS.CUT = true → s.on R.PWR_STATUS.CUT = false →
          u.budget = min (s.rd R.PWR_CFG.BUDGET) (s.rd R.PWR_CUT.CUT))) ∧
    (s.isHelper h = false → SMap.get (fun _ => 0) s.thm.headAt h + 10000000 ≤ (s.upTo t).now →
      Answers (.headTempTimeout t h) s fun u =>
        u.inh h .thermal = true ∧ (bit s.thm.headBad h = false → Recorded s u .thmHeadRange h))

/-! ### The device: reset, supplies, causes, pins (01, 18, 23) -/

/-- The registers that keep a value of their own over an entry to RESET (R30, R441). -/
def keptAtReset : List Nat := [R.DEV_STATE.addr, R.DEV_RESET_CAUSE.addr, R.THM_TRIP.addr]

/-- Entry to RESET and the start of the boot (R25, R26, R30, R441, R442, R510, R511): every register but those named takes its reset
value, the cause is recorded, the hold of a hardware shutdown and DT stay; the boot starts when PORST_N is released and supplies
are good, never under the hold. -/
def Obligations.ResetCommandsComplete : Prop :=
  ∀ (s : State) (t : Time) (a : Nat) (r : Fin 13),
    (s.devState ≠ devReset →
      Answers (.porstNAssert t) s fun u =>
        u.devState = devReset ∧ u.rd R.DEV_RESET_CAUSE.CAUSE = 1 ∧ u.dt = (s.upTo t).dt ∧ u.dev.porst = true ∧
          u.word R.THM_TRIP.addr = s.word R.THM_TRIP.addr ∧ u.boot.fuses = s.boot.fuses ∧ u.boot.flash = s.boot.flash ∧
          (a ∉ keptAtReset → u.word a = State.reset.word a) ∧ u.hbm = []) ∧
    (s.devState = devReset → s.dev.porst = true →
      Answers (.porstNRelease t) s fun u =>
        u.dev.porst = false ∧
          u.devState = (if s.dev.supplies = true ∧ s.on R.THM_TRIP.HOLD = false then devBoot else devReset)) ∧
    (s.devState = devReset →
      Answers (.suppliesGood t) s fun u =>
        u.dev.supplies = true ∧
          u.devState = (if s.dev.porst = false ∧ s.on R.THM_TRIP.HOLD = false then devBoot else devReset)) ∧
    (Answers (.railOutOfTolerance t r) s fun u => u.dev.supplies = false ∧ u.word a = (s.upTo t).word a) ∧
    (s.devState ≠ devReset →
      Answers (.watchdogExpiry t) s fun u =>
        u.rd R.DEV_RESET_CAUSE.CAUSE = 2 ∧ u.dt = (s.upTo t).dt ∧ u.hbm = [] ∧
          u.devState = (if s.dev.porst = false ∧ s.dev.supplies = true ∧ s.on R.THM_TRIP.HOLD = false then devBoot
            else devReset)) ∧
    (2 ≤ s.hotSensors.length → s.devState ≠ devReset → s.on R.THM_TRIP.HOLD = false →
      Answers (.thermalShutdown t) s fun u =>
        u.devState = devShutdown ∧ u.on R.THM_TRIP.HOLD = true ∧
          u.rd R.THM_TRIP.SENSORS = s.hotSensors.getD 0 0 + 256 * s.hotSensors.getD 1 0 ∧
          (∀ h < 16, u.headState h = hsOff) ∧ (s.ossdSafe = true → ∀ m < 4, u.ossdOn m = false)) ∧
    (s.devState = devShutdown → s.on R.THM_TRIP.HOLD = true → (∃ a ∈ s.thm.coolSince, a + 10000000000 ≤ (s.upTo t).now) → 40 ≤ s.goodSensors.length →
        s.dev.porst = false → s.dev.supplies = true →
      Answers (.thermalHoldRelease t) s fun u =>
        u.on R.THM_TRIP.HOLD = false ∧ u.devState = devBoot ∧ u.rd R.DEV_RESET_CAUSE.CAUSE = 5 ∧ u.thm.tripLog = false ∧
          (s.thm.tripLog = true → u.word (R.EVENT_LOG.addr 0) = Event.thmTripped.code + 0x10000 * Event.thmTripped.cls +
            0x1000000 * noHead))

/-- A port takes frames: its link is up, and the device has left BOOT (R231). -/
abbrev listening (s : State) (p : Nat) : Prop :=
  s.on (R.NET_PORT.LINK p) = true ∧ 2 ≤ s.devState ∧ s.devState ≠ devShutdown ∧ s.prpPort p = false

/-- Inputs from outside (R29, R113, R229, R231, R247, R324, R506). A DEGRADE occurrence cause ends when its hold has passed, and the
device returns to RUN when none remains; a clamped input is read in its safe state until 10 µs after its clamp; an edge outside the
hold-off is stamped and reaches the sequencers, and one inside it or at a clamped input does nothing. Of network frames, a safety command is queued with its stamp, or discarded and counted at
a full queue; a frame that no consumer takes is dropped and counted; the second copy of a frame under PRP does nothing. -/
def Obligations.InputCommandsComplete : Prop :=
  ∀ (s : State) (t : Time) (code : BitVec 16) (i : Fin 34) (idx : Fin 4) (fall : Bool) (taps : BitVec 288) (p : Fin 4)
      (src : BitVec 48) (rct : Option (BitVec 16)) (stamp : Time) (port : BitVec 16) (data : List Byte) (seq : BitVec 16),
    (s.devState = devDegraded →
      Answers (.degHoldExpiry t code) s fun u =>
        u.dev.degOcc = s.dev.degOcc.filter (fun o => o.1 != code.toNat || !(s.upTo t).degPast o) ∧
          u.devState = (if u.degActive = true then devDegraded else devRun) ∧ u.on R.DEV_CAUSE.DEG_ACT = u.degActive) ∧
    (Answers (.slowInputClamp t i true) s fun u => u.clampedIn i = true) ∧
    (Answers (.slowInputClamp t i false) s fun u =>
      (SMap.get (fun _ => {}) u.dev.clamps i : Clamp) = { until_ := u.now + 10000 }) ∧
    ((s.upTo t).inHoldOff (SMap.get (fun _ => none) s.cap.trigAt idx) ((s.upTo t).auxStamp (2 + idx) taps) 20 = false →
        (s.upTo t).clampedIn (2 + idx) = false →
      Answers (.trigInEdge t idx fall taps) s fun u =>
        let stamp := (s.upTo t).auxStamp (2 + idx) taps
        SMap.get (fun _ => none) u.cap.trigAt idx = some stamp ∧
          (∀ q < 4, (⟨0x02, idx, fall, stamp⟩ : Occ) ∈ (u.seqr q).waiting)) ∧
    ((s.upTo t).clampedIn (2 + idx) = true ∨
          (s.upTo t).inHoldOff (SMap.get (fun _ => none) s.cap.trigAt idx) ((s.upTo t).auxStamp (2 + idx) taps) 20 = true →
      Answers (.trigInEdge t idx fall taps) s fun u => u.cap.trigAt = s.cap.trigAt) ∧
    (∀ c ∈ s.connOfPort port.toNat, listening s p →
      Answers (.netFrameReceive t p ⟨src, rct, stamp, .udp true port data⟩) s fun u =>
        if ((s.upTo t).conn c).queue.length < 16 then
          (u.conn c).queue = ((s.upTo t).conn c).queue ++ [(stamp.toNat, data)] ∧
            u.rd R.SAFE_CNT_CMD_DISCARD.COUNT = (s.upTo t).rd R.SAFE_CNT_CMD_DISCARD.COUNT
        else (u.conn c).queue = ((s.upTo t).conn c).queue ∧ Advanced (s.upTo t) u R.SAFE_CNT_CMD_DISCARD.COUNT) ∧
    (listening s p →
      Answers (.netFrameReceive t p ⟨src, rct, stamp, .udp false port data⟩) s fun u =>
        Advanced s u R.NET_CNT_RX_DROP.COUNT ∧ (s.net.dropAt = none → Recorded s u .netRxDrop noHead)) ∧
    (s.on (R.NET_PORT.LINK p) = true → 2 ≤ s.devState → s.devState ≠ devShutdown → s.prpPort p = true →
        (s.upTo t).prpSeen src.toNat seq.toNat = true →
      Answers (.netFrameReceive t p ⟨src, some seq, stamp, .udp true port data⟩) s fun u => u.safe = (s.upTo t).safe ∧
        u.net = { (s.upTo t).net with planeAt := u.net.planeAt })


/-! ### Housekeeping (19) -/

/-- G × K_G × V̄ in 2^-23, the dividend of R449. -/
def hkDividend (s : State) (v : Int) : Int := (2 ^ s.hkGain s.hkEntry : Nat) * (s.rd (R.HK_GAINCAL.K (s.hkGain s.hkEntry)) : Int) * v

/-- A result of the running entry that R450 calls invalid. -/
abbrev hkInvalid (s u : State) : Prop :=
  bits (u.word (hkResWord s.hkEntry 0)) 23 0 = 0x7FFFFF ∧ bits (u.word (hkResWord s.hkEntry 0)) 24 24 = 1 ∧
    Advanced s u R.HK_CNT_OVR.COUNT

/-- The converter at the end of a conversion, and its commands (R449 to R451, R456, R457, R459 to R461): a result in range holds the code next to the quotient and its count and DT;
a result out of range, with a clamp, or of an excitation out of compliance is invalid; the sequence goes on and counts its
passes; an urgent request waits or aborts the step, and is refused while one is pending; a single conversion, a calibration
and a change of mode take their permissions. -/
def Obligations.HousekeepingCommandsComplete : Prop :=
  ∀ (s : State) (t : Time) (v ref : BitVec 48) (swing compl : Bool) (i : Iface) (e : Fin 16) (codes : List (BitVec 24)) (seq : Bool)
      (n : Fin 64) (g : Fin 8),
    (s.hk.run ≠ .idle → (s.upTo t).hkDone = true → s.hkCurve s.hkEntry = 0 → s.hkChanP s.hkEntry ≠ 73 → s.hk.clamped = false → 0 < ref.toInt →
        (hkDividend s v.toInt).natAbs ≤ 0x7FFFFE * ref.toNat → swing = false → compl = false →
      Answers (.hkConversionComplete t v ref swing compl) s fun u =>
        let raw := sext 24 (u.word (hkResWord s.hkEntry 1))
        2 * (raw * ref.toInt - hkDividend s v.toInt).natAbs ≤ ref.toNat ∧
          u.word (hkResWord s.hkEntry 0) = 2 ^ 31 + bits (u.word (hkResWord s.hkEntry 1)) 23 0 ∧
          bits (u.word (hkResWord s.hkEntry 2)) 31 16 = (bits (s.word (hkResWord s.hkEntry 2)) 31 16 + 1) % 2 ^ 16 ∧
          u.word (hkResWord s.hkEntry 3) = u.now % 2 ^ 32) ∧
    (s.hk.run ≠ .idle → (s.upTo t).hkDone = true → swing = true ∨ s.hk.clamped = true ∨ (compl = true ∧ s.hkCfg s.hkEntry 1 2 2 = 1) →
      Answers (.hkConversionComplete t v ref swing compl) s fun u => hkInvalid s u) ∧
    (s.hk.run = .step → (s.upTo t).hkDone = true → s.on R.HK_STATUS.URG_PEND = false →
      Answers (.hkConversionComplete t v ref swing compl) s fun u =>
        u.hk.run = .step ∧ u.hk.startAt = u.now ∧ u.rd R.HK_STATUS.ENTRY = s.hkStepEntry (u.rd R.HK_STATUS.STEP) ∧
          (if s.rd R.HK_STATUS.STEP < s.rd R.HK_CFG.NSTEP_M1 then u.rd R.HK_STATUS.STEP = s.rd R.HK_STATUS.STEP + 1
            else u.rd R.HK_STATUS.STEP = 0 ∧ Advanced s u R.HK_CNT_CYCLE.COUNT)) ∧
    (s.rd R.HK_CTL.MODE = 1 → s.hk.run ≠ .idle → s.on R.HK_STATUS.URG_PEND = false →
      Answers (.hkUrgentRequest t i e) s fun u =>
        u.on R.HK_STATUS.URG_PEND = true ∧ u.rd R.HK_CTL.URG_ENTRY = e.val ∧
          (if e.val = s.rd R.HK_STATUS.ENTRY ∨ (s.upTo t).hkPhase = 4 then u.hk = (s.upTo t).hk
            else u.hk.run = .urgent true ∧ u.rd R.HK_STATUS.ENTRY = e.val ∧ u.rd R.HK_STATUS.STEP = s.rd R.HK_STATUS.STEP ∧
              Advanced s u R.HK_CNT_ABORT.COUNT ∧ Recorded s u .hkUrgentAbort noHead)) ∧
    (s.on R.HK_STATUS.URG_PEND = true →
      Answers (.hkUrgentRequest t i e) s fun u => u.hk = (s.upTo t).hk ∧ Advanced s u R.DEV_ACC_CNT.COUNT) ∧
    (s.mayConfig i = true → s.hk.run = .idle →
      Answers (.hkSingleStart t i) s fun u => u.hk.run = .single ∧ u.on R.HK_STATUS.BUSY = true ∧ u.hk.startAt = u.now) ∧
    (s.on R.HK_STATUS.CAL_DONE = false →
      Answers (.hkCalibrate t none codes) s fun u =>
        u.on R.HK_STATUS.CAL_DONE = true ∧ Advanced s u (R.CAL_CNT.VALUE 3) ∧
          u.rd64 (R.CAL_DT_LO.VALUE 3) (R.CAL_DT_HI.VALUE 3) = u.now ∧
          (let k : Int := u.rd (R.HK_GAINCAL.K g)
           let c : Int := (codes.getD g 0).toNat
           k = s.rd (R.HK_GAINCAL.K g) ∨ ((k * c - 2 ^ 45).natAbs < c.toNat ∧ (k - 2 ^ 23).natAbs * 200 ≤ 2 ^ 23))) ∧
    (s.mayMode i = true → s.on R.HK_CTL.MODE ≠ seq →
      Answers (.hkModeWrite t i seq) s fun u =>
        u.on R.HK_CTL.MODE = seq ∧ u.on R.HK_STATUS.BUSY = seq ∧ (u.hk.run = if seq = true then .step else .idle)) ∧
    (Answers (.hkClampConduct t n) s fun u =>
      (if n.val < 32 then u.bitOf R.HK_CLAMP_LO.INPUTS n else u.bitOf R.HK_CLAMP_HI.INPUTS (n - 32)) = true ∧
        ((if n.val < 32 then s.bitOf R.HK_CLAMP_LO.INPUTS n else s.bitOf R.HK_CLAMP_HI.INPUTS (n - 32)) = false →
          Recorded s u .hkClamp noHead))

/-! ### Boot (20) -/

/-- What SEC_BOOT holds of a slot. -/
def slotCauseField (slot : Nat) : FRef := if slot = 0 then R.SEC_BOOT.CAUSE_A else R.SEC_BOOT.CAUSE_B

/-- A slot's header and manifest have been judged (R469, R470): a candidate, or failed with its cause. -/
abbrev judged (u : State) (slot : Nat) (m : Option Manifest) : Prop :=
  (m = none → u.rd (slotCauseField slot) = 1) ∧
    (∀ x ∈ m, if u.manifestCause x = 0 then (slot, x) ∈ u.boot.cands else u.rd (slotCauseField slot) = u.manifestCause x)

/-- The boot (R384, R417, R467, R469, R470, R472, R473, R474): the fuses are shown and the candidates put in order; training stores its
settings and DT begins anew; a slot that passes is kept, one that fails records the first check it fails and what it wrote is
wiped; the seal shows the image, derives the range constants and clears CONFIG on every head. -/
def Obligations.BootCommandsComplete : Prop :=
  ∀ (s : State) (t : Time) (factory : Fuses) (a b : Option Manifest) (fast slow : List Word) (r : SlotRead) (h : HeadIx) (k : Fin 64)
      (w : Fin 16),
    (s.booting = true → s.boot.loaded = false →
      Answers (.fuseLoadComplete t factory a b) s fun u =>
        u.boot.loaded = true ∧ u.rd R.SEC_STATUS.LC = lcOf u.boot.fuses % 8 ∧ u.rd R.SEC_ROOTS.PROGRAMMED = rootsOf u.boot.fuses ∧
          u.rd R.SEC_STATUS.ROLLBACK = u.boot.fuses.rollback % 256 ∧ judged u 0 a ∧ judged u 1 b ∧
          (u.boot.cands.zip (u.boot.cands.drop 1)).all (fun (x, y) => decide (y.2.secVer < x.2.secVer) ||
            (x.2.secVer == y.2.secVer && decide (y.2.imageSeq ≤ x.2.imageSeq))) = true ∧
          (u.boot.cands = [] → u.devState = devSafe)) ∧
    (s.boot.trained = false → s.devState ≠ devReset →
      Answers (.hbmTrainingComplete t fast slow) s fun u =>
        u.boot.trained = true ∧ u.dt = 0 ∧ u.rd R.CLK_STATUS.HBM_LOCK = 3 ∧ (u.pc k).fast = fast.getD k 0 ∧
          (u.pc k).slow = slow.getD k 0 ∧ u.hbm = []) ∧
    (s.booting = true → s.boot.loaded = true → s.boot.trained = true → s.boot.passed = none → s.dev.sealed = false →
        s.boot.cands ≠ [] →
      Answers (.slotReadComplete t r) s fun u =>
        let c := slotCause ((s.upTo t).applyImage r.image) r
        (r.digests = false → c = 5) ∧ (r.digests = true → r.signatures = false → c = 6) ∧
          (r.digests = true → r.signatures = true → r.vendorSeal = false → c = 7) ∧
          (c = 0 ↔ r.digests = true ∧ r.signatures = true ∧ r.vendorSeal = true ∧
            ((s.upTo t).applyImage r.image).loaderOk r.image r.copies = true ∧ r.answered = true) ∧
          (c = 0 → u.boot.passed = s.boot.cands.head?.map (fun x => (x.1, x.2, r.image)) ∧ u.hbm = s.hbm) ∧
          (c ≠ 0 → u.boot.passed = none ∧ u.boot.cands = s.boot.cands.drop 1 ∧ u.hbm = [] ∧
            u.rd (slotCauseField (s.boot.cands.head?.map Prod.fst |>.getD 0)) = c ∧ Recorded s u .bootSlotFail noHead ∧
            (s.boot.cands.length = 1 → u.devState = devSafe))) ∧
    (∀ x ∈ s.boot.passed, s.booting = true → s.dev.sealed = false → s.on R.MEM_STATUS.WIPE_DONE = true →
      Answers (.seal t) s fun u =>
        u.dev.sealed = true ∧ u.on R.SEC_STATUS.SEALED = true ∧ u.rd R.SEC_STATUS.SLOT = x.1 % 2 ∧
          u.on R.SEC_STATUS.FALLBACK = (s.on R.SEC_STATUS.FALLBACK || s.boot.tried != 0) ∧
          u.rd R.SEC_STATUS.SEC_VER = x.2.1.secVer.toNat ∧ u.rd R.SEC_IMAGE_SEQ.SEQ = x.2.1.imageSeq.toNat ∧
          u.rd (R.SEC_DIGEST.DIGEST w) = x.2.1.digest.toNat / 2 ^ (32 * w.val) % 2 ^ 32 ∧ u.inh h .config = false ∧
          u.rd (R.DET_RANGE_K.K h) = rangeK x.2.2.index % 2 ^ (R.DET_RANGE_K.K h).width ∧
          (s.devState = devSafe → u.devState = devSafe) ∧
          (s.devState = devBoot → u.devState = devRun ∨ u.devState = devDegraded ∨ u.safeActive = true))

/-! ### Electrum: attestation, sessions and services (20) -/

/-- The next record of an open session, before its last (R478, R479). -/
abbrev nextRecord (s : State) (r : SessRec) : Prop :=
  s.sessionState = 2 ∧ r.authentic = true ∧ r.seq.toNat = s.boot.session.rxSeq ∧ s.boot.session.rxSeq + 1 < 2 ^ 31

/-- The device has gone through RESET for cause `c`, and boots again where PORST_N and the supplies let it (R26, Table 1.4). -/
abbrev wentThroughReset (s u : State) (c : Nat) : Prop :=
  u.rd R.DEV_RESET_CAUSE.CAUSE = c ∧ u.rd R.SEC_SESSION.STATE = 0 ∧ u.hbm = [] ∧
    u.devState = (if s.dev.porst = false ∧ s.suppliesGood = true then devBoot else devReset)

/-- Attestation and the course of a session (R476, R478, R479): a report is asked for and formed; a good HELLO begins the
handshake and a bad one is counted; a good AUTH opens the session and the device enters MAINT; a session that is closed, that has had no
valid record for LOST_T, or whose NOT_AFTER DT has reached ends in RESET. -/
def Obligations.SessionCommandsComplete : Prop :=
  ∀ (s : State) (t : Time) (i : Iface) (x : Signed) (p : Option (Fin 4)) (c : Cert) (r : SessRec) (w : Fin 908),
    (s.on R.SEC_ATTEST_STATUS.BUSY = false →
      Answers (.attestRequest t i) s fun u => u.on R.SEC_ATTEST_STATUS.BUSY = true ∧ u.on R.SEC_ATTEST_STATUS.DONE = false) ∧
    (s.on R.SEC_ATTEST_STATUS.BUSY = true →
      Answers (.attestRequest t i) s fun u => Advanced s u R.DEV_ACC_CNT.COUNT ∧ u.rd R.DEV_ACC_INFO.CAUSE = 5) ∧
    (s.on R.SEC_ATTEST_STATUS.BUSY = true →
      Answers (.attestComplete t x) s fun u =>
        u.on R.SEC_ATTEST_STATUS.BUSY = false ∧ u.on R.SEC_ATTEST_STATUS.DONE = true ∧
          Advanced s u R.SEC_ATTEST_STATUS.COUNT ∧
          u.rd (R.SEC_ATTEST.DATA w) = ofBytesLE ((((s.upTo t).report x).drop (4 * w)).take 4)) ∧
    (s.sessionState = 0 → s.mayMaintain = true → s.helloPort p = true →
      Answers (.helloReceive t p c) s fun u =>
        if (s.upTo t).certOk c = true then
          u.sessionState = 1 ∧ u.boot.session.perm = c.perm.toNat ∧ u.boot.session.notAfter = c.notAfter.toNat ∧
            u.boot.session.rxSeq = 0
        else u.sessionState = 0 ∧ Advanced s u R.SEC_CNT_AUTH_FAIL.COUNT ∧ Recorded s u .sessionAuthFail noHead) ∧
    (s.sessionState = 1 → s.mayMaintain = true →
      Answers (.authReceive t true) s fun u =>
        u.sessionState = 2 ∧ u.devState = devMaint ∧ u.rd R.SEC_SESSION.PERM = s.boot.session.perm % 256 ∧
          u.rd64 R.SEC_SESSION_EXP_LO.VALUE R.SEC_SESSION_EXP_HI.VALUE = s.boot.session.notAfter % 2 ^ 64 ∧
          Advanced s u R.SEC_CNT_SESSION.COUNT ∧ (∀ m < 4, u.ossdOn m = false)) ∧
    (s.sessionState = 1 → s.mayMaintain = true →
      Answers (.authReceive t false) s fun u =>
        u.sessionState = 0 ∧ Advanced s u R.SEC_CNT_AUTH_FAIL.COUNT ∧ Recorded s u .sessionAuthFail noHead) ∧
    (nextRecord s r → Answers (.close t r) s fun u => wentThroughReset s u 3 ∧ u.boot.answer.ok = true) ∧
    (s.sessionState = 2 → s.boot.session.lastAt + s.rd R.SEC_MAINT_CFG.LOST_T * 1000000000 ≤ (s.upTo t).now →
      Answers (.sessionLost t) s fun u => wentThroughReset s u 3) ∧
    (s.sessionState = 2 → s.boot.session.notAfter ≤ (s.upTo t).now →
      Answers (.sessionExpiry t) s fun u => wentThroughReset s u 3)

/-- The answer to a service. -/
abbrev answered (u : State) (ok : Bool) (data : List Byte) : Prop := u.boot.answer = ⟨ok, data⟩

/-- The services of a session (R256, R443, R471, R476, R480 to R483, R500): registers are read, with the permission, and written; a full
snapshot slot is read in ring order, while no write is queued in the stacks; a report is formed; the flash of a slot not booted is
erased, programmed and read, that of the slot booted is not; heads are named; a life-cycle change that is allowed programs its stage and
goes through RESET; the fuse steps keep their conditions. What refuses a service stands in its answer as one byte, whose value is the
model's choice (log 120). -/
def Obligations.ServiceCommandsComplete : Prop :=
  ∀ (s : State) (t : Time) (r : SessRec) (addr : Word) (words : List Word) (n : BitVec 16) (i : Fin 8) (g first : Word)
      (x : Signed) (data : List Byte) (b heads : BitVec 16) (target : BitVec 3) (se sm : BitVec 256) (k : Fin 2) (hash : BitVec 384)
      (q : Fin 4) (h : HeadIx),
    (nextRecord s r → s.hasPerm .read = false →
      Answers (.regRead t r addr n) s fun u => answered u false [1] ∧ u.boot.session.rxSeq = s.boot.session.rxSeq + 1) ∧
    (nextRecord s r → s.hasPerm .read = true → addr.toNat % 4 = 0 → (s.upTo t).shadow .session addr.toNat = 0 →
      Answers (.regRead t r addr 1) s fun u =>
        answered u true (pack [(1, 1), (1, 0), (2, 1), (4, addr.toNat), (4, 0)] ++ bytesLE 4 ((s.upTo t).readWord addr.toNat))) ∧
    (nextRecord s r → words ≠ [] → words.length ≤ 256 →
      Answers (.regWrite t r addr words) s fun u =>
        u.regs = ((s.upTo t).hostWrites .session addr.toNat words).1.regs ∧ u.boot.answer.ok = true ∧
          u.boot.answer.data.take 8 = pack [(1, 2), (1, 0), (2, words.length), (4, addr.toNat)]) ∧
    (nextRecord s r → s.hasPerm .read = true → s.slotState i = slFull → s.rd (R.CAP_SLOT3.GEN i) = g.toNat →
        first.toNat + 1 ≤ (s.slot i).nFrames → (∀ k, (s.pc k).writes = []) →
      Answers (.snapRead t r i g first 1) s fun u =>
        answered u true (s.hbmBytes (s.slotAddr i) 64 ++
          s.hbmBytes (s.frameAddr i (((s.slot i).first + first.toNat) % max 1 (s.ringLen i))) 1024)) ∧
    (nextRecord s r → s.hasPerm .read = true → s.on R.SEC_ATTEST_STATUS.BUSY = false →
      Answers (.attest t r x) s fun u =>
        answered u true ((s.upTo t).report x) ∧ u.boot.answer.data.length = 3632 ∧ u.on R.SEC_ATTEST_STATUS.DONE = true) ∧
    (nextRecord s r → s.hasPerm .flash = true → s.flashOpen (addr.toNat / 0x10000 * 0x10000) 0x10000 = true →
        (s.upTo t).flashWindow = true →
      Answers (.flashErase t r addr) s fun u =>
        answered u true [] ∧
          (∀ a, u.flashByte a = if a / 0x10000 = addr.toNat / 0x10000 then 0xFF else s.flashByte a)) ∧
    (nextRecord s r → s.hasPerm .flash = true → s.flashOpen addr.toNat data.length = true → (s.upTo t).flashWindow = true →
      Answers (.flashWrite t r addr data true) s fun u =>
        u.flashBytes addr.toNat data.length = List.zipWith (· &&& ·) (s.flashBytes addr.toNat data.length) data ∧
          u.boot.answer.ok = (u.flashBytes addr.toNat data.length == data) ∧
          (∀ a, a < addr.toNat ∨ addr.toNat + data.length ≤ a → u.flashByte a = s.flashByte a)) ∧
    (nextRecord s r → s.hasPerm .flash = true → s.flashOpen addr.toNat b.toNat = true →
      Answers (.flashRead t r addr b) s fun u =>
        answered u true (s.flashBytes addr.toNat b.toNat) ∧ u.boot.flash = s.boot.flash) ∧
    (nextRecord s r → s.hasPerm .flash = true → s.dev.sealed = true → addr.toNat / 0x4000000 = s.rd R.SEC_STATUS.SLOT →
      Answers (.flashWrite t r addr data true) s fun u => answered u false [2] ∧ u.boot.flash = s.boot.flash) ∧
    (nextRecord s r → s.hasPerm .heads = true →
      Answers (.headEnable t r heads) s fun u =>
        answered u true [] ∧ (bit heads.toNat h = true → bit u.boot.session.heads h = true)) ∧
    (nextRecord s r → s.hasPerm .lc = true → lcAllowed s.boot.fuses (s.boot.session.root / 2) target.toNat = true →
        (s.upTo t).fuseWindow = true → s.boot.fuses.stages.length = 4 →
      Answers (.lcChange t r target se sm) s fun u =>
        lcOf u.boot.fuses = target.toNat ∧ wentThroughReset s u 4 ∧
          (target = 1 → u.boot.fuses.seedEd = se.toNat ∧ u.boot.fuses.seedMl = sm.toNat) ∧
          (target = 3 → rootLive u.boot.fuses 2 = false ∧ rootLive u.boot.fuses 3 = false) ∧
          (target = 4 → u.boot.fuses.seedEd = 2 ^ 256 - 1 ∧ u.boot.fuses.seedMl = 2 ^ 256 - 1)) ∧
    (nextRecord s r → s.hasPerm .fuse = true → s.dev.sealed = true → (s.upTo t).fuseWindow = true →
        s.boot.fuses.rollback < s.rd R.SEC_STATUS.SEC_VER →
      Answers (.rollbackCommit t r) s fun u =>
        u.boot.fuses.rollback = s.rd R.SEC_STATUS.SEC_VER ∧ u.rd R.SEC_STATUS.ROLLBACK = s.rd R.SEC_STATUS.SEC_VER ∧
          Recorded s u .rollbackAdvanced noHead ∧ answered u true []) ∧
    (s.boot.autoCommit = true → s.dev.sealed = true → s.running = true → (s.upTo t).fuseWindow = true →
        s.boot.fuses.rollback < s.rd R.SEC_STATUS.SEC_VER → (s.upTo t).dueAgain s.boot.triedAt 60000000000 = true →
      Answers (.rollbackAutoCommit t) s fun u =>
        ∀ a ∈ s.dev.runSince, u.boot.fuses.rollback =
          if a + 60000000000 ≤ u.now then s.rd R.SEC_STATUS.SEC_VER else s.boot.fuses.rollback) ∧
    (nextRecord s r → s.hasPerm .fuse = true → 1 = lcOf s.boot.fuses → s.boot.fuses.roots.getD (2 + k) 0 = 0 →
        (s.upTo t).fuseWindow = true → s.boot.fuses.roots.length = 4 →
      Answers (.rootProgram t r k hash) s fun u =>
        u.boot.fuses.roots.getD (2 + k) 0 = hash.toNat ∧ u.rd R.SEC_ROOTS.PROGRAMMED = rootsOf u.boot.fuses ∧ answered u true []) ∧
    (nextRecord s r → s.hasPerm .fuse = true → s.boot.session.root ≠ q.val →
        bare { s.boot.fuses with revoked := setBit s.boot.fuses.revoked q } (lcOf s.boot.fuses) = false →
        bare { s.boot.fuses with revoked := setBit s.boot.fuses.revoked q } (lcOf s.boot.fuses + 1) = false →
        (s.upTo t).fuseWindow = true →
      Answers (.rootRevoke t r q) s fun u => rootLive u.boot.fuses q = false ∧ answered u true []) ∧
    (nextRecord s r → s.hasPerm .fuse = true → s.boot.session.root = q.val →
      Answers (.rootRevoke t r q) s fun u =>
        u.boot.fuses = s.boot.fuses ∧ answered u false [2] ∧ Recorded s u .fuseRefused noHead)

/-! ### The register bus and the network inputs (08, 22) -/

/-- A register whose write is nothing but its fields. -/
def plain (a v old : Nat) : Bool := ownBits a == 0 && (triggers .mspi a v old).isEmpty

/-- A host write (R7, R9, R491, R492, R494, R496, R519): each field of the word acts by its class, whatever the others do, and a W1C bit
that the device has set at the same DT stays set; no other register changes but those that record an access error; an address that is unmapped or misaligned writes nothing and is
reported. -/
def Obligations.HostWritesActByField : Prop :=
  ∀ (s : State) (t : Time) (i : Iface) (addr v : Word) (b : Nat),
    (∀ r ∈ regRow addr.toNat, addr.toNat % 4 = 0 → plain addr.toNat v.toNat (s.word addr.toNat) = true →
        addr.toNat ∉ errorRegs →
      Answers (.hostRegisterWrite t i addr v) s fun u =>
        (∀ f ∈ r.fields,
          let old := bits ((s.upTo t).word addr.toNat) f.hi f.lo
          let put := bits v.toNat f.hi f.lo
          bits (u.word addr.toNat) f.hi f.lo = match f.acc with
            | .ro | .wo | .seal => old
            | .rw => if f.allows put = true then put else old
            | .w1c => old &&& (old ^^^ (put ^^^ (put &&& bits ((s.upTo t).keepBits addr.toNat) f.hi f.lo)))
            | .maint => if s.mayConfig i = true ∧ f.allows put = true then put else old) ∧
        (b ≠ addr.toNat → b ∉ errorRegs → u.word b = (s.upTo t).word b)) ∧
    (addr.toNat % 4 ≠ 0 →
      Answers (.hostRegisterWrite t i addr v) s fun u =>
        Advanced s u R.DEV_ACC_CNT.COUNT ∧ u.rd R.DEV_ACC_INFO.CAUSE = 6 ∧ u.rd R.DEV_ACC_ADDR.ADDR = addr.toNat ∧
          u.on R.DEV_ACC_INFO.WRITE = true ∧ u.rd R.DEV_ACC_INFO.IF = (if i = .mspi then 0 else 1) ∧
          (b ∉ errorRegs → u.word b = (s.upTo t).word b)) ∧
    (addr.toNat % 4 = 0 → regRow addr.toNat = none → isWindow addr.toNat = false →
      Answers (.hostRegisterWrite t i addr v) s fun u =>
        Advanced s u R.DEV_ACC_CNT.COUNT ∧ u.rd R.DEV_ACC_INFO.CAUSE = 4 ∧ u.rd R.DEV_ACC_ADDR.ADDR = addr.toNat ∧
          (b ∉ errorRegs → u.word b = (s.upTo t).word b))

/-- The registers that a transaction of the management SPI writes itself. -/
def mspiRegs : List Nat := R.MSPI_STATUS.addr :: errorRegs

/-- The management SPI (R493, R497 to R499, R501): a read returns its wait bytes, the marker, the words and their CRC, and changes
nothing but the result bits; a write takes effect only with the right CRC; STATUS changes no bit; an aborted transaction writes
nothing; a write of DEV_EVT_RD equal to EVT_WR clears the event latch. -/
def Obligations.ManagementSpiComplete : Prop :=
  ∀ (s : State) (t : Time) (addr : Word) (lenM1 waits : BitVec 8) (words : List Word) (crc : BitVec 16) (v : Word) (b : Nat),
    ((s.upTo t).mspiDeaf = false → waits.toNat ≤ 64 →
      Answers (.mspiRead t addr lenM1 waits) s fun u =>
        u.mspi.out.length = waits.toNat + 4 * lenM1.toNat + 7 ∧ u.mspi.out.take waits.toNat = List.replicate waits.toNat 0 ∧
          u.mspi.out[waits.toNat]? = some 0xA5 ∧ u.on R.MSPI_STATUS.ABORT = false ∧
          (b ∉ mspiRegs → u.word b = (s.upTo t).word b) ∧ u.hbm = s.hbm) ∧
    ((s.upTo t).mspiDeaf = false → waits = 0 → addr.toNat % 4 = 0 → (s.upTo t).shadow .mspi addr.toNat = 0 →
      Answers (.mspiRead t addr 0 waits) s fun u =>
        let data := bytesLE 4 ((s.upTo t).readWord addr.toNat)
        u.mspi.out = [0xA5#8] ++ data ++ bytesLE 2 (crc16 data) ∧ u.on R.MSPI_STATUS.ACC_ERR = false) ∧
    ((s.upTo t).mspiDeaf = false → 64 < waits.toNat →
      Answers (.mspiRead t addr lenM1 waits) s fun u =>
        u.mspi.out = List.replicate 64 0 ++ [0xE1] ∧ u.on R.MSPI_STATUS.ABORT = true ∧
          (b ∉ mspiRegs → u.word b = (s.upTo t).word b)) ∧
    ((s.upTo t).mspiDeaf = false → words.length = lenM1.toNat + 1 →
      Answers (.mspiWrite t addr lenM1 words crc) s fun u =>
        if crc.toNat = crc16 (0x02 :: bytesLE 4 addr.toNat ++ bytesLE 1 lenM1.toNat ++ words.flatMap fun w => bytesLE 4 w.toNat) then
          u.on R.MSPI_STATUS.DONE = true ∧ u.on R.MSPI_STATUS.CRC_ERR = false ∧
            u.rd R.MSPI_STATUS.WRITES = (s.rd R.MSPI_STATUS.WRITES + 1) % 2 ^ 16 ∧
            (b ∉ mspiRegs → u.word b = ((s.upTo t).hostWrites .mspi addr.toNat words).1.word b)
        else u.on R.MSPI_STATUS.CRC_ERR = true ∧ u.on R.MSPI_STATUS.DONE = false ∧
          u.rd R.MSPI_STATUS.WRITES = s.rd R.MSPI_STATUS.WRITES ∧ (b ≠ R.MSPI_STATUS.addr → u.word b = (s.upTo t).word b)) ∧
    ((s.upTo t).mspiDeaf = false →
      Answers (.mspiStatus t) s fun u =>
        u.mspi.out = bytesLE 4 (s.word R.MSPI_STATUS.addr) ∧ u.word b = (s.upTo t).word b) ∧
    ((s.upTo t).mspiDeaf = false →
      Answers (.mspiAbort t) s fun u =>
        u.on R.MSPI_STATUS.ABORT = true ∧ u.on R.MSPI_STATUS.ACC_ERR = false ∧
          (b ≠ R.MSPI_STATUS.addr → u.word b = (s.upTo t).word b)) ∧
    (Answers (.eventLatchClear t v) s fun u =>
      u.rd R.DEV_EVT_RD.RD = v.toNat ∧ u.rd R.EVT_WR.WR = s.rd R.EVT_WR.WR ∧
        u.dev.eventLatch = ((s.upTo t).dev.eventLatch && v.toNat != s.rd R.EVT_WR.WR))


/-! ### The machine as a whole -/

/-- A step (22: commands reach the block one after the other): the command at the front of the queue has its effect with the
queue's rest; with an empty queue DT advances by 1 ns (R4, R416; the tick of an empty queue
is the model's choice, log 6). -/
def Obligations.StepRunsTheFrontCommand : Prop :=
  (∀ (s : State) (c : Instr) (rest : List Instr),
    s.pending = c :: rest → step s = exec c { s with pending := rest }) ∧
  (∀ s : State, s.pending = [] → ∃ u, step s = .next u ∧ u.dt = s.dt + 1 ∧ u.regs = s.regs ∧ u.hbm = s.hbm ∧ u.heads = s.heads ∧
    u.fine = s.fine ∧ u.pending = [])

/-- No command stops the block, and none but the sender changes the queue: exec answers a next state whose queue is the one it
found. -/
def Obligations.EveryCommandCompletes : Prop := ∀ (c : Instr) (s : State), Answers c s fun u => u.pending = s.pending

/-- The commands that may change a byte of the HBM: what stores scan programs, records, staged lines, points, captures, snapshots and
requests, and the change of rate that completes them; scrubbing; what an image puts in place; and every command that can lead through RESET. -/
def mayStore : Instr → Bool
  | .porstNAssert _ | .watchdogExpiry _ | .thermalHoldRelease _ | .hbmTrainingComplete _ _ _ | .slotReadComplete _ _ | .seal _ => true
  | .close _ _ | .sessionLost _ | .sessionExpiry _ | .regRead _ _ _ _ | .regWrite _ _ _ _ | .snapRead _ _ _ _ _ _ => true
  | .attest _ _ _ | .flashErase _ _ _ | .flashWrite _ _ _ _ _ | .flashRead _ _ _ _ | .headEnable _ _ _ => true
  | .lcChange _ _ _ _ _ | .rollbackCommit _ _ | .rootProgram _ _ _ _ | .rootRevoke _ _ _ => true
  | .hostRegisterWrite _ _ _ _ | .mspiWrite _ _ _ _ _ | .scanLoadStore _ _ _ _ | .forwardedWrite _ _ _ _ => true
  | .recordMove _ _ _ | .bearingMerge _ _ _ _ | .pointFormat _ _ | .captureFrameClose _ _ | .slotFull _ _ => true
  | .catchupRecord _ _ _ _ _ | .memRequestIssue _ _ | .memReadComplete _ _ _ _ _ | .scrubUnit _ _ _ | .stackRateChange _ _ => true
  | _ => false

/-- The frame of memory: every other command leaves every byte of the HBM, and only a session's flash services change a byte of the
boot flash (R463, R473: the flash is read only for the services after seal). -/
def Obligations.MemoryFrame : Prop :=
  ∀ (c : Instr) (s u : State), exec c s = .next u →
    (mayStore c = false → ∀ a, u.hbmByte a = s.hbmByte a) ∧
      ((∀ t r a, c ≠ .flashErase t r a) → (∀ t r a d g, c ≠ .flashWrite t r a d g) → ∀ a, u.flashByte a = s.flashByte a)

/-- The commands that end in RESET: PORST_N, the watchdog, the end of SHUTDOWN, and every way in which a session ends, the services
of a session whose time or records have run out among them. -/
def mayReset : Instr → Bool
  | .porstNAssert _ | .watchdogExpiry _ | .thermalHoldRelease _ | .close _ _ | .sessionLost _ | .sessionExpiry _ => true
  | .regRead _ _ _ _ | .regWrite _ _ _ _ | .snapRead _ _ _ _ _ _ | .attest _ _ _ | .flashErase _ _ _ => true
  | .flashWrite _ _ _ _ _ | .flashRead _ _ _ _ | .headEnable _ _ _ | .lcChange _ _ _ _ _ => true
  | .rollbackCommit _ _ | .rootProgram _ _ _ _ | .rootRevoke _ _ _ => true
  | _ => false

/-- Table 1.4: may command `c` lead the device from state `a` to another state `b`? Of a command that passes through a state, the
last one counts: RESET goes on to BOOT at once where PORST_N and the supplies let it, and a hardware shutdown that is logged then
leads to SAFE. -/
def tableAllows (c : Instr) (a b : Nat) : Prop :=
  (b = devReset ∧ mayReset c = true) ∨
  (b = devBoot ∧ (a = devReset ∨ mayReset c = true)) ∨
  (b = devShutdown ∧ a ≠ devReset ∧ ∃ t, c = .thermalShutdown t) ∨
  (b = devSafe ∧ (a = devReset ∨ a = devBoot ∨ a = devRun ∨ a = devDegraded ∨ mayReset c = true)) ∨
  (b = devMaint ∧ (a = devRun ∨ a = devDegraded ∨ a = devSafe) ∧ ∃ t, c = .authReceive t true) ∨
  ((b = devRun ∨ b = devDegraded) ∧
    (a = devRun ∨ a = devDegraded ∨ (a = devBoot ∧ ∃ t, c = .seal t) ∨ (a = devSafe ∧ ∃ t v, c = .resetAccept t v)))

/-- The device changes state only by the transitions of Table 1.4, each brought by its own commands (R25, R26). The hold of a
hardware shutdown persists through every command but its release, PORST_N and all; while it is in force the device does not leave
RESET, and THERM_TRIP_N stays asserted (R442). -/
def Obligations.DeviceStatesFollowTheTable : Prop :=
  (∀ (c : Instr) (s u : State), exec c s = .next u → u.devState = s.devState ∨ tableAllows c s.devState u.devState) ∧
  (∀ (c : Instr) (s u : State), exec c s = .next u → s.on R.THM_TRIP.HOLD = true → (∀ t, c ≠ .thermalHoldRelease t) →
    u.on R.THM_TRIP.HOLD = true ∧ (s.devState = devReset → u.devState = devReset) ∧ u.thermTripN = .low)

/-- Every step keeps the canonical form of the registers, the HBM and the boot flash, from every state that has it: equal memories
stay equal data (addresses strictly rising, no entry equal to what an unlisted address reads as). -/
def Obligations.StepsKeepMemoriesCanonical : Prop :=
  ∀ s u : State, s.wf = true → step s = .next u → u.wf = true

/-- The state after reset (R484, R491, Table 1.4; the reset values of every register description): each field of each
register holds the reset value of its row, memory is wiped, no command waits, every head is OFF with CONFIG set, and no
output is on. -/
def Obligations.ResetIsAsDescribed : Prop :=
  State.reset.wf = true ∧ State.reset.ossdSafe = true ∧ State.reset.headsSafe = true ∧ State.reset.pending = [] ∧ State.reset.hbm = [] ∧
    (∀ a, ∀ r ∈ regRow a, State.reset.word a = r.resetWord.toNat) ∧
    State.reset.rd R.DEV_ID.PART = 0x1536 ∧ State.reset.rd R.DEV_ID.REV = 0xA1 ∧ State.reset.rd R.EVT_WR.WR = 0 ∧
    (∀ h < 16, State.reset.headState h = hsOff ∧ State.reset.inh h .config = true ∧ State.reset.inh h .token = true) ∧
    (∀ m < 4, State.reset.ossdOn m = false) ∧ State.reset.on R.SEC_STATUS.SEALED = false ∧ State.reset.sessionState = 0

/-- Outside RUN and DEGRADED no OSSD channel is on, and in RESET, BOOT and SHUTDOWN every head is OFF (R25, R28, R31, R304): no step
leads from a state in which that holds to one in which it does not. In BOOT, SHUTDOWN and RESET, no head is SCANNING and no FIRE
strobe is driven. -/
def Obligations.OutputsStayOffOutsideRun : Prop :=
  ∀ s u : State, s.ossdSafe = true → s.headsSafe = true → step s = .next u →
    u.ossdSafe = true ∧ u.headsSafe = true ∧
      (u.devState = devBoot ∨ u.devState = devShutdown ∨ u.devState = devReset →
        ∀ h < 16, u.headState h ≠ hsScanning ∧ u.firePin h = .low)

/-- Fuses are programmed once (R467, R471, R482, R483): no step lowers the rollback counter, leads to an earlier life-cycle state,
takes back a revocation or changes a root that is programmed. -/
def Obligations.FusesOnlyGrow : Prop :=
  ∀ s u : State, step s = .next u →
    s.boot.fuses.rollback ≤ u.boot.fuses.rollback ∧ lcOf s.boot.fuses ≤ lcOf u.boot.fuses ∧
      (∀ k, bit s.boot.fuses.revoked k = true → bit u.boot.fuses.revoked k = true) ∧
      (∀ k, s.boot.fuses.roots.getD k 0 ≠ 0 → u.boot.fuses.roots.getD k 0 = s.boot.fuses.roots.getD k 0)
/-! ### Frames of every command -/

/-- Commands that may lead through RESET, or that write the register which their operands name: no frame of the registers. -/
def wholeMap : Instr → Bool
  | .porstNAssert .. | .watchdogExpiry .. | .thermalHoldRelease .. | .slotReadComplete .. | .seal .. => true
  | .regRead .. | .regWrite .. | .snapRead .. | .attest .. | .flashErase .. | .flashWrite .. | .flashRead .. => true
  | .headEnable .. | .lcChange .. | .rollbackCommit .. | .rootProgram .. | .rootRevoke .. | .close .. => true
  | .sessionLost .. | .sessionExpiry .. | .hostRegisterWrite .. | .mspiWrite .. => true
  | _ => false

/-- Which registers a command may change, beside what `wholeMap` excepts: by the rules that give the command its effect. -/
def mayWrite (c : Instr) (a : Nat) : Prop :=
  match c with
  | .porstNRelease _ => eventWrites a
  | .suppliesGood _ => eventWrites a
  | .railOutOfTolerance _ _ => False
  | .degHoldExpiry _ _ => eventWrites a
  | .eventLatchClear _ _ => a ∈ [R.DEV_EVT_RD.addr]
  | .slowInputClamp _ _ _ => eventWrites a ∨ a ∈ [R.PAIR_CNT_CONFLICT.addr]
  | .headStart _ _ h => a ∈ errorRegs ++ gateRegs h ++ [R.EMT_STATUS.addr h, R.EMT_CNT_CYCLE.addr h, R.SRV_STATUS.addr h]
  | .headPark _ h => a ∈ gateRegs h ++ [R.SCAN_POS.addr h, R.SRV_STATUS.addr h, R.PWR_STATUS.addr]
  | .headRestart _ h => a ∈ gateRegs h ++ [R.SCAN_POS.addr h, R.EMT_STATUS.addr h, R.SRV_STATUS.addr h, R.EYE_STATUS.addr h,
      R.PWR_STATUS.addr]
  | .hostInhibitWrite _ h _ => a ∈ gateRegs h ++ [R.HEAD_CTL.addr h]
  | .autoStart _ h => a ∈ gateRegs h ++ [R.EMT_STATUS.addr h, R.EMT_CNT_CYCLE.addr h, R.SRV_STATUS.addr h]
  | .frameStart _ h => eventWrites a ∨ a ∈ [R.SCAN_STATUS.addr h, R.SCAN_COMMIT_FRAME.addr h, R.SCAN_FRAME_NUM.addr h,
      R.SCAN_POS.addr h, R.SCAN_SLIP.addr h, R.SCAN_CNT_LATE.addr h, R.FIRE_CODE.addr h, R.PWR_STATUS.addr,
      R.SAFE_STATUS.addr, R.PAIR_CID.addr, R.DOM_PLAN_GEN.addr, R.DOM_PLAN0.addr h, R.DOM_PLAN1.addr h, R.DOM_PLAN2.addr h] ∨
      (∃ i, a = R.NET_STREAM_SEQ.addr i)
  | .movePhaseStart _ h => eventWrites a ∨ a ∈ [R.SCAN_POS.addr h, R.SCAN_CNT_DESC.addr h, R.PWR_STATUS.addr,
      R.PWR_HS_LEVEL.addr, R.SCAN_STATUS.addr h, R.SCAN_COMMIT_FRAME.addr h]
  | .descriptorPrefetchArrival _ h _ _ => eventWrites a ∨ a ∈ [R.SCAN_CNT_DESC.addr h]
  | .settleTimeout _ h => eventWrites a ∨ a ∈ [R.SCAN_POS.addr h, R.SCAN_CNT_SKIP.addr h, R.FIRE_STATUS.addr h,
      R.HIST_CNT_ZLATE.addr h, R.SRV_APPLIED.addr h, R.EYE_STATUS.addr h, R.EYE_BLOCK.addr h, R.PWR_STATUS.addr,
      R.PWR_HS_LEVEL.addr, R.PWR_CNT_WITHDRAW.addr, R.PWR_CNT_SUPPLY.addr, R.DOM_CNT_DISCARD.addr, R.SCAN_SLIP.addr h] ∨ (∃ i,
      a = R.MEM_PORT_STALL.addr i)
  | .dwellOpen _ h => eventWrites a ∨ a ∈ [R.SCAN_POS.addr h, R.FIRE_STATUS.addr h, R.HIST_CNT_ZLATE.addr h,
      R.SRV_APPLIED.addr h, R.EYE_STATUS.addr h, R.EYE_BLOCK.addr h, R.PWR_STATUS.addr, R.PWR_HS_LEVEL.addr,
      R.PWR_CNT_WITHDRAW.addr, R.PWR_CNT_SUPPLY.addr, R.DOM_CNT_DISCARD.addr, R.SCAN_SLIP.addr h] ∨ (∃ i, a =
      R.MEM_PORT_STALL.addr i)
  | .dwellClose _ h => eventWrites a ∨ a ∈ [R.SCAN_POS.addr h, R.SCAN_SLIP.addr h, R.RET_ECHO_LAT.addr h, R.RET_CNT_SAT.addr
      h, R.SRV_STATUS.addr h, R.PWR_STATUS.addr, R.SAFE_STATUS.addr]
  | .flybackStart _ h => eventWrites a ∨ a ∈ [R.SCAN_POS.addr h, R.DET_VIS_STATUS.addr h, R.SRV_STATUS.addr h,
      R.PWR_HS_LEVEL.addr] ∨ (∃ i, a = R.SCAN_SLIP.addr i)
  | .scanLoadStore _ _ h _ => a ∈ errorRegs ++ gateRegs h ++ [R.SCAN_LOAD_IDX.addr h, R.SCAN_POS.addr h, R.PWR_STATUS.addr,
      R.EMT_STATUS.addr h, R.SRV_STATUS.addr h, R.EYE_STATUS.addr h] ∨ (∃ i, a ∈ [R.SCAN_LEN.addr h i, R.SCAN_LOAD_DATA.addr h
      i])
  | .commitRequest _ h _ => a ∈ [R.SCAN_STATUS.addr h]
  | .commitCancel _ h => a ∈ [R.SCAN_STATUS.addr h]
  | .commitCheckComplete _ h => eventWrites a ∨ a ∈ [R.SCAN_STATUS.addr h, R.SCAN_REJECT.addr h, R.SCAN_COMMIT_FRAME.addr h,
      R.SCAN_POS.addr h, R.EMT_STATUS.addr h, R.SRV_STATUS.addr h, R.EYE_STATUS.addr h, R.PWR_STATUS.addr] ∨ (∃ i, a ∈
      [R.SCAN_LEN.addr h i, R.NET_STREAM_SEQ.addr i])
  | .forwardedWrite _ _ _ _ => eventWrites a ∨ linkWrites a ∨ a ∈ [R.PWR_STATUS.addr] ∨ (∃ i, a ∈ [R.SCAN_STATUS.addr i,
      R.SCAN_REJECT.addr i, R.SCAN_COMMIT_FRAME.addr i, R.SCAN_POS.addr i, R.EMT_STATUS.addr i, R.SRV_STATUS.addr i,
      R.EYE_STATUS.addr i, R.NET_STREAM_SEQ.addr i]) ∨ (∃ i j, a ∈ [R.SCAN_LEN.addr i j, R.SCAN_FLY.addr i j])
  | .chainLoad _ h => a ∈ [R.EMT_STATUS.addr h, R.FIRE_LAST_DT_LO.addr h, R.FIRE_LAST_DT_HI.addr h]
  | .chainPatternSend _ h => a ∈ [R.EMT_STATUS.addr h, R.FIRE_LAST_DT_LO.addr h, R.FIRE_LAST_DT_HI.addr h]
  | .chainSwapSend _ h => a ∈ [R.EMT_STATUS.addr h, R.FIRE_LAST_DT_LO.addr h, R.FIRE_LAST_DT_HI.addr h]
  | .chainFrameReturn _ h _ => eventWrites a ∨ a ∈ [R.SCAN_POS.addr h, R.EMT_STATUS.addr h, R.EMT_CNT_RETRY.addr h,
      R.SRV_STATUS.addr h, R.PWR_STATUS.addr, R.FIRE_LAST_DT_LO.addr h, R.FIRE_LAST_DT_HI.addr h]
  | .chainFrameTimeout _ h => eventWrites a ∨ a ∈ [R.SCAN_POS.addr h, R.EMT_STATUS.addr h, R.EMT_CNT_RETRY.addr h,
      R.SRV_STATUS.addr h, R.PWR_STATUS.addr, R.FIRE_LAST_DT_LO.addr h, R.FIRE_LAST_DT_HI.addr h]
  | .proofStep _ h => a ∈ [R.FIRE_LAST_DT_LO.addr h, R.FIRE_LAST_DT_HI.addr h, R.EMT_STATUS.addr h, R.EMT_PROOF_STATUS.addr h,
      R.EMT_CNT_CYCLE.addr h]
  | .proofLate _ _ => eventWrites a
  | .fireStrobeLaunch _ h _ => a ∈ [R.FIRE_STATUS.addr h, R.FIRE_CNT_SHOT.addr h, R.FIRE_LAST_DT_LO.addr h,
      R.FIRE_LAST_DT_HI.addr h, R.PAIR_GAP.addr, R.DOM_CNT_DISCARD.addr] ∨ (∃ i, a = R.MEM_PORT_STALL.addr i)
  | .echoEdge _ h _ _ => eventWrites a ∨ a ∈ [R.FIRE_STATUS.addr h, R.FIRE_CNT_STRAY.addr h, R.PAIR_CNT_STRAY.addr] ∨ (∃ i, a
      ∈ [R.CAP_STREAM_LOSS.addr i, R.CAP_STREAM_QMAX.addr i, R.INSTAT_HITS.addr i])
  | .echoWindowExpiry _ h _ => eventWrites a ∨ a ∈ [R.FIRE_STATUS.addr h, R.FIRE_CNT_MISS.addr h, R.PAIR_CNT_NOECHO.addr]
  | .clrEcho _ h => a ∈ gateRegs h ++ [R.FIRE_STATUS.addr h]
  | .returnEdge _ n _ _ _ _ => eventWrites a ∨ a ∈ [R.INSTAT_ACC.addr n, R.INSTAT_OUT.addr n, R.INSTAT_LOST.addr n,
      R.INSTAT_BLANK.addr n, R.INSTAT_HITS.addr n] ∨ (∃ i, a ∈ [R.CAP_STREAM_LOSS.addr i, R.CAP_STREAM_QMAX.addr i])
  | .saturationDetect _ n => a ∈ [R.INSTAT_SAT.addr n] ∨ (∃ i, a ∈ [R.INSTAT_OUT.addr i, R.INSTAT_BLANK.addr i,
      R.INSTAT_ACC.addr i, R.HIST_CNT_COINC.addr i, R.HIST_CNT_SHED.addr i])
  | .saturationEnd _ _ => False
  | .randomHitInject _ i _ _ => a ∈ [R.INSTAT_HITS.addr i]
  | .calEpochClose _ i => eventWrites a ∨ a ∈ [R.CLK_TIMING_CAUSE.addr, R.CAL_REC0.addr i, R.CAL_REC_SKEW.addr i,
      R.CAL_REC_DNL.addr i, R.CAL_REC_HITS.addr i, R.CAL_REC_CRC.addr i, R.CAL_COUPLE.addr, R.INSTAT_HITS.addr i] ∨ (∃ j, a =
      R.RET_STATUS.addr j)
  | .calSelectionApply _ i => a ∈ [R.CAL_REC0.addr i, R.CAL_REC_SKEW.addr i, R.CAL_REC_DNL.addr i, R.CAL_REC_DT_LO.addr i,
      R.CAL_REC_DT_HI.addr i, R.CAL_REC_CRC.addr i, R.CAL_RESTORE_STATUS.addr] ∨ (∃ j, a ∈ [R.CAL_REC_TAP.addr i j,
      R.CAL_CNT.addr j, R.CAL_DT_LO.addr j, R.CAL_DT_HI.addr j])
  | .calStaleExpiry _ i => eventWrites a ∨ a ∈ [R.CAL_REC0.addr i, R.CAL_REC_CRC.addr i] ∨ (∃ j, a = R.RET_STATUS.addr j)
  | .calRestore _ _ _ => eventWrites a ∨ a ∈ errorRegs ++ [R.CAL_RESTORE_STATUS.addr] ∨ (∃ i, a = R.INSTAT_HITS.addr i)
  | .vernierCalComplete _ h _ _ _ _ _ => a ∈ errorRegs ++ gateRegs h ++ [R.EMT_STATUS.addr h, R.EMT_CNT_CYCLE.addr h,
      R.SRV_STATUS.addr h] ∨ (∃ i, a ∈ [R.CAL_REC0.addr i, R.CAL_REC_HITS.addr i, R.CAL_REC_CRC.addr i, R.CAL_CNT.addr i,
      R.CAL_DT_LO.addr i, R.CAL_DT_HI.addr i])
  | .coincDecision _ _ _ => eventWrites a ∨ (∃ i, a ∈ [R.HIST_STATUS.addr i, R.HIST_CNT_COINC.addr i, R.HIST_CNT_SHED.addr i])
  | .hypothesisEntry _ _ => False
  | .bufferComplete _ _ _ => False
  | .evaluatorRun _ h g _ _ => eventWrites a ∨ a ∈ [R.DET_CNT_BLIND.addr h, R.DET_CNT_CAND_OVF.addr h, R.DET_CNT_FOREIGN.addr
      h, R.DET_CNT_PROT.addr h, R.DET_CNT_WARN.addr h, R.GRP_ECC.addr g]
  | .fieldLineArrival _ _ _ _ _ _ _ => False
  | .recordMove _ h g => eventWrites a ∨ a ∈ [R.HIST_STATUS.addr h, R.HIST_CNT_SPILL.addr h, R.HIST_CNT_DROP.addr h,
      R.GRP_MQ.addr g.g, R.GRP_ECC.addr g.g] ∨ (∃ i, a = R.MEM_PORT_STALL.addr i)
  | .recordDropDeadline _ h _ => eventWrites a ∨ a ∈ [R.HIST_CNT_DROP.addr h]
  | .bearingStageArrival _ _ _ => eventWrites a ∨ a ∈ [R.BEAR_CNT_INTEG.addr] ∨ (∃ i, a ∈ [R.BEAR_CNT_INVALID.addr i,
      R.MEM_PORT_STALL.addr i])
  | .bearingMerge _ g _ _ => eventWrites a ∨ a ∈ [R.GRP_MQ.addr g] ∨ (∃ i, a ∈ [R.HIST_STATUS.addr i, R.HIST_CNT_DROP.addr i,
      R.BEAR_CNT_UPD.addr i, R.BEAR_CNT_RESTART.addr i, R.BEAR_CNT_WP.addr i, R.BEAR_CNT_LATE.addr i, R.BEAR_CNT_MOVING.addr
      i, R.BEAR_CNT_WP_OVF.addr i, R.GRP_ECC.addr i])
  | .writeBackComplete _ _ => ∃ i, a = R.MEM_PORT_STALL.addr i
  | .tachEdge _ _ _ => False
  | .tachGateEnd _ => eventWrites a ∨ a ∈ [R.SPEED_STATUS.addr, R.SPEED_CH.addr, R.SPEED_EPOCH.addr] ∨ (∃ i, a =
      R.DET_SEL_STATUS.addr i)
  | .speedValidTimer _ => eventWrites a ∨ a ∈ [R.SPEED_STATUS.addr] ∨ (∃ i, a = R.DET_SEL_STATUS.addr i)
  | .pointFormat _ h => eventWrites a ∨ a ∈ [R.PAIR_CATCHUP.addr, R.PAIR_CNT_MISMATCH.addr, R.NET_RING_WR.addr h] ∨ (∃ i, a ∈
      [R.NET_STREAM_SEQ.addr i, R.NET_STREAM_LOST.addr i, R.MEM_PORT_STALL.addr i, R.CAP_STREAM_LOSS.addr i])
  | .pointFrameFlush _ str _ => a ∈ [R.NET_STREAM_SEQ.addr str]
  | .geometryRepeat _ str => a ∈ [R.NET_STREAM_SEQ.addr str]
  | .alarmFieldStatus _ _ => False
  | .eventFrameQueue _ => ∃ i, a = R.NET_STREAM_SEQ.addr i
  | .statusFrame _ => ∃ i, a = R.NET_STREAM_SEQ.addr i
  | .streamDisable _ str => a ∈ [R.NET_STREAM0.addr str, R.NET_STREAM_SEQ.addr str]
  | .frameTransmit _ _ _ => a ∈ [R.NET_PRP.addr] ∨ (∃ i, a = R.NET_STREAM_LOST.addr i)
  | .prpSupervision _ => a ∈ [R.NET_PRP.addr]
  | .netPrpPlane _ _ => eventWrites a
  | .netLinkDown _ p => eventWrites a ∨ a ∈ [R.NET_PORT.addr p]
  | .netLinkUp _ p => eventWrites a ∨ a ∈ [R.NET_PORT.addr p]
  | .captureStatusTick _ => eventWrites a ∨ (∃ i, a ∈ [R.CAP_STREAM_LOSS.addr i, R.CAP_STREAM_QMAX.addr i])
  | .captureFrameClose _ k => eventWrites a ∨ a ∈ [R.CAP_STREAM_FSEQ.addr k, R.CAP_STREAM_FDROP.addr k] ∨ (∃ i, a ∈
      [R.CAP_STREAM_LOSS.addr i, R.CAP_STREAM_QMAX.addr i, R.MEM_PORT_STALL.addr i])
  | .trigInEdge _ _ _ _ => False
  | .sequencerOccurrence _ q => eventWrites a ∨ a ∈ [R.SEQ_STAT.addr q, R.SEQ_TRIGS.addr q, R.SEQ_TRIG_DT_LO.addr q] ∨ (∃ i, a
      ∈ [R.CAP_STREAM_LOSS.addr i, R.CAP_STREAM_QMAX.addr i, R.SEQ_MISSED.addr i, R.SEQ_TRIG_DT_HI.addr i, R.CAP_SLOT2.addr i,
      R.CAP_SLOT3.addr i])
  | .sequencerTimerExpiry _ q => eventWrites a ∨ a ∈ [R.SEQ_STAT.addr q, R.SEQ_TRIGS.addr q, R.SEQ_TRIG_DT_LO.addr q,
      R.SEQ_TRIG_DT_HI.addr q] ∨ (∃ i, a ∈ [R.CAP_STREAM_LOSS.addr i, R.CAP_STREAM_QMAX.addr i, R.CAP_SLOT2.addr i,
      R.CAP_SLOT3.addr i])
  | .trigOutPulseEnd _ _ => False
  | .rearmEnd _ q => eventWrites a ∨ a ∈ [R.SEQ_STAT.addr q] ∨ (∃ i, a ∈ [R.CAP_STREAM_LOSS.addr i, R.CAP_STREAM_QMAX.addr i])
  | .sequencerForce _ _ => False
  | .sequencerRestart _ q => eventWrites a ∨ a ∈ [R.SEQ_STAT.addr q] ∨ (∃ i, a ∈ [R.CAP_STREAM_LOSS.addr i,
      R.CAP_STREAM_QMAX.addr i])
  | .slotArm _ _ => a ∈ [R.CAP_SLOT_RESULT.addr] ∨ (∃ i, a = R.CAP_SLOT2.addr i)
  | .slotRelease _ _ => eventWrites a ∨ a ∈ [R.CAP_SLOT_RESULT.addr] ∨ (∃ i, a = R.CAP_SLOT2.addr i)
  | .slotFull _ _ => eventWrites a ∨ (∃ i, a = R.CAP_SLOT2.addr i)
  | .servoSample _ h _ _ => eventWrites a ∨ a ∈ [R.SCAN_POS.addr h, R.EMT_STATUS.addr h, R.SRV_STATUS.addr h,
      R.SRV_CNT_CLAMP.addr h, R.SRV_CNT_TRACK.addr h, R.EYE_STATUS.addr h, R.PWR_STATUS.addr] ∨ (∃ i, a ∈ [R.SRV_ERR.addr h i,
      R.SRV_POS.addr h i])
  | .servoOverrun _ h _ => eventWrites a ∨ a ∈ [R.SRV_STATUS.addr h, R.SRV_CNT_OVR.addr h]
  | .feedbackLost _ h _ => eventWrites a ∨ a ∈ [R.SRV_STATUS.addr h, R.SRV_CNT_LOST.addr h]
  | .faultParkHoldEnd _ h => a ∈ [R.SRV_STATUS.addr h]
  | .parkTimeout _ h => eventWrites a ∨ a ∈ [R.SCAN_POS.addr h, R.SRV_STATUS.addr h, R.PWR_STATUS.addr]
  | .servoOffsetCalPhaseEnd _ h => a ∈ errorRegs ++ gateRegs h ++ [R.EMT_STATUS.addr h, R.EMT_CNT_CYCLE.addr h,
      R.SRV_STATUS.addr h] ∨ (∃ i, a ∈ [R.CAL_CNT.addr i, R.CAL_DT_LO.addr i, R.CAL_DT_HI.addr i])
  | .excitationLevelWrite _ _ h _ => a ∈ errorRegs ++ gateRegs h ++ [R.SRV_CTL.addr h, R.SRV_STATUS.addr h]
  | .excitationHoldEnd _ h => a ∈ gateRegs h ++ [R.SRV_STATUS.addr h]
  | .coefBankWrite _ h o k i _ => a ∈ errorRegs ++ [R.SRV_COEF.addr h o k i]
  | .sdBlockReceive _ h _ _ _ _ _ => eventWrites a ∨ linkWrites a ∨ a ∈ [R.SRV_STATUS.addr h, R.SRV_CNT_LOST.addr h]
  | .hkUpReceive _ _ _ _ => eventWrites a ∨ linkWrites a
  | .mgmtUpReceive _ _ _ _ _ _ => eventWrites a ∨ linkWrites a
  | .energyMonitorSample _ h _ _ _ => eventWrites a ∨ a ∈ [R.EYE_STATUS.addr h, R.EYE_BLOCK.addr h, R.EYE_CNT_LOW.addr h,
      R.EYE_CNT_HIGH.addr h, R.EYE_CNT_ECC.addr h, R.EYE_ENERGY_LO.addr h, R.EYE_ENERGY_HI.addr h]
  | .eyeBucketAdvance _ h _ _ => eventWrites a ∨ a ∈ [R.EYE_STATUS.addr h, R.EYE_CNT_ECC.addr h]
  | .eyeLatchClear _ h => a ∈ gateRegs h ++ [R.EYE_STATUS.addr h]
  | .zeroCalComplete _ h _ => eventWrites a ∨ a ∈ errorRegs ++ [R.EMT_STATUS.addr h, R.EMT_CNT_CYCLE.addr h, R.SRV_STATUS.addr
      h, R.EYE_ZERO.addr h, R.EYE_STATUS.addr h] ∨ (∃ i, a ∈ [R.CAL_CNT.addr i, R.CAL_DT_LO.addr i, R.CAL_DT_HI.addr i])
  | .safetyDecision _ _ _ _ => eventWrites a ∨ a ∈ [R.SAFE_STATUS.addr, R.SAFE_CNT_FCHECK.addr]
  | .decisionDeadline _ _ _ _ => eventWrites a ∨ a ∈ [R.SAFE_STATUS.addr, R.SAFE_CNT_MISS.addr, R.SAFE_CNT_FCHECK.addr]
  | .safetyTick _ _ => eventWrites a ∨ a ∈ [R.SAFE_STATUS.addr, R.SAFE_SI_STATE.addr, R.SAFE_RST_STATUS.addr,
      R.SAFE_CONN_STATE.addr, R.SAFE_CNT_CMD_DISCARD.addr, R.SAFE_CNT_CMD_LATE.addr] ∨ (∃ i, a ∈ [R.DET_SEL_STATUS.addr i,
      R.SAFE_CONN3.addr i])
  | .safeClockCheck _ _ _ => eventWrites a ∨ a ∈ [R.SAFE_STATUS.addr]
  | .dtAdvanceTimeout _ _ => eventWrites a ∨ a ∈ [R.SAFE_STATUS.addr]
  | .inputFilterChange _ _ _ => eventWrites a ∨ a ∈ [R.SAFE_SI_STATE.addr, R.SAFE_RST_STATUS.addr] ∨ (∃ i, a =
      R.DET_SEL_STATUS.addr i)
  | .testPulse _ _ => eventWrites a ∨ a ∈ [R.SAFE_SI_STATE.addr] ∨ (∃ i, a = R.DET_SEL_STATUS.addr i)
  | .discrepancyTimeout _ _ => eventWrites a ∨ a ∈ [R.SAFE_SI_STATE.addr] ∨ (∃ i, a = R.DET_SEL_STATUS.addr i)
  | .fieldCodeHold _ => eventWrites a ∨ (∃ i, a = R.DET_SEL_STATUS.addr i)
  | .resetAccept _ _ => eventWrites a ∨ a ∈ [R.SAFE_RST_STATUS.addr, R.SAFE_CNT_RST_INVALID.addr]
  | .rstStuck _ _ => eventWrites a ∨ a ∈ [R.SAFE_RST_STATUS.addr]
  | .ossdOnDelayExpiry _ _ => a ∈ [R.SAFE_OSSD_STATUS.addr]
  | .headStale _ _ => a ∈ [R.SAFE_STATUS.addr, R.SAFE_OSSD_STATUS.addr]
  | .ossdTestStart _ _ _ => a ∈ [R.SAFE_OSSD_STATUS.addr]
  | .ossdTestEnd _ _ _ => a ∈ [R.SAFE_OSSD_STATUS.addr]
  | .cmdNop _ c _ _ _ _ _ => eventWrites a ∨ a ∈ [R.SAFE_STATUS.addr, R.SAFE_CONN3.addr c, R.SAFE_CONN_STATE.addr,
      R.SAFE_CNT_CMD_DISCARD.addr, R.SAFE_CNT_CMD_LATE.addr] ∨ (∃ i, a = R.DET_SEL_STATUS.addr i)
  | .cmdFieldSelect _ c _ _ _ _ _ => eventWrites a ∨ a ∈ [R.SAFE_STATUS.addr, R.SAFE_CONN3.addr c, R.SAFE_CONN_STATE.addr,
      R.SAFE_CNT_CMD_DISCARD.addr, R.SAFE_CNT_CMD_LATE.addr] ∨ (∃ i, a = R.DET_SEL_STATUS.addr i)
  | .cmdOverride _ c _ _ _ _ _ => eventWrites a ∨ a ∈ [R.SAFE_STATUS.addr, R.SAFE_CONN3.addr c, R.SAFE_CONN_STATE.addr,
      R.SAFE_CNT_CMD_DISCARD.addr, R.SAFE_CNT_CMD_LATE.addr] ∨ (∃ i, a = R.DET_SEL_STATUS.addr i)
  | .cmdSpeedPlaus _ c _ _ _ _ _ => eventWrites a ∨ a ∈ [R.SAFE_STATUS.addr, R.SAFE_CONN3.addr c, R.SAFE_CONN_STATE.addr,
      R.SAFE_CNT_CMD_DISCARD.addr, R.SAFE_CNT_CMD_LATE.addr] ∨ (∃ i, a = R.DET_SEL_STATUS.addr i)
  | .connTimeout _ _ => eventWrites a ∨ a ∈ [R.SAFE_CONN_STATE.addr] ∨ (∃ i, a = R.DET_SEL_STATUS.addr i)
  | .heartbeatSend _ => False
  | .heartbeatReceive _ _ _ _ _ => eventWrites a ∨ linkWrites a ∨ a ∈ [R.PAIR_CID.addr, R.PAIR_PARTNER_SN_LO.addr,
      R.PAIR_PARTNER_SN_HI.addr, R.PAIR_CATCHUP.addr, R.PAIR_CNT_OPEN.addr, R.SPEED_EPOCH.addr] ∨ (∃ i, a ∈ [R.EMT_STATUS.addr
      i, R.EMT_CNT_CYCLE.addr i, R.SRV_STATUS.addr i, R.NET_RING_WR.addr i, R.NET_STREAM_SEQ.addr i, R.EYE_STATUS.addr i])
  | .heartbeatLost _ => eventWrites a ∨ a ∈ [R.PAIR_CNT_HB_LOST.addr]
  | .pairJoinTimeout _ => False
  | .tokenClaim _ => eventWrites a ∨ a ∈ [R.PAIR_TAKE_DT_LO.addr, R.PAIR_TAKE_DT_HI.addr, R.PAIR_CNT_TAKEOVER.addr,
      R.NET_PRP.addr]
  | .tokenInhibitClear _ => ∃ i, a ∈ [R.HEAD_STATE.addr i, R.FIRE_INHIBIT.addr i, R.FIRE_INHIBIT_LATCH.addr i,
      R.EMT_STATUS.addr i, R.FIRE_LAST_DT_LO.addr i, R.FIRE_LAST_DT_HI.addr i]
  | .tokenInChange _ _ _ => eventWrites a ∨ a ∈ [R.PAIR_CNT_CONFLICT.addr]
  | .tokenRetry _ => eventWrites a ∨ a ∈ [R.PAIR_TAKE_DT_LO.addr, R.PAIR_TAKE_DT_HI.addr, R.PAIR_CNT_TAKEOVER.addr,
      R.NET_PRP.addr]
  | .holderHbSilence _ _ => a ∈ [R.PAIR_STATUS.addr] ∨ (∃ i, a ∈ [R.HEAD_STATE.addr i, R.FIRE_INHIBIT.addr i,
      R.FIRE_INHIBIT_LATCH.addr i])
  | .pairHandover _ _ => eventWrites a ∨ a ∈ errorRegs
  | .pairRejoin _ => a ∈ [R.PAIR_STATUS.addr, R.PAIR_CATCHUP.addr]
  | .digestReceive _ _ _ _ => eventWrites a ∨ linkWrites a ∨ a ∈ [R.PAIR_CATCHUP.addr, R.PAIR_CNT_MISMATCH.addr]
  | .digestTimeout _ _ => eventWrites a ∨ a ∈ [R.PAIR_CATCHUP.addr, R.PAIR_CNT_MISMATCH.addr]
  | .catchupRecord _ _ _ _ _ => eventWrites a ∨ linkWrites a ∨ a ∈ [R.PWR_STATUS.addr, R.PAIR_CATCHUP.addr]
  | .beaconSend _ => a ∈ [R.DOM_CNT_DISCARD.addr] ∨ (∃ i, a = R.MEM_PORT_STALL.addr i)
  | .beaconReceive _ _ _ _ _ _ => eventWrites a ∨ linkWrites a ∨ a ∈ [R.DOM_STATUS.addr, R.DOM_MASTER.addr, R.DOM_COUNT.addr,
      R.DOM_CNT_DISCARD.addr, R.DOM_CNT_TAKEOVER.addr] ∨ (∃ i, a = R.MEM_PORT_STALL.addr i)
  | .beaconTimeout _ => eventWrites a ∨ a ∈ [R.CLK_STATUS.addr, R.CLK_FREQ_ADJ.addr, R.DOM_STATUS.addr, R.DOM_MASTER.addr,
      R.DOM_COUNT.addr, R.DOM_CNT_TAKEOVER.addr, R.DOM_CNT_DISCARD.addr] ∨ (∃ i, a = R.MEM_PORT_STALL.addr i)
  | .markerSend _ _ _ => a ∈ [R.DOM_CNT_DISCARD.addr] ∨ (∃ i, a = R.MEM_PORT_STALL.addr i)
  | .markerReceive _ _ _ _ _ _ _ => eventWrites a ∨ linkWrites a ∨ a ∈ [R.CLK_STATUS.addr, R.CLK_TIMING_CAUSE.addr,
      R.DOM_CNT_DISCARD.addr] ∨ (∃ i, a = R.MEM_PORT_STALL.addr i)
  | .markerFuReceive _ c _ _ _ _ => eventWrites a ∨ linkWrites a ∨ a ∈ [R.CLK_STATUS.addr, R.CLK_FREQ_ADJ.addr,
      R.CLK_HOLD.addr, R.CLK_TIMING_CAUSE.addr, R.CLK_CNT_STEP.addr, R.DOM_HOP.addr c, R.DOM_TIME_ERR.addr,
      R.DOM_CNT_DISCARD.addr]
  | .joinSend _ => eventWrites a ∨ a ∈ [R.DOM_STATUS.addr, R.DOM_CNT_DISCARD.addr] ∨ (∃ i, a = R.MEM_PORT_STALL.addr i)
  | .joinReceive _ _ _ _ _ _ => eventWrites a ∨ linkWrites a ∨ a ∈ [R.DOM_COUNT.addr, R.DOM_CNT_DISCARD.addr] ∨ (∃ i, a =
      R.MEM_PORT_STALL.addr i)
  | .admitReceive _ _ _ _ _ => eventWrites a ∨ linkWrites a ∨ a ∈ [R.DOM_STATUS.addr, R.DOM_CNT_DISCARD.addr] ∨ (∃ i, a =
      R.MEM_PORT_STALL.addr i)
  | .rollSend _ => a ∈ [R.DOM_COUNT.addr, R.DOM_CNT_DISCARD.addr] ∨ (∃ i, a = R.MEM_PORT_STALL.addr i)
  | .rollReceive _ _ _ => eventWrites a ∨ linkWrites a ∨ a ∈ [R.DOM_STATUS.addr, R.DOM_CNT_DISCARD.addr] ∨ (∃ i, a =
      R.MEM_PORT_STALL.addr i)
  | .rollAnsReceive _ _ _ _ _ _ _ _ => eventWrites a ∨ linkWrites a ∨ a ∈ [R.DOM_CNT_DISCARD.addr, R.DOM_CNT_REVOKE.addr] ∨ (∃
      i, a = R.MEM_PORT_STALL.addr i)
  | .planReceive _ _ _ _ _ _ => eventWrites a ∨ linkWrites a ∨ a ∈ [R.DOM_CNT_DISCARD.addr] ∨ (∃ i, a = R.MEM_PORT_STALL.addr
      i)
  | .tableReceive _ _ _ _ => eventWrites a ∨ linkWrites a ∨ a ∈ [R.DOM_CNT_DISCARD.addr] ∨ (∃ i, a = R.MEM_PORT_STALL.addr i)
  | .noticeReceive _ _ _ _ _ => eventWrites a ∨ linkWrites a ∨ a ∈ [R.DOM_CNT_DISCARD.addr, R.DOM_CNT_LATE_NOTICE.addr] ∨ (∃
      i, a ∈ [R.EMT_STATUS.addr i, R.EMT_CNT_CYCLE.addr i, R.SRV_STATUS.addr i, R.MEM_PORT_STALL.addr i])
  | .noticeDeadline _ _ => eventWrites a ∨ a ∈ [R.DOM_CNT_LATE_NOTICE.addr]
  | .syncReqReceive _ _ _ _ => eventWrites a ∨ linkWrites a ∨ a ∈ [R.DOM_CNT_DISCARD.addr] ∨ (∃ i, a = R.MEM_PORT_STALL.addr
      i)
  | .dividerReset _ => eventWrites a ∨ a ∈ [R.CLK_STATUS.addr, R.CLK_TIMING_CAUSE.addr, R.CLK_CNT_STEP.addr]
  | .syncInEdge _ => False
  | .didReservationExpiry _ _ => False
  | .holdoverLong _ => eventWrites a
  | .holdAlignExpiry _ => a ∈ [R.CLK_TIMING_CAUSE.addr] ∨ (∃ i, a ∈ [R.HEAD_STATE.addr i, R.FIRE_INHIBIT.addr i,
      R.FIRE_INHIBIT_LATCH.addr i])
  | .memRequestIssue _ _ => ∃ i, a = R.MEM_PORT_STALL.addr i
  | .memReadComplete _ _ _ _ _ => eventWrites a ∨ a ∈ [R.DOM_CNT_DISCARD.addr, R.CAP_RL.addr, R.MEM_STATUS.addr,
      R.MEM_UE_ADDR_LO.addr, R.MEM_UE_ADDR_HI.addr] ∨ (∃ i, a ∈ [R.HIST_CNT_DROP.addr i, R.NET_STREAM_LOST.addr i,
      R.CAP_STREAM_LOSS.addr i, R.MEM_ECC.addr i])
  | .retrainPause _ _ _ => eventWrites a ∨ a ∈ [R.MEM_STATUS.addr, R.MEM_CNT_RETRAIN_FAIL.addr]
  | .selfRefreshEntry _ _ => a ∈ [R.MEM_CNT_SR.addr]
  | .rateChangeRequest _ _ _ => a ∈ errorRegs ++ [R.MEM_STATUS.addr, R.MEM_CTL.addr]
  | .stackRateChange _ _ => eventWrites a ∨ a ∈ [R.MEM_STATUS.addr, R.MEM_CNT_RATE.addr]
  | .scrubUnit _ _ _ => eventWrites a ∨ a ∈ [R.MEM_STATUS.addr, R.MEM_UE_ADDR_LO.addr, R.MEM_UE_ADDR_HI.addr] ∨ (∃ i, a ∈
      [R.MEM_ECC.addr i, R.MEM_PORT_STALL.addr i])
  | .wipeComplete _ => a ∈ [R.PWR_STATUS.addr, R.MEM_STATUS.addr]
  | .hbmPllLossOfLock _ _ => eventWrites a ∨ a ∈ [R.CLK_STATUS.addr, R.CLK_CNT_LOL.addr, R.MEM_STATUS.addr]
  | .laneTrainTimeout _ _ _ => eventWrites a
  | .codewordLock _ _ _ _ => eventWrites a ∨ a ∈ [R.PWR_STATUS.addr] ∨ (∃ i, a ∈ [R.SCAN_POS.addr i, R.EMT_STATUS.addr i,
      R.SRV_STATUS.addr i, R.EYE_STATUS.addr i, R.LANE_QSTATUS.addr i]) ∨ (∃ i j, a = R.LANE_STATUS.addr i j)
  | .laneFailure _ q l _ => eventWrites a ∨ a ∈ [R.PWR_STATUS.addr, R.LANE_QSTATUS.addr q, R.LANE_QCNT_RESTRIPE.addr q,
      R.LANE_CNT_LOSS.addr q l] ∨ (∃ i, a ∈ [R.SCAN_POS.addr i, R.EMT_STATUS.addr i, R.SRV_STATUS.addr i, R.EYE_STATUS.addr i,
      R.LANE_STATUS.addr q i, R.NET_PORT.addr i])
  | .linkReportSend _ _ => False
  | .linkReportReceive _ _ _ _ => False
  | .transmitSetApply _ p => eventWrites a ∨ a ∈ [R.PWR_STATUS.addr, R.LANE_QCNT_RESTRIPE.addr p] ∨ (∃ i, a ∈ [R.SCAN_POS.addr
      i, R.EMT_STATUS.addr i, R.SRV_STATUS.addr i, R.EYE_STATUS.addr i, R.LANE_QSTATUS.addr i, R.LANE_STATUS.addr p i])
  | .headlinkFault _ h => a ∈ gateRegs h ++ [R.SCAN_POS.addr h, R.SRV_STATUS.addr h, R.PWR_STATUS.addr]
  | .laneReadd _ _ _ => eventWrites a ∨ a ∈ [R.PWR_STATUS.addr] ∨ (∃ i, a ∈ [R.SCAN_POS.addr i, R.EMT_STATUS.addr i,
      R.SRV_STATUS.addr i, R.EYE_STATUS.addr i, R.LANE_QSTATUS.addr i, R.LANE_QCNT_RESTRIPE.addr i]) ∨ (∃ i j, a =
      R.LANE_STATUS.addr i j)
  | .laneReaddWrite _ _ _ _ => eventWrites a ∨ a ∈ errorRegs ++ [R.PWR_STATUS.addr] ∨ (∃ i, a ∈ [R.SCAN_POS.addr i,
      R.EMT_STATUS.addr i, R.SRV_STATUS.addr i, R.EYE_STATUS.addr i, R.LANE_QSTATUS.addr i, R.LANE_QCNT_RESTRIPE.addr i]) ∨ (∃
      i j, a = R.LANE_STATUS.addr i j)
  | .refclkLoss _ => eventWrites a ∨ a ∈ [R.CLK_STATUS.addr, R.CLK_TIMING_CAUSE.addr]
  | .refclkGood _ => a ∈ [R.CLK_STATUS.addr, R.CLK_TIMING_CAUSE.addr] ∨ (∃ i, a ∈ [R.HEAD_STATE.addr i, R.FIRE_INHIBIT.addr i,
      R.FIRE_INHIBIT_LATCH.addr i])
  | .timingPllLossOfLock _ => eventWrites a ∨ a ∈ [R.CLK_STATUS.addr, R.CLK_TIMING_CAUSE.addr, R.CLK_CNT_LOL.addr]
  | .timingPllRelock _ => a ∈ [R.CLK_STATUS.addr, R.CLK_TIMING_CAUSE.addr] ∨ (∃ i, a ∈ [R.HEAD_STATE.addr i,
      R.FIRE_INHIBIT.addr i, R.FIRE_INHIBIT_LATCH.addr i, R.INSTAT_HITS.addr i])
  | .logicPllLossOfLock _ => eventWrites a ∨ a ∈ [R.CLK_STATUS.addr, R.CLK_CNT_LOL.addr]
  | .logicPllRelock _ => eventWrites a ∨ a ∈ [R.CLK_STATUS.addr]
  | .laneRefLoss _ _ => eventWrites a ∨ a ∈ [R.PWR_STATUS.addr, R.CLK_STATUS.addr] ∨ (∃ i, a ∈ [R.SCAN_POS.addr i,
      R.EMT_STATUS.addr i, R.SRV_STATUS.addr i, R.EYE_STATUS.addr i, R.LANE_QSTATUS.addr i, R.LANE_QCNT_RESTRIPE.addr i,
      R.NET_PORT.addr i]) ∨ (∃ i j, a ∈ [R.LANE_STATUS.addr i j, R.LANE_CNT_LOSS.addr i j])
  | .laneRefReturn _ _ => a ∈ [R.CLK_STATUS.addr] ∨ (∃ i, a = R.LANE_QSTATUS.addr i)
  | .timingPllBypass _ _ _ => a ∈ errorRegs ++ [R.CLK_CFG.addr, R.CLK_TIMING_CAUSE.addr] ∨ (∃ i, a ∈ [R.HEAD_STATE.addr i,
      R.FIRE_INHIBIT.addr i, R.FIRE_INHIBIT_LATCH.addr i, R.INSTAT_HITS.addr i])
  | .logicPllBypass _ _ _ => a ∈ errorRegs ++ [R.CLK_CFG.addr]
  | .stewardStep _ => eventWrites a ∨ a ∈ [R.PWR_STATUS.addr, R.PWR_HS_LEVEL.addr, R.PWR_CNT_STARVE.addr]
  | .thermalRound _ _ _ _ => eventWrites a ∨ a ∈ [R.PWR_STATUS.addr, R.PWR_CNT_RECALL.addr, R.THM_STATUS.addr,
      R.THM_RATE.addr, R.MEM_STATUS.addr] ∨ (∃ i, a = R.THM_SENSOR.addr i)
  | .thermalShutdown _ => eventWrites a ∨ a ∈ [R.PWR_STATUS.addr, R.THM_TRIP.addr] ∨ (∃ i, a ∈ [R.SCAN_POS.addr i,
      R.EMT_STATUS.addr i, R.SRV_STATUS.addr i, R.EYE_STATUS.addr i])
  | .headTempTimeout _ _ => eventWrites a
  | .hkConversionComplete _ _ _ _ _ => eventWrites a ∨ a ∈ [R.HK_STATUS.addr, R.HK_SINGLE_RES0.addr, R.HK_SINGLE_RES1.addr,
      R.HK_SINGLE_RES2.addr, R.HK_SINGLE_RES3.addr, R.HK_CNT_OVR.addr, R.HK_CNT_CYCLE.addr] ∨ (∃ i, a ∈ [R.HK_RES0.addr i,
      R.HK_RES1.addr i, R.HK_RES2.addr i, R.HK_RES3.addr i])
  | .hkUrgentRequest _ _ _ => eventWrites a ∨ a ∈ errorRegs ++ [R.HK_CTL.addr, R.HK_STATUS.addr, R.HK_CNT_ABORT.addr]
  | .hkSingleStart _ _ => a ∈ errorRegs ++ [R.HK_STATUS.addr]
  | .hkCalibrate _ _ _ => eventWrites a ∨ a ∈ errorRegs ++ [R.HK_CTL.addr, R.HK_STATUS.addr] ∨ (∃ i, a ∈ [R.HK_GAINCAL.addr i,
      R.CAL_CNT.addr i, R.CAL_DT_LO.addr i, R.CAL_DT_HI.addr i])
  | .hkModeWrite _ _ _ => a ∈ errorRegs ++ [R.HK_CTL.addr, R.HK_STATUS.addr]
  | .hkClampConduct _ _ => eventWrites a ∨ a ∈ [R.HK_CLAMP_LO.addr, R.HK_CLAMP_HI.addr]
  | .fuseLoadComplete _ _ _ _ => eventWrites a ∨ a ∈ [R.SEC_STATUS.addr, R.SEC_BOOT.addr, R.SEC_SERIAL_LO.addr,
      R.SEC_SERIAL_HI.addr, R.SEC_ROOTS.addr, R.THM_CNT_WREFUSE.addr]
  | .hbmTrainingComplete _ _ _ => a ∈ [R.CLK_STATUS.addr, R.MEM_STATUS.addr]
  | .rollbackAutoCommit _ => eventWrites a ∨ a ∈ [R.SEC_STATUS.addr, R.SEC_SERIAL_LO.addr, R.SEC_SERIAL_HI.addr,
      R.SEC_ROOTS.addr, R.THM_CNT_WREFUSE.addr]
  | .attestRequest _ _ => a ∈ errorRegs ++ [R.SEC_ATTEST_STATUS.addr]
  | .attestComplete _ _ => a ∈ [R.SEC_ATTEST_STATUS.addr] ∨ (∃ i, a = R.SEC_ATTEST.addr i)
  | .helloReceive _ _ _ => eventWrites a ∨ a ∈ [R.SEC_SESSION.addr, R.SEC_CNT_AUTH_FAIL.addr]
  | .authReceive _ _ => eventWrites a ∨ a ∈ [R.SEC_STATUS.addr, R.SEC_SESSION.addr, R.SEC_SESSION_EXP_LO.addr,
      R.SEC_SESSION_EXP_HI.addr, R.SEC_CNT_AUTH_FAIL.addr, R.SEC_CNT_SESSION.addr, R.PWR_STATUS.addr] ∨ (∃ i, a ∈
      [R.SCAN_POS.addr i, R.SRV_STATUS.addr i])
  | .mspiRead _ _ _ _ => a ∈ errorRegs ++ [R.MSPI_STATUS.addr]
  | .mspiStatus _ => False
  | .mspiAbort _ => a ∈ [R.MSPI_STATUS.addr]
  | .netFrameReceive _ _ _ => eventWrites a ∨ a ∈ [R.CLK_STATUS.addr, R.CLK_FREQ_ADJ.addr, R.CLK_HOLD.addr,
      R.CLK_TIMING_CAUSE.addr, R.CLK_CNT_STEP.addr, R.SAFE_CNT_CMD_DISCARD.addr, R.NET_CNT_RX_DROP.addr]
  | _ => True

/-- The frame of the registers, for every command but those of `wholeMap`: a register that the command may not change keeps its word
(R7: every counter, status, special and reserved field of it). -/
def Obligations.RegistersKeptByEachCommand : Prop :=
  ∀ (c : Instr) (s u : State), exec c s = .next u → wholeMap c = false → ∀ a, ¬ mayWrite c a → u.word a = s.word a

/-- The parts of the state beside the registers, the HBM and the queue. -/
inductive StatePart where
  | heads | lines | groups | spill | fields | babbitt | cap | net | lanes | pair | dom | mem | hk | boot | mspi | dev | clk | pwr | thm | safe
  | fresh
deriving DecidableEq, Repr

/-- Part `p` of one state is that of another. -/
def StatePart.same (p : StatePart) (s u : State) : Prop :=
  match p with
  | .heads => u.heads = s.heads
  | .lines => u.lines = s.lines
  | .groups => u.groups = s.groups
  | .spill => u.spill = s.spill
  | .fields => u.fields = s.fields
  | .babbitt => u.babbitt = s.babbitt
  | .cap => u.cap = s.cap
  | .net => u.net = s.net
  | .lanes => u.lanes = s.lanes
  | .pair => u.pair = s.pair
  | .dom => u.dom = s.dom
  | .mem => u.mem = s.mem
  | .hk => u.hk = s.hk
  | .boot => u.boot = s.boot
  | .mspi => u.mspi = s.mspi
  | .dev => u.dev = s.dev
  | .clk => u.clk = s.clk
  | .pwr => u.pwr = s.pwr
  | .thm => u.thm = s.thm
  | .safe => u.safe = s.safe
  | .fresh => u.fresh = s.fresh

/-- What an event may change with its reaction: the causes of the device state, the sequencers' occurrences, the twin, the OSSD
outputs, and the marks of the bits it sets. -/
def eventParts : List StatePart := [.dev, .cap, .pair, .safe, .fresh]

/-- Which parts a command may change. -/
def mayChange : Instr → List StatePart
  | .porstNRelease .. | .suppliesGood .. | .headTempTimeout .. => [.thm] ++ eventParts
  | .railOutOfTolerance .. | .eventLatchClear .. => [.dev]
  | .degHoldExpiry .. | .slowInputClamp .. | .proofLate .. | .calStaleExpiry .. | .netPrpPlane .. | .netLinkDown .. =>
      eventParts
  | .netLinkUp .. | .captureStatusTick .. | .sequencerOccurrence .. | .sequencerTimerExpiry .. | .rearmEnd .. | .sequencerRestart .. =>
      eventParts
  | .slotRelease .. | .slotFull .. | .safeClockCheck .. | .dtAdvanceTimeout .. | .resetAccept .. | .rstStuck .. => eventParts
  | .heartbeatLost .. | .tokenInChange .. | .pairHandover .. | .holdoverLong .. => eventParts
  | .headStart .. | .autoStart .. | .clrEcho .. | .vernierCalComplete .. | .servoOffsetCalPhaseEnd .. | .excitationLevelWrite .. =>
      [.heads, .fresh]
  | .excitationHoldEnd .. | .eyeLatchClear .. => [.heads, .fresh]
  | .headPark .. | .headRestart .. | .headlinkFault .. => [.heads, .pwr, .fresh]
  | .hostInhibitWrite .. | .holdAlignExpiry .. | .refclkGood .. => [.fresh]
  | .frameStart .. | .commitCheckComplete .. => [.heads, .net, .pwr] ++ eventParts
  | .movePhaseStart .. | .flybackStart .. | .chainFrameReturn .. | .chainFrameTimeout .. | .servoSample .. | .servoOverrun .. =>
      [.heads, .pwr] ++ eventParts
  | .feedbackLost .. | .parkTimeout .. | .stewardStep .. => [.heads, .pwr] ++ eventParts
  | .descriptorPrefetchArrival .. | .echoWindowExpiry .. | .energyMonitorSample .. | .eyeBucketAdvance .. | .zeroCalComplete .. | .safetyTick .. =>
      [.heads] ++ eventParts
  | .inputFilterChange .. | .testPulse .. | .discrepancyTimeout .. | .fieldCodeHold .. | .cmdNop .. | .cmdFieldSelect .. =>
      [.heads] ++ eventParts
  | .cmdOverride .. | .cmdSpeedPlaus .. | .connTimeout .. | .noticeDeadline .. | .timingPllLossOfLock .. =>
      [.heads] ++ eventParts
  | .settleTimeout .. | .dwellOpen .. => [.heads, .groups, .babbitt, .dom, .mem, .pwr] ++ eventParts
  | .dwellClose .. => [.heads, .groups, .fields, .babbitt, .net, .pwr] ++ eventParts
  | .scanLoadStore .. => [.heads, .pair, .pwr, .fresh]
  | .commitRequest .. | .tokenInhibitClear .. => [.heads, .pair, .fresh]
  | .commitCancel .. | .chainLoad .. | .chainPatternSend .. | .chainSwapSend .. | .proofStep .. => [.heads]
  | .forwardedWrite .. => [.heads, .net, .lanes, .pwr] ++ eventParts
  | .fireStrobeLaunch .. => [.heads, .groups, .pair, .dom, .mem]
  | .echoEdge .. => [.heads, .lines] ++ eventParts
  | .returnEdge .. => [.heads, .lines, .groups] ++ eventParts
  | .saturationDetect .. => [.lines, .groups]
  | .saturationEnd .. | .randomHitInject .. | .calSelectionApply .. => [.lines]
  | .calEpochClose .. => [.lines, .groups, .clk] ++ eventParts
  | .calRestore .. => [.lines] ++ eventParts
  | .coincDecision .. => [.groups] ++ eventParts
  | .hypothesisEntry .. => [.groups]
  | .bufferComplete .. => [.heads, .groups]
  | .evaluatorRun .. => [.heads, .groups] ++ eventParts
  | .fieldLineArrival .. => [.heads, .fields]
  | .recordMove .. => [.heads, .groups, .spill, .babbitt, .mem] ++ eventParts
  | .recordDropDeadline .. | .tachGateEnd .. | .speedValidTimer .. => [.heads, .babbitt] ++ eventParts
  | .bearingStageArrival .. => [.babbitt, .mem] ++ eventParts
  | .bearingMerge .. => [.heads, .groups, .spill, .babbitt] ++ eventParts
  | .writeBackComplete .. => [.babbitt, .mem]
  | .tachEdge .. => [.babbitt]
  | .pointFormat .. => [.heads, .net, .mem, .pwr] ++ eventParts
  | .pointFrameFlush .. | .geometryRepeat .. | .alarmFieldStatus .. | .statusFrame .. | .streamDisable .. | .frameTransmit .. =>
      [.net]
  | .prpSupervision .. => [.net]
  | .eventFrameQueue .. => [.net, .dev]
  | .captureFrameClose .. | .stackRateChange .. => [.mem] ++ eventParts
  | .trigInEdge .. | .trigOutPulseEnd .. | .sequencerForce .. | .slotArm .. => [.cap]
  | .faultParkHoldEnd .. | .coefBankWrite .. | .rateChangeRequest .. | .laneRefReturn .. | .logicPllBypass .. | .attestRequest .. =>
      []
  | .attestComplete .. | .mspiAbort .. => []
  | .sdBlockReceive .. | .codewordLock .. | .transmitSetApply .. | .laneReadd .. | .laneReaddWrite .. =>
      [.heads, .lanes, .pwr] ++ eventParts
  | .hkUpReceive .. => [.lanes, .thm] ++ eventParts
  | .mgmtUpReceive .. | .laneTrainTimeout .. => [.lanes] ++ eventParts
  | .safetyDecision .. | .decisionDeadline .. => [.heads, .net] ++ eventParts
  | .ossdOnDelayExpiry .. | .headStale .. => [.cap, .safe]
  | .ossdTestStart .. | .ossdTestEnd .. => [.safe]
  | .heartbeatSend .. | .pairJoinTimeout .. => [.pair]
  | .heartbeatReceive .. => [.heads, .babbitt, .net, .lanes, .pwr] ++ eventParts
  | .tokenClaim .. | .tokenRetry .. => [.net] ++ eventParts
  | .holderHbSilence .. => [.pair, .fresh]
  | .pairRejoin .. => [.pair, .pwr]
  | .digestReceive .. | .catchupRecord .. => [.lanes, .pwr] ++ eventParts
  | .digestTimeout .. => [.pwr] ++ eventParts
  | .beaconSend .. => [.net, .dom, .mem]
  | .beaconReceive .. | .markerReceive .. | .joinReceive .. | .admitReceive .. | .rollReceive .. | .rollAnsReceive .. =>
      [.lanes, .dom, .mem] ++ eventParts
  | .planReceive .. | .tableReceive .. => [.lanes, .dom, .mem] ++ eventParts
  | .beaconTimeout .. => [.dom, .mem, .clk] ++ eventParts
  | .markerSend .. | .rollSend .. => [.dom, .mem]
  | .markerFuReceive .. => [.lanes, .dom, .clk] ++ eventParts
  | .joinSend .. => [.dom, .mem] ++ eventParts
  | .noticeReceive .. => [.heads, .lanes, .dom, .mem] ++ eventParts
  | .syncReqReceive .. => [.lanes, .dom, .mem, .clk] ++ eventParts
  | .dividerReset .. | .logicPllLossOfLock .. | .logicPllRelock .. => [.clk] ++ eventParts
  | .syncInEdge .. => [.dom, .clk]
  | .didReservationExpiry .. => [.dom]
  | .memRequestIssue .. | .selfRefreshEntry .. => [.mem]
  | .memReadComplete .. => [.heads, .spill, .babbitt, .net, .mem, .boot] ++ eventParts
  | .retrainPause .. => [.mem, .boot, .pwr] ++ eventParts
  | .scrubUnit .. => [.mem, .boot] ++ eventParts
  | .wipeComplete .. => [.mem, .pwr]
  | .hbmPllLossOfLock .. | .fuseLoadComplete .. | .rollbackAutoCommit .. | .helloReceive .. => [.boot] ++ eventParts
  | .laneFailure .. => [.heads, .lanes, .pwr] ++ eventParts
  | .linkReportSend .. | .linkReportReceive .. => [.lanes]
  | .refclkLoss .. => [.heads, .clk] ++ eventParts
  | .timingPllRelock .. | .timingPllBypass .. => [.lines, .clk, .fresh]
  | .laneRefLoss .. => [.clk, .heads, .lanes, .pwr] ++ eventParts
  | .thermalRound .. => [.pwr, .thm] ++ eventParts
  | .thermalShutdown .. => [.heads, .pwr, .thm] ++ eventParts
  | .hkConversionComplete .. | .hkUrgentRequest .. | .hkCalibrate .. | .hkClampConduct .. => [.hk] ++ eventParts
  | .hkSingleStart .. | .hkModeWrite .. => [.hk]
  | .hbmTrainingComplete .. => [.mem, .boot, .dev, .pwr]
  | .authReceive .. => [.heads, .boot, .pwr] ++ eventParts
  | .mspiRead .. | .mspiStatus .. => [.mspi]
  | .netFrameReceive .. => [.net, .clk] ++ eventParts
  | _ => [.heads, .lines, .groups, .spill, .fields, .babbitt, .cap, .net, .lanes, .pair, .dom, .mem,
      .hk, .boot, .mspi, .dev, .clk, .pwr, .thm, .safe, .fresh]

/-- The frame of everything beside the registers: a part of the state that a command may not change stays as it is. -/
def Obligations.PartsKeptByEachCommand : Prop :=
  ∀ (c : Instr) (s u : State), exec c s = .next u → ∀ p, p ∉ mayChange c → p.same s u
end

