-- ==== Sys2Proof/Laws/Bits.lean ====
section
/-! SUPPORT. The laws of bit fields, bytes and saturation. -/

namespace Sys2Proof.Machine

theorem bits_lt (n hi lo : Nat) : bits n hi lo < 2 ^ (hi - lo + 1) := Nat.mod_lt _ (Nat.two_pow_pos _)

@[simp] theorem bits_zero (hi lo : Nat) : bits 0 hi lo = 0 := by simp [bits]

/-- A field that ends at `hi` sees only the bits up to `hi`. -/
theorem bits_eq_mod_div {n hi lo : Nat} (h : lo ≤ hi) : bits n hi lo = n % 2 ^ (hi + 1) / 2 ^ lo := by
  unfold bits
  have e : 2 ^ (hi + 1) = 2 ^ lo * 2 ^ (hi - lo + 1) := by rw [← Nat.pow_add]; congr 1; omega
  rw [e, Nat.mod_mul_right_div_self]

/-- The part of `putBits` below bit `hi + 1` fits there. -/
theorem putBits_low_lt (n v : Nat) {hi lo : Nat} (h : lo ≤ hi) :
    v % 2 ^ (hi - lo + 1) * 2 ^ lo + n % 2 ^ lo < 2 ^ (hi + 1) := by
  have e : 2 ^ (hi + 1) = 2 ^ (hi - lo + 1) * 2 ^ lo := by rw [← Nat.pow_add]; congr 1; omega
  have h1 : v % 2 ^ (hi - lo + 1) < 2 ^ (hi - lo + 1) := Nat.mod_lt _ (Nat.two_pow_pos _)
  have h2 : n % 2 ^ lo < 2 ^ lo := Nat.mod_lt _ (Nat.two_pow_pos _)
  have h3 : (v % 2 ^ (hi - lo + 1) + 1) * 2 ^ lo ≤ 2 ^ (hi - lo + 1) * 2 ^ lo := Nat.mul_le_mul_right _ h1
  rw [Nat.add_mul] at h3
  omega

theorem putBits_div (n v : Nat) {hi lo : Nat} (h : lo ≤ hi) : putBits n hi lo v / 2 ^ (hi + 1) = n / 2 ^ (hi + 1) := by
  have e : putBits n hi lo v = (v % 2 ^ (hi - lo + 1) * 2 ^ lo + n % 2 ^ lo) + n / 2 ^ (hi + 1) * 2 ^ (hi + 1) := by
    unfold putBits; omega
  rw [e, Nat.add_mul_div_right _ _ (Nat.two_pow_pos _), Nat.div_eq_of_lt (putBits_low_lt n v h), Nat.zero_add]

theorem putBits_mod (n v : Nat) {hi lo : Nat} (h : lo ≤ hi) :
    putBits n hi lo v % 2 ^ (hi + 1) = v % 2 ^ (hi - lo + 1) * 2 ^ lo + n % 2 ^ lo := by
  have e : putBits n hi lo v = (v % 2 ^ (hi - lo + 1) * 2 ^ lo + n % 2 ^ lo) + n / 2 ^ (hi + 1) * 2 ^ (hi + 1) := by
    unfold putBits; omega
  rw [e, Nat.add_mul_mod_self_right, Nat.mod_eq_of_lt (putBits_low_lt n v h)]

theorem putBits_mod_low (n v : Nat) {hi lo : Nat} (h : lo ≤ hi) : putBits n hi lo v % 2 ^ lo = n % 2 ^ lo := by
  have d : 2 ^ lo ∣ 2 ^ (hi + 1) := Nat.pow_dvd_pow 2 (by omega)
  rw [← Nat.mod_mod_of_dvd _ d, putBits_mod n v h, Nat.mul_comm, Nat.mul_add_mod, Nat.mod_mod]

theorem putBits_lt {n hi lo w : Nat} (v : Nat) (h : lo ≤ hi) (hw : hi < w) (hn : n < 2 ^ w) : putBits n hi lo v < 2 ^ w := by
  have e : 2 ^ w = 2 ^ (w - (hi + 1)) * 2 ^ (hi + 1) := by rw [← Nat.pow_add]; congr 1; omega
  rw [e, ← Nat.div_lt_iff_lt_mul (Nat.two_pow_pos _), putBits_div n v h, Nat.div_lt_iff_lt_mul (Nat.two_pow_pos _), ← e]
  exact hn

/-- A field reads as what was put in it, narrowed to its width. -/
theorem bits_putBits_same (n v : Nat) {hi lo : Nat} (h : lo ≤ hi) : bits (putBits n hi lo v) hi lo = v % 2 ^ (hi - lo + 1) := by
  rw [bits_eq_mod_div h, putBits_mod n v h, Nat.mul_comm, Nat.mul_add_div (Nat.two_pow_pos _),
    Nat.div_eq_of_lt (Nat.mod_lt _ (Nat.two_pow_pos _)), Nat.add_zero]

/-- A field above the one written keeps its value. -/
theorem bits_putBits_above (n v : Nat) {hi lo ghi glo : Nat} (h : lo ≤ hi) (g : hi < glo) :
    bits (putBits n hi lo v) ghi glo = bits n ghi glo := by
  unfold bits
  have e : 2 ^ glo = 2 ^ (hi + 1) * 2 ^ (glo - (hi + 1)) := by rw [← Nat.pow_add]; congr 1; omega
  rw [e, ← Nat.div_div_eq_div_mul, ← Nat.div_div_eq_div_mul, putBits_div n v h]

/-- A field below the one written keeps its value. -/
theorem bits_putBits_below (n v : Nat) {hi lo ghi glo : Nat} (h : lo ≤ hi) (g : ghi < lo) (hg : glo ≤ ghi) :
    bits (putBits n hi lo v) ghi glo = bits n ghi glo := by
  have d : 2 ^ (ghi + 1) ∣ 2 ^ lo := Nat.pow_dvd_pow 2 (by omega)
  rw [bits_eq_mod_div hg, bits_eq_mod_div hg, ← Nat.mod_mod_of_dvd (putBits n hi lo v) d, putBits_mod_low n v h,
    Nat.mod_mod_of_dvd n d]

/-! ### Saturation and flags -/

theorem satU_le (w n : Nat) : satU w n ≤ 2 ^ w - 1 := Nat.min_le_right _ _

theorem satU_of_lt {w n : Nat} (h : n < 2 ^ w) : satU w n = n := by simp [satU]; omega

@[simp] theorem flag_true : flag true = 1 := rfl
@[simp] theorem flag_false : flag false = 0 := rfl

theorem flag_lt (b : Bool) : flag b < 2 := by cases b <;> decide

/-! ### Bytes -/

@[simp] theorem length_bytesLE (n v : Nat) : (bytesLE n v).length = n := by
  induction n generalizing v with
  | zero => rfl
  | succ n ih => simp [bytesLE, ih]

/-- The bytes of a number spell it again, narrowed to their number. -/
theorem ofBytesLE_bytesLE (n v : Nat) : ofBytesLE (bytesLE n v) = v % 256 ^ n := by
  induction n generalizing v with
  | zero => simp [bytesLE, ofBytesLE, Nat.mod_one]
  | succ n ih =>
    have e : 256 ^ (n + 1) = 256 * 256 ^ n := by rw [Nat.pow_succ, Nat.mul_comm]
    simp only [bytesLE, ofBytesLE, ih, BitVec.toNat_ofNat, e, Nat.mod_mul]

end Sys2Proof.Machine
end

