-- ==== Sys2Proof/Laws/SMap.lean ====
section
/-! SUPPORT. The laws of sparse maps: what a key reads as after a write, and that every operation keeps the canonical form. -/

namespace Sys2Proof.Machine

variable {α : Type}

@[simp] theorem SMap.get_nil (d : Nat → α) (k : Nat) : SMap.get d [] k = d k := rfl

theorem SMap.get_insert_same (d : Nat → α) (m : SMap α) (k : Nat) (v : α) : SMap.get d (SMap.insert k v m) k = v := by
  induction m with
  | nil => simp [SMap.insert, SMap.get]
  | cons x m ih =>
    obtain ⟨j, w⟩ := x
    by_cases h1 : k < j
    · simp [SMap.insert, SMap.get, h1]
    · by_cases h2 : k = j
      · simp [SMap.insert, SMap.get, h2]
      · simp [SMap.insert, SMap.get, h1, h2, Ne.symm h2, ih]

theorem SMap.get_insert_ne (d : Nat → α) (m : SMap α) {k i : Nat} (v : α) (h : i ≠ k) :
    SMap.get d (SMap.insert k v m) i = SMap.get d m i := by
  induction m with
  | nil => simp [SMap.insert, SMap.get, Ne.symm h]
  | cons x m ih =>
    obtain ⟨j, w⟩ := x
    by_cases h1 : k < j
    · simp [SMap.insert, SMap.get, h1, Ne.symm h]
    · by_cases h2 : k = j
      · subst h2; simp [SMap.insert, SMap.get, Ne.symm h]
      · simp [SMap.insert, SMap.get, h1, h2, ih]

theorem SMap.get_erase_same (d : Nat → α) (m : SMap α) (k : Nat) : SMap.get d (SMap.erase k m) k = d k := by
  induction m with
  | nil => rfl
  | cons x m ih =>
    obtain ⟨j, w⟩ := x
    by_cases h : j = k <;> simp [SMap.erase, SMap.get, h, ih]

theorem SMap.get_erase_ne (d : Nat → α) (m : SMap α) {k i : Nat} (h : i ≠ k) :
    SMap.get d (SMap.erase k m) i = SMap.get d m i := by
  induction m with
  | nil => rfl
  | cons x m ih =>
    obtain ⟨j, w⟩ := x
    by_cases hj : j = k
    · subst hj; simp [SMap.erase, SMap.get, ih, Ne.symm h]
    · simp [SMap.erase, SMap.get, hj, ih]

variable [DecidableEq α]

@[simp] theorem SMap.get_set_same (d : Nat → α) (m : SMap α) (k : Nat) (v : α) : SMap.get d (SMap.set d m k v) k = v := by
  by_cases h : v = d k
  · simp [SMap.set, h, SMap.get_erase_same]
  · simp [SMap.set, h, SMap.get_insert_same]

theorem SMap.get_set_ne (d : Nat → α) (m : SMap α) {k i : Nat} (v : α) (h : i ≠ k) :
    SMap.get d (SMap.set d m k v) i = SMap.get d m i := by
  by_cases hv : v = d k
  · simp [SMap.set, hv, SMap.get_erase_ne d m h]
  · simp [SMap.set, hv, SMap.get_insert_ne d m v h]

/-- What a key reads as after a write: the value at that key, else as before. -/
theorem SMap.get_set (d : Nat → α) (m : SMap α) (k i : Nat) (v : α) :
    SMap.get d (SMap.set d m k v) i = if i = k then v else SMap.get d m i := by
  by_cases h : i = k
  · subst h; simp
  · simp [h, SMap.get_set_ne d m v h]

@[simp] theorem SMap.get_upd_same (d : Nat → α) (m : SMap α) (k : Nat) (f : α → α) :
    SMap.get d (SMap.upd d m k f) k = f (SMap.get d m k) := by simp [SMap.upd]

theorem SMap.get_upd_ne (d : Nat → α) (m : SMap α) {k i : Nat} (f : α → α) (h : i ≠ k) :
    SMap.get d (SMap.upd d m k f) i = SMap.get d m i := SMap.get_set_ne d m _ h

/-! ### The canonical form -/

@[simp] theorem SMap.wf_nil (d : Nat → α) : SMap.wf d [] = true := rfl

theorem SMap.wfFrom_mono (d : Nat → α) (m : SMap α) {lo hi : Nat} (h : lo ≤ hi) (w : SMap.wfFrom d hi m = true) :
    SMap.wfFrom d lo m = true := by
  cases m with
  | nil => rfl
  | cons x m =>
    obtain ⟨j, v⟩ := x
    simp only [SMap.wfFrom, Bool.and_eq_true, decide_eq_true_eq] at w ⊢
    exact ⟨⟨by omega, w.1.2⟩, w.2⟩

theorem SMap.wfFrom_insert (d : Nat → α) (m : SMap α) {lo k : Nat} {v : α} (hk : lo ≤ k) (hv : v ≠ d k)
    (w : SMap.wfFrom d lo m = true) : SMap.wfFrom d lo (SMap.insert k v m) = true := by
  induction m generalizing lo with
  | nil => simp [SMap.insert, SMap.wfFrom, hk, hv]
  | cons x m ih =>
    obtain ⟨j, u⟩ := x
    simp only [SMap.wfFrom, Bool.and_eq_true, decide_eq_true_eq] at w
    by_cases h1 : k < j
    · simp only [SMap.insert, h1, if_true, SMap.wfFrom, Bool.and_eq_true, decide_eq_true_eq]
      exact ⟨⟨hk, hv⟩, ⟨by omega, w.1.2⟩, w.2⟩
    · by_cases h2 : k = j
      · subst h2
        simp only [SMap.insert, Nat.lt_irrefl, if_false, if_true, SMap.wfFrom, Bool.and_eq_true, decide_eq_true_eq]
        exact ⟨⟨hk, hv⟩, w.2⟩
      · simp only [SMap.insert, h1, h2, if_false, SMap.wfFrom, Bool.and_eq_true, decide_eq_true_eq]
        exact ⟨w.1, ih (by omega) w.2⟩

theorem SMap.wfFrom_erase (d : Nat → α) (m : SMap α) {lo k : Nat} (w : SMap.wfFrom d lo m = true) :
    SMap.wfFrom d lo (SMap.erase k m) = true := by
  induction m generalizing lo with
  | nil => rfl
  | cons x m ih =>
    obtain ⟨j, u⟩ := x
    simp only [SMap.wfFrom, Bool.and_eq_true, decide_eq_true_eq] at w
    by_cases h : j = k
    · simp only [SMap.erase, h, if_true]
      exact ih (SMap.wfFrom_mono d m (by omega) w.2)
    · simp only [SMap.erase, h, if_false, SMap.wfFrom, Bool.and_eq_true, decide_eq_true_eq]
      exact ⟨w.1, ih w.2⟩

/-- A write keeps the canonical form. -/
theorem SMap.wf_set (d : Nat → α) (m : SMap α) (k : Nat) (v : α) (w : SMap.wf d m = true) :
    SMap.wf d (SMap.set d m k v) = true := by
  by_cases hv : v = d k
  · simp only [SMap.set, hv, if_true]; exact SMap.wfFrom_erase d m w
  · simp only [SMap.set, hv, if_false]; exact SMap.wfFrom_insert d m (Nat.zero_le k) hv w

theorem SMap.wf_upd (d : Nat → α) (m : SMap α) (k : Nat) (f : α → α) (w : SMap.wf d m = true) :
    SMap.wf d (SMap.upd d m k f) = true := SMap.wf_set d m k _ w

/-- Keys below the bound of a canonical map read as the default. -/
theorem SMap.get_of_lt (d : Nat → α) (m : SMap α) {lo i : Nat} (w : SMap.wfFrom d lo m = true) (h : i < lo) :
    SMap.get d m i = d i := by
  induction m generalizing lo with
  | nil => rfl
  | cons x m ih =>
    obtain ⟨j, u⟩ := x
    simp only [SMap.wfFrom, Bool.and_eq_true, decide_eq_true_eq] at w
    have hj : j ≠ i := by omega
    simp only [SMap.get, hj, if_false]
    exact ih w.2 (by omega)

/-- Equal contents are equal data: two canonical maps that read alike at every key are the same list. -/
theorem SMap.ext_wf (d : Nat → α) (a b : SMap α) {lo : Nat} (wa : SMap.wfFrom d lo a = true) (wb : SMap.wfFrom d lo b = true)
    (h : ∀ k, SMap.get d a k = SMap.get d b k) : a = b := by
  induction a generalizing b lo with
  | nil =>
    cases b with
    | nil => rfl
    | cons y b =>
      obtain ⟨j, v⟩ := y
      simp only [SMap.wfFrom, Bool.and_eq_true, decide_eq_true_eq] at wb
      have := h j
      simp [SMap.get] at this
      exact absurd this.symm wb.1.2
  | cons x a ih =>
    obtain ⟨i, u⟩ := x
    cases b with
    | nil =>
      simp only [SMap.wfFrom, Bool.and_eq_true, decide_eq_true_eq] at wa
      have := h i
      simp [SMap.get] at this
      exact absurd this wa.1.2
    | cons y b =>
      obtain ⟨j, v⟩ := y
      simp only [SMap.wfFrom, Bool.and_eq_true, decide_eq_true_eq] at wa wb
      have hij : i = j := by
        by_cases hlt : i < j
        · have := h i
          have hji : j ≠ i := by omega
          simp only [SMap.get, if_true, hji, if_false] at this
          exact absurd (this.trans (SMap.get_of_lt d b wb.2 (by omega))) wa.1.2
        · by_cases hgt : j < i
          · have := h j
            have hji : i ≠ j := by omega
            simp only [SMap.get, if_true, hji, if_false] at this
            exact absurd (this.symm.trans (SMap.get_of_lt d a wa.2 (by omega))) wb.1.2
          · omega
      subst hij
      have hu : u = v := by have := h i; simpa [SMap.get] using this
      subst hu
      have : a = b := by
        refine ih b wa.2 wb.2 fun k => ?_
        by_cases hk : i = k
        · subst hk
          rw [SMap.get_of_lt d a wa.2 (by omega), SMap.get_of_lt d b wb.2 (by omega)]
        · have := h k
          simpa [SMap.get, hk] using this
      rw [this]

end Sys2Proof.Machine
end

