-- ==== Sys2Proof/Laws/State.lean ====
section
/-! SUPPORT. One lemma for each field and each update of the state: what the update leaves of the field. All hold by unfolding; no
later proof has to look into a record update. -/

namespace Sys2Proof.Machine

@[simp] theorem State.upTo_pending (s : State) (t) : (s.upTo t).pending = s.pending := (rfl)
@[simp] theorem State.upTo_fine (s : State) (t) : (s.upTo t).fine = s.fine := (rfl)
@[simp] theorem State.upTo_regs (s : State) (t) : (s.upTo t).regs = s.regs := (rfl)
@[simp] theorem State.upTo_fresh (s : State) (t) : (s.upTo t).fresh = s.fresh := (rfl)
@[simp] theorem State.upTo_hbm (s : State) (t) : (s.upTo t).hbm = s.hbm := (rfl)
@[simp] theorem State.upTo_heads (s : State) (t) : (s.upTo t).heads = s.heads := (rfl)
@[simp] theorem State.upTo_dev (s : State) (t) : (s.upTo t).dev = s.dev := (rfl)
@[simp] theorem State.upTo_clk (s : State) (t) : (s.upTo t).clk = s.clk := (rfl)
@[simp] theorem State.upTo_pwr (s : State) (t) : (s.upTo t).pwr = s.pwr := (rfl)
@[simp] theorem State.upTo_thm (s : State) (t) : (s.upTo t).thm = s.thm := (rfl)
@[simp] theorem State.upTo_safe (s : State) (t) : (s.upTo t).safe = s.safe := (rfl)
@[simp] theorem State.upTo_lines (s : State) (t) : (s.upTo t).lines = s.lines := (rfl)
@[simp] theorem State.upTo_groups (s : State) (t) : (s.upTo t).groups = s.groups := (rfl)
@[simp] theorem State.upTo_spill (s : State) (t) : (s.upTo t).spill = s.spill := (rfl)
@[simp] theorem State.upTo_fields (s : State) (t) : (s.upTo t).fields = s.fields := (rfl)
@[simp] theorem State.upTo_babbitt (s : State) (t) : (s.upTo t).babbitt = s.babbitt := (rfl)
@[simp] theorem State.upTo_cap (s : State) (t) : (s.upTo t).cap = s.cap := (rfl)
@[simp] theorem State.upTo_net (s : State) (t) : (s.upTo t).net = s.net := (rfl)
@[simp] theorem State.upTo_lanes (s : State) (t) : (s.upTo t).lanes = s.lanes := (rfl)
@[simp] theorem State.upTo_pair (s : State) (t) : (s.upTo t).pair = s.pair := (rfl)
@[simp] theorem State.upTo_dom (s : State) (t) : (s.upTo t).dom = s.dom := (rfl)
@[simp] theorem State.upTo_mem (s : State) (t) : (s.upTo t).mem = s.mem := (rfl)
@[simp] theorem State.upTo_hk (s : State) (t) : (s.upTo t).hk = s.hk := (rfl)
@[simp] theorem State.upTo_boot (s : State) (t) : (s.upTo t).boot = s.boot := (rfl)
@[simp] theorem State.upTo_mspi (s : State) (t) : (s.upTo t).mspi = s.mspi := (rfl)
@[simp] theorem State.upTo_free (s : State) (t) : (s.upTo t).free = s.free := (rfl)
@[simp] theorem State.upTo_word (s : State) (t) (x) : (s.upTo t).word x = s.word x := (rfl)
@[simp] theorem State.upTo_rd (s : State) (t) (x) : (s.upTo t).rd x = s.rd x := (rfl)
@[simp] theorem State.upTo_hbmByte (s : State) (t) (x) : (s.upTo t).hbmByte x = s.hbmByte x := (rfl)
@[simp] theorem State.upTo_head (s : State) (t) (x) : (s.upTo t).head x = s.head x := (rfl)

@[simp] theorem State.setWord_pending (s : State) (a) (v) : (s.setWord a v).pending = s.pending := (rfl)
@[simp] theorem State.setWord_dt (s : State) (a) (v) : (s.setWord a v).dt = s.dt := (rfl)
@[simp] theorem State.setWord_fine (s : State) (a) (v) : (s.setWord a v).fine = s.fine := (rfl)
@[simp] theorem State.setWord_regs (s : State) (a) (v) : (s.setWord a v).regs = SMap.set resetWord s.regs a (BitVec.ofNat 32 v) := (rfl)
@[simp] theorem State.setWord_fresh (s : State) (a) (v) : (s.setWord a v).fresh = s.fresh := (rfl)
@[simp] theorem State.setWord_hbm (s : State) (a) (v) : (s.setWord a v).hbm = s.hbm := (rfl)
@[simp] theorem State.setWord_heads (s : State) (a) (v) : (s.setWord a v).heads = s.heads := (rfl)
@[simp] theorem State.setWord_dev (s : State) (a) (v) : (s.setWord a v).dev = s.dev := (rfl)
@[simp] theorem State.setWord_clk (s : State) (a) (v) : (s.setWord a v).clk = s.clk := (rfl)
@[simp] theorem State.setWord_pwr (s : State) (a) (v) : (s.setWord a v).pwr = s.pwr := (rfl)
@[simp] theorem State.setWord_thm (s : State) (a) (v) : (s.setWord a v).thm = s.thm := (rfl)
@[simp] theorem State.setWord_safe (s : State) (a) (v) : (s.setWord a v).safe = s.safe := (rfl)
@[simp] theorem State.setWord_lines (s : State) (a) (v) : (s.setWord a v).lines = s.lines := (rfl)
@[simp] theorem State.setWord_groups (s : State) (a) (v) : (s.setWord a v).groups = s.groups := (rfl)
@[simp] theorem State.setWord_spill (s : State) (a) (v) : (s.setWord a v).spill = s.spill := (rfl)
@[simp] theorem State.setWord_fields (s : State) (a) (v) : (s.setWord a v).fields = s.fields := (rfl)
@[simp] theorem State.setWord_babbitt (s : State) (a) (v) : (s.setWord a v).babbitt = s.babbitt := (rfl)
@[simp] theorem State.setWord_cap (s : State) (a) (v) : (s.setWord a v).cap = s.cap := (rfl)
@[simp] theorem State.setWord_net (s : State) (a) (v) : (s.setWord a v).net = s.net := (rfl)
@[simp] theorem State.setWord_lanes (s : State) (a) (v) : (s.setWord a v).lanes = s.lanes := (rfl)
@[simp] theorem State.setWord_pair (s : State) (a) (v) : (s.setWord a v).pair = s.pair := (rfl)
@[simp] theorem State.setWord_dom (s : State) (a) (v) : (s.setWord a v).dom = s.dom := (rfl)
@[simp] theorem State.setWord_mem (s : State) (a) (v) : (s.setWord a v).mem = s.mem := (rfl)
@[simp] theorem State.setWord_hk (s : State) (a) (v) : (s.setWord a v).hk = s.hk := (rfl)
@[simp] theorem State.setWord_boot (s : State) (a) (v) : (s.setWord a v).boot = s.boot := (rfl)
@[simp] theorem State.setWord_mspi (s : State) (a) (v) : (s.setWord a v).mspi = s.mspi := (rfl)
@[simp] theorem State.setWord_free (s : State) (a) (v) : (s.setWord a v).free = s.free := (rfl)
@[simp] theorem State.setWord_hbmByte (s : State) (a) (v) (x) : (s.setWord a v).hbmByte x = s.hbmByte x := (rfl)
@[simp] theorem State.setWord_head (s : State) (a) (v) (x) : (s.setWord a v).head x = s.head x := (rfl)
@[simp] theorem State.setWord_now (s : State) (a) (v) : (s.setWord a v).now = s.now := (rfl)

@[simp] theorem State.wr_pending (s : State) (f) (v) : (s.wr f v).pending = s.pending := (rfl)
@[simp] theorem State.wr_dt (s : State) (f) (v) : (s.wr f v).dt = s.dt := (rfl)
@[simp] theorem State.wr_fine (s : State) (f) (v) : (s.wr f v).fine = s.fine := (rfl)
@[simp] theorem State.wr_fresh (s : State) (f) (v) : (s.wr f v).fresh = s.fresh := (rfl)
@[simp] theorem State.wr_hbm (s : State) (f) (v) : (s.wr f v).hbm = s.hbm := (rfl)
@[simp] theorem State.wr_heads (s : State) (f) (v) : (s.wr f v).heads = s.heads := (rfl)
@[simp] theorem State.wr_dev (s : State) (f) (v) : (s.wr f v).dev = s.dev := (rfl)
@[simp] theorem State.wr_clk (s : State) (f) (v) : (s.wr f v).clk = s.clk := (rfl)
@[simp] theorem State.wr_pwr (s : State) (f) (v) : (s.wr f v).pwr = s.pwr := (rfl)
@[simp] theorem State.wr_thm (s : State) (f) (v) : (s.wr f v).thm = s.thm := (rfl)
@[simp] theorem State.wr_safe (s : State) (f) (v) : (s.wr f v).safe = s.safe := (rfl)
@[simp] theorem State.wr_lines (s : State) (f) (v) : (s.wr f v).lines = s.lines := (rfl)
@[simp] theorem State.wr_groups (s : State) (f) (v) : (s.wr f v).groups = s.groups := (rfl)
@[simp] theorem State.wr_spill (s : State) (f) (v) : (s.wr f v).spill = s.spill := (rfl)
@[simp] theorem State.wr_fields (s : State) (f) (v) : (s.wr f v).fields = s.fields := (rfl)
@[simp] theorem State.wr_babbitt (s : State) (f) (v) : (s.wr f v).babbitt = s.babbitt := (rfl)
@[simp] theorem State.wr_cap (s : State) (f) (v) : (s.wr f v).cap = s.cap := (rfl)
@[simp] theorem State.wr_net (s : State) (f) (v) : (s.wr f v).net = s.net := (rfl)
@[simp] theorem State.wr_lanes (s : State) (f) (v) : (s.wr f v).lanes = s.lanes := (rfl)
@[simp] theorem State.wr_pair (s : State) (f) (v) : (s.wr f v).pair = s.pair := (rfl)
@[simp] theorem State.wr_dom (s : State) (f) (v) : (s.wr f v).dom = s.dom := (rfl)
@[simp] theorem State.wr_mem (s : State) (f) (v) : (s.wr f v).mem = s.mem := (rfl)
@[simp] theorem State.wr_hk (s : State) (f) (v) : (s.wr f v).hk = s.hk := (rfl)
@[simp] theorem State.wr_boot (s : State) (f) (v) : (s.wr f v).boot = s.boot := (rfl)
@[simp] theorem State.wr_mspi (s : State) (f) (v) : (s.wr f v).mspi = s.mspi := (rfl)
@[simp] theorem State.wr_free (s : State) (f) (v) : (s.wr f v).free = s.free := (rfl)
@[simp] theorem State.wr_hbmByte (s : State) (f) (v) (x) : (s.wr f v).hbmByte x = s.hbmByte x := (rfl)
@[simp] theorem State.wr_head (s : State) (f) (v) (x) : (s.wr f v).head x = s.head x := (rfl)
@[simp] theorem State.wr_now (s : State) (f) (v) : (s.wr f v).now = s.now := (rfl)

@[simp] theorem State.wrS_pending (s : State) (f) (v) : (s.wrS f v).pending = s.pending := (rfl)
@[simp] theorem State.wrS_dt (s : State) (f) (v) : (s.wrS f v).dt = s.dt := (rfl)
@[simp] theorem State.wrS_fine (s : State) (f) (v) : (s.wrS f v).fine = s.fine := (rfl)
@[simp] theorem State.wrS_fresh (s : State) (f) (v) : (s.wrS f v).fresh = s.fresh := (rfl)
@[simp] theorem State.wrS_hbm (s : State) (f) (v) : (s.wrS f v).hbm = s.hbm := (rfl)
@[simp] theorem State.wrS_heads (s : State) (f) (v) : (s.wrS f v).heads = s.heads := (rfl)
@[simp] theorem State.wrS_dev (s : State) (f) (v) : (s.wrS f v).dev = s.dev := (rfl)
@[simp] theorem State.wrS_clk (s : State) (f) (v) : (s.wrS f v).clk = s.clk := (rfl)
@[simp] theorem State.wrS_pwr (s : State) (f) (v) : (s.wrS f v).pwr = s.pwr := (rfl)
@[simp] theorem State.wrS_thm (s : State) (f) (v) : (s.wrS f v).thm = s.thm := (rfl)
@[simp] theorem State.wrS_safe (s : State) (f) (v) : (s.wrS f v).safe = s.safe := (rfl)
@[simp] theorem State.wrS_lines (s : State) (f) (v) : (s.wrS f v).lines = s.lines := (rfl)
@[simp] theorem State.wrS_groups (s : State) (f) (v) : (s.wrS f v).groups = s.groups := (rfl)
@[simp] theorem State.wrS_spill (s : State) (f) (v) : (s.wrS f v).spill = s.spill := (rfl)
@[simp] theorem State.wrS_fields (s : State) (f) (v) : (s.wrS f v).fields = s.fields := (rfl)
@[simp] theorem State.wrS_babbitt (s : State) (f) (v) : (s.wrS f v).babbitt = s.babbitt := (rfl)
@[simp] theorem State.wrS_cap (s : State) (f) (v) : (s.wrS f v).cap = s.cap := (rfl)
@[simp] theorem State.wrS_net (s : State) (f) (v) : (s.wrS f v).net = s.net := (rfl)
@[simp] theorem State.wrS_lanes (s : State) (f) (v) : (s.wrS f v).lanes = s.lanes := (rfl)
@[simp] theorem State.wrS_pair (s : State) (f) (v) : (s.wrS f v).pair = s.pair := (rfl)
@[simp] theorem State.wrS_dom (s : State) (f) (v) : (s.wrS f v).dom = s.dom := (rfl)
@[simp] theorem State.wrS_mem (s : State) (f) (v) : (s.wrS f v).mem = s.mem := (rfl)
@[simp] theorem State.wrS_hk (s : State) (f) (v) : (s.wrS f v).hk = s.hk := (rfl)
@[simp] theorem State.wrS_boot (s : State) (f) (v) : (s.wrS f v).boot = s.boot := (rfl)
@[simp] theorem State.wrS_mspi (s : State) (f) (v) : (s.wrS f v).mspi = s.mspi := (rfl)
@[simp] theorem State.wrS_free (s : State) (f) (v) : (s.wrS f v).free = s.free := (rfl)
@[simp] theorem State.wrS_hbmByte (s : State) (f) (v) (x) : (s.wrS f v).hbmByte x = s.hbmByte x := (rfl)
@[simp] theorem State.wrS_head (s : State) (f) (v) (x) : (s.wrS f v).head x = s.head x := (rfl)
@[simp] theorem State.wrS_now (s : State) (f) (v) : (s.wrS f v).now = s.now := (rfl)

@[simp] theorem State.wrB_pending (s : State) (f) (b) : (s.wrB f b).pending = s.pending := (rfl)
@[simp] theorem State.wrB_dt (s : State) (f) (b) : (s.wrB f b).dt = s.dt := (rfl)
@[simp] theorem State.wrB_fine (s : State) (f) (b) : (s.wrB f b).fine = s.fine := (rfl)
@[simp] theorem State.wrB_fresh (s : State) (f) (b) : (s.wrB f b).fresh = s.fresh := (rfl)
@[simp] theorem State.wrB_hbm (s : State) (f) (b) : (s.wrB f b).hbm = s.hbm := (rfl)
@[simp] theorem State.wrB_heads (s : State) (f) (b) : (s.wrB f b).heads = s.heads := (rfl)
@[simp] theorem State.wrB_dev (s : State) (f) (b) : (s.wrB f b).dev = s.dev := (rfl)
@[simp] theorem State.wrB_clk (s : State) (f) (b) : (s.wrB f b).clk = s.clk := (rfl)
@[simp] theorem State.wrB_pwr (s : State) (f) (b) : (s.wrB f b).pwr = s.pwr := (rfl)
@[simp] theorem State.wrB_thm (s : State) (f) (b) : (s.wrB f b).thm = s.thm := (rfl)
@[simp] theorem State.wrB_safe (s : State) (f) (b) : (s.wrB f b).safe = s.safe := (rfl)
@[simp] theorem State.wrB_lines (s : State) (f) (b) : (s.wrB f b).lines = s.lines := (rfl)
@[simp] theorem State.wrB_groups (s : State) (f) (b) : (s.wrB f b).groups = s.groups := (rfl)
@[simp] theorem State.wrB_spill (s : State) (f) (b) : (s.wrB f b).spill = s.spill := (rfl)
@[simp] theorem State.wrB_fields (s : State) (f) (b) : (s.wrB f b).fields = s.fields := (rfl)
@[simp] theorem State.wrB_babbitt (s : State) (f) (b) : (s.wrB f b).babbitt = s.babbitt := (rfl)
@[simp] theorem State.wrB_cap (s : State) (f) (b) : (s.wrB f b).cap = s.cap := (rfl)
@[simp] theorem State.wrB_net (s : State) (f) (b) : (s.wrB f b).net = s.net := (rfl)
@[simp] theorem State.wrB_lanes (s : State) (f) (b) : (s.wrB f b).lanes = s.lanes := (rfl)
@[simp] theorem State.wrB_pair (s : State) (f) (b) : (s.wrB f b).pair = s.pair := (rfl)
@[simp] theorem State.wrB_dom (s : State) (f) (b) : (s.wrB f b).dom = s.dom := (rfl)
@[simp] theorem State.wrB_mem (s : State) (f) (b) : (s.wrB f b).mem = s.mem := (rfl)
@[simp] theorem State.wrB_hk (s : State) (f) (b) : (s.wrB f b).hk = s.hk := (rfl)
@[simp] theorem State.wrB_boot (s : State) (f) (b) : (s.wrB f b).boot = s.boot := (rfl)
@[simp] theorem State.wrB_mspi (s : State) (f) (b) : (s.wrB f b).mspi = s.mspi := (rfl)
@[simp] theorem State.wrB_free (s : State) (f) (b) : (s.wrB f b).free = s.free := (rfl)
@[simp] theorem State.wrB_hbmByte (s : State) (f) (b) (x) : (s.wrB f b).hbmByte x = s.hbmByte x := (rfl)
@[simp] theorem State.wrB_head (s : State) (f) (b) (x) : (s.wrB f b).head x = s.head x := (rfl)
@[simp] theorem State.wrB_now (s : State) (f) (b) : (s.wrB f b).now = s.now := (rfl)

@[simp] theorem State.add_pending (s : State) (f) (n) : (s.add f n).pending = s.pending := (rfl)
@[simp] theorem State.add_dt (s : State) (f) (n) : (s.add f n).dt = s.dt := (rfl)
@[simp] theorem State.add_fine (s : State) (f) (n) : (s.add f n).fine = s.fine := (rfl)
@[simp] theorem State.add_fresh (s : State) (f) (n) : (s.add f n).fresh = s.fresh := (rfl)
@[simp] theorem State.add_hbm (s : State) (f) (n) : (s.add f n).hbm = s.hbm := (rfl)
@[simp] theorem State.add_heads (s : State) (f) (n) : (s.add f n).heads = s.heads := (rfl)
@[simp] theorem State.add_dev (s : State) (f) (n) : (s.add f n).dev = s.dev := (rfl)
@[simp] theorem State.add_clk (s : State) (f) (n) : (s.add f n).clk = s.clk := (rfl)
@[simp] theorem State.add_pwr (s : State) (f) (n) : (s.add f n).pwr = s.pwr := (rfl)
@[simp] theorem State.add_thm (s : State) (f) (n) : (s.add f n).thm = s.thm := (rfl)
@[simp] theorem State.add_safe (s : State) (f) (n) : (s.add f n).safe = s.safe := (rfl)
@[simp] theorem State.add_lines (s : State) (f) (n) : (s.add f n).lines = s.lines := (rfl)
@[simp] theorem State.add_groups (s : State) (f) (n) : (s.add f n).groups = s.groups := (rfl)
@[simp] theorem State.add_spill (s : State) (f) (n) : (s.add f n).spill = s.spill := (rfl)
@[simp] theorem State.add_fields (s : State) (f) (n) : (s.add f n).fields = s.fields := (rfl)
@[simp] theorem State.add_babbitt (s : State) (f) (n) : (s.add f n).babbitt = s.babbitt := (rfl)
@[simp] theorem State.add_cap (s : State) (f) (n) : (s.add f n).cap = s.cap := (rfl)
@[simp] theorem State.add_net (s : State) (f) (n) : (s.add f n).net = s.net := (rfl)
@[simp] theorem State.add_lanes (s : State) (f) (n) : (s.add f n).lanes = s.lanes := (rfl)
@[simp] theorem State.add_pair (s : State) (f) (n) : (s.add f n).pair = s.pair := (rfl)
@[simp] theorem State.add_dom (s : State) (f) (n) : (s.add f n).dom = s.dom := (rfl)
@[simp] theorem State.add_mem (s : State) (f) (n) : (s.add f n).mem = s.mem := (rfl)
@[simp] theorem State.add_hk (s : State) (f) (n) : (s.add f n).hk = s.hk := (rfl)
@[simp] theorem State.add_boot (s : State) (f) (n) : (s.add f n).boot = s.boot := (rfl)
@[simp] theorem State.add_mspi (s : State) (f) (n) : (s.add f n).mspi = s.mspi := (rfl)
@[simp] theorem State.add_free (s : State) (f) (n) : (s.add f n).free = s.free := (rfl)
@[simp] theorem State.add_hbmByte (s : State) (f) (n) (x) : (s.add f n).hbmByte x = s.hbmByte x := (rfl)
@[simp] theorem State.add_head (s : State) (f) (n) (x) : (s.add f n).head x = s.head x := (rfl)
@[simp] theorem State.add_now (s : State) (f) (n) : (s.add f n).now = s.now := (rfl)

@[simp] theorem State.inc_pending (s : State) (f) : (s.inc f).pending = s.pending := (rfl)
@[simp] theorem State.inc_dt (s : State) (f) : (s.inc f).dt = s.dt := (rfl)
@[simp] theorem State.inc_fine (s : State) (f) : (s.inc f).fine = s.fine := (rfl)
@[simp] theorem State.inc_fresh (s : State) (f) : (s.inc f).fresh = s.fresh := (rfl)
@[simp] theorem State.inc_hbm (s : State) (f) : (s.inc f).hbm = s.hbm := (rfl)
@[simp] theorem State.inc_heads (s : State) (f) : (s.inc f).heads = s.heads := (rfl)
@[simp] theorem State.inc_dev (s : State) (f) : (s.inc f).dev = s.dev := (rfl)
@[simp] theorem State.inc_clk (s : State) (f) : (s.inc f).clk = s.clk := (rfl)
@[simp] theorem State.inc_pwr (s : State) (f) : (s.inc f).pwr = s.pwr := (rfl)
@[simp] theorem State.inc_thm (s : State) (f) : (s.inc f).thm = s.thm := (rfl)
@[simp] theorem State.inc_safe (s : State) (f) : (s.inc f).safe = s.safe := (rfl)
@[simp] theorem State.inc_lines (s : State) (f) : (s.inc f).lines = s.lines := (rfl)
@[simp] theorem State.inc_groups (s : State) (f) : (s.inc f).groups = s.groups := (rfl)
@[simp] theorem State.inc_spill (s : State) (f) : (s.inc f).spill = s.spill := (rfl)
@[simp] theorem State.inc_fields (s : State) (f) : (s.inc f).fields = s.fields := (rfl)
@[simp] theorem State.inc_babbitt (s : State) (f) : (s.inc f).babbitt = s.babbitt := (rfl)
@[simp] theorem State.inc_cap (s : State) (f) : (s.inc f).cap = s.cap := (rfl)
@[simp] theorem State.inc_net (s : State) (f) : (s.inc f).net = s.net := (rfl)
@[simp] theorem State.inc_lanes (s : State) (f) : (s.inc f).lanes = s.lanes := (rfl)
@[simp] theorem State.inc_pair (s : State) (f) : (s.inc f).pair = s.pair := (rfl)
@[simp] theorem State.inc_dom (s : State) (f) : (s.inc f).dom = s.dom := (rfl)
@[simp] theorem State.inc_mem (s : State) (f) : (s.inc f).mem = s.mem := (rfl)
@[simp] theorem State.inc_hk (s : State) (f) : (s.inc f).hk = s.hk := (rfl)
@[simp] theorem State.inc_boot (s : State) (f) : (s.inc f).boot = s.boot := (rfl)
@[simp] theorem State.inc_mspi (s : State) (f) : (s.inc f).mspi = s.mspi := (rfl)
@[simp] theorem State.inc_free (s : State) (f) : (s.inc f).free = s.free := (rfl)
@[simp] theorem State.inc_hbmByte (s : State) (f) (x) : (s.inc f).hbmByte x = s.hbmByte x := (rfl)
@[simp] theorem State.inc_head (s : State) (f) (x) : (s.inc f).head x = s.head x := (rfl)
@[simp] theorem State.inc_now (s : State) (f) : (s.inc f).now = s.now := (rfl)

@[simp] theorem State.incSat_pending (s : State) (f) : (s.incSat f).pending = s.pending := (rfl)
@[simp] theorem State.incSat_dt (s : State) (f) : (s.incSat f).dt = s.dt := (rfl)
@[simp] theorem State.incSat_fine (s : State) (f) : (s.incSat f).fine = s.fine := (rfl)
@[simp] theorem State.incSat_fresh (s : State) (f) : (s.incSat f).fresh = s.fresh := (rfl)
@[simp] theorem State.incSat_hbm (s : State) (f) : (s.incSat f).hbm = s.hbm := (rfl)
@[simp] theorem State.incSat_heads (s : State) (f) : (s.incSat f).heads = s.heads := (rfl)
@[simp] theorem State.incSat_dev (s : State) (f) : (s.incSat f).dev = s.dev := (rfl)
@[simp] theorem State.incSat_clk (s : State) (f) : (s.incSat f).clk = s.clk := (rfl)
@[simp] theorem State.incSat_pwr (s : State) (f) : (s.incSat f).pwr = s.pwr := (rfl)
@[simp] theorem State.incSat_thm (s : State) (f) : (s.incSat f).thm = s.thm := (rfl)
@[simp] theorem State.incSat_safe (s : State) (f) : (s.incSat f).safe = s.safe := (rfl)
@[simp] theorem State.incSat_lines (s : State) (f) : (s.incSat f).lines = s.lines := (rfl)
@[simp] theorem State.incSat_groups (s : State) (f) : (s.incSat f).groups = s.groups := (rfl)
@[simp] theorem State.incSat_spill (s : State) (f) : (s.incSat f).spill = s.spill := (rfl)
@[simp] theorem State.incSat_fields (s : State) (f) : (s.incSat f).fields = s.fields := (rfl)
@[simp] theorem State.incSat_babbitt (s : State) (f) : (s.incSat f).babbitt = s.babbitt := (rfl)
@[simp] theorem State.incSat_cap (s : State) (f) : (s.incSat f).cap = s.cap := (rfl)
@[simp] theorem State.incSat_net (s : State) (f) : (s.incSat f).net = s.net := (rfl)
@[simp] theorem State.incSat_lanes (s : State) (f) : (s.incSat f).lanes = s.lanes := (rfl)
@[simp] theorem State.incSat_pair (s : State) (f) : (s.incSat f).pair = s.pair := (rfl)
@[simp] theorem State.incSat_dom (s : State) (f) : (s.incSat f).dom = s.dom := (rfl)
@[simp] theorem State.incSat_mem (s : State) (f) : (s.incSat f).mem = s.mem := (rfl)
@[simp] theorem State.incSat_hk (s : State) (f) : (s.incSat f).hk = s.hk := (rfl)
@[simp] theorem State.incSat_boot (s : State) (f) : (s.incSat f).boot = s.boot := (rfl)
@[simp] theorem State.incSat_mspi (s : State) (f) : (s.incSat f).mspi = s.mspi := (rfl)
@[simp] theorem State.incSat_free (s : State) (f) : (s.incSat f).free = s.free := (rfl)
@[simp] theorem State.incSat_hbmByte (s : State) (f) (x) : (s.incSat f).hbmByte x = s.hbmByte x := (rfl)
@[simp] theorem State.incSat_head (s : State) (f) (x) : (s.incSat f).head x = s.head x := (rfl)
@[simp] theorem State.incSat_now (s : State) (f) : (s.incSat f).now = s.now := (rfl)

@[simp] theorem State.wr64_pending (s : State) (lo) (hi) (v) : (s.wr64 lo hi v).pending = s.pending := (rfl)
@[simp] theorem State.wr64_dt (s : State) (lo) (hi) (v) : (s.wr64 lo hi v).dt = s.dt := (rfl)
@[simp] theorem State.wr64_fine (s : State) (lo) (hi) (v) : (s.wr64 lo hi v).fine = s.fine := (rfl)
@[simp] theorem State.wr64_fresh (s : State) (lo) (hi) (v) : (s.wr64 lo hi v).fresh = s.fresh := (rfl)
@[simp] theorem State.wr64_hbm (s : State) (lo) (hi) (v) : (s.wr64 lo hi v).hbm = s.hbm := (rfl)
@[simp] theorem State.wr64_heads (s : State) (lo) (hi) (v) : (s.wr64 lo hi v).heads = s.heads := (rfl)
@[simp] theorem State.wr64_dev (s : State) (lo) (hi) (v) : (s.wr64 lo hi v).dev = s.dev := (rfl)
@[simp] theorem State.wr64_clk (s : State) (lo) (hi) (v) : (s.wr64 lo hi v).clk = s.clk := (rfl)
@[simp] theorem State.wr64_pwr (s : State) (lo) (hi) (v) : (s.wr64 lo hi v).pwr = s.pwr := (rfl)
@[simp] theorem State.wr64_thm (s : State) (lo) (hi) (v) : (s.wr64 lo hi v).thm = s.thm := (rfl)
@[simp] theorem State.wr64_safe (s : State) (lo) (hi) (v) : (s.wr64 lo hi v).safe = s.safe := (rfl)
@[simp] theorem State.wr64_lines (s : State) (lo) (hi) (v) : (s.wr64 lo hi v).lines = s.lines := (rfl)
@[simp] theorem State.wr64_groups (s : State) (lo) (hi) (v) : (s.wr64 lo hi v).groups = s.groups := (rfl)
@[simp] theorem State.wr64_spill (s : State) (lo) (hi) (v) : (s.wr64 lo hi v).spill = s.spill := (rfl)
@[simp] theorem State.wr64_fields (s : State) (lo) (hi) (v) : (s.wr64 lo hi v).fields = s.fields := (rfl)
@[simp] theorem State.wr64_babbitt (s : State) (lo) (hi) (v) : (s.wr64 lo hi v).babbitt = s.babbitt := (rfl)
@[simp] theorem State.wr64_cap (s : State) (lo) (hi) (v) : (s.wr64 lo hi v).cap = s.cap := (rfl)
@[simp] theorem State.wr64_net (s : State) (lo) (hi) (v) : (s.wr64 lo hi v).net = s.net := (rfl)
@[simp] theorem State.wr64_lanes (s : State) (lo) (hi) (v) : (s.wr64 lo hi v).lanes = s.lanes := (rfl)
@[simp] theorem State.wr64_pair (s : State) (lo) (hi) (v) : (s.wr64 lo hi v).pair = s.pair := (rfl)
@[simp] theorem State.wr64_dom (s : State) (lo) (hi) (v) : (s.wr64 lo hi v).dom = s.dom := (rfl)
@[simp] theorem State.wr64_mem (s : State) (lo) (hi) (v) : (s.wr64 lo hi v).mem = s.mem := (rfl)
@[simp] theorem State.wr64_hk (s : State) (lo) (hi) (v) : (s.wr64 lo hi v).hk = s.hk := (rfl)
@[simp] theorem State.wr64_boot (s : State) (lo) (hi) (v) : (s.wr64 lo hi v).boot = s.boot := (rfl)
@[simp] theorem State.wr64_mspi (s : State) (lo) (hi) (v) : (s.wr64 lo hi v).mspi = s.mspi := (rfl)
@[simp] theorem State.wr64_free (s : State) (lo) (hi) (v) : (s.wr64 lo hi v).free = s.free := (rfl)
@[simp] theorem State.wr64_hbmByte (s : State) (lo) (hi) (v) (x) : (s.wr64 lo hi v).hbmByte x = s.hbmByte x := (rfl)
@[simp] theorem State.wr64_head (s : State) (lo) (hi) (v) (x) : (s.wr64 lo hi v).head x = s.head x := (rfl)
@[simp] theorem State.wr64_now (s : State) (lo) (hi) (v) : (s.wr64 lo hi v).now = s.now := (rfl)

@[simp] theorem State.wrBit_pending (s : State) (f) (i) (b) : (s.wrBit f i b).pending = s.pending := (rfl)
@[simp] theorem State.wrBit_dt (s : State) (f) (i) (b) : (s.wrBit f i b).dt = s.dt := (rfl)
@[simp] theorem State.wrBit_fine (s : State) (f) (i) (b) : (s.wrBit f i b).fine = s.fine := (rfl)
@[simp] theorem State.wrBit_fresh (s : State) (f) (i) (b) : (s.wrBit f i b).fresh = s.fresh := (rfl)
@[simp] theorem State.wrBit_hbm (s : State) (f) (i) (b) : (s.wrBit f i b).hbm = s.hbm := (rfl)
@[simp] theorem State.wrBit_heads (s : State) (f) (i) (b) : (s.wrBit f i b).heads = s.heads := (rfl)
@[simp] theorem State.wrBit_dev (s : State) (f) (i) (b) : (s.wrBit f i b).dev = s.dev := (rfl)
@[simp] theorem State.wrBit_clk (s : State) (f) (i) (b) : (s.wrBit f i b).clk = s.clk := (rfl)
@[simp] theorem State.wrBit_pwr (s : State) (f) (i) (b) : (s.wrBit f i b).pwr = s.pwr := (rfl)
@[simp] theorem State.wrBit_thm (s : State) (f) (i) (b) : (s.wrBit f i b).thm = s.thm := (rfl)
@[simp] theorem State.wrBit_safe (s : State) (f) (i) (b) : (s.wrBit f i b).safe = s.safe := (rfl)
@[simp] theorem State.wrBit_lines (s : State) (f) (i) (b) : (s.wrBit f i b).lines = s.lines := (rfl)
@[simp] theorem State.wrBit_groups (s : State) (f) (i) (b) : (s.wrBit f i b).groups = s.groups := (rfl)
@[simp] theorem State.wrBit_spill (s : State) (f) (i) (b) : (s.wrBit f i b).spill = s.spill := (rfl)
@[simp] theorem State.wrBit_fields (s : State) (f) (i) (b) : (s.wrBit f i b).fields = s.fields := (rfl)
@[simp] theorem State.wrBit_babbitt (s : State) (f) (i) (b) : (s.wrBit f i b).babbitt = s.babbitt := (rfl)
@[simp] theorem State.wrBit_cap (s : State) (f) (i) (b) : (s.wrBit f i b).cap = s.cap := (rfl)
@[simp] theorem State.wrBit_net (s : State) (f) (i) (b) : (s.wrBit f i b).net = s.net := (rfl)
@[simp] theorem State.wrBit_lanes (s : State) (f) (i) (b) : (s.wrBit f i b).lanes = s.lanes := (rfl)
@[simp] theorem State.wrBit_pair (s : State) (f) (i) (b) : (s.wrBit f i b).pair = s.pair := (rfl)
@[simp] theorem State.wrBit_dom (s : State) (f) (i) (b) : (s.wrBit f i b).dom = s.dom := (rfl)
@[simp] theorem State.wrBit_mem (s : State) (f) (i) (b) : (s.wrBit f i b).mem = s.mem := (rfl)
@[simp] theorem State.wrBit_hk (s : State) (f) (i) (b) : (s.wrBit f i b).hk = s.hk := (rfl)
@[simp] theorem State.wrBit_boot (s : State) (f) (i) (b) : (s.wrBit f i b).boot = s.boot := (rfl)
@[simp] theorem State.wrBit_mspi (s : State) (f) (i) (b) : (s.wrBit f i b).mspi = s.mspi := (rfl)
@[simp] theorem State.wrBit_free (s : State) (f) (i) (b) : (s.wrBit f i b).free = s.free := (rfl)
@[simp] theorem State.wrBit_hbmByte (s : State) (f) (i) (b) (x) : (s.wrBit f i b).hbmByte x = s.hbmByte x := (rfl)
@[simp] theorem State.wrBit_head (s : State) (f) (i) (b) (x) : (s.wrBit f i b).head x = s.head x := (rfl)
@[simp] theorem State.wrBit_now (s : State) (f) (i) (b) : (s.wrBit f i b).now = s.now := (rfl)

@[simp] theorem State.hbmWrite_pending (s : State) (a) (bs) : (s.hbmWrite a bs).pending = s.pending := (rfl)
@[simp] theorem State.hbmWrite_dt (s : State) (a) (bs) : (s.hbmWrite a bs).dt = s.dt := (rfl)
@[simp] theorem State.hbmWrite_fine (s : State) (a) (bs) : (s.hbmWrite a bs).fine = s.fine := (rfl)
@[simp] theorem State.hbmWrite_regs (s : State) (a) (bs) : (s.hbmWrite a bs).regs = s.regs := (rfl)
@[simp] theorem State.hbmWrite_fresh (s : State) (a) (bs) : (s.hbmWrite a bs).fresh = s.fresh := (rfl)
@[simp] theorem State.hbmWrite_hbm (s : State) (a) (bs) : (s.hbmWrite a bs).hbm = writeBytes hbmDefault s.hbm a bs := (rfl)
@[simp] theorem State.hbmWrite_heads (s : State) (a) (bs) : (s.hbmWrite a bs).heads = s.heads := (rfl)
@[simp] theorem State.hbmWrite_dev (s : State) (a) (bs) : (s.hbmWrite a bs).dev = s.dev := (rfl)
@[simp] theorem State.hbmWrite_clk (s : State) (a) (bs) : (s.hbmWrite a bs).clk = s.clk := (rfl)
@[simp] theorem State.hbmWrite_pwr (s : State) (a) (bs) : (s.hbmWrite a bs).pwr = s.pwr := (rfl)
@[simp] theorem State.hbmWrite_thm (s : State) (a) (bs) : (s.hbmWrite a bs).thm = s.thm := (rfl)
@[simp] theorem State.hbmWrite_safe (s : State) (a) (bs) : (s.hbmWrite a bs).safe = s.safe := (rfl)
@[simp] theorem State.hbmWrite_lines (s : State) (a) (bs) : (s.hbmWrite a bs).lines = s.lines := (rfl)
@[simp] theorem State.hbmWrite_groups (s : State) (a) (bs) : (s.hbmWrite a bs).groups = s.groups := (rfl)
@[simp] theorem State.hbmWrite_spill (s : State) (a) (bs) : (s.hbmWrite a bs).spill = s.spill := (rfl)
@[simp] theorem State.hbmWrite_fields (s : State) (a) (bs) : (s.hbmWrite a bs).fields = s.fields := (rfl)
@[simp] theorem State.hbmWrite_babbitt (s : State) (a) (bs) : (s.hbmWrite a bs).babbitt = s.babbitt := (rfl)
@[simp] theorem State.hbmWrite_cap (s : State) (a) (bs) : (s.hbmWrite a bs).cap = s.cap := (rfl)
@[simp] theorem State.hbmWrite_net (s : State) (a) (bs) : (s.hbmWrite a bs).net = s.net := (rfl)
@[simp] theorem State.hbmWrite_lanes (s : State) (a) (bs) : (s.hbmWrite a bs).lanes = s.lanes := (rfl)
@[simp] theorem State.hbmWrite_pair (s : State) (a) (bs) : (s.hbmWrite a bs).pair = s.pair := (rfl)
@[simp] theorem State.hbmWrite_dom (s : State) (a) (bs) : (s.hbmWrite a bs).dom = s.dom := (rfl)
@[simp] theorem State.hbmWrite_mem (s : State) (a) (bs) : (s.hbmWrite a bs).mem = s.mem := (rfl)
@[simp] theorem State.hbmWrite_hk (s : State) (a) (bs) : (s.hbmWrite a bs).hk = s.hk := (rfl)
@[simp] theorem State.hbmWrite_boot (s : State) (a) (bs) : (s.hbmWrite a bs).boot = s.boot := (rfl)
@[simp] theorem State.hbmWrite_mspi (s : State) (a) (bs) : (s.hbmWrite a bs).mspi = s.mspi := (rfl)
@[simp] theorem State.hbmWrite_free (s : State) (a) (bs) : (s.hbmWrite a bs).free = s.free := (rfl)
@[simp] theorem State.hbmWrite_word (s : State) (a) (bs) (x) : (s.hbmWrite a bs).word x = s.word x := (rfl)
@[simp] theorem State.hbmWrite_rd (s : State) (a) (bs) (x) : (s.hbmWrite a bs).rd x = s.rd x := (rfl)
@[simp] theorem State.hbmWrite_head (s : State) (a) (bs) (x) : (s.hbmWrite a bs).head x = s.head x := (rfl)
@[simp] theorem State.hbmWrite_now (s : State) (a) (bs) : (s.hbmWrite a bs).now = s.now := (rfl)

@[simp] theorem State.drawn_pending (s : State) : (s.drawn).pending = s.pending := (rfl)
@[simp] theorem State.drawn_dt (s : State) : (s.drawn).dt = s.dt := (rfl)
@[simp] theorem State.drawn_fine (s : State) : (s.drawn).fine = s.fine := (rfl)
@[simp] theorem State.drawn_regs (s : State) : (s.drawn).regs = s.regs := (rfl)
@[simp] theorem State.drawn_fresh (s : State) : (s.drawn).fresh = s.fresh := (rfl)
@[simp] theorem State.drawn_hbm (s : State) : (s.drawn).hbm = s.hbm := (rfl)
@[simp] theorem State.drawn_heads (s : State) : (s.drawn).heads = s.heads := (rfl)
@[simp] theorem State.drawn_dev (s : State) : (s.drawn).dev = s.dev := (rfl)
@[simp] theorem State.drawn_clk (s : State) : (s.drawn).clk = s.clk := (rfl)
@[simp] theorem State.drawn_pwr (s : State) : (s.drawn).pwr = s.pwr := (rfl)
@[simp] theorem State.drawn_thm (s : State) : (s.drawn).thm = s.thm := (rfl)
@[simp] theorem State.drawn_safe (s : State) : (s.drawn).safe = s.safe := (rfl)
@[simp] theorem State.drawn_lines (s : State) : (s.drawn).lines = s.lines := (rfl)
@[simp] theorem State.drawn_groups (s : State) : (s.drawn).groups = s.groups := (rfl)
@[simp] theorem State.drawn_spill (s : State) : (s.drawn).spill = s.spill := (rfl)
@[simp] theorem State.drawn_fields (s : State) : (s.drawn).fields = s.fields := (rfl)
@[simp] theorem State.drawn_babbitt (s : State) : (s.drawn).babbitt = s.babbitt := (rfl)
@[simp] theorem State.drawn_cap (s : State) : (s.drawn).cap = s.cap := (rfl)
@[simp] theorem State.drawn_net (s : State) : (s.drawn).net = s.net := (rfl)
@[simp] theorem State.drawn_lanes (s : State) : (s.drawn).lanes = s.lanes := (rfl)
@[simp] theorem State.drawn_pair (s : State) : (s.drawn).pair = s.pair := (rfl)
@[simp] theorem State.drawn_dom (s : State) : (s.drawn).dom = s.dom := (rfl)
@[simp] theorem State.drawn_mem (s : State) : (s.drawn).mem = s.mem := (rfl)
@[simp] theorem State.drawn_hk (s : State) : (s.drawn).hk = s.hk := (rfl)
@[simp] theorem State.drawn_boot (s : State) : (s.drawn).boot = s.boot := (rfl)
@[simp] theorem State.drawn_mspi (s : State) : (s.drawn).mspi = s.mspi := (rfl)
@[simp] theorem State.drawn_free (s : State) : (s.drawn).free = s.free + 1 := (rfl)
@[simp] theorem State.drawn_word (s : State) (x) : (s.drawn).word x = s.word x := (rfl)
@[simp] theorem State.drawn_rd (s : State) (x) : (s.drawn).rd x = s.rd x := (rfl)
@[simp] theorem State.drawn_hbmByte (s : State) (x) : (s.drawn).hbmByte x = s.hbmByte x := (rfl)
@[simp] theorem State.drawn_head (s : State) (x) : (s.drawn).head x = s.head x := (rfl)
@[simp] theorem State.drawn_now (s : State) : (s.drawn).now = s.now := (rfl)

@[simp] theorem State.updHead_pending (s : State) (h) (f) : (s.updHead h f).pending = s.pending := (rfl)
@[simp] theorem State.updHead_dt (s : State) (h) (f) : (s.updHead h f).dt = s.dt := (rfl)
@[simp] theorem State.updHead_fine (s : State) (h) (f) : (s.updHead h f).fine = s.fine := (rfl)
@[simp] theorem State.updHead_regs (s : State) (h) (f) : (s.updHead h f).regs = s.regs := (rfl)
@[simp] theorem State.updHead_fresh (s : State) (h) (f) : (s.updHead h f).fresh = s.fresh := (rfl)
@[simp] theorem State.updHead_hbm (s : State) (h) (f) : (s.updHead h f).hbm = s.hbm := (rfl)
@[simp] theorem State.updHead_heads (s : State) (h) (f) : (s.updHead h f).heads = SMap.upd headDefault s.heads h f := (rfl)
@[simp] theorem State.updHead_dev (s : State) (h) (f) : (s.updHead h f).dev = s.dev := (rfl)
@[simp] theorem State.updHead_clk (s : State) (h) (f) : (s.updHead h f).clk = s.clk := (rfl)
@[simp] theorem State.updHead_pwr (s : State) (h) (f) : (s.updHead h f).pwr = s.pwr := (rfl)
@[simp] theorem State.updHead_thm (s : State) (h) (f) : (s.updHead h f).thm = s.thm := (rfl)
@[simp] theorem State.updHead_safe (s : State) (h) (f) : (s.updHead h f).safe = s.safe := (rfl)
@[simp] theorem State.updHead_lines (s : State) (h) (f) : (s.updHead h f).lines = s.lines := (rfl)
@[simp] theorem State.updHead_groups (s : State) (h) (f) : (s.updHead h f).groups = s.groups := (rfl)
@[simp] theorem State.updHead_spill (s : State) (h) (f) : (s.updHead h f).spill = s.spill := (rfl)
@[simp] theorem State.updHead_fields (s : State) (h) (f) : (s.updHead h f).fields = s.fields := (rfl)
@[simp] theorem State.updHead_babbitt (s : State) (h) (f) : (s.updHead h f).babbitt = s.babbitt := (rfl)
@[simp] theorem State.updHead_cap (s : State) (h) (f) : (s.updHead h f).cap = s.cap := (rfl)
@[simp] theorem State.updHead_net (s : State) (h) (f) : (s.updHead h f).net = s.net := (rfl)
@[simp] theorem State.updHead_lanes (s : State) (h) (f) : (s.updHead h f).lanes = s.lanes := (rfl)
@[simp] theorem State.updHead_pair (s : State) (h) (f) : (s.updHead h f).pair = s.pair := (rfl)
@[simp] theorem State.updHead_dom (s : State) (h) (f) : (s.updHead h f).dom = s.dom := (rfl)
@[simp] theorem State.updHead_mem (s : State) (h) (f) : (s.updHead h f).mem = s.mem := (rfl)
@[simp] theorem State.updHead_hk (s : State) (h) (f) : (s.updHead h f).hk = s.hk := (rfl)
@[simp] theorem State.updHead_boot (s : State) (h) (f) : (s.updHead h f).boot = s.boot := (rfl)
@[simp] theorem State.updHead_mspi (s : State) (h) (f) : (s.updHead h f).mspi = s.mspi := (rfl)
@[simp] theorem State.updHead_free (s : State) (h) (f) : (s.updHead h f).free = s.free := (rfl)
@[simp] theorem State.updHead_word (s : State) (h) (f) (x) : (s.updHead h f).word x = s.word x := (rfl)
@[simp] theorem State.updHead_rd (s : State) (h) (f) (x) : (s.updHead h f).rd x = s.rd x := (rfl)
@[simp] theorem State.updHead_hbmByte (s : State) (h) (f) (x) : (s.updHead h f).hbmByte x = s.hbmByte x := (rfl)
@[simp] theorem State.updHead_now (s : State) (h) (f) : (s.updHead h f).now = s.now := (rfl)

@[simp] theorem State.updScan_pending (s : State) (h) (f) : (s.updScan h f).pending = s.pending := (rfl)
@[simp] theorem State.updScan_dt (s : State) (h) (f) : (s.updScan h f).dt = s.dt := (rfl)
@[simp] theorem State.updScan_fine (s : State) (h) (f) : (s.updScan h f).fine = s.fine := (rfl)
@[simp] theorem State.updScan_regs (s : State) (h) (f) : (s.updScan h f).regs = s.regs := (rfl)
@[simp] theorem State.updScan_fresh (s : State) (h) (f) : (s.updScan h f).fresh = s.fresh := (rfl)
@[simp] theorem State.updScan_hbm (s : State) (h) (f) : (s.updScan h f).hbm = s.hbm := (rfl)
@[simp] theorem State.updScan_dev (s : State) (h) (f) : (s.updScan h f).dev = s.dev := (rfl)
@[simp] theorem State.updScan_clk (s : State) (h) (f) : (s.updScan h f).clk = s.clk := (rfl)
@[simp] theorem State.updScan_pwr (s : State) (h) (f) : (s.updScan h f).pwr = s.pwr := (rfl)
@[simp] theorem State.updScan_thm (s : State) (h) (f) : (s.updScan h f).thm = s.thm := (rfl)
@[simp] theorem State.updScan_safe (s : State) (h) (f) : (s.updScan h f).safe = s.safe := (rfl)
@[simp] theorem State.updScan_lines (s : State) (h) (f) : (s.updScan h f).lines = s.lines := (rfl)
@[simp] theorem State.updScan_groups (s : State) (h) (f) : (s.updScan h f).groups = s.groups := (rfl)
@[simp] theorem State.updScan_spill (s : State) (h) (f) : (s.updScan h f).spill = s.spill := (rfl)
@[simp] theorem State.updScan_fields (s : State) (h) (f) : (s.updScan h f).fields = s.fields := (rfl)
@[simp] theorem State.updScan_babbitt (s : State) (h) (f) : (s.updScan h f).babbitt = s.babbitt := (rfl)
@[simp] theorem State.updScan_cap (s : State) (h) (f) : (s.updScan h f).cap = s.cap := (rfl)
@[simp] theorem State.updScan_net (s : State) (h) (f) : (s.updScan h f).net = s.net := (rfl)
@[simp] theorem State.updScan_lanes (s : State) (h) (f) : (s.updScan h f).lanes = s.lanes := (rfl)
@[simp] theorem State.updScan_pair (s : State) (h) (f) : (s.updScan h f).pair = s.pair := (rfl)
@[simp] theorem State.updScan_dom (s : State) (h) (f) : (s.updScan h f).dom = s.dom := (rfl)
@[simp] theorem State.updScan_mem (s : State) (h) (f) : (s.updScan h f).mem = s.mem := (rfl)
@[simp] theorem State.updScan_hk (s : State) (h) (f) : (s.updScan h f).hk = s.hk := (rfl)
@[simp] theorem State.updScan_boot (s : State) (h) (f) : (s.updScan h f).boot = s.boot := (rfl)
@[simp] theorem State.updScan_mspi (s : State) (h) (f) : (s.updScan h f).mspi = s.mspi := (rfl)
@[simp] theorem State.updScan_free (s : State) (h) (f) : (s.updScan h f).free = s.free := (rfl)
@[simp] theorem State.updScan_word (s : State) (h) (f) (x) : (s.updScan h f).word x = s.word x := (rfl)
@[simp] theorem State.updScan_rd (s : State) (h) (f) (x) : (s.updScan h f).rd x = s.rd x := (rfl)
@[simp] theorem State.updScan_hbmByte (s : State) (h) (f) (x) : (s.updScan h f).hbmByte x = s.hbmByte x := (rfl)
@[simp] theorem State.updScan_now (s : State) (h) (f) : (s.updScan h f).now = s.now := (rfl)

@[simp] theorem State.updFire_pending (s : State) (h) (f) : (s.updFire h f).pending = s.pending := (rfl)
@[simp] theorem State.updFire_dt (s : State) (h) (f) : (s.updFire h f).dt = s.dt := (rfl)
@[simp] theorem State.updFire_fine (s : State) (h) (f) : (s.updFire h f).fine = s.fine := (rfl)
@[simp] theorem State.updFire_regs (s : State) (h) (f) : (s.updFire h f).regs = s.regs := (rfl)
@[simp] theorem State.updFire_fresh (s : State) (h) (f) : (s.updFire h f).fresh = s.fresh := (rfl)
@[simp] theorem State.updFire_hbm (s : State) (h) (f) : (s.updFire h f).hbm = s.hbm := (rfl)
@[simp] theorem State.updFire_dev (s : State) (h) (f) : (s.updFire h f).dev = s.dev := (rfl)
@[simp] theorem State.updFire_clk (s : State) (h) (f) : (s.updFire h f).clk = s.clk := (rfl)
@[simp] theorem State.updFire_pwr (s : State) (h) (f) : (s.updFire h f).pwr = s.pwr := (rfl)
@[simp] theorem State.updFire_thm (s : State) (h) (f) : (s.updFire h f).thm = s.thm := (rfl)
@[simp] theorem State.updFire_safe (s : State) (h) (f) : (s.updFire h f).safe = s.safe := (rfl)
@[simp] theorem State.updFire_lines (s : State) (h) (f) : (s.updFire h f).lines = s.lines := (rfl)
@[simp] theorem State.updFire_groups (s : State) (h) (f) : (s.updFire h f).groups = s.groups := (rfl)
@[simp] theorem State.updFire_spill (s : State) (h) (f) : (s.updFire h f).spill = s.spill := (rfl)
@[simp] theorem State.updFire_fields (s : State) (h) (f) : (s.updFire h f).fields = s.fields := (rfl)
@[simp] theorem State.updFire_babbitt (s : State) (h) (f) : (s.updFire h f).babbitt = s.babbitt := (rfl)
@[simp] theorem State.updFire_cap (s : State) (h) (f) : (s.updFire h f).cap = s.cap := (rfl)
@[simp] theorem State.updFire_net (s : State) (h) (f) : (s.updFire h f).net = s.net := (rfl)
@[simp] theorem State.updFire_lanes (s : State) (h) (f) : (s.updFire h f).lanes = s.lanes := (rfl)
@[simp] theorem State.updFire_pair (s : State) (h) (f) : (s.updFire h f).pair = s.pair := (rfl)
@[simp] theorem State.updFire_dom (s : State) (h) (f) : (s.updFire h f).dom = s.dom := (rfl)
@[simp] theorem State.updFire_mem (s : State) (h) (f) : (s.updFire h f).mem = s.mem := (rfl)
@[simp] theorem State.updFire_hk (s : State) (h) (f) : (s.updFire h f).hk = s.hk := (rfl)
@[simp] theorem State.updFire_boot (s : State) (h) (f) : (s.updFire h f).boot = s.boot := (rfl)
@[simp] theorem State.updFire_mspi (s : State) (h) (f) : (s.updFire h f).mspi = s.mspi := (rfl)
@[simp] theorem State.updFire_free (s : State) (h) (f) : (s.updFire h f).free = s.free := (rfl)
@[simp] theorem State.updFire_word (s : State) (h) (f) (x) : (s.updFire h f).word x = s.word x := (rfl)
@[simp] theorem State.updFire_rd (s : State) (h) (f) (x) : (s.updFire h f).rd x = s.rd x := (rfl)
@[simp] theorem State.updFire_hbmByte (s : State) (h) (f) (x) : (s.updFire h f).hbmByte x = s.hbmByte x := (rfl)
@[simp] theorem State.updFire_now (s : State) (h) (f) : (s.updFire h f).now = s.now := (rfl)

@[simp] theorem State.updChain_pending (s : State) (h) (f) : (s.updChain h f).pending = s.pending := (rfl)
@[simp] theorem State.updChain_dt (s : State) (h) (f) : (s.updChain h f).dt = s.dt := (rfl)
@[simp] theorem State.updChain_fine (s : State) (h) (f) : (s.updChain h f).fine = s.fine := (rfl)
@[simp] theorem State.updChain_regs (s : State) (h) (f) : (s.updChain h f).regs = s.regs := (rfl)
@[simp] theorem State.updChain_fresh (s : State) (h) (f) : (s.updChain h f).fresh = s.fresh := (rfl)
@[simp] theorem State.updChain_hbm (s : State) (h) (f) : (s.updChain h f).hbm = s.hbm := (rfl)
@[simp] theorem State.updChain_dev (s : State) (h) (f) : (s.updChain h f).dev = s.dev := (rfl)
@[simp] theorem State.updChain_clk (s : State) (h) (f) : (s.updChain h f).clk = s.clk := (rfl)
@[simp] theorem State.updChain_pwr (s : State) (h) (f) : (s.updChain h f).pwr = s.pwr := (rfl)
@[simp] theorem State.updChain_thm (s : State) (h) (f) : (s.updChain h f).thm = s.thm := (rfl)
@[simp] theorem State.updChain_safe (s : State) (h) (f) : (s.updChain h f).safe = s.safe := (rfl)
@[simp] theorem State.updChain_lines (s : State) (h) (f) : (s.updChain h f).lines = s.lines := (rfl)
@[simp] theorem State.updChain_groups (s : State) (h) (f) : (s.updChain h f).groups = s.groups := (rfl)
@[simp] theorem State.updChain_spill (s : State) (h) (f) : (s.updChain h f).spill = s.spill := (rfl)
@[simp] theorem State.updChain_fields (s : State) (h) (f) : (s.updChain h f).fields = s.fields := (rfl)
@[simp] theorem State.updChain_babbitt (s : State) (h) (f) : (s.updChain h f).babbitt = s.babbitt := (rfl)
@[simp] theorem State.updChain_cap (s : State) (h) (f) : (s.updChain h f).cap = s.cap := (rfl)
@[simp] theorem State.updChain_net (s : State) (h) (f) : (s.updChain h f).net = s.net := (rfl)
@[simp] theorem State.updChain_lanes (s : State) (h) (f) : (s.updChain h f).lanes = s.lanes := (rfl)
@[simp] theorem State.updChain_pair (s : State) (h) (f) : (s.updChain h f).pair = s.pair := (rfl)
@[simp] theorem State.updChain_dom (s : State) (h) (f) : (s.updChain h f).dom = s.dom := (rfl)
@[simp] theorem State.updChain_mem (s : State) (h) (f) : (s.updChain h f).mem = s.mem := (rfl)
@[simp] theorem State.updChain_hk (s : State) (h) (f) : (s.updChain h f).hk = s.hk := (rfl)
@[simp] theorem State.updChain_boot (s : State) (h) (f) : (s.updChain h f).boot = s.boot := (rfl)
@[simp] theorem State.updChain_mspi (s : State) (h) (f) : (s.updChain h f).mspi = s.mspi := (rfl)
@[simp] theorem State.updChain_free (s : State) (h) (f) : (s.updChain h f).free = s.free := (rfl)
@[simp] theorem State.updChain_word (s : State) (h) (f) (x) : (s.updChain h f).word x = s.word x := (rfl)
@[simp] theorem State.updChain_rd (s : State) (h) (f) (x) : (s.updChain h f).rd x = s.rd x := (rfl)
@[simp] theorem State.updChain_hbmByte (s : State) (h) (f) (x) : (s.updChain h f).hbmByte x = s.hbmByte x := (rfl)
@[simp] theorem State.updChain_now (s : State) (h) (f) : (s.updChain h f).now = s.now := (rfl)

@[simp] theorem State.updServo_pending (s : State) (h) (f) : (s.updServo h f).pending = s.pending := (rfl)
@[simp] theorem State.updServo_dt (s : State) (h) (f) : (s.updServo h f).dt = s.dt := (rfl)
@[simp] theorem State.updServo_fine (s : State) (h) (f) : (s.updServo h f).fine = s.fine := (rfl)
@[simp] theorem State.updServo_regs (s : State) (h) (f) : (s.updServo h f).regs = s.regs := (rfl)
@[simp] theorem State.updServo_fresh (s : State) (h) (f) : (s.updServo h f).fresh = s.fresh := (rfl)
@[simp] theorem State.updServo_hbm (s : State) (h) (f) : (s.updServo h f).hbm = s.hbm := (rfl)
@[simp] theorem State.updServo_dev (s : State) (h) (f) : (s.updServo h f).dev = s.dev := (rfl)
@[simp] theorem State.updServo_clk (s : State) (h) (f) : (s.updServo h f).clk = s.clk := (rfl)
@[simp] theorem State.updServo_pwr (s : State) (h) (f) : (s.updServo h f).pwr = s.pwr := (rfl)
@[simp] theorem State.updServo_thm (s : State) (h) (f) : (s.updServo h f).thm = s.thm := (rfl)
@[simp] theorem State.updServo_safe (s : State) (h) (f) : (s.updServo h f).safe = s.safe := (rfl)
@[simp] theorem State.updServo_lines (s : State) (h) (f) : (s.updServo h f).lines = s.lines := (rfl)
@[simp] theorem State.updServo_groups (s : State) (h) (f) : (s.updServo h f).groups = s.groups := (rfl)
@[simp] theorem State.updServo_spill (s : State) (h) (f) : (s.updServo h f).spill = s.spill := (rfl)
@[simp] theorem State.updServo_fields (s : State) (h) (f) : (s.updServo h f).fields = s.fields := (rfl)
@[simp] theorem State.updServo_babbitt (s : State) (h) (f) : (s.updServo h f).babbitt = s.babbitt := (rfl)
@[simp] theorem State.updServo_cap (s : State) (h) (f) : (s.updServo h f).cap = s.cap := (rfl)
@[simp] theorem State.updServo_net (s : State) (h) (f) : (s.updServo h f).net = s.net := (rfl)
@[simp] theorem State.updServo_lanes (s : State) (h) (f) : (s.updServo h f).lanes = s.lanes := (rfl)
@[simp] theorem State.updServo_pair (s : State) (h) (f) : (s.updServo h f).pair = s.pair := (rfl)
@[simp] theorem State.updServo_dom (s : State) (h) (f) : (s.updServo h f).dom = s.dom := (rfl)
@[simp] theorem State.updServo_mem (s : State) (h) (f) : (s.updServo h f).mem = s.mem := (rfl)
@[simp] theorem State.updServo_hk (s : State) (h) (f) : (s.updServo h f).hk = s.hk := (rfl)
@[simp] theorem State.updServo_boot (s : State) (h) (f) : (s.updServo h f).boot = s.boot := (rfl)
@[simp] theorem State.updServo_mspi (s : State) (h) (f) : (s.updServo h f).mspi = s.mspi := (rfl)
@[simp] theorem State.updServo_free (s : State) (h) (f) : (s.updServo h f).free = s.free := (rfl)
@[simp] theorem State.updServo_word (s : State) (h) (f) (x) : (s.updServo h f).word x = s.word x := (rfl)
@[simp] theorem State.updServo_rd (s : State) (h) (f) (x) : (s.updServo h f).rd x = s.rd x := (rfl)
@[simp] theorem State.updServo_hbmByte (s : State) (h) (f) (x) : (s.updServo h f).hbmByte x = s.hbmByte x := (rfl)
@[simp] theorem State.updServo_now (s : State) (h) (f) : (s.updServo h f).now = s.now := (rfl)

@[simp] theorem State.updEye_pending (s : State) (h) (f) : (s.updEye h f).pending = s.pending := (rfl)
@[simp] theorem State.updEye_dt (s : State) (h) (f) : (s.updEye h f).dt = s.dt := (rfl)
@[simp] theorem State.updEye_fine (s : State) (h) (f) : (s.updEye h f).fine = s.fine := (rfl)
@[simp] theorem State.updEye_regs (s : State) (h) (f) : (s.updEye h f).regs = s.regs := (rfl)
@[simp] theorem State.updEye_fresh (s : State) (h) (f) : (s.updEye h f).fresh = s.fresh := (rfl)
@[simp] theorem State.updEye_hbm (s : State) (h) (f) : (s.updEye h f).hbm = s.hbm := (rfl)
@[simp] theorem State.updEye_dev (s : State) (h) (f) : (s.updEye h f).dev = s.dev := (rfl)
@[simp] theorem State.updEye_clk (s : State) (h) (f) : (s.updEye h f).clk = s.clk := (rfl)
@[simp] theorem State.updEye_pwr (s : State) (h) (f) : (s.updEye h f).pwr = s.pwr := (rfl)
@[simp] theorem State.updEye_thm (s : State) (h) (f) : (s.updEye h f).thm = s.thm := (rfl)
@[simp] theorem State.updEye_safe (s : State) (h) (f) : (s.updEye h f).safe = s.safe := (rfl)
@[simp] theorem State.updEye_lines (s : State) (h) (f) : (s.updEye h f).lines = s.lines := (rfl)
@[simp] theorem State.updEye_groups (s : State) (h) (f) : (s.updEye h f).groups = s.groups := (rfl)
@[simp] theorem State.updEye_spill (s : State) (h) (f) : (s.updEye h f).spill = s.spill := (rfl)
@[simp] theorem State.updEye_fields (s : State) (h) (f) : (s.updEye h f).fields = s.fields := (rfl)
@[simp] theorem State.updEye_babbitt (s : State) (h) (f) : (s.updEye h f).babbitt = s.babbitt := (rfl)
@[simp] theorem State.updEye_cap (s : State) (h) (f) : (s.updEye h f).cap = s.cap := (rfl)
@[simp] theorem State.updEye_net (s : State) (h) (f) : (s.updEye h f).net = s.net := (rfl)
@[simp] theorem State.updEye_lanes (s : State) (h) (f) : (s.updEye h f).lanes = s.lanes := (rfl)
@[simp] theorem State.updEye_pair (s : State) (h) (f) : (s.updEye h f).pair = s.pair := (rfl)
@[simp] theorem State.updEye_dom (s : State) (h) (f) : (s.updEye h f).dom = s.dom := (rfl)
@[simp] theorem State.updEye_mem (s : State) (h) (f) : (s.updEye h f).mem = s.mem := (rfl)
@[simp] theorem State.updEye_hk (s : State) (h) (f) : (s.updEye h f).hk = s.hk := (rfl)
@[simp] theorem State.updEye_boot (s : State) (h) (f) : (s.updEye h f).boot = s.boot := (rfl)
@[simp] theorem State.updEye_mspi (s : State) (h) (f) : (s.updEye h f).mspi = s.mspi := (rfl)
@[simp] theorem State.updEye_free (s : State) (h) (f) : (s.updEye h f).free = s.free := (rfl)
@[simp] theorem State.updEye_word (s : State) (h) (f) (x) : (s.updEye h f).word x = s.word x := (rfl)
@[simp] theorem State.updEye_rd (s : State) (h) (f) (x) : (s.updEye h f).rd x = s.rd x := (rfl)
@[simp] theorem State.updEye_hbmByte (s : State) (h) (f) (x) : (s.updEye h f).hbmByte x = s.hbmByte x := (rfl)
@[simp] theorem State.updEye_now (s : State) (h) (f) : (s.updEye h f).now = s.now := (rfl)

@[simp] theorem State.updPower_pending (s : State) (h) (f) : (s.updPower h f).pending = s.pending := (rfl)
@[simp] theorem State.updPower_dt (s : State) (h) (f) : (s.updPower h f).dt = s.dt := (rfl)
@[simp] theorem State.updPower_fine (s : State) (h) (f) : (s.updPower h f).fine = s.fine := (rfl)
@[simp] theorem State.updPower_regs (s : State) (h) (f) : (s.updPower h f).regs = s.regs := (rfl)
@[simp] theorem State.updPower_fresh (s : State) (h) (f) : (s.updPower h f).fresh = s.fresh := (rfl)
@[simp] theorem State.updPower_hbm (s : State) (h) (f) : (s.updPower h f).hbm = s.hbm := (rfl)
@[simp] theorem State.updPower_dev (s : State) (h) (f) : (s.updPower h f).dev = s.dev := (rfl)
@[simp] theorem State.updPower_clk (s : State) (h) (f) : (s.updPower h f).clk = s.clk := (rfl)
@[simp] theorem State.updPower_pwr (s : State) (h) (f) : (s.updPower h f).pwr = s.pwr := (rfl)
@[simp] theorem State.updPower_thm (s : State) (h) (f) : (s.updPower h f).thm = s.thm := (rfl)
@[simp] theorem State.updPower_safe (s : State) (h) (f) : (s.updPower h f).safe = s.safe := (rfl)
@[simp] theorem State.updPower_lines (s : State) (h) (f) : (s.updPower h f).lines = s.lines := (rfl)
@[simp] theorem State.updPower_groups (s : State) (h) (f) : (s.updPower h f).groups = s.groups := (rfl)
@[simp] theorem State.updPower_spill (s : State) (h) (f) : (s.updPower h f).spill = s.spill := (rfl)
@[simp] theorem State.updPower_fields (s : State) (h) (f) : (s.updPower h f).fields = s.fields := (rfl)
@[simp] theorem State.updPower_babbitt (s : State) (h) (f) : (s.updPower h f).babbitt = s.babbitt := (rfl)
@[simp] theorem State.updPower_cap (s : State) (h) (f) : (s.updPower h f).cap = s.cap := (rfl)
@[simp] theorem State.updPower_net (s : State) (h) (f) : (s.updPower h f).net = s.net := (rfl)
@[simp] theorem State.updPower_lanes (s : State) (h) (f) : (s.updPower h f).lanes = s.lanes := (rfl)
@[simp] theorem State.updPower_pair (s : State) (h) (f) : (s.updPower h f).pair = s.pair := (rfl)
@[simp] theorem State.updPower_dom (s : State) (h) (f) : (s.updPower h f).dom = s.dom := (rfl)
@[simp] theorem State.updPower_mem (s : State) (h) (f) : (s.updPower h f).mem = s.mem := (rfl)
@[simp] theorem State.updPower_hk (s : State) (h) (f) : (s.updPower h f).hk = s.hk := (rfl)
@[simp] theorem State.updPower_boot (s : State) (h) (f) : (s.updPower h f).boot = s.boot := (rfl)
@[simp] theorem State.updPower_mspi (s : State) (h) (f) : (s.updPower h f).mspi = s.mspi := (rfl)
@[simp] theorem State.updPower_free (s : State) (h) (f) : (s.updPower h f).free = s.free := (rfl)
@[simp] theorem State.updPower_word (s : State) (h) (f) (x) : (s.updPower h f).word x = s.word x := (rfl)
@[simp] theorem State.updPower_rd (s : State) (h) (f) (x) : (s.updPower h f).rd x = s.rd x := (rfl)
@[simp] theorem State.updPower_hbmByte (s : State) (h) (f) (x) : (s.updPower h f).hbmByte x = s.hbmByte x := (rfl)
@[simp] theorem State.updPower_now (s : State) (h) (f) : (s.updPower h f).now = s.now := (rfl)

@[simp] theorem State.updClosed_pending (s : State) (h) (f) : (s.updClosed h f).pending = s.pending := (rfl)
@[simp] theorem State.updClosed_dt (s : State) (h) (f) : (s.updClosed h f).dt = s.dt := (rfl)
@[simp] theorem State.updClosed_fine (s : State) (h) (f) : (s.updClosed h f).fine = s.fine := (rfl)
@[simp] theorem State.updClosed_regs (s : State) (h) (f) : (s.updClosed h f).regs = s.regs := (rfl)
@[simp] theorem State.updClosed_fresh (s : State) (h) (f) : (s.updClosed h f).fresh = s.fresh := (rfl)
@[simp] theorem State.updClosed_hbm (s : State) (h) (f) : (s.updClosed h f).hbm = s.hbm := (rfl)
@[simp] theorem State.updClosed_dev (s : State) (h) (f) : (s.updClosed h f).dev = s.dev := (rfl)
@[simp] theorem State.updClosed_clk (s : State) (h) (f) : (s.updClosed h f).clk = s.clk := (rfl)
@[simp] theorem State.updClosed_pwr (s : State) (h) (f) : (s.updClosed h f).pwr = s.pwr := (rfl)
@[simp] theorem State.updClosed_thm (s : State) (h) (f) : (s.updClosed h f).thm = s.thm := (rfl)
@[simp] theorem State.updClosed_safe (s : State) (h) (f) : (s.updClosed h f).safe = s.safe := (rfl)
@[simp] theorem State.updClosed_lines (s : State) (h) (f) : (s.updClosed h f).lines = s.lines := (rfl)
@[simp] theorem State.updClosed_groups (s : State) (h) (f) : (s.updClosed h f).groups = s.groups := (rfl)
@[simp] theorem State.updClosed_spill (s : State) (h) (f) : (s.updClosed h f).spill = s.spill := (rfl)
@[simp] theorem State.updClosed_fields (s : State) (h) (f) : (s.updClosed h f).fields = s.fields := (rfl)
@[simp] theorem State.updClosed_babbitt (s : State) (h) (f) : (s.updClosed h f).babbitt = s.babbitt := (rfl)
@[simp] theorem State.updClosed_cap (s : State) (h) (f) : (s.updClosed h f).cap = s.cap := (rfl)
@[simp] theorem State.updClosed_net (s : State) (h) (f) : (s.updClosed h f).net = s.net := (rfl)
@[simp] theorem State.updClosed_lanes (s : State) (h) (f) : (s.updClosed h f).lanes = s.lanes := (rfl)
@[simp] theorem State.updClosed_pair (s : State) (h) (f) : (s.updClosed h f).pair = s.pair := (rfl)
@[simp] theorem State.updClosed_dom (s : State) (h) (f) : (s.updClosed h f).dom = s.dom := (rfl)
@[simp] theorem State.updClosed_mem (s : State) (h) (f) : (s.updClosed h f).mem = s.mem := (rfl)
@[simp] theorem State.updClosed_hk (s : State) (h) (f) : (s.updClosed h f).hk = s.hk := (rfl)
@[simp] theorem State.updClosed_boot (s : State) (h) (f) : (s.updClosed h f).boot = s.boot := (rfl)
@[simp] theorem State.updClosed_mspi (s : State) (h) (f) : (s.updClosed h f).mspi = s.mspi := (rfl)
@[simp] theorem State.updClosed_free (s : State) (h) (f) : (s.updClosed h f).free = s.free := (rfl)
@[simp] theorem State.updClosed_word (s : State) (h) (f) (x) : (s.updClosed h f).word x = s.word x := (rfl)
@[simp] theorem State.updClosed_rd (s : State) (h) (f) (x) : (s.updClosed h f).rd x = s.rd x := (rfl)
@[simp] theorem State.updClosed_hbmByte (s : State) (h) (f) (x) : (s.updClosed h f).hbmByte x = s.hbmByte x := (rfl)
@[simp] theorem State.updClosed_now (s : State) (h) (f) : (s.updClosed h f).now = s.now := (rfl)

@[simp] theorem State.updBreach_pending (s : State) (h) (b) (f) : (s.updBreach h b f).pending = s.pending := (rfl)
@[simp] theorem State.updBreach_dt (s : State) (h) (b) (f) : (s.updBreach h b f).dt = s.dt := (rfl)
@[simp] theorem State.updBreach_fine (s : State) (h) (b) (f) : (s.updBreach h b f).fine = s.fine := (rfl)
@[simp] theorem State.updBreach_regs (s : State) (h) (b) (f) : (s.updBreach h b f).regs = s.regs := (rfl)
@[simp] theorem State.updBreach_fresh (s : State) (h) (b) (f) : (s.updBreach h b f).fresh = s.fresh := (rfl)
@[simp] theorem State.updBreach_hbm (s : State) (h) (b) (f) : (s.updBreach h b f).hbm = s.hbm := (rfl)
@[simp] theorem State.updBreach_dev (s : State) (h) (b) (f) : (s.updBreach h b f).dev = s.dev := (rfl)
@[simp] theorem State.updBreach_clk (s : State) (h) (b) (f) : (s.updBreach h b f).clk = s.clk := (rfl)
@[simp] theorem State.updBreach_pwr (s : State) (h) (b) (f) : (s.updBreach h b f).pwr = s.pwr := (rfl)
@[simp] theorem State.updBreach_thm (s : State) (h) (b) (f) : (s.updBreach h b f).thm = s.thm := (rfl)
@[simp] theorem State.updBreach_safe (s : State) (h) (b) (f) : (s.updBreach h b f).safe = s.safe := (rfl)
@[simp] theorem State.updBreach_lines (s : State) (h) (b) (f) : (s.updBreach h b f).lines = s.lines := (rfl)
@[simp] theorem State.updBreach_groups (s : State) (h) (b) (f) : (s.updBreach h b f).groups = s.groups := (rfl)
@[simp] theorem State.updBreach_spill (s : State) (h) (b) (f) : (s.updBreach h b f).spill = s.spill := (rfl)
@[simp] theorem State.updBreach_fields (s : State) (h) (b) (f) : (s.updBreach h b f).fields = s.fields := (rfl)
@[simp] theorem State.updBreach_babbitt (s : State) (h) (b) (f) : (s.updBreach h b f).babbitt = s.babbitt := (rfl)
@[simp] theorem State.updBreach_cap (s : State) (h) (b) (f) : (s.updBreach h b f).cap = s.cap := (rfl)
@[simp] theorem State.updBreach_net (s : State) (h) (b) (f) : (s.updBreach h b f).net = s.net := (rfl)
@[simp] theorem State.updBreach_lanes (s : State) (h) (b) (f) : (s.updBreach h b f).lanes = s.lanes := (rfl)
@[simp] theorem State.updBreach_pair (s : State) (h) (b) (f) : (s.updBreach h b f).pair = s.pair := (rfl)
@[simp] theorem State.updBreach_dom (s : State) (h) (b) (f) : (s.updBreach h b f).dom = s.dom := (rfl)
@[simp] theorem State.updBreach_mem (s : State) (h) (b) (f) : (s.updBreach h b f).mem = s.mem := (rfl)
@[simp] theorem State.updBreach_hk (s : State) (h) (b) (f) : (s.updBreach h b f).hk = s.hk := (rfl)
@[simp] theorem State.updBreach_boot (s : State) (h) (b) (f) : (s.updBreach h b f).boot = s.boot := (rfl)
@[simp] theorem State.updBreach_mspi (s : State) (h) (b) (f) : (s.updBreach h b f).mspi = s.mspi := (rfl)
@[simp] theorem State.updBreach_free (s : State) (h) (b) (f) : (s.updBreach h b f).free = s.free := (rfl)
@[simp] theorem State.updBreach_word (s : State) (h) (b) (f) (x) : (s.updBreach h b f).word x = s.word x := (rfl)
@[simp] theorem State.updBreach_rd (s : State) (h) (b) (f) (x) : (s.updBreach h b f).rd x = s.rd x := (rfl)
@[simp] theorem State.updBreach_hbmByte (s : State) (h) (b) (f) (x) : (s.updBreach h b f).hbmByte x = s.hbmByte x := (rfl)
@[simp] theorem State.updBreach_now (s : State) (h) (b) (f) : (s.updBreach h b f).now = s.now := (rfl)

@[simp] theorem State.latch_pending (s : State) (f) : (s.latch f).pending = s.pending := (rfl)
@[simp] theorem State.latch_dt (s : State) (f) : (s.latch f).dt = s.dt := (rfl)
@[simp] theorem State.latch_fine (s : State) (f) : (s.latch f).fine = s.fine := (rfl)
@[simp] theorem State.latch_hbm (s : State) (f) : (s.latch f).hbm = s.hbm := (rfl)
@[simp] theorem State.latch_heads (s : State) (f) : (s.latch f).heads = s.heads := (rfl)
@[simp] theorem State.latch_dev (s : State) (f) : (s.latch f).dev = s.dev := (rfl)
@[simp] theorem State.latch_clk (s : State) (f) : (s.latch f).clk = s.clk := (rfl)
@[simp] theorem State.latch_pwr (s : State) (f) : (s.latch f).pwr = s.pwr := (rfl)
@[simp] theorem State.latch_thm (s : State) (f) : (s.latch f).thm = s.thm := (rfl)
@[simp] theorem State.latch_safe (s : State) (f) : (s.latch f).safe = s.safe := (rfl)
@[simp] theorem State.latch_lines (s : State) (f) : (s.latch f).lines = s.lines := (rfl)
@[simp] theorem State.latch_groups (s : State) (f) : (s.latch f).groups = s.groups := (rfl)
@[simp] theorem State.latch_spill (s : State) (f) : (s.latch f).spill = s.spill := (rfl)
@[simp] theorem State.latch_fields (s : State) (f) : (s.latch f).fields = s.fields := (rfl)
@[simp] theorem State.latch_babbitt (s : State) (f) : (s.latch f).babbitt = s.babbitt := (rfl)
@[simp] theorem State.latch_cap (s : State) (f) : (s.latch f).cap = s.cap := (rfl)
@[simp] theorem State.latch_net (s : State) (f) : (s.latch f).net = s.net := (rfl)
@[simp] theorem State.latch_lanes (s : State) (f) : (s.latch f).lanes = s.lanes := (rfl)
@[simp] theorem State.latch_pair (s : State) (f) : (s.latch f).pair = s.pair := (rfl)
@[simp] theorem State.latch_dom (s : State) (f) : (s.latch f).dom = s.dom := (rfl)
@[simp] theorem State.latch_mem (s : State) (f) : (s.latch f).mem = s.mem := (rfl)
@[simp] theorem State.latch_hk (s : State) (f) : (s.latch f).hk = s.hk := (rfl)
@[simp] theorem State.latch_boot (s : State) (f) : (s.latch f).boot = s.boot := (rfl)
@[simp] theorem State.latch_mspi (s : State) (f) : (s.latch f).mspi = s.mspi := (rfl)
@[simp] theorem State.latch_free (s : State) (f) : (s.latch f).free = s.free := (rfl)
@[simp] theorem State.latch_hbmByte (s : State) (f) (x) : (s.latch f).hbmByte x = s.hbmByte x := (rfl)
@[simp] theorem State.latch_head (s : State) (f) (x) : (s.latch f).head x = s.head x := (rfl)
@[simp] theorem State.latch_now (s : State) (f) : (s.latch f).now = s.now := (rfl)

@[simp] theorem State.updItem_pending (s : State) (h) (n) (f) : (s.updItem h n f).pending = s.pending := (rfl)
@[simp] theorem State.updItem_dt (s : State) (h) (n) (f) : (s.updItem h n f).dt = s.dt := (rfl)
@[simp] theorem State.updItem_fine (s : State) (h) (n) (f) : (s.updItem h n f).fine = s.fine := (rfl)
@[simp] theorem State.updItem_regs (s : State) (h) (n) (f) : (s.updItem h n f).regs = s.regs := (rfl)
@[simp] theorem State.updItem_fresh (s : State) (h) (n) (f) : (s.updItem h n f).fresh = s.fresh := (rfl)
@[simp] theorem State.updItem_hbm (s : State) (h) (n) (f) : (s.updItem h n f).hbm = s.hbm := (rfl)
@[simp] theorem State.updItem_dev (s : State) (h) (n) (f) : (s.updItem h n f).dev = s.dev := (rfl)
@[simp] theorem State.updItem_clk (s : State) (h) (n) (f) : (s.updItem h n f).clk = s.clk := (rfl)
@[simp] theorem State.updItem_pwr (s : State) (h) (n) (f) : (s.updItem h n f).pwr = s.pwr := (rfl)
@[simp] theorem State.updItem_thm (s : State) (h) (n) (f) : (s.updItem h n f).thm = s.thm := (rfl)
@[simp] theorem State.updItem_safe (s : State) (h) (n) (f) : (s.updItem h n f).safe = s.safe := (rfl)
@[simp] theorem State.updItem_lines (s : State) (h) (n) (f) : (s.updItem h n f).lines = s.lines := (rfl)
@[simp] theorem State.updItem_groups (s : State) (h) (n) (f) : (s.updItem h n f).groups = s.groups := (rfl)
@[simp] theorem State.updItem_spill (s : State) (h) (n) (f) : (s.updItem h n f).spill = s.spill := (rfl)
@[simp] theorem State.updItem_fields (s : State) (h) (n) (f) : (s.updItem h n f).fields = s.fields := (rfl)
@[simp] theorem State.updItem_babbitt (s : State) (h) (n) (f) : (s.updItem h n f).babbitt = s.babbitt := (rfl)
@[simp] theorem State.updItem_cap (s : State) (h) (n) (f) : (s.updItem h n f).cap = s.cap := (rfl)
@[simp] theorem State.updItem_net (s : State) (h) (n) (f) : (s.updItem h n f).net = s.net := (rfl)
@[simp] theorem State.updItem_lanes (s : State) (h) (n) (f) : (s.updItem h n f).lanes = s.lanes := (rfl)
@[simp] theorem State.updItem_pair (s : State) (h) (n) (f) : (s.updItem h n f).pair = s.pair := (rfl)
@[simp] theorem State.updItem_dom (s : State) (h) (n) (f) : (s.updItem h n f).dom = s.dom := (rfl)
@[simp] theorem State.updItem_mem (s : State) (h) (n) (f) : (s.updItem h n f).mem = s.mem := (rfl)
@[simp] theorem State.updItem_hk (s : State) (h) (n) (f) : (s.updItem h n f).hk = s.hk := (rfl)
@[simp] theorem State.updItem_boot (s : State) (h) (n) (f) : (s.updItem h n f).boot = s.boot := (rfl)
@[simp] theorem State.updItem_mspi (s : State) (h) (n) (f) : (s.updItem h n f).mspi = s.mspi := (rfl)
@[simp] theorem State.updItem_free (s : State) (h) (n) (f) : (s.updItem h n f).free = s.free := (rfl)
@[simp] theorem State.updItem_word (s : State) (h) (n) (f) (x) : (s.updItem h n f).word x = s.word x := (rfl)
@[simp] theorem State.updItem_rd (s : State) (h) (n) (f) (x) : (s.updItem h n f).rd x = s.rd x := (rfl)
@[simp] theorem State.updItem_hbmByte (s : State) (h) (n) (f) (x) : (s.updItem h n f).hbmByte x = s.hbmByte x := (rfl)
@[simp] theorem State.updItem_now (s : State) (h) (n) (f) : (s.updItem h n f).now = s.now := (rfl)

@[simp] theorem State.updShot_pending (s : State) (h) (k) (f) : (s.updShot h k f).pending = s.pending := (rfl)
@[simp] theorem State.updShot_dt (s : State) (h) (k) (f) : (s.updShot h k f).dt = s.dt := (rfl)
@[simp] theorem State.updShot_fine (s : State) (h) (k) (f) : (s.updShot h k f).fine = s.fine := (rfl)
@[simp] theorem State.updShot_regs (s : State) (h) (k) (f) : (s.updShot h k f).regs = s.regs := (rfl)
@[simp] theorem State.updShot_fresh (s : State) (h) (k) (f) : (s.updShot h k f).fresh = s.fresh := (rfl)
@[simp] theorem State.updShot_hbm (s : State) (h) (k) (f) : (s.updShot h k f).hbm = s.hbm := (rfl)
@[simp] theorem State.updShot_dev (s : State) (h) (k) (f) : (s.updShot h k f).dev = s.dev := (rfl)
@[simp] theorem State.updShot_clk (s : State) (h) (k) (f) : (s.updShot h k f).clk = s.clk := (rfl)
@[simp] theorem State.updShot_pwr (s : State) (h) (k) (f) : (s.updShot h k f).pwr = s.pwr := (rfl)
@[simp] theorem State.updShot_thm (s : State) (h) (k) (f) : (s.updShot h k f).thm = s.thm := (rfl)
@[simp] theorem State.updShot_safe (s : State) (h) (k) (f) : (s.updShot h k f).safe = s.safe := (rfl)
@[simp] theorem State.updShot_lines (s : State) (h) (k) (f) : (s.updShot h k f).lines = s.lines := (rfl)
@[simp] theorem State.updShot_groups (s : State) (h) (k) (f) : (s.updShot h k f).groups = s.groups := (rfl)
@[simp] theorem State.updShot_spill (s : State) (h) (k) (f) : (s.updShot h k f).spill = s.spill := (rfl)
@[simp] theorem State.updShot_fields (s : State) (h) (k) (f) : (s.updShot h k f).fields = s.fields := (rfl)
@[simp] theorem State.updShot_babbitt (s : State) (h) (k) (f) : (s.updShot h k f).babbitt = s.babbitt := (rfl)
@[simp] theorem State.updShot_cap (s : State) (h) (k) (f) : (s.updShot h k f).cap = s.cap := (rfl)
@[simp] theorem State.updShot_net (s : State) (h) (k) (f) : (s.updShot h k f).net = s.net := (rfl)
@[simp] theorem State.updShot_lanes (s : State) (h) (k) (f) : (s.updShot h k f).lanes = s.lanes := (rfl)
@[simp] theorem State.updShot_pair (s : State) (h) (k) (f) : (s.updShot h k f).pair = s.pair := (rfl)
@[simp] theorem State.updShot_dom (s : State) (h) (k) (f) : (s.updShot h k f).dom = s.dom := (rfl)
@[simp] theorem State.updShot_mem (s : State) (h) (k) (f) : (s.updShot h k f).mem = s.mem := (rfl)
@[simp] theorem State.updShot_hk (s : State) (h) (k) (f) : (s.updShot h k f).hk = s.hk := (rfl)
@[simp] theorem State.updShot_boot (s : State) (h) (k) (f) : (s.updShot h k f).boot = s.boot := (rfl)
@[simp] theorem State.updShot_mspi (s : State) (h) (k) (f) : (s.updShot h k f).mspi = s.mspi := (rfl)
@[simp] theorem State.updShot_free (s : State) (h) (k) (f) : (s.updShot h k f).free = s.free := (rfl)
@[simp] theorem State.updShot_word (s : State) (h) (k) (f) (x) : (s.updShot h k f).word x = s.word x := (rfl)
@[simp] theorem State.updShot_rd (s : State) (h) (k) (f) (x) : (s.updShot h k f).rd x = s.rd x := (rfl)
@[simp] theorem State.updShot_hbmByte (s : State) (h) (k) (f) (x) : (s.updShot h k f).hbmByte x = s.hbmByte x := (rfl)
@[simp] theorem State.updShot_now (s : State) (h) (k) (f) : (s.updShot h k f).now = s.now := (rfl)

@[simp] theorem State.updAxis_pending (s : State) (h) (a) (f) : (s.updAxis h a f).pending = s.pending := (rfl)
@[simp] theorem State.updAxis_dt (s : State) (h) (a) (f) : (s.updAxis h a f).dt = s.dt := (rfl)
@[simp] theorem State.updAxis_fine (s : State) (h) (a) (f) : (s.updAxis h a f).fine = s.fine := (rfl)
@[simp] theorem State.updAxis_regs (s : State) (h) (a) (f) : (s.updAxis h a f).regs = s.regs := (rfl)
@[simp] theorem State.updAxis_fresh (s : State) (h) (a) (f) : (s.updAxis h a f).fresh = s.fresh := (rfl)
@[simp] theorem State.updAxis_hbm (s : State) (h) (a) (f) : (s.updAxis h a f).hbm = s.hbm := (rfl)
@[simp] theorem State.updAxis_dev (s : State) (h) (a) (f) : (s.updAxis h a f).dev = s.dev := (rfl)
@[simp] theorem State.updAxis_clk (s : State) (h) (a) (f) : (s.updAxis h a f).clk = s.clk := (rfl)
@[simp] theorem State.updAxis_pwr (s : State) (h) (a) (f) : (s.updAxis h a f).pwr = s.pwr := (rfl)
@[simp] theorem State.updAxis_thm (s : State) (h) (a) (f) : (s.updAxis h a f).thm = s.thm := (rfl)
@[simp] theorem State.updAxis_safe (s : State) (h) (a) (f) : (s.updAxis h a f).safe = s.safe := (rfl)
@[simp] theorem State.updAxis_lines (s : State) (h) (a) (f) : (s.updAxis h a f).lines = s.lines := (rfl)
@[simp] theorem State.updAxis_groups (s : State) (h) (a) (f) : (s.updAxis h a f).groups = s.groups := (rfl)
@[simp] theorem State.updAxis_spill (s : State) (h) (a) (f) : (s.updAxis h a f).spill = s.spill := (rfl)
@[simp] theorem State.updAxis_fields (s : State) (h) (a) (f) : (s.updAxis h a f).fields = s.fields := (rfl)
@[simp] theorem State.updAxis_babbitt (s : State) (h) (a) (f) : (s.updAxis h a f).babbitt = s.babbitt := (rfl)
@[simp] theorem State.updAxis_cap (s : State) (h) (a) (f) : (s.updAxis h a f).cap = s.cap := (rfl)
@[simp] theorem State.updAxis_net (s : State) (h) (a) (f) : (s.updAxis h a f).net = s.net := (rfl)
@[simp] theorem State.updAxis_lanes (s : State) (h) (a) (f) : (s.updAxis h a f).lanes = s.lanes := (rfl)
@[simp] theorem State.updAxis_pair (s : State) (h) (a) (f) : (s.updAxis h a f).pair = s.pair := (rfl)
@[simp] theorem State.updAxis_dom (s : State) (h) (a) (f) : (s.updAxis h a f).dom = s.dom := (rfl)
@[simp] theorem State.updAxis_mem (s : State) (h) (a) (f) : (s.updAxis h a f).mem = s.mem := (rfl)
@[simp] theorem State.updAxis_hk (s : State) (h) (a) (f) : (s.updAxis h a f).hk = s.hk := (rfl)
@[simp] theorem State.updAxis_boot (s : State) (h) (a) (f) : (s.updAxis h a f).boot = s.boot := (rfl)
@[simp] theorem State.updAxis_mspi (s : State) (h) (a) (f) : (s.updAxis h a f).mspi = s.mspi := (rfl)
@[simp] theorem State.updAxis_free (s : State) (h) (a) (f) : (s.updAxis h a f).free = s.free := (rfl)
@[simp] theorem State.updAxis_word (s : State) (h) (a) (f) (x) : (s.updAxis h a f).word x = s.word x := (rfl)
@[simp] theorem State.updAxis_rd (s : State) (h) (a) (f) (x) : (s.updAxis h a f).rd x = s.rd x := (rfl)
@[simp] theorem State.updAxis_hbmByte (s : State) (h) (a) (f) (x) : (s.updAxis h a f).hbmByte x = s.hbmByte x := (rfl)
@[simp] theorem State.updAxis_now (s : State) (h) (a) (f) : (s.updAxis h a f).now = s.now := (rfl)

@[simp] theorem State.updDev_pending (s : State) (f) : (s.updDev f).pending = s.pending := (rfl)
@[simp] theorem State.updDev_dt (s : State) (f) : (s.updDev f).dt = s.dt := (rfl)
@[simp] theorem State.updDev_fine (s : State) (f) : (s.updDev f).fine = s.fine := (rfl)
@[simp] theorem State.updDev_regs (s : State) (f) : (s.updDev f).regs = s.regs := (rfl)
@[simp] theorem State.updDev_fresh (s : State) (f) : (s.updDev f).fresh = s.fresh := (rfl)
@[simp] theorem State.updDev_hbm (s : State) (f) : (s.updDev f).hbm = s.hbm := (rfl)
@[simp] theorem State.updDev_heads (s : State) (f) : (s.updDev f).heads = s.heads := (rfl)
@[simp] theorem State.updDev_dev (s : State) (f) : (s.updDev f).dev = f s.dev := (rfl)
@[simp] theorem State.updDev_clk (s : State) (f) : (s.updDev f).clk = s.clk := (rfl)
@[simp] theorem State.updDev_pwr (s : State) (f) : (s.updDev f).pwr = s.pwr := (rfl)
@[simp] theorem State.updDev_thm (s : State) (f) : (s.updDev f).thm = s.thm := (rfl)
@[simp] theorem State.updDev_safe (s : State) (f) : (s.updDev f).safe = s.safe := (rfl)
@[simp] theorem State.updDev_lines (s : State) (f) : (s.updDev f).lines = s.lines := (rfl)
@[simp] theorem State.updDev_groups (s : State) (f) : (s.updDev f).groups = s.groups := (rfl)
@[simp] theorem State.updDev_spill (s : State) (f) : (s.updDev f).spill = s.spill := (rfl)
@[simp] theorem State.updDev_fields (s : State) (f) : (s.updDev f).fields = s.fields := (rfl)
@[simp] theorem State.updDev_babbitt (s : State) (f) : (s.updDev f).babbitt = s.babbitt := (rfl)
@[simp] theorem State.updDev_cap (s : State) (f) : (s.updDev f).cap = s.cap := (rfl)
@[simp] theorem State.updDev_net (s : State) (f) : (s.updDev f).net = s.net := (rfl)
@[simp] theorem State.updDev_lanes (s : State) (f) : (s.updDev f).lanes = s.lanes := (rfl)
@[simp] theorem State.updDev_pair (s : State) (f) : (s.updDev f).pair = s.pair := (rfl)
@[simp] theorem State.updDev_dom (s : State) (f) : (s.updDev f).dom = s.dom := (rfl)
@[simp] theorem State.updDev_mem (s : State) (f) : (s.updDev f).mem = s.mem := (rfl)
@[simp] theorem State.updDev_hk (s : State) (f) : (s.updDev f).hk = s.hk := (rfl)
@[simp] theorem State.updDev_boot (s : State) (f) : (s.updDev f).boot = s.boot := (rfl)
@[simp] theorem State.updDev_mspi (s : State) (f) : (s.updDev f).mspi = s.mspi := (rfl)
@[simp] theorem State.updDev_free (s : State) (f) : (s.updDev f).free = s.free := (rfl)
@[simp] theorem State.updDev_word (s : State) (f) (x) : (s.updDev f).word x = s.word x := (rfl)
@[simp] theorem State.updDev_rd (s : State) (f) (x) : (s.updDev f).rd x = s.rd x := (rfl)
@[simp] theorem State.updDev_hbmByte (s : State) (f) (x) : (s.updDev f).hbmByte x = s.hbmByte x := (rfl)
@[simp] theorem State.updDev_head (s : State) (f) (x) : (s.updDev f).head x = s.head x := (rfl)
@[simp] theorem State.updDev_now (s : State) (f) : (s.updDev f).now = s.now := (rfl)

@[simp] theorem State.updClk_pending (s : State) (f) : (s.updClk f).pending = s.pending := (rfl)
@[simp] theorem State.updClk_dt (s : State) (f) : (s.updClk f).dt = s.dt := (rfl)
@[simp] theorem State.updClk_fine (s : State) (f) : (s.updClk f).fine = s.fine := (rfl)
@[simp] theorem State.updClk_regs (s : State) (f) : (s.updClk f).regs = s.regs := (rfl)
@[simp] theorem State.updClk_fresh (s : State) (f) : (s.updClk f).fresh = s.fresh := (rfl)
@[simp] theorem State.updClk_hbm (s : State) (f) : (s.updClk f).hbm = s.hbm := (rfl)
@[simp] theorem State.updClk_heads (s : State) (f) : (s.updClk f).heads = s.heads := (rfl)
@[simp] theorem State.updClk_dev (s : State) (f) : (s.updClk f).dev = s.dev := (rfl)
@[simp] theorem State.updClk_clk (s : State) (f) : (s.updClk f).clk = f s.clk := (rfl)
@[simp] theorem State.updClk_pwr (s : State) (f) : (s.updClk f).pwr = s.pwr := (rfl)
@[simp] theorem State.updClk_thm (s : State) (f) : (s.updClk f).thm = s.thm := (rfl)
@[simp] theorem State.updClk_safe (s : State) (f) : (s.updClk f).safe = s.safe := (rfl)
@[simp] theorem State.updClk_lines (s : State) (f) : (s.updClk f).lines = s.lines := (rfl)
@[simp] theorem State.updClk_groups (s : State) (f) : (s.updClk f).groups = s.groups := (rfl)
@[simp] theorem State.updClk_spill (s : State) (f) : (s.updClk f).spill = s.spill := (rfl)
@[simp] theorem State.updClk_fields (s : State) (f) : (s.updClk f).fields = s.fields := (rfl)
@[simp] theorem State.updClk_babbitt (s : State) (f) : (s.updClk f).babbitt = s.babbitt := (rfl)
@[simp] theorem State.updClk_cap (s : State) (f) : (s.updClk f).cap = s.cap := (rfl)
@[simp] theorem State.updClk_net (s : State) (f) : (s.updClk f).net = s.net := (rfl)
@[simp] theorem State.updClk_lanes (s : State) (f) : (s.updClk f).lanes = s.lanes := (rfl)
@[simp] theorem State.updClk_pair (s : State) (f) : (s.updClk f).pair = s.pair := (rfl)
@[simp] theorem State.updClk_dom (s : State) (f) : (s.updClk f).dom = s.dom := (rfl)
@[simp] theorem State.updClk_mem (s : State) (f) : (s.updClk f).mem = s.mem := (rfl)
@[simp] theorem State.updClk_hk (s : State) (f) : (s.updClk f).hk = s.hk := (rfl)
@[simp] theorem State.updClk_boot (s : State) (f) : (s.updClk f).boot = s.boot := (rfl)
@[simp] theorem State.updClk_mspi (s : State) (f) : (s.updClk f).mspi = s.mspi := (rfl)
@[simp] theorem State.updClk_free (s : State) (f) : (s.updClk f).free = s.free := (rfl)
@[simp] theorem State.updClk_word (s : State) (f) (x) : (s.updClk f).word x = s.word x := (rfl)
@[simp] theorem State.updClk_rd (s : State) (f) (x) : (s.updClk f).rd x = s.rd x := (rfl)
@[simp] theorem State.updClk_hbmByte (s : State) (f) (x) : (s.updClk f).hbmByte x = s.hbmByte x := (rfl)
@[simp] theorem State.updClk_head (s : State) (f) (x) : (s.updClk f).head x = s.head x := (rfl)
@[simp] theorem State.updClk_now (s : State) (f) : (s.updClk f).now = s.now := (rfl)

@[simp] theorem State.updPwr_pending (s : State) (f) : (s.updPwr f).pending = s.pending := (rfl)
@[simp] theorem State.updPwr_dt (s : State) (f) : (s.updPwr f).dt = s.dt := (rfl)
@[simp] theorem State.updPwr_fine (s : State) (f) : (s.updPwr f).fine = s.fine := (rfl)
@[simp] theorem State.updPwr_regs (s : State) (f) : (s.updPwr f).regs = s.regs := (rfl)
@[simp] theorem State.updPwr_fresh (s : State) (f) : (s.updPwr f).fresh = s.fresh := (rfl)
@[simp] theorem State.updPwr_hbm (s : State) (f) : (s.updPwr f).hbm = s.hbm := (rfl)
@[simp] theorem State.updPwr_heads (s : State) (f) : (s.updPwr f).heads = s.heads := (rfl)
@[simp] theorem State.updPwr_dev (s : State) (f) : (s.updPwr f).dev = s.dev := (rfl)
@[simp] theorem State.updPwr_clk (s : State) (f) : (s.updPwr f).clk = s.clk := (rfl)
@[simp] theorem State.updPwr_pwr (s : State) (f) : (s.updPwr f).pwr = f s.pwr := (rfl)
@[simp] theorem State.updPwr_thm (s : State) (f) : (s.updPwr f).thm = s.thm := (rfl)
@[simp] theorem State.updPwr_safe (s : State) (f) : (s.updPwr f).safe = s.safe := (rfl)
@[simp] theorem State.updPwr_lines (s : State) (f) : (s.updPwr f).lines = s.lines := (rfl)
@[simp] theorem State.updPwr_groups (s : State) (f) : (s.updPwr f).groups = s.groups := (rfl)
@[simp] theorem State.updPwr_spill (s : State) (f) : (s.updPwr f).spill = s.spill := (rfl)
@[simp] theorem State.updPwr_fields (s : State) (f) : (s.updPwr f).fields = s.fields := (rfl)
@[simp] theorem State.updPwr_babbitt (s : State) (f) : (s.updPwr f).babbitt = s.babbitt := (rfl)
@[simp] theorem State.updPwr_cap (s : State) (f) : (s.updPwr f).cap = s.cap := (rfl)
@[simp] theorem State.updPwr_net (s : State) (f) : (s.updPwr f).net = s.net := (rfl)
@[simp] theorem State.updPwr_lanes (s : State) (f) : (s.updPwr f).lanes = s.lanes := (rfl)
@[simp] theorem State.updPwr_pair (s : State) (f) : (s.updPwr f).pair = s.pair := (rfl)
@[simp] theorem State.updPwr_dom (s : State) (f) : (s.updPwr f).dom = s.dom := (rfl)
@[simp] theorem State.updPwr_mem (s : State) (f) : (s.updPwr f).mem = s.mem := (rfl)
@[simp] theorem State.updPwr_hk (s : State) (f) : (s.updPwr f).hk = s.hk := (rfl)
@[simp] theorem State.updPwr_boot (s : State) (f) : (s.updPwr f).boot = s.boot := (rfl)
@[simp] theorem State.updPwr_mspi (s : State) (f) : (s.updPwr f).mspi = s.mspi := (rfl)
@[simp] theorem State.updPwr_free (s : State) (f) : (s.updPwr f).free = s.free := (rfl)
@[simp] theorem State.updPwr_word (s : State) (f) (x) : (s.updPwr f).word x = s.word x := (rfl)
@[simp] theorem State.updPwr_rd (s : State) (f) (x) : (s.updPwr f).rd x = s.rd x := (rfl)
@[simp] theorem State.updPwr_hbmByte (s : State) (f) (x) : (s.updPwr f).hbmByte x = s.hbmByte x := (rfl)
@[simp] theorem State.updPwr_head (s : State) (f) (x) : (s.updPwr f).head x = s.head x := (rfl)
@[simp] theorem State.updPwr_now (s : State) (f) : (s.updPwr f).now = s.now := (rfl)

@[simp] theorem State.updThm_pending (s : State) (f) : (s.updThm f).pending = s.pending := (rfl)
@[simp] theorem State.updThm_dt (s : State) (f) : (s.updThm f).dt = s.dt := (rfl)
@[simp] theorem State.updThm_fine (s : State) (f) : (s.updThm f).fine = s.fine := (rfl)
@[simp] theorem State.updThm_regs (s : State) (f) : (s.updThm f).regs = s.regs := (rfl)
@[simp] theorem State.updThm_fresh (s : State) (f) : (s.updThm f).fresh = s.fresh := (rfl)
@[simp] theorem State.updThm_hbm (s : State) (f) : (s.updThm f).hbm = s.hbm := (rfl)
@[simp] theorem State.updThm_heads (s : State) (f) : (s.updThm f).heads = s.heads := (rfl)
@[simp] theorem State.updThm_dev (s : State) (f) : (s.updThm f).dev = s.dev := (rfl)
@[simp] theorem State.updThm_clk (s : State) (f) : (s.updThm f).clk = s.clk := (rfl)
@[simp] theorem State.updThm_pwr (s : State) (f) : (s.updThm f).pwr = s.pwr := (rfl)
@[simp] theorem State.updThm_thm (s : State) (f) : (s.updThm f).thm = f s.thm := (rfl)
@[simp] theorem State.updThm_safe (s : State) (f) : (s.updThm f).safe = s.safe := (rfl)
@[simp] theorem State.updThm_lines (s : State) (f) : (s.updThm f).lines = s.lines := (rfl)
@[simp] theorem State.updThm_groups (s : State) (f) : (s.updThm f).groups = s.groups := (rfl)
@[simp] theorem State.updThm_spill (s : State) (f) : (s.updThm f).spill = s.spill := (rfl)
@[simp] theorem State.updThm_fields (s : State) (f) : (s.updThm f).fields = s.fields := (rfl)
@[simp] theorem State.updThm_babbitt (s : State) (f) : (s.updThm f).babbitt = s.babbitt := (rfl)
@[simp] theorem State.updThm_cap (s : State) (f) : (s.updThm f).cap = s.cap := (rfl)
@[simp] theorem State.updThm_net (s : State) (f) : (s.updThm f).net = s.net := (rfl)
@[simp] theorem State.updThm_lanes (s : State) (f) : (s.updThm f).lanes = s.lanes := (rfl)
@[simp] theorem State.updThm_pair (s : State) (f) : (s.updThm f).pair = s.pair := (rfl)
@[simp] theorem State.updThm_dom (s : State) (f) : (s.updThm f).dom = s.dom := (rfl)
@[simp] theorem State.updThm_mem (s : State) (f) : (s.updThm f).mem = s.mem := (rfl)
@[simp] theorem State.updThm_hk (s : State) (f) : (s.updThm f).hk = s.hk := (rfl)
@[simp] theorem State.updThm_boot (s : State) (f) : (s.updThm f).boot = s.boot := (rfl)
@[simp] theorem State.updThm_mspi (s : State) (f) : (s.updThm f).mspi = s.mspi := (rfl)
@[simp] theorem State.updThm_free (s : State) (f) : (s.updThm f).free = s.free := (rfl)
@[simp] theorem State.updThm_word (s : State) (f) (x) : (s.updThm f).word x = s.word x := (rfl)
@[simp] theorem State.updThm_rd (s : State) (f) (x) : (s.updThm f).rd x = s.rd x := (rfl)
@[simp] theorem State.updThm_hbmByte (s : State) (f) (x) : (s.updThm f).hbmByte x = s.hbmByte x := (rfl)
@[simp] theorem State.updThm_head (s : State) (f) (x) : (s.updThm f).head x = s.head x := (rfl)
@[simp] theorem State.updThm_now (s : State) (f) : (s.updThm f).now = s.now := (rfl)

@[simp] theorem State.updSafe_pending (s : State) (f) : (s.updSafe f).pending = s.pending := (rfl)
@[simp] theorem State.updSafe_dt (s : State) (f) : (s.updSafe f).dt = s.dt := (rfl)
@[simp] theorem State.updSafe_fine (s : State) (f) : (s.updSafe f).fine = s.fine := (rfl)
@[simp] theorem State.updSafe_regs (s : State) (f) : (s.updSafe f).regs = s.regs := (rfl)
@[simp] theorem State.updSafe_fresh (s : State) (f) : (s.updSafe f).fresh = s.fresh := (rfl)
@[simp] theorem State.updSafe_hbm (s : State) (f) : (s.updSafe f).hbm = s.hbm := (rfl)
@[simp] theorem State.updSafe_heads (s : State) (f) : (s.updSafe f).heads = s.heads := (rfl)
@[simp] theorem State.updSafe_dev (s : State) (f) : (s.updSafe f).dev = s.dev := (rfl)
@[simp] theorem State.updSafe_clk (s : State) (f) : (s.updSafe f).clk = s.clk := (rfl)
@[simp] theorem State.updSafe_pwr (s : State) (f) : (s.updSafe f).pwr = s.pwr := (rfl)
@[simp] theorem State.updSafe_thm (s : State) (f) : (s.updSafe f).thm = s.thm := (rfl)
@[simp] theorem State.updSafe_safe (s : State) (f) : (s.updSafe f).safe = f s.safe := (rfl)
@[simp] theorem State.updSafe_lines (s : State) (f) : (s.updSafe f).lines = s.lines := (rfl)
@[simp] theorem State.updSafe_groups (s : State) (f) : (s.updSafe f).groups = s.groups := (rfl)
@[simp] theorem State.updSafe_spill (s : State) (f) : (s.updSafe f).spill = s.spill := (rfl)
@[simp] theorem State.updSafe_fields (s : State) (f) : (s.updSafe f).fields = s.fields := (rfl)
@[simp] theorem State.updSafe_babbitt (s : State) (f) : (s.updSafe f).babbitt = s.babbitt := (rfl)
@[simp] theorem State.updSafe_cap (s : State) (f) : (s.updSafe f).cap = s.cap := (rfl)
@[simp] theorem State.updSafe_net (s : State) (f) : (s.updSafe f).net = s.net := (rfl)
@[simp] theorem State.updSafe_lanes (s : State) (f) : (s.updSafe f).lanes = s.lanes := (rfl)
@[simp] theorem State.updSafe_pair (s : State) (f) : (s.updSafe f).pair = s.pair := (rfl)
@[simp] theorem State.updSafe_dom (s : State) (f) : (s.updSafe f).dom = s.dom := (rfl)
@[simp] theorem State.updSafe_mem (s : State) (f) : (s.updSafe f).mem = s.mem := (rfl)
@[simp] theorem State.updSafe_hk (s : State) (f) : (s.updSafe f).hk = s.hk := (rfl)
@[simp] theorem State.updSafe_boot (s : State) (f) : (s.updSafe f).boot = s.boot := (rfl)
@[simp] theorem State.updSafe_mspi (s : State) (f) : (s.updSafe f).mspi = s.mspi := (rfl)
@[simp] theorem State.updSafe_free (s : State) (f) : (s.updSafe f).free = s.free := (rfl)
@[simp] theorem State.updSafe_word (s : State) (f) (x) : (s.updSafe f).word x = s.word x := (rfl)
@[simp] theorem State.updSafe_rd (s : State) (f) (x) : (s.updSafe f).rd x = s.rd x := (rfl)
@[simp] theorem State.updSafe_hbmByte (s : State) (f) (x) : (s.updSafe f).hbmByte x = s.hbmByte x := (rfl)
@[simp] theorem State.updSafe_head (s : State) (f) (x) : (s.updSafe f).head x = s.head x := (rfl)
@[simp] theorem State.updSafe_now (s : State) (f) : (s.updSafe f).now = s.now := (rfl)

@[simp] theorem State.updCap_pending (s : State) (f) : (s.updCap f).pending = s.pending := (rfl)
@[simp] theorem State.updCap_dt (s : State) (f) : (s.updCap f).dt = s.dt := (rfl)
@[simp] theorem State.updCap_fine (s : State) (f) : (s.updCap f).fine = s.fine := (rfl)
@[simp] theorem State.updCap_regs (s : State) (f) : (s.updCap f).regs = s.regs := (rfl)
@[simp] theorem State.updCap_fresh (s : State) (f) : (s.updCap f).fresh = s.fresh := (rfl)
@[simp] theorem State.updCap_hbm (s : State) (f) : (s.updCap f).hbm = s.hbm := (rfl)
@[simp] theorem State.updCap_heads (s : State) (f) : (s.updCap f).heads = s.heads := (rfl)
@[simp] theorem State.updCap_dev (s : State) (f) : (s.updCap f).dev = s.dev := (rfl)
@[simp] theorem State.updCap_clk (s : State) (f) : (s.updCap f).clk = s.clk := (rfl)
@[simp] theorem State.updCap_pwr (s : State) (f) : (s.updCap f).pwr = s.pwr := (rfl)
@[simp] theorem State.updCap_thm (s : State) (f) : (s.updCap f).thm = s.thm := (rfl)
@[simp] theorem State.updCap_safe (s : State) (f) : (s.updCap f).safe = s.safe := (rfl)
@[simp] theorem State.updCap_lines (s : State) (f) : (s.updCap f).lines = s.lines := (rfl)
@[simp] theorem State.updCap_groups (s : State) (f) : (s.updCap f).groups = s.groups := (rfl)
@[simp] theorem State.updCap_spill (s : State) (f) : (s.updCap f).spill = s.spill := (rfl)
@[simp] theorem State.updCap_fields (s : State) (f) : (s.updCap f).fields = s.fields := (rfl)
@[simp] theorem State.updCap_babbitt (s : State) (f) : (s.updCap f).babbitt = s.babbitt := (rfl)
@[simp] theorem State.updCap_cap (s : State) (f) : (s.updCap f).cap = f s.cap := (rfl)
@[simp] theorem State.updCap_net (s : State) (f) : (s.updCap f).net = s.net := (rfl)
@[simp] theorem State.updCap_lanes (s : State) (f) : (s.updCap f).lanes = s.lanes := (rfl)
@[simp] theorem State.updCap_pair (s : State) (f) : (s.updCap f).pair = s.pair := (rfl)
@[simp] theorem State.updCap_dom (s : State) (f) : (s.updCap f).dom = s.dom := (rfl)
@[simp] theorem State.updCap_mem (s : State) (f) : (s.updCap f).mem = s.mem := (rfl)
@[simp] theorem State.updCap_hk (s : State) (f) : (s.updCap f).hk = s.hk := (rfl)
@[simp] theorem State.updCap_boot (s : State) (f) : (s.updCap f).boot = s.boot := (rfl)
@[simp] theorem State.updCap_mspi (s : State) (f) : (s.updCap f).mspi = s.mspi := (rfl)
@[simp] theorem State.updCap_free (s : State) (f) : (s.updCap f).free = s.free := (rfl)
@[simp] theorem State.updCap_word (s : State) (f) (x) : (s.updCap f).word x = s.word x := (rfl)
@[simp] theorem State.updCap_rd (s : State) (f) (x) : (s.updCap f).rd x = s.rd x := (rfl)
@[simp] theorem State.updCap_hbmByte (s : State) (f) (x) : (s.updCap f).hbmByte x = s.hbmByte x := (rfl)
@[simp] theorem State.updCap_head (s : State) (f) (x) : (s.updCap f).head x = s.head x := (rfl)
@[simp] theorem State.updCap_now (s : State) (f) : (s.updCap f).now = s.now := (rfl)

@[simp] theorem State.updPair_pending (s : State) (f) : (s.updPair f).pending = s.pending := (rfl)
@[simp] theorem State.updPair_dt (s : State) (f) : (s.updPair f).dt = s.dt := (rfl)
@[simp] theorem State.updPair_fine (s : State) (f) : (s.updPair f).fine = s.fine := (rfl)
@[simp] theorem State.updPair_regs (s : State) (f) : (s.updPair f).regs = s.regs := (rfl)
@[simp] theorem State.updPair_fresh (s : State) (f) : (s.updPair f).fresh = s.fresh := (rfl)
@[simp] theorem State.updPair_hbm (s : State) (f) : (s.updPair f).hbm = s.hbm := (rfl)
@[simp] theorem State.updPair_heads (s : State) (f) : (s.updPair f).heads = s.heads := (rfl)
@[simp] theorem State.updPair_dev (s : State) (f) : (s.updPair f).dev = s.dev := (rfl)
@[simp] theorem State.updPair_clk (s : State) (f) : (s.updPair f).clk = s.clk := (rfl)
@[simp] theorem State.updPair_pwr (s : State) (f) : (s.updPair f).pwr = s.pwr := (rfl)
@[simp] theorem State.updPair_thm (s : State) (f) : (s.updPair f).thm = s.thm := (rfl)
@[simp] theorem State.updPair_safe (s : State) (f) : (s.updPair f).safe = s.safe := (rfl)
@[simp] theorem State.updPair_lines (s : State) (f) : (s.updPair f).lines = s.lines := (rfl)
@[simp] theorem State.updPair_groups (s : State) (f) : (s.updPair f).groups = s.groups := (rfl)
@[simp] theorem State.updPair_spill (s : State) (f) : (s.updPair f).spill = s.spill := (rfl)
@[simp] theorem State.updPair_fields (s : State) (f) : (s.updPair f).fields = s.fields := (rfl)
@[simp] theorem State.updPair_babbitt (s : State) (f) : (s.updPair f).babbitt = s.babbitt := (rfl)
@[simp] theorem State.updPair_cap (s : State) (f) : (s.updPair f).cap = s.cap := (rfl)
@[simp] theorem State.updPair_net (s : State) (f) : (s.updPair f).net = s.net := (rfl)
@[simp] theorem State.updPair_lanes (s : State) (f) : (s.updPair f).lanes = s.lanes := (rfl)
@[simp] theorem State.updPair_pair (s : State) (f) : (s.updPair f).pair = f s.pair := (rfl)
@[simp] theorem State.updPair_dom (s : State) (f) : (s.updPair f).dom = s.dom := (rfl)
@[simp] theorem State.updPair_mem (s : State) (f) : (s.updPair f).mem = s.mem := (rfl)
@[simp] theorem State.updPair_hk (s : State) (f) : (s.updPair f).hk = s.hk := (rfl)
@[simp] theorem State.updPair_boot (s : State) (f) : (s.updPair f).boot = s.boot := (rfl)
@[simp] theorem State.updPair_mspi (s : State) (f) : (s.updPair f).mspi = s.mspi := (rfl)
@[simp] theorem State.updPair_free (s : State) (f) : (s.updPair f).free = s.free := (rfl)
@[simp] theorem State.updPair_word (s : State) (f) (x) : (s.updPair f).word x = s.word x := (rfl)
@[simp] theorem State.updPair_rd (s : State) (f) (x) : (s.updPair f).rd x = s.rd x := (rfl)
@[simp] theorem State.updPair_hbmByte (s : State) (f) (x) : (s.updPair f).hbmByte x = s.hbmByte x := (rfl)
@[simp] theorem State.updPair_head (s : State) (f) (x) : (s.updPair f).head x = s.head x := (rfl)
@[simp] theorem State.updPair_now (s : State) (f) : (s.updPair f).now = s.now := (rfl)

@[simp] theorem State.updNet_pending (s : State) (f) : (s.updNet f).pending = s.pending := (rfl)
@[simp] theorem State.updNet_dt (s : State) (f) : (s.updNet f).dt = s.dt := (rfl)
@[simp] theorem State.updNet_fine (s : State) (f) : (s.updNet f).fine = s.fine := (rfl)
@[simp] theorem State.updNet_regs (s : State) (f) : (s.updNet f).regs = s.regs := (rfl)
@[simp] theorem State.updNet_fresh (s : State) (f) : (s.updNet f).fresh = s.fresh := (rfl)
@[simp] theorem State.updNet_hbm (s : State) (f) : (s.updNet f).hbm = s.hbm := (rfl)
@[simp] theorem State.updNet_heads (s : State) (f) : (s.updNet f).heads = s.heads := (rfl)
@[simp] theorem State.updNet_dev (s : State) (f) : (s.updNet f).dev = s.dev := (rfl)
@[simp] theorem State.updNet_clk (s : State) (f) : (s.updNet f).clk = s.clk := (rfl)
@[simp] theorem State.updNet_pwr (s : State) (f) : (s.updNet f).pwr = s.pwr := (rfl)
@[simp] theorem State.updNet_thm (s : State) (f) : (s.updNet f).thm = s.thm := (rfl)
@[simp] theorem State.updNet_safe (s : State) (f) : (s.updNet f).safe = s.safe := (rfl)
@[simp] theorem State.updNet_lines (s : State) (f) : (s.updNet f).lines = s.lines := (rfl)
@[simp] theorem State.updNet_groups (s : State) (f) : (s.updNet f).groups = s.groups := (rfl)
@[simp] theorem State.updNet_spill (s : State) (f) : (s.updNet f).spill = s.spill := (rfl)
@[simp] theorem State.updNet_fields (s : State) (f) : (s.updNet f).fields = s.fields := (rfl)
@[simp] theorem State.updNet_babbitt (s : State) (f) : (s.updNet f).babbitt = s.babbitt := (rfl)
@[simp] theorem State.updNet_cap (s : State) (f) : (s.updNet f).cap = s.cap := (rfl)
@[simp] theorem State.updNet_net (s : State) (f) : (s.updNet f).net = f s.net := (rfl)
@[simp] theorem State.updNet_lanes (s : State) (f) : (s.updNet f).lanes = s.lanes := (rfl)
@[simp] theorem State.updNet_pair (s : State) (f) : (s.updNet f).pair = s.pair := (rfl)
@[simp] theorem State.updNet_dom (s : State) (f) : (s.updNet f).dom = s.dom := (rfl)
@[simp] theorem State.updNet_mem (s : State) (f) : (s.updNet f).mem = s.mem := (rfl)
@[simp] theorem State.updNet_hk (s : State) (f) : (s.updNet f).hk = s.hk := (rfl)
@[simp] theorem State.updNet_boot (s : State) (f) : (s.updNet f).boot = s.boot := (rfl)
@[simp] theorem State.updNet_mspi (s : State) (f) : (s.updNet f).mspi = s.mspi := (rfl)
@[simp] theorem State.updNet_free (s : State) (f) : (s.updNet f).free = s.free := (rfl)
@[simp] theorem State.updNet_word (s : State) (f) (x) : (s.updNet f).word x = s.word x := (rfl)
@[simp] theorem State.updNet_rd (s : State) (f) (x) : (s.updNet f).rd x = s.rd x := (rfl)
@[simp] theorem State.updNet_hbmByte (s : State) (f) (x) : (s.updNet f).hbmByte x = s.hbmByte x := (rfl)
@[simp] theorem State.updNet_head (s : State) (f) (x) : (s.updNet f).head x = s.head x := (rfl)
@[simp] theorem State.updNet_now (s : State) (f) : (s.updNet f).now = s.now := (rfl)

@[simp] theorem State.updDom_pending (s : State) (f) : (s.updDom f).pending = s.pending := (rfl)
@[simp] theorem State.updDom_dt (s : State) (f) : (s.updDom f).dt = s.dt := (rfl)
@[simp] theorem State.updDom_fine (s : State) (f) : (s.updDom f).fine = s.fine := (rfl)
@[simp] theorem State.updDom_regs (s : State) (f) : (s.updDom f).regs = s.regs := (rfl)
@[simp] theorem State.updDom_fresh (s : State) (f) : (s.updDom f).fresh = s.fresh := (rfl)
@[simp] theorem State.updDom_hbm (s : State) (f) : (s.updDom f).hbm = s.hbm := (rfl)
@[simp] theorem State.updDom_heads (s : State) (f) : (s.updDom f).heads = s.heads := (rfl)
@[simp] theorem State.updDom_dev (s : State) (f) : (s.updDom f).dev = s.dev := (rfl)
@[simp] theorem State.updDom_clk (s : State) (f) : (s.updDom f).clk = s.clk := (rfl)
@[simp] theorem State.updDom_pwr (s : State) (f) : (s.updDom f).pwr = s.pwr := (rfl)
@[simp] theorem State.updDom_thm (s : State) (f) : (s.updDom f).thm = s.thm := (rfl)
@[simp] theorem State.updDom_safe (s : State) (f) : (s.updDom f).safe = s.safe := (rfl)
@[simp] theorem State.updDom_lines (s : State) (f) : (s.updDom f).lines = s.lines := (rfl)
@[simp] theorem State.updDom_groups (s : State) (f) : (s.updDom f).groups = s.groups := (rfl)
@[simp] theorem State.updDom_spill (s : State) (f) : (s.updDom f).spill = s.spill := (rfl)
@[simp] theorem State.updDom_fields (s : State) (f) : (s.updDom f).fields = s.fields := (rfl)
@[simp] theorem State.updDom_babbitt (s : State) (f) : (s.updDom f).babbitt = s.babbitt := (rfl)
@[simp] theorem State.updDom_cap (s : State) (f) : (s.updDom f).cap = s.cap := (rfl)
@[simp] theorem State.updDom_net (s : State) (f) : (s.updDom f).net = s.net := (rfl)
@[simp] theorem State.updDom_lanes (s : State) (f) : (s.updDom f).lanes = s.lanes := (rfl)
@[simp] theorem State.updDom_pair (s : State) (f) : (s.updDom f).pair = s.pair := (rfl)
@[simp] theorem State.updDom_dom (s : State) (f) : (s.updDom f).dom = f s.dom := (rfl)
@[simp] theorem State.updDom_mem (s : State) (f) : (s.updDom f).mem = s.mem := (rfl)
@[simp] theorem State.updDom_hk (s : State) (f) : (s.updDom f).hk = s.hk := (rfl)
@[simp] theorem State.updDom_boot (s : State) (f) : (s.updDom f).boot = s.boot := (rfl)
@[simp] theorem State.updDom_mspi (s : State) (f) : (s.updDom f).mspi = s.mspi := (rfl)
@[simp] theorem State.updDom_free (s : State) (f) : (s.updDom f).free = s.free := (rfl)
@[simp] theorem State.updDom_word (s : State) (f) (x) : (s.updDom f).word x = s.word x := (rfl)
@[simp] theorem State.updDom_rd (s : State) (f) (x) : (s.updDom f).rd x = s.rd x := (rfl)
@[simp] theorem State.updDom_hbmByte (s : State) (f) (x) : (s.updDom f).hbmByte x = s.hbmByte x := (rfl)
@[simp] theorem State.updDom_head (s : State) (f) (x) : (s.updDom f).head x = s.head x := (rfl)
@[simp] theorem State.updDom_now (s : State) (f) : (s.updDom f).now = s.now := (rfl)

@[simp] theorem State.updMem_pending (s : State) (f) : (s.updMem f).pending = s.pending := (rfl)
@[simp] theorem State.updMem_dt (s : State) (f) : (s.updMem f).dt = s.dt := (rfl)
@[simp] theorem State.updMem_fine (s : State) (f) : (s.updMem f).fine = s.fine := (rfl)
@[simp] theorem State.updMem_regs (s : State) (f) : (s.updMem f).regs = s.regs := (rfl)
@[simp] theorem State.updMem_fresh (s : State) (f) : (s.updMem f).fresh = s.fresh := (rfl)
@[simp] theorem State.updMem_hbm (s : State) (f) : (s.updMem f).hbm = s.hbm := (rfl)
@[simp] theorem State.updMem_heads (s : State) (f) : (s.updMem f).heads = s.heads := (rfl)
@[simp] theorem State.updMem_dev (s : State) (f) : (s.updMem f).dev = s.dev := (rfl)
@[simp] theorem State.updMem_clk (s : State) (f) : (s.updMem f).clk = s.clk := (rfl)
@[simp] theorem State.updMem_pwr (s : State) (f) : (s.updMem f).pwr = s.pwr := (rfl)
@[simp] theorem State.updMem_thm (s : State) (f) : (s.updMem f).thm = s.thm := (rfl)
@[simp] theorem State.updMem_safe (s : State) (f) : (s.updMem f).safe = s.safe := (rfl)
@[simp] theorem State.updMem_lines (s : State) (f) : (s.updMem f).lines = s.lines := (rfl)
@[simp] theorem State.updMem_groups (s : State) (f) : (s.updMem f).groups = s.groups := (rfl)
@[simp] theorem State.updMem_spill (s : State) (f) : (s.updMem f).spill = s.spill := (rfl)
@[simp] theorem State.updMem_fields (s : State) (f) : (s.updMem f).fields = s.fields := (rfl)
@[simp] theorem State.updMem_babbitt (s : State) (f) : (s.updMem f).babbitt = s.babbitt := (rfl)
@[simp] theorem State.updMem_cap (s : State) (f) : (s.updMem f).cap = s.cap := (rfl)
@[simp] theorem State.updMem_net (s : State) (f) : (s.updMem f).net = s.net := (rfl)
@[simp] theorem State.updMem_lanes (s : State) (f) : (s.updMem f).lanes = s.lanes := (rfl)
@[simp] theorem State.updMem_pair (s : State) (f) : (s.updMem f).pair = s.pair := (rfl)
@[simp] theorem State.updMem_dom (s : State) (f) : (s.updMem f).dom = s.dom := (rfl)
@[simp] theorem State.updMem_mem (s : State) (f) : (s.updMem f).mem = f s.mem := (rfl)
@[simp] theorem State.updMem_hk (s : State) (f) : (s.updMem f).hk = s.hk := (rfl)
@[simp] theorem State.updMem_boot (s : State) (f) : (s.updMem f).boot = s.boot := (rfl)
@[simp] theorem State.updMem_mspi (s : State) (f) : (s.updMem f).mspi = s.mspi := (rfl)
@[simp] theorem State.updMem_free (s : State) (f) : (s.updMem f).free = s.free := (rfl)
@[simp] theorem State.updMem_word (s : State) (f) (x) : (s.updMem f).word x = s.word x := (rfl)
@[simp] theorem State.updMem_rd (s : State) (f) (x) : (s.updMem f).rd x = s.rd x := (rfl)
@[simp] theorem State.updMem_hbmByte (s : State) (f) (x) : (s.updMem f).hbmByte x = s.hbmByte x := (rfl)
@[simp] theorem State.updMem_head (s : State) (f) (x) : (s.updMem f).head x = s.head x := (rfl)
@[simp] theorem State.updMem_now (s : State) (f) : (s.updMem f).now = s.now := (rfl)

@[simp] theorem State.updHk_pending (s : State) (f) : (s.updHk f).pending = s.pending := (rfl)
@[simp] theorem State.updHk_dt (s : State) (f) : (s.updHk f).dt = s.dt := (rfl)
@[simp] theorem State.updHk_fine (s : State) (f) : (s.updHk f).fine = s.fine := (rfl)
@[simp] theorem State.updHk_regs (s : State) (f) : (s.updHk f).regs = s.regs := (rfl)
@[simp] theorem State.updHk_fresh (s : State) (f) : (s.updHk f).fresh = s.fresh := (rfl)
@[simp] theorem State.updHk_hbm (s : State) (f) : (s.updHk f).hbm = s.hbm := (rfl)
@[simp] theorem State.updHk_heads (s : State) (f) : (s.updHk f).heads = s.heads := (rfl)
@[simp] theorem State.updHk_dev (s : State) (f) : (s.updHk f).dev = s.dev := (rfl)
@[simp] theorem State.updHk_clk (s : State) (f) : (s.updHk f).clk = s.clk := (rfl)
@[simp] theorem State.updHk_pwr (s : State) (f) : (s.updHk f).pwr = s.pwr := (rfl)
@[simp] theorem State.updHk_thm (s : State) (f) : (s.updHk f).thm = s.thm := (rfl)
@[simp] theorem State.updHk_safe (s : State) (f) : (s.updHk f).safe = s.safe := (rfl)
@[simp] theorem State.updHk_lines (s : State) (f) : (s.updHk f).lines = s.lines := (rfl)
@[simp] theorem State.updHk_groups (s : State) (f) : (s.updHk f).groups = s.groups := (rfl)
@[simp] theorem State.updHk_spill (s : State) (f) : (s.updHk f).spill = s.spill := (rfl)
@[simp] theorem State.updHk_fields (s : State) (f) : (s.updHk f).fields = s.fields := (rfl)
@[simp] theorem State.updHk_babbitt (s : State) (f) : (s.updHk f).babbitt = s.babbitt := (rfl)
@[simp] theorem State.updHk_cap (s : State) (f) : (s.updHk f).cap = s.cap := (rfl)
@[simp] theorem State.updHk_net (s : State) (f) : (s.updHk f).net = s.net := (rfl)
@[simp] theorem State.updHk_lanes (s : State) (f) : (s.updHk f).lanes = s.lanes := (rfl)
@[simp] theorem State.updHk_pair (s : State) (f) : (s.updHk f).pair = s.pair := (rfl)
@[simp] theorem State.updHk_dom (s : State) (f) : (s.updHk f).dom = s.dom := (rfl)
@[simp] theorem State.updHk_mem (s : State) (f) : (s.updHk f).mem = s.mem := (rfl)
@[simp] theorem State.updHk_hk (s : State) (f) : (s.updHk f).hk = f s.hk := (rfl)
@[simp] theorem State.updHk_boot (s : State) (f) : (s.updHk f).boot = s.boot := (rfl)
@[simp] theorem State.updHk_mspi (s : State) (f) : (s.updHk f).mspi = s.mspi := (rfl)
@[simp] theorem State.updHk_free (s : State) (f) : (s.updHk f).free = s.free := (rfl)
@[simp] theorem State.updHk_word (s : State) (f) (x) : (s.updHk f).word x = s.word x := (rfl)
@[simp] theorem State.updHk_rd (s : State) (f) (x) : (s.updHk f).rd x = s.rd x := (rfl)
@[simp] theorem State.updHk_hbmByte (s : State) (f) (x) : (s.updHk f).hbmByte x = s.hbmByte x := (rfl)
@[simp] theorem State.updHk_head (s : State) (f) (x) : (s.updHk f).head x = s.head x := (rfl)
@[simp] theorem State.updHk_now (s : State) (f) : (s.updHk f).now = s.now := (rfl)

@[simp] theorem State.updBoot_pending (s : State) (f) : (s.updBoot f).pending = s.pending := (rfl)
@[simp] theorem State.updBoot_dt (s : State) (f) : (s.updBoot f).dt = s.dt := (rfl)
@[simp] theorem State.updBoot_fine (s : State) (f) : (s.updBoot f).fine = s.fine := (rfl)
@[simp] theorem State.updBoot_regs (s : State) (f) : (s.updBoot f).regs = s.regs := (rfl)
@[simp] theorem State.updBoot_fresh (s : State) (f) : (s.updBoot f).fresh = s.fresh := (rfl)
@[simp] theorem State.updBoot_hbm (s : State) (f) : (s.updBoot f).hbm = s.hbm := (rfl)
@[simp] theorem State.updBoot_heads (s : State) (f) : (s.updBoot f).heads = s.heads := (rfl)
@[simp] theorem State.updBoot_dev (s : State) (f) : (s.updBoot f).dev = s.dev := (rfl)
@[simp] theorem State.updBoot_clk (s : State) (f) : (s.updBoot f).clk = s.clk := (rfl)
@[simp] theorem State.updBoot_pwr (s : State) (f) : (s.updBoot f).pwr = s.pwr := (rfl)
@[simp] theorem State.updBoot_thm (s : State) (f) : (s.updBoot f).thm = s.thm := (rfl)
@[simp] theorem State.updBoot_safe (s : State) (f) : (s.updBoot f).safe = s.safe := (rfl)
@[simp] theorem State.updBoot_lines (s : State) (f) : (s.updBoot f).lines = s.lines := (rfl)
@[simp] theorem State.updBoot_groups (s : State) (f) : (s.updBoot f).groups = s.groups := (rfl)
@[simp] theorem State.updBoot_spill (s : State) (f) : (s.updBoot f).spill = s.spill := (rfl)
@[simp] theorem State.updBoot_fields (s : State) (f) : (s.updBoot f).fields = s.fields := (rfl)
@[simp] theorem State.updBoot_babbitt (s : State) (f) : (s.updBoot f).babbitt = s.babbitt := (rfl)
@[simp] theorem State.updBoot_cap (s : State) (f) : (s.updBoot f).cap = s.cap := (rfl)
@[simp] theorem State.updBoot_net (s : State) (f) : (s.updBoot f).net = s.net := (rfl)
@[simp] theorem State.updBoot_lanes (s : State) (f) : (s.updBoot f).lanes = s.lanes := (rfl)
@[simp] theorem State.updBoot_pair (s : State) (f) : (s.updBoot f).pair = s.pair := (rfl)
@[simp] theorem State.updBoot_dom (s : State) (f) : (s.updBoot f).dom = s.dom := (rfl)
@[simp] theorem State.updBoot_mem (s : State) (f) : (s.updBoot f).mem = s.mem := (rfl)
@[simp] theorem State.updBoot_hk (s : State) (f) : (s.updBoot f).hk = s.hk := (rfl)
@[simp] theorem State.updBoot_boot (s : State) (f) : (s.updBoot f).boot = f s.boot := (rfl)
@[simp] theorem State.updBoot_mspi (s : State) (f) : (s.updBoot f).mspi = s.mspi := (rfl)
@[simp] theorem State.updBoot_free (s : State) (f) : (s.updBoot f).free = s.free := (rfl)
@[simp] theorem State.updBoot_word (s : State) (f) (x) : (s.updBoot f).word x = s.word x := (rfl)
@[simp] theorem State.updBoot_rd (s : State) (f) (x) : (s.updBoot f).rd x = s.rd x := (rfl)
@[simp] theorem State.updBoot_hbmByte (s : State) (f) (x) : (s.updBoot f).hbmByte x = s.hbmByte x := (rfl)
@[simp] theorem State.updBoot_head (s : State) (f) (x) : (s.updBoot f).head x = s.head x := (rfl)
@[simp] theorem State.updBoot_now (s : State) (f) : (s.updBoot f).now = s.now := (rfl)

@[simp] theorem State.updBabbitt_pending (s : State) (f) : (s.updBabbitt f).pending = s.pending := (rfl)
@[simp] theorem State.updBabbitt_dt (s : State) (f) : (s.updBabbitt f).dt = s.dt := (rfl)
@[simp] theorem State.updBabbitt_fine (s : State) (f) : (s.updBabbitt f).fine = s.fine := (rfl)
@[simp] theorem State.updBabbitt_regs (s : State) (f) : (s.updBabbitt f).regs = s.regs := (rfl)
@[simp] theorem State.updBabbitt_fresh (s : State) (f) : (s.updBabbitt f).fresh = s.fresh := (rfl)
@[simp] theorem State.updBabbitt_hbm (s : State) (f) : (s.updBabbitt f).hbm = s.hbm := (rfl)
@[simp] theorem State.updBabbitt_heads (s : State) (f) : (s.updBabbitt f).heads = s.heads := (rfl)
@[simp] theorem State.updBabbitt_dev (s : State) (f) : (s.updBabbitt f).dev = s.dev := (rfl)
@[simp] theorem State.updBabbitt_clk (s : State) (f) : (s.updBabbitt f).clk = s.clk := (rfl)
@[simp] theorem State.updBabbitt_pwr (s : State) (f) : (s.updBabbitt f).pwr = s.pwr := (rfl)
@[simp] theorem State.updBabbitt_thm (s : State) (f) : (s.updBabbitt f).thm = s.thm := (rfl)
@[simp] theorem State.updBabbitt_safe (s : State) (f) : (s.updBabbitt f).safe = s.safe := (rfl)
@[simp] theorem State.updBabbitt_lines (s : State) (f) : (s.updBabbitt f).lines = s.lines := (rfl)
@[simp] theorem State.updBabbitt_groups (s : State) (f) : (s.updBabbitt f).groups = s.groups := (rfl)
@[simp] theorem State.updBabbitt_spill (s : State) (f) : (s.updBabbitt f).spill = s.spill := (rfl)
@[simp] theorem State.updBabbitt_fields (s : State) (f) : (s.updBabbitt f).fields = s.fields := (rfl)
@[simp] theorem State.updBabbitt_babbitt (s : State) (f) : (s.updBabbitt f).babbitt = f s.babbitt := (rfl)
@[simp] theorem State.updBabbitt_cap (s : State) (f) : (s.updBabbitt f).cap = s.cap := (rfl)
@[simp] theorem State.updBabbitt_net (s : State) (f) : (s.updBabbitt f).net = s.net := (rfl)
@[simp] theorem State.updBabbitt_lanes (s : State) (f) : (s.updBabbitt f).lanes = s.lanes := (rfl)
@[simp] theorem State.updBabbitt_pair (s : State) (f) : (s.updBabbitt f).pair = s.pair := (rfl)
@[simp] theorem State.updBabbitt_dom (s : State) (f) : (s.updBabbitt f).dom = s.dom := (rfl)
@[simp] theorem State.updBabbitt_mem (s : State) (f) : (s.updBabbitt f).mem = s.mem := (rfl)
@[simp] theorem State.updBabbitt_hk (s : State) (f) : (s.updBabbitt f).hk = s.hk := (rfl)
@[simp] theorem State.updBabbitt_boot (s : State) (f) : (s.updBabbitt f).boot = s.boot := (rfl)
@[simp] theorem State.updBabbitt_mspi (s : State) (f) : (s.updBabbitt f).mspi = s.mspi := (rfl)
@[simp] theorem State.updBabbitt_free (s : State) (f) : (s.updBabbitt f).free = s.free := (rfl)
@[simp] theorem State.updBabbitt_word (s : State) (f) (x) : (s.updBabbitt f).word x = s.word x := (rfl)
@[simp] theorem State.updBabbitt_rd (s : State) (f) (x) : (s.updBabbitt f).rd x = s.rd x := (rfl)
@[simp] theorem State.updBabbitt_hbmByte (s : State) (f) (x) : (s.updBabbitt f).hbmByte x = s.hbmByte x := (rfl)
@[simp] theorem State.updBabbitt_head (s : State) (f) (x) : (s.updBabbitt f).head x = s.head x := (rfl)
@[simp] theorem State.updBabbitt_now (s : State) (f) : (s.updBabbitt f).now = s.now := (rfl)

@[simp] theorem State.updSession_pending (s : State) (f) : (s.updSession f).pending = s.pending := (rfl)
@[simp] theorem State.updSession_dt (s : State) (f) : (s.updSession f).dt = s.dt := (rfl)
@[simp] theorem State.updSession_fine (s : State) (f) : (s.updSession f).fine = s.fine := (rfl)
@[simp] theorem State.updSession_regs (s : State) (f) : (s.updSession f).regs = s.regs := (rfl)
@[simp] theorem State.updSession_fresh (s : State) (f) : (s.updSession f).fresh = s.fresh := (rfl)
@[simp] theorem State.updSession_hbm (s : State) (f) : (s.updSession f).hbm = s.hbm := (rfl)
@[simp] theorem State.updSession_heads (s : State) (f) : (s.updSession f).heads = s.heads := (rfl)
@[simp] theorem State.updSession_dev (s : State) (f) : (s.updSession f).dev = s.dev := (rfl)
@[simp] theorem State.updSession_clk (s : State) (f) : (s.updSession f).clk = s.clk := (rfl)
@[simp] theorem State.updSession_pwr (s : State) (f) : (s.updSession f).pwr = s.pwr := (rfl)
@[simp] theorem State.updSession_thm (s : State) (f) : (s.updSession f).thm = s.thm := (rfl)
@[simp] theorem State.updSession_safe (s : State) (f) : (s.updSession f).safe = s.safe := (rfl)
@[simp] theorem State.updSession_lines (s : State) (f) : (s.updSession f).lines = s.lines := (rfl)
@[simp] theorem State.updSession_groups (s : State) (f) : (s.updSession f).groups = s.groups := (rfl)
@[simp] theorem State.updSession_spill (s : State) (f) : (s.updSession f).spill = s.spill := (rfl)
@[simp] theorem State.updSession_fields (s : State) (f) : (s.updSession f).fields = s.fields := (rfl)
@[simp] theorem State.updSession_babbitt (s : State) (f) : (s.updSession f).babbitt = s.babbitt := (rfl)
@[simp] theorem State.updSession_cap (s : State) (f) : (s.updSession f).cap = s.cap := (rfl)
@[simp] theorem State.updSession_net (s : State) (f) : (s.updSession f).net = s.net := (rfl)
@[simp] theorem State.updSession_lanes (s : State) (f) : (s.updSession f).lanes = s.lanes := (rfl)
@[simp] theorem State.updSession_pair (s : State) (f) : (s.updSession f).pair = s.pair := (rfl)
@[simp] theorem State.updSession_dom (s : State) (f) : (s.updSession f).dom = s.dom := (rfl)
@[simp] theorem State.updSession_mem (s : State) (f) : (s.updSession f).mem = s.mem := (rfl)
@[simp] theorem State.updSession_hk (s : State) (f) : (s.updSession f).hk = s.hk := (rfl)
@[simp] theorem State.updSession_mspi (s : State) (f) : (s.updSession f).mspi = s.mspi := (rfl)
@[simp] theorem State.updSession_free (s : State) (f) : (s.updSession f).free = s.free := (rfl)
@[simp] theorem State.updSession_word (s : State) (f) (x) : (s.updSession f).word x = s.word x := (rfl)
@[simp] theorem State.updSession_rd (s : State) (f) (x) : (s.updSession f).rd x = s.rd x := (rfl)
@[simp] theorem State.updSession_hbmByte (s : State) (f) (x) : (s.updSession f).hbmByte x = s.hbmByte x := (rfl)
@[simp] theorem State.updSession_head (s : State) (f) (x) : (s.updSession f).head x = s.head x := (rfl)
@[simp] theorem State.updSession_now (s : State) (f) : (s.updSession f).now = s.now := (rfl)

@[simp] theorem State.updTach_pending (s : State) (f) : (s.updTach f).pending = s.pending := (rfl)
@[simp] theorem State.updTach_dt (s : State) (f) : (s.updTach f).dt = s.dt := (rfl)
@[simp] theorem State.updTach_fine (s : State) (f) : (s.updTach f).fine = s.fine := (rfl)
@[simp] theorem State.updTach_regs (s : State) (f) : (s.updTach f).regs = s.regs := (rfl)
@[simp] theorem State.updTach_fresh (s : State) (f) : (s.updTach f).fresh = s.fresh := (rfl)
@[simp] theorem State.updTach_hbm (s : State) (f) : (s.updTach f).hbm = s.hbm := (rfl)
@[simp] theorem State.updTach_heads (s : State) (f) : (s.updTach f).heads = s.heads := (rfl)
@[simp] theorem State.updTach_dev (s : State) (f) : (s.updTach f).dev = s.dev := (rfl)
@[simp] theorem State.updTach_clk (s : State) (f) : (s.updTach f).clk = s.clk := (rfl)
@[simp] theorem State.updTach_pwr (s : State) (f) : (s.updTach f).pwr = s.pwr := (rfl)
@[simp] theorem State.updTach_thm (s : State) (f) : (s.updTach f).thm = s.thm := (rfl)
@[simp] theorem State.updTach_safe (s : State) (f) : (s.updTach f).safe = s.safe := (rfl)
@[simp] theorem State.updTach_lines (s : State) (f) : (s.updTach f).lines = s.lines := (rfl)
@[simp] theorem State.updTach_groups (s : State) (f) : (s.updTach f).groups = s.groups := (rfl)
@[simp] theorem State.updTach_spill (s : State) (f) : (s.updTach f).spill = s.spill := (rfl)
@[simp] theorem State.updTach_fields (s : State) (f) : (s.updTach f).fields = s.fields := (rfl)
@[simp] theorem State.updTach_cap (s : State) (f) : (s.updTach f).cap = s.cap := (rfl)
@[simp] theorem State.updTach_net (s : State) (f) : (s.updTach f).net = s.net := (rfl)
@[simp] theorem State.updTach_lanes (s : State) (f) : (s.updTach f).lanes = s.lanes := (rfl)
@[simp] theorem State.updTach_pair (s : State) (f) : (s.updTach f).pair = s.pair := (rfl)
@[simp] theorem State.updTach_dom (s : State) (f) : (s.updTach f).dom = s.dom := (rfl)
@[simp] theorem State.updTach_mem (s : State) (f) : (s.updTach f).mem = s.mem := (rfl)
@[simp] theorem State.updTach_hk (s : State) (f) : (s.updTach f).hk = s.hk := (rfl)
@[simp] theorem State.updTach_boot (s : State) (f) : (s.updTach f).boot = s.boot := (rfl)
@[simp] theorem State.updTach_mspi (s : State) (f) : (s.updTach f).mspi = s.mspi := (rfl)
@[simp] theorem State.updTach_free (s : State) (f) : (s.updTach f).free = s.free := (rfl)
@[simp] theorem State.updTach_word (s : State) (f) (x) : (s.updTach f).word x = s.word x := (rfl)
@[simp] theorem State.updTach_rd (s : State) (f) (x) : (s.updTach f).rd x = s.rd x := (rfl)
@[simp] theorem State.updTach_hbmByte (s : State) (f) (x) : (s.updTach f).hbmByte x = s.hbmByte x := (rfl)
@[simp] theorem State.updTach_head (s : State) (f) (x) : (s.updTach f).head x = s.head x := (rfl)
@[simp] theorem State.updTach_now (s : State) (f) : (s.updTach f).now = s.now := (rfl)

@[simp] theorem State.updStaging_pending (s : State) (n) (f) : (s.updStaging n f).pending = s.pending := (rfl)
@[simp] theorem State.updStaging_dt (s : State) (n) (f) : (s.updStaging n f).dt = s.dt := (rfl)
@[simp] theorem State.updStaging_fine (s : State) (n) (f) : (s.updStaging n f).fine = s.fine := (rfl)
@[simp] theorem State.updStaging_regs (s : State) (n) (f) : (s.updStaging n f).regs = s.regs := (rfl)
@[simp] theorem State.updStaging_fresh (s : State) (n) (f) : (s.updStaging n f).fresh = s.fresh := (rfl)
@[simp] theorem State.updStaging_hbm (s : State) (n) (f) : (s.updStaging n f).hbm = s.hbm := (rfl)
@[simp] theorem State.updStaging_heads (s : State) (n) (f) : (s.updStaging n f).heads = s.heads := (rfl)
@[simp] theorem State.updStaging_dev (s : State) (n) (f) : (s.updStaging n f).dev = s.dev := (rfl)
@[simp] theorem State.updStaging_clk (s : State) (n) (f) : (s.updStaging n f).clk = s.clk := (rfl)
@[simp] theorem State.updStaging_pwr (s : State) (n) (f) : (s.updStaging n f).pwr = s.pwr := (rfl)
@[simp] theorem State.updStaging_thm (s : State) (n) (f) : (s.updStaging n f).thm = s.thm := (rfl)
@[simp] theorem State.updStaging_safe (s : State) (n) (f) : (s.updStaging n f).safe = s.safe := (rfl)
@[simp] theorem State.updStaging_lines (s : State) (n) (f) : (s.updStaging n f).lines = s.lines := (rfl)
@[simp] theorem State.updStaging_groups (s : State) (n) (f) : (s.updStaging n f).groups = s.groups := (rfl)
@[simp] theorem State.updStaging_spill (s : State) (n) (f) : (s.updStaging n f).spill = s.spill := (rfl)
@[simp] theorem State.updStaging_fields (s : State) (n) (f) : (s.updStaging n f).fields = s.fields := (rfl)
@[simp] theorem State.updStaging_cap (s : State) (n) (f) : (s.updStaging n f).cap = s.cap := (rfl)
@[simp] theorem State.updStaging_net (s : State) (n) (f) : (s.updStaging n f).net = s.net := (rfl)
@[simp] theorem State.updStaging_lanes (s : State) (n) (f) : (s.updStaging n f).lanes = s.lanes := (rfl)
@[simp] theorem State.updStaging_pair (s : State) (n) (f) : (s.updStaging n f).pair = s.pair := (rfl)
@[simp] theorem State.updStaging_dom (s : State) (n) (f) : (s.updStaging n f).dom = s.dom := (rfl)
@[simp] theorem State.updStaging_mem (s : State) (n) (f) : (s.updStaging n f).mem = s.mem := (rfl)
@[simp] theorem State.updStaging_hk (s : State) (n) (f) : (s.updStaging n f).hk = s.hk := (rfl)
@[simp] theorem State.updStaging_boot (s : State) (n) (f) : (s.updStaging n f).boot = s.boot := (rfl)
@[simp] theorem State.updStaging_mspi (s : State) (n) (f) : (s.updStaging n f).mspi = s.mspi := (rfl)
@[simp] theorem State.updStaging_free (s : State) (n) (f) : (s.updStaging n f).free = s.free := (rfl)
@[simp] theorem State.updStaging_word (s : State) (n) (f) (x) : (s.updStaging n f).word x = s.word x := (rfl)
@[simp] theorem State.updStaging_rd (s : State) (n) (f) (x) : (s.updStaging n f).rd x = s.rd x := (rfl)
@[simp] theorem State.updStaging_hbmByte (s : State) (n) (f) (x) : (s.updStaging n f).hbmByte x = s.hbmByte x := (rfl)
@[simp] theorem State.updStaging_head (s : State) (n) (f) (x) : (s.updStaging n f).head x = s.head x := (rfl)
@[simp] theorem State.updStaging_now (s : State) (n) (f) : (s.updStaging n f).now = s.now := (rfl)

@[simp] theorem State.updSeqr_pending (s : State) (q) (f) : (s.updSeqr q f).pending = s.pending := (rfl)
@[simp] theorem State.updSeqr_dt (s : State) (q) (f) : (s.updSeqr q f).dt = s.dt := (rfl)
@[simp] theorem State.updSeqr_fine (s : State) (q) (f) : (s.updSeqr q f).fine = s.fine := (rfl)
@[simp] theorem State.updSeqr_regs (s : State) (q) (f) : (s.updSeqr q f).regs = s.regs := (rfl)
@[simp] theorem State.updSeqr_fresh (s : State) (q) (f) : (s.updSeqr q f).fresh = s.fresh := (rfl)
@[simp] theorem State.updSeqr_hbm (s : State) (q) (f) : (s.updSeqr q f).hbm = s.hbm := (rfl)
@[simp] theorem State.updSeqr_heads (s : State) (q) (f) : (s.updSeqr q f).heads = s.heads := (rfl)
@[simp] theorem State.updSeqr_dev (s : State) (q) (f) : (s.updSeqr q f).dev = s.dev := (rfl)
@[simp] theorem State.updSeqr_clk (s : State) (q) (f) : (s.updSeqr q f).clk = s.clk := (rfl)
@[simp] theorem State.updSeqr_pwr (s : State) (q) (f) : (s.updSeqr q f).pwr = s.pwr := (rfl)
@[simp] theorem State.updSeqr_thm (s : State) (q) (f) : (s.updSeqr q f).thm = s.thm := (rfl)
@[simp] theorem State.updSeqr_safe (s : State) (q) (f) : (s.updSeqr q f).safe = s.safe := (rfl)
@[simp] theorem State.updSeqr_lines (s : State) (q) (f) : (s.updSeqr q f).lines = s.lines := (rfl)
@[simp] theorem State.updSeqr_groups (s : State) (q) (f) : (s.updSeqr q f).groups = s.groups := (rfl)
@[simp] theorem State.updSeqr_spill (s : State) (q) (f) : (s.updSeqr q f).spill = s.spill := (rfl)
@[simp] theorem State.updSeqr_fields (s : State) (q) (f) : (s.updSeqr q f).fields = s.fields := (rfl)
@[simp] theorem State.updSeqr_babbitt (s : State) (q) (f) : (s.updSeqr q f).babbitt = s.babbitt := (rfl)
@[simp] theorem State.updSeqr_net (s : State) (q) (f) : (s.updSeqr q f).net = s.net := (rfl)
@[simp] theorem State.updSeqr_lanes (s : State) (q) (f) : (s.updSeqr q f).lanes = s.lanes := (rfl)
@[simp] theorem State.updSeqr_pair (s : State) (q) (f) : (s.updSeqr q f).pair = s.pair := (rfl)
@[simp] theorem State.updSeqr_dom (s : State) (q) (f) : (s.updSeqr q f).dom = s.dom := (rfl)
@[simp] theorem State.updSeqr_mem (s : State) (q) (f) : (s.updSeqr q f).mem = s.mem := (rfl)
@[simp] theorem State.updSeqr_hk (s : State) (q) (f) : (s.updSeqr q f).hk = s.hk := (rfl)
@[simp] theorem State.updSeqr_boot (s : State) (q) (f) : (s.updSeqr q f).boot = s.boot := (rfl)
@[simp] theorem State.updSeqr_mspi (s : State) (q) (f) : (s.updSeqr q f).mspi = s.mspi := (rfl)
@[simp] theorem State.updSeqr_free (s : State) (q) (f) : (s.updSeqr q f).free = s.free := (rfl)
@[simp] theorem State.updSeqr_word (s : State) (q) (f) (x) : (s.updSeqr q f).word x = s.word x := (rfl)
@[simp] theorem State.updSeqr_rd (s : State) (q) (f) (x) : (s.updSeqr q f).rd x = s.rd x := (rfl)
@[simp] theorem State.updSeqr_hbmByte (s : State) (q) (f) (x) : (s.updSeqr q f).hbmByte x = s.hbmByte x := (rfl)
@[simp] theorem State.updSeqr_head (s : State) (q) (f) (x) : (s.updSeqr q f).head x = s.head x := (rfl)
@[simp] theorem State.updSeqr_now (s : State) (q) (f) : (s.updSeqr q f).now = s.now := (rfl)

@[simp] theorem State.updStream_pending (s : State) (k) (f) : (s.updStream k f).pending = s.pending := (rfl)
@[simp] theorem State.updStream_dt (s : State) (k) (f) : (s.updStream k f).dt = s.dt := (rfl)
@[simp] theorem State.updStream_fine (s : State) (k) (f) : (s.updStream k f).fine = s.fine := (rfl)
@[simp] theorem State.updStream_regs (s : State) (k) (f) : (s.updStream k f).regs = s.regs := (rfl)
@[simp] theorem State.updStream_fresh (s : State) (k) (f) : (s.updStream k f).fresh = s.fresh := (rfl)
@[simp] theorem State.updStream_hbm (s : State) (k) (f) : (s.updStream k f).hbm = s.hbm := (rfl)
@[simp] theorem State.updStream_heads (s : State) (k) (f) : (s.updStream k f).heads = s.heads := (rfl)
@[simp] theorem State.updStream_dev (s : State) (k) (f) : (s.updStream k f).dev = s.dev := (rfl)
@[simp] theorem State.updStream_clk (s : State) (k) (f) : (s.updStream k f).clk = s.clk := (rfl)
@[simp] theorem State.updStream_pwr (s : State) (k) (f) : (s.updStream k f).pwr = s.pwr := (rfl)
@[simp] theorem State.updStream_thm (s : State) (k) (f) : (s.updStream k f).thm = s.thm := (rfl)
@[simp] theorem State.updStream_safe (s : State) (k) (f) : (s.updStream k f).safe = s.safe := (rfl)
@[simp] theorem State.updStream_lines (s : State) (k) (f) : (s.updStream k f).lines = s.lines := (rfl)
@[simp] theorem State.updStream_groups (s : State) (k) (f) : (s.updStream k f).groups = s.groups := (rfl)
@[simp] theorem State.updStream_spill (s : State) (k) (f) : (s.updStream k f).spill = s.spill := (rfl)
@[simp] theorem State.updStream_fields (s : State) (k) (f) : (s.updStream k f).fields = s.fields := (rfl)
@[simp] theorem State.updStream_babbitt (s : State) (k) (f) : (s.updStream k f).babbitt = s.babbitt := (rfl)
@[simp] theorem State.updStream_net (s : State) (k) (f) : (s.updStream k f).net = s.net := (rfl)
@[simp] theorem State.updStream_lanes (s : State) (k) (f) : (s.updStream k f).lanes = s.lanes := (rfl)
@[simp] theorem State.updStream_pair (s : State) (k) (f) : (s.updStream k f).pair = s.pair := (rfl)
@[simp] theorem State.updStream_dom (s : State) (k) (f) : (s.updStream k f).dom = s.dom := (rfl)
@[simp] theorem State.updStream_mem (s : State) (k) (f) : (s.updStream k f).mem = s.mem := (rfl)
@[simp] theorem State.updStream_hk (s : State) (k) (f) : (s.updStream k f).hk = s.hk := (rfl)
@[simp] theorem State.updStream_boot (s : State) (k) (f) : (s.updStream k f).boot = s.boot := (rfl)
@[simp] theorem State.updStream_mspi (s : State) (k) (f) : (s.updStream k f).mspi = s.mspi := (rfl)
@[simp] theorem State.updStream_free (s : State) (k) (f) : (s.updStream k f).free = s.free := (rfl)
@[simp] theorem State.updStream_word (s : State) (k) (f) (x) : (s.updStream k f).word x = s.word x := (rfl)
@[simp] theorem State.updStream_rd (s : State) (k) (f) (x) : (s.updStream k f).rd x = s.rd x := (rfl)
@[simp] theorem State.updStream_hbmByte (s : State) (k) (f) (x) : (s.updStream k f).hbmByte x = s.hbmByte x := (rfl)
@[simp] theorem State.updStream_head (s : State) (k) (f) (x) : (s.updStream k f).head x = s.head x := (rfl)
@[simp] theorem State.updStream_now (s : State) (k) (f) : (s.updStream k f).now = s.now := (rfl)

@[simp] theorem State.updSlot_pending (s : State) (i) (f) : (s.updSlot i f).pending = s.pending := (rfl)
@[simp] theorem State.updSlot_dt (s : State) (i) (f) : (s.updSlot i f).dt = s.dt := (rfl)
@[simp] theorem State.updSlot_fine (s : State) (i) (f) : (s.updSlot i f).fine = s.fine := (rfl)
@[simp] theorem State.updSlot_regs (s : State) (i) (f) : (s.updSlot i f).regs = s.regs := (rfl)
@[simp] theorem State.updSlot_fresh (s : State) (i) (f) : (s.updSlot i f).fresh = s.fresh := (rfl)
@[simp] theorem State.updSlot_hbm (s : State) (i) (f) : (s.updSlot i f).hbm = s.hbm := (rfl)
@[simp] theorem State.updSlot_heads (s : State) (i) (f) : (s.updSlot i f).heads = s.heads := (rfl)
@[simp] theorem State.updSlot_dev (s : State) (i) (f) : (s.updSlot i f).dev = s.dev := (rfl)
@[simp] theorem State.updSlot_clk (s : State) (i) (f) : (s.updSlot i f).clk = s.clk := (rfl)
@[simp] theorem State.updSlot_pwr (s : State) (i) (f) : (s.updSlot i f).pwr = s.pwr := (rfl)
@[simp] theorem State.updSlot_thm (s : State) (i) (f) : (s.updSlot i f).thm = s.thm := (rfl)
@[simp] theorem State.updSlot_safe (s : State) (i) (f) : (s.updSlot i f).safe = s.safe := (rfl)
@[simp] theorem State.updSlot_lines (s : State) (i) (f) : (s.updSlot i f).lines = s.lines := (rfl)
@[simp] theorem State.updSlot_groups (s : State) (i) (f) : (s.updSlot i f).groups = s.groups := (rfl)
@[simp] theorem State.updSlot_spill (s : State) (i) (f) : (s.updSlot i f).spill = s.spill := (rfl)
@[simp] theorem State.updSlot_fields (s : State) (i) (f) : (s.updSlot i f).fields = s.fields := (rfl)
@[simp] theorem State.updSlot_babbitt (s : State) (i) (f) : (s.updSlot i f).babbitt = s.babbitt := (rfl)
@[simp] theorem State.updSlot_net (s : State) (i) (f) : (s.updSlot i f).net = s.net := (rfl)
@[simp] theorem State.updSlot_lanes (s : State) (i) (f) : (s.updSlot i f).lanes = s.lanes := (rfl)
@[simp] theorem State.updSlot_pair (s : State) (i) (f) : (s.updSlot i f).pair = s.pair := (rfl)
@[simp] theorem State.updSlot_dom (s : State) (i) (f) : (s.updSlot i f).dom = s.dom := (rfl)
@[simp] theorem State.updSlot_mem (s : State) (i) (f) : (s.updSlot i f).mem = s.mem := (rfl)
@[simp] theorem State.updSlot_hk (s : State) (i) (f) : (s.updSlot i f).hk = s.hk := (rfl)
@[simp] theorem State.updSlot_boot (s : State) (i) (f) : (s.updSlot i f).boot = s.boot := (rfl)
@[simp] theorem State.updSlot_mspi (s : State) (i) (f) : (s.updSlot i f).mspi = s.mspi := (rfl)
@[simp] theorem State.updSlot_free (s : State) (i) (f) : (s.updSlot i f).free = s.free := (rfl)
@[simp] theorem State.updSlot_word (s : State) (i) (f) (x) : (s.updSlot i f).word x = s.word x := (rfl)
@[simp] theorem State.updSlot_rd (s : State) (i) (f) (x) : (s.updSlot i f).rd x = s.rd x := (rfl)
@[simp] theorem State.updSlot_hbmByte (s : State) (i) (f) (x) : (s.updSlot i f).hbmByte x = s.hbmByte x := (rfl)
@[simp] theorem State.updSlot_head (s : State) (i) (f) (x) : (s.updSlot i f).head x = s.head x := (rfl)
@[simp] theorem State.updSlot_now (s : State) (i) (f) : (s.updSlot i f).now = s.now := (rfl)

@[simp] theorem State.updLane_pending (s : State) (q) (l) (f) : (s.updLane q l f).pending = s.pending := (rfl)
@[simp] theorem State.updLane_dt (s : State) (q) (l) (f) : (s.updLane q l f).dt = s.dt := (rfl)
@[simp] theorem State.updLane_fine (s : State) (q) (l) (f) : (s.updLane q l f).fine = s.fine := (rfl)
@[simp] theorem State.updLane_regs (s : State) (q) (l) (f) : (s.updLane q l f).regs = s.regs := (rfl)
@[simp] theorem State.updLane_fresh (s : State) (q) (l) (f) : (s.updLane q l f).fresh = s.fresh := (rfl)
@[simp] theorem State.updLane_hbm (s : State) (q) (l) (f) : (s.updLane q l f).hbm = s.hbm := (rfl)
@[simp] theorem State.updLane_heads (s : State) (q) (l) (f) : (s.updLane q l f).heads = s.heads := (rfl)
@[simp] theorem State.updLane_dev (s : State) (q) (l) (f) : (s.updLane q l f).dev = s.dev := (rfl)
@[simp] theorem State.updLane_clk (s : State) (q) (l) (f) : (s.updLane q l f).clk = s.clk := (rfl)
@[simp] theorem State.updLane_pwr (s : State) (q) (l) (f) : (s.updLane q l f).pwr = s.pwr := (rfl)
@[simp] theorem State.updLane_thm (s : State) (q) (l) (f) : (s.updLane q l f).thm = s.thm := (rfl)
@[simp] theorem State.updLane_safe (s : State) (q) (l) (f) : (s.updLane q l f).safe = s.safe := (rfl)
@[simp] theorem State.updLane_lines (s : State) (q) (l) (f) : (s.updLane q l f).lines = s.lines := (rfl)
@[simp] theorem State.updLane_groups (s : State) (q) (l) (f) : (s.updLane q l f).groups = s.groups := (rfl)
@[simp] theorem State.updLane_spill (s : State) (q) (l) (f) : (s.updLane q l f).spill = s.spill := (rfl)
@[simp] theorem State.updLane_fields (s : State) (q) (l) (f) : (s.updLane q l f).fields = s.fields := (rfl)
@[simp] theorem State.updLane_babbitt (s : State) (q) (l) (f) : (s.updLane q l f).babbitt = s.babbitt := (rfl)
@[simp] theorem State.updLane_cap (s : State) (q) (l) (f) : (s.updLane q l f).cap = s.cap := (rfl)
@[simp] theorem State.updLane_net (s : State) (q) (l) (f) : (s.updLane q l f).net = s.net := (rfl)
@[simp] theorem State.updLane_pair (s : State) (q) (l) (f) : (s.updLane q l f).pair = s.pair := (rfl)
@[simp] theorem State.updLane_dom (s : State) (q) (l) (f) : (s.updLane q l f).dom = s.dom := (rfl)
@[simp] theorem State.updLane_mem (s : State) (q) (l) (f) : (s.updLane q l f).mem = s.mem := (rfl)
@[simp] theorem State.updLane_hk (s : State) (q) (l) (f) : (s.updLane q l f).hk = s.hk := (rfl)
@[simp] theorem State.updLane_boot (s : State) (q) (l) (f) : (s.updLane q l f).boot = s.boot := (rfl)
@[simp] theorem State.updLane_mspi (s : State) (q) (l) (f) : (s.updLane q l f).mspi = s.mspi := (rfl)
@[simp] theorem State.updLane_free (s : State) (q) (l) (f) : (s.updLane q l f).free = s.free := (rfl)
@[simp] theorem State.updLane_word (s : State) (q) (l) (f) (x) : (s.updLane q l f).word x = s.word x := (rfl)
@[simp] theorem State.updLane_rd (s : State) (q) (l) (f) (x) : (s.updLane q l f).rd x = s.rd x := (rfl)
@[simp] theorem State.updLane_hbmByte (s : State) (q) (l) (f) (x) : (s.updLane q l f).hbmByte x = s.hbmByte x := (rfl)
@[simp] theorem State.updLane_head (s : State) (q) (l) (f) (x) : (s.updLane q l f).head x = s.head x := (rfl)
@[simp] theorem State.updLane_now (s : State) (q) (l) (f) : (s.updLane q l f).now = s.now := (rfl)

@[simp] theorem State.updPort_pending (s : State) (p) (f) : (s.updPort p f).pending = s.pending := (rfl)
@[simp] theorem State.updPort_dt (s : State) (p) (f) : (s.updPort p f).dt = s.dt := (rfl)
@[simp] theorem State.updPort_fine (s : State) (p) (f) : (s.updPort p f).fine = s.fine := (rfl)
@[simp] theorem State.updPort_regs (s : State) (p) (f) : (s.updPort p f).regs = s.regs := (rfl)
@[simp] theorem State.updPort_fresh (s : State) (p) (f) : (s.updPort p f).fresh = s.fresh := (rfl)
@[simp] theorem State.updPort_hbm (s : State) (p) (f) : (s.updPort p f).hbm = s.hbm := (rfl)
@[simp] theorem State.updPort_heads (s : State) (p) (f) : (s.updPort p f).heads = s.heads := (rfl)
@[simp] theorem State.updPort_dev (s : State) (p) (f) : (s.updPort p f).dev = s.dev := (rfl)
@[simp] theorem State.updPort_clk (s : State) (p) (f) : (s.updPort p f).clk = s.clk := (rfl)
@[simp] theorem State.updPort_pwr (s : State) (p) (f) : (s.updPort p f).pwr = s.pwr := (rfl)
@[simp] theorem State.updPort_thm (s : State) (p) (f) : (s.updPort p f).thm = s.thm := (rfl)
@[simp] theorem State.updPort_safe (s : State) (p) (f) : (s.updPort p f).safe = s.safe := (rfl)
@[simp] theorem State.updPort_lines (s : State) (p) (f) : (s.updPort p f).lines = s.lines := (rfl)
@[simp] theorem State.updPort_groups (s : State) (p) (f) : (s.updPort p f).groups = s.groups := (rfl)
@[simp] theorem State.updPort_spill (s : State) (p) (f) : (s.updPort p f).spill = s.spill := (rfl)
@[simp] theorem State.updPort_fields (s : State) (p) (f) : (s.updPort p f).fields = s.fields := (rfl)
@[simp] theorem State.updPort_babbitt (s : State) (p) (f) : (s.updPort p f).babbitt = s.babbitt := (rfl)
@[simp] theorem State.updPort_cap (s : State) (p) (f) : (s.updPort p f).cap = s.cap := (rfl)
@[simp] theorem State.updPort_net (s : State) (p) (f) : (s.updPort p f).net = s.net := (rfl)
@[simp] theorem State.updPort_pair (s : State) (p) (f) : (s.updPort p f).pair = s.pair := (rfl)
@[simp] theorem State.updPort_dom (s : State) (p) (f) : (s.updPort p f).dom = s.dom := (rfl)
@[simp] theorem State.updPort_mem (s : State) (p) (f) : (s.updPort p f).mem = s.mem := (rfl)
@[simp] theorem State.updPort_hk (s : State) (p) (f) : (s.updPort p f).hk = s.hk := (rfl)
@[simp] theorem State.updPort_boot (s : State) (p) (f) : (s.updPort p f).boot = s.boot := (rfl)
@[simp] theorem State.updPort_mspi (s : State) (p) (f) : (s.updPort p f).mspi = s.mspi := (rfl)
@[simp] theorem State.updPort_free (s : State) (p) (f) : (s.updPort p f).free = s.free := (rfl)
@[simp] theorem State.updPort_word (s : State) (p) (f) (x) : (s.updPort p f).word x = s.word x := (rfl)
@[simp] theorem State.updPort_rd (s : State) (p) (f) (x) : (s.updPort p f).rd x = s.rd x := (rfl)
@[simp] theorem State.updPort_hbmByte (s : State) (p) (f) (x) : (s.updPort p f).hbmByte x = s.hbmByte x := (rfl)
@[simp] theorem State.updPort_head (s : State) (p) (f) (x) : (s.updPort p f).head x = s.head x := (rfl)
@[simp] theorem State.updPort_now (s : State) (p) (f) : (s.updPort p f).now = s.now := (rfl)

@[simp] theorem State.updPc_pending (s : State) (i) (f) : (s.updPc i f).pending = s.pending := (rfl)
@[simp] theorem State.updPc_dt (s : State) (i) (f) : (s.updPc i f).dt = s.dt := (rfl)
@[simp] theorem State.updPc_fine (s : State) (i) (f) : (s.updPc i f).fine = s.fine := (rfl)
@[simp] theorem State.updPc_regs (s : State) (i) (f) : (s.updPc i f).regs = s.regs := (rfl)
@[simp] theorem State.updPc_fresh (s : State) (i) (f) : (s.updPc i f).fresh = s.fresh := (rfl)
@[simp] theorem State.updPc_hbm (s : State) (i) (f) : (s.updPc i f).hbm = s.hbm := (rfl)
@[simp] theorem State.updPc_heads (s : State) (i) (f) : (s.updPc i f).heads = s.heads := (rfl)
@[simp] theorem State.updPc_dev (s : State) (i) (f) : (s.updPc i f).dev = s.dev := (rfl)
@[simp] theorem State.updPc_clk (s : State) (i) (f) : (s.updPc i f).clk = s.clk := (rfl)
@[simp] theorem State.updPc_pwr (s : State) (i) (f) : (s.updPc i f).pwr = s.pwr := (rfl)
@[simp] theorem State.updPc_thm (s : State) (i) (f) : (s.updPc i f).thm = s.thm := (rfl)
@[simp] theorem State.updPc_safe (s : State) (i) (f) : (s.updPc i f).safe = s.safe := (rfl)
@[simp] theorem State.updPc_lines (s : State) (i) (f) : (s.updPc i f).lines = s.lines := (rfl)
@[simp] theorem State.updPc_groups (s : State) (i) (f) : (s.updPc i f).groups = s.groups := (rfl)
@[simp] theorem State.updPc_spill (s : State) (i) (f) : (s.updPc i f).spill = s.spill := (rfl)
@[simp] theorem State.updPc_fields (s : State) (i) (f) : (s.updPc i f).fields = s.fields := (rfl)
@[simp] theorem State.updPc_babbitt (s : State) (i) (f) : (s.updPc i f).babbitt = s.babbitt := (rfl)
@[simp] theorem State.updPc_cap (s : State) (i) (f) : (s.updPc i f).cap = s.cap := (rfl)
@[simp] theorem State.updPc_net (s : State) (i) (f) : (s.updPc i f).net = s.net := (rfl)
@[simp] theorem State.updPc_lanes (s : State) (i) (f) : (s.updPc i f).lanes = s.lanes := (rfl)
@[simp] theorem State.updPc_pair (s : State) (i) (f) : (s.updPc i f).pair = s.pair := (rfl)
@[simp] theorem State.updPc_dom (s : State) (i) (f) : (s.updPc i f).dom = s.dom := (rfl)
@[simp] theorem State.updPc_hk (s : State) (i) (f) : (s.updPc i f).hk = s.hk := (rfl)
@[simp] theorem State.updPc_boot (s : State) (i) (f) : (s.updPc i f).boot = s.boot := (rfl)
@[simp] theorem State.updPc_mspi (s : State) (i) (f) : (s.updPc i f).mspi = s.mspi := (rfl)
@[simp] theorem State.updPc_free (s : State) (i) (f) : (s.updPc i f).free = s.free := (rfl)
@[simp] theorem State.updPc_word (s : State) (i) (f) (x) : (s.updPc i f).word x = s.word x := (rfl)
@[simp] theorem State.updPc_rd (s : State) (i) (f) (x) : (s.updPc i f).rd x = s.rd x := (rfl)
@[simp] theorem State.updPc_hbmByte (s : State) (i) (f) (x) : (s.updPc i f).hbmByte x = s.hbmByte x := (rfl)
@[simp] theorem State.updPc_head (s : State) (i) (f) (x) : (s.updPc i f).head x = s.head x := (rfl)
@[simp] theorem State.updPc_now (s : State) (i) (f) : (s.updPc i f).now = s.now := (rfl)

@[simp] theorem State.updMemPort_pending (s : State) (p) (f) : (s.updMemPort p f).pending = s.pending := (rfl)
@[simp] theorem State.updMemPort_dt (s : State) (p) (f) : (s.updMemPort p f).dt = s.dt := (rfl)
@[simp] theorem State.updMemPort_fine (s : State) (p) (f) : (s.updMemPort p f).fine = s.fine := (rfl)
@[simp] theorem State.updMemPort_regs (s : State) (p) (f) : (s.updMemPort p f).regs = s.regs := (rfl)
@[simp] theorem State.updMemPort_fresh (s : State) (p) (f) : (s.updMemPort p f).fresh = s.fresh := (rfl)
@[simp] theorem State.updMemPort_hbm (s : State) (p) (f) : (s.updMemPort p f).hbm = s.hbm := (rfl)
@[simp] theorem State.updMemPort_heads (s : State) (p) (f) : (s.updMemPort p f).heads = s.heads := (rfl)
@[simp] theorem State.updMemPort_dev (s : State) (p) (f) : (s.updMemPort p f).dev = s.dev := (rfl)
@[simp] theorem State.updMemPort_clk (s : State) (p) (f) : (s.updMemPort p f).clk = s.clk := (rfl)
@[simp] theorem State.updMemPort_pwr (s : State) (p) (f) : (s.updMemPort p f).pwr = s.pwr := (rfl)
@[simp] theorem State.updMemPort_thm (s : State) (p) (f) : (s.updMemPort p f).thm = s.thm := (rfl)
@[simp] theorem State.updMemPort_safe (s : State) (p) (f) : (s.updMemPort p f).safe = s.safe := (rfl)
@[simp] theorem State.updMemPort_lines (s : State) (p) (f) : (s.updMemPort p f).lines = s.lines := (rfl)
@[simp] theorem State.updMemPort_groups (s : State) (p) (f) : (s.updMemPort p f).groups = s.groups := (rfl)
@[simp] theorem State.updMemPort_spill (s : State) (p) (f) : (s.updMemPort p f).spill = s.spill := (rfl)
@[simp] theorem State.updMemPort_fields (s : State) (p) (f) : (s.updMemPort p f).fields = s.fields := (rfl)
@[simp] theorem State.updMemPort_babbitt (s : State) (p) (f) : (s.updMemPort p f).babbitt = s.babbitt := (rfl)
@[simp] theorem State.updMemPort_cap (s : State) (p) (f) : (s.updMemPort p f).cap = s.cap := (rfl)
@[simp] theorem State.updMemPort_net (s : State) (p) (f) : (s.updMemPort p f).net = s.net := (rfl)
@[simp] theorem State.updMemPort_lanes (s : State) (p) (f) : (s.updMemPort p f).lanes = s.lanes := (rfl)
@[simp] theorem State.updMemPort_pair (s : State) (p) (f) : (s.updMemPort p f).pair = s.pair := (rfl)
@[simp] theorem State.updMemPort_dom (s : State) (p) (f) : (s.updMemPort p f).dom = s.dom := (rfl)
@[simp] theorem State.updMemPort_hk (s : State) (p) (f) : (s.updMemPort p f).hk = s.hk := (rfl)
@[simp] theorem State.updMemPort_boot (s : State) (p) (f) : (s.updMemPort p f).boot = s.boot := (rfl)
@[simp] theorem State.updMemPort_mspi (s : State) (p) (f) : (s.updMemPort p f).mspi = s.mspi := (rfl)
@[simp] theorem State.updMemPort_free (s : State) (p) (f) : (s.updMemPort p f).free = s.free := (rfl)
@[simp] theorem State.updMemPort_word (s : State) (p) (f) (x) : (s.updMemPort p f).word x = s.word x := (rfl)
@[simp] theorem State.updMemPort_rd (s : State) (p) (f) (x) : (s.updMemPort p f).rd x = s.rd x := (rfl)
@[simp] theorem State.updMemPort_hbmByte (s : State) (p) (f) (x) : (s.updMemPort p f).hbmByte x = s.hbmByte x := (rfl)
@[simp] theorem State.updMemPort_head (s : State) (p) (f) (x) : (s.updMemPort p f).head x = s.head x := (rfl)
@[simp] theorem State.updMemPort_now (s : State) (p) (f) : (s.updMemPort p f).now = s.now := (rfl)

@[simp] theorem State.updLine_pending (s : State) (i) (f) : (s.updLine i f).pending = s.pending := (rfl)
@[simp] theorem State.updLine_dt (s : State) (i) (f) : (s.updLine i f).dt = s.dt := (rfl)
@[simp] theorem State.updLine_fine (s : State) (i) (f) : (s.updLine i f).fine = s.fine := (rfl)
@[simp] theorem State.updLine_regs (s : State) (i) (f) : (s.updLine i f).regs = s.regs := (rfl)
@[simp] theorem State.updLine_fresh (s : State) (i) (f) : (s.updLine i f).fresh = s.fresh := (rfl)
@[simp] theorem State.updLine_hbm (s : State) (i) (f) : (s.updLine i f).hbm = s.hbm := (rfl)
@[simp] theorem State.updLine_heads (s : State) (i) (f) : (s.updLine i f).heads = s.heads := (rfl)
@[simp] theorem State.updLine_dev (s : State) (i) (f) : (s.updLine i f).dev = s.dev := (rfl)
@[simp] theorem State.updLine_clk (s : State) (i) (f) : (s.updLine i f).clk = s.clk := (rfl)
@[simp] theorem State.updLine_pwr (s : State) (i) (f) : (s.updLine i f).pwr = s.pwr := (rfl)
@[simp] theorem State.updLine_thm (s : State) (i) (f) : (s.updLine i f).thm = s.thm := (rfl)
@[simp] theorem State.updLine_safe (s : State) (i) (f) : (s.updLine i f).safe = s.safe := (rfl)
@[simp] theorem State.updLine_groups (s : State) (i) (f) : (s.updLine i f).groups = s.groups := (rfl)
@[simp] theorem State.updLine_spill (s : State) (i) (f) : (s.updLine i f).spill = s.spill := (rfl)
@[simp] theorem State.updLine_fields (s : State) (i) (f) : (s.updLine i f).fields = s.fields := (rfl)
@[simp] theorem State.updLine_babbitt (s : State) (i) (f) : (s.updLine i f).babbitt = s.babbitt := (rfl)
@[simp] theorem State.updLine_cap (s : State) (i) (f) : (s.updLine i f).cap = s.cap := (rfl)
@[simp] theorem State.updLine_net (s : State) (i) (f) : (s.updLine i f).net = s.net := (rfl)
@[simp] theorem State.updLine_lanes (s : State) (i) (f) : (s.updLine i f).lanes = s.lanes := (rfl)
@[simp] theorem State.updLine_pair (s : State) (i) (f) : (s.updLine i f).pair = s.pair := (rfl)
@[simp] theorem State.updLine_dom (s : State) (i) (f) : (s.updLine i f).dom = s.dom := (rfl)
@[simp] theorem State.updLine_mem (s : State) (i) (f) : (s.updLine i f).mem = s.mem := (rfl)
@[simp] theorem State.updLine_hk (s : State) (i) (f) : (s.updLine i f).hk = s.hk := (rfl)
@[simp] theorem State.updLine_boot (s : State) (i) (f) : (s.updLine i f).boot = s.boot := (rfl)
@[simp] theorem State.updLine_mspi (s : State) (i) (f) : (s.updLine i f).mspi = s.mspi := (rfl)
@[simp] theorem State.updLine_free (s : State) (i) (f) : (s.updLine i f).free = s.free := (rfl)
@[simp] theorem State.updLine_word (s : State) (i) (f) (x) : (s.updLine i f).word x = s.word x := (rfl)
@[simp] theorem State.updLine_rd (s : State) (i) (f) (x) : (s.updLine i f).rd x = s.rd x := (rfl)
@[simp] theorem State.updLine_hbmByte (s : State) (i) (f) (x) : (s.updLine i f).hbmByte x = s.hbmByte x := (rfl)
@[simp] theorem State.updLine_head (s : State) (i) (f) (x) : (s.updLine i f).head x = s.head x := (rfl)
@[simp] theorem State.updLine_now (s : State) (i) (f) : (s.updLine i f).now = s.now := (rfl)

@[simp] theorem State.updGroup_pending (s : State) (g) (f) : (s.updGroup g f).pending = s.pending := (rfl)
@[simp] theorem State.updGroup_dt (s : State) (g) (f) : (s.updGroup g f).dt = s.dt := (rfl)
@[simp] theorem State.updGroup_fine (s : State) (g) (f) : (s.updGroup g f).fine = s.fine := (rfl)
@[simp] theorem State.updGroup_regs (s : State) (g) (f) : (s.updGroup g f).regs = s.regs := (rfl)
@[simp] theorem State.updGroup_fresh (s : State) (g) (f) : (s.updGroup g f).fresh = s.fresh := (rfl)
@[simp] theorem State.updGroup_hbm (s : State) (g) (f) : (s.updGroup g f).hbm = s.hbm := (rfl)
@[simp] theorem State.updGroup_heads (s : State) (g) (f) : (s.updGroup g f).heads = s.heads := (rfl)
@[simp] theorem State.updGroup_dev (s : State) (g) (f) : (s.updGroup g f).dev = s.dev := (rfl)
@[simp] theorem State.updGroup_clk (s : State) (g) (f) : (s.updGroup g f).clk = s.clk := (rfl)
@[simp] theorem State.updGroup_pwr (s : State) (g) (f) : (s.updGroup g f).pwr = s.pwr := (rfl)
@[simp] theorem State.updGroup_thm (s : State) (g) (f) : (s.updGroup g f).thm = s.thm := (rfl)
@[simp] theorem State.updGroup_safe (s : State) (g) (f) : (s.updGroup g f).safe = s.safe := (rfl)
@[simp] theorem State.updGroup_lines (s : State) (g) (f) : (s.updGroup g f).lines = s.lines := (rfl)
@[simp] theorem State.updGroup_spill (s : State) (g) (f) : (s.updGroup g f).spill = s.spill := (rfl)
@[simp] theorem State.updGroup_fields (s : State) (g) (f) : (s.updGroup g f).fields = s.fields := (rfl)
@[simp] theorem State.updGroup_babbitt (s : State) (g) (f) : (s.updGroup g f).babbitt = s.babbitt := (rfl)
@[simp] theorem State.updGroup_cap (s : State) (g) (f) : (s.updGroup g f).cap = s.cap := (rfl)
@[simp] theorem State.updGroup_net (s : State) (g) (f) : (s.updGroup g f).net = s.net := (rfl)
@[simp] theorem State.updGroup_lanes (s : State) (g) (f) : (s.updGroup g f).lanes = s.lanes := (rfl)
@[simp] theorem State.updGroup_pair (s : State) (g) (f) : (s.updGroup g f).pair = s.pair := (rfl)
@[simp] theorem State.updGroup_dom (s : State) (g) (f) : (s.updGroup g f).dom = s.dom := (rfl)
@[simp] theorem State.updGroup_mem (s : State) (g) (f) : (s.updGroup g f).mem = s.mem := (rfl)
@[simp] theorem State.updGroup_hk (s : State) (g) (f) : (s.updGroup g f).hk = s.hk := (rfl)
@[simp] theorem State.updGroup_boot (s : State) (g) (f) : (s.updGroup g f).boot = s.boot := (rfl)
@[simp] theorem State.updGroup_mspi (s : State) (g) (f) : (s.updGroup g f).mspi = s.mspi := (rfl)
@[simp] theorem State.updGroup_free (s : State) (g) (f) : (s.updGroup g f).free = s.free := (rfl)
@[simp] theorem State.updGroup_word (s : State) (g) (f) (x) : (s.updGroup g f).word x = s.word x := (rfl)
@[simp] theorem State.updGroup_rd (s : State) (g) (f) (x) : (s.updGroup g f).rd x = s.rd x := (rfl)
@[simp] theorem State.updGroup_hbmByte (s : State) (g) (f) (x) : (s.updGroup g f).hbmByte x = s.hbmByte x := (rfl)
@[simp] theorem State.updGroup_head (s : State) (g) (f) (x) : (s.updGroup g f).head x = s.head x := (rfl)
@[simp] theorem State.updGroup_now (s : State) (g) (f) : (s.updGroup g f).now = s.now := (rfl)

@[simp] theorem State.updRec_pending (s : State) (g) (b) (j) (f) : (s.updRec g b j f).pending = s.pending := (rfl)
@[simp] theorem State.updRec_dt (s : State) (g) (b) (j) (f) : (s.updRec g b j f).dt = s.dt := (rfl)
@[simp] theorem State.updRec_fine (s : State) (g) (b) (j) (f) : (s.updRec g b j f).fine = s.fine := (rfl)
@[simp] theorem State.updRec_regs (s : State) (g) (b) (j) (f) : (s.updRec g b j f).regs = s.regs := (rfl)
@[simp] theorem State.updRec_fresh (s : State) (g) (b) (j) (f) : (s.updRec g b j f).fresh = s.fresh := (rfl)
@[simp] theorem State.updRec_hbm (s : State) (g) (b) (j) (f) : (s.updRec g b j f).hbm = s.hbm := (rfl)
@[simp] theorem State.updRec_heads (s : State) (g) (b) (j) (f) : (s.updRec g b j f).heads = s.heads := (rfl)
@[simp] theorem State.updRec_dev (s : State) (g) (b) (j) (f) : (s.updRec g b j f).dev = s.dev := (rfl)
@[simp] theorem State.updRec_clk (s : State) (g) (b) (j) (f) : (s.updRec g b j f).clk = s.clk := (rfl)
@[simp] theorem State.updRec_pwr (s : State) (g) (b) (j) (f) : (s.updRec g b j f).pwr = s.pwr := (rfl)
@[simp] theorem State.updRec_thm (s : State) (g) (b) (j) (f) : (s.updRec g b j f).thm = s.thm := (rfl)
@[simp] theorem State.updRec_safe (s : State) (g) (b) (j) (f) : (s.updRec g b j f).safe = s.safe := (rfl)
@[simp] theorem State.updRec_lines (s : State) (g) (b) (j) (f) : (s.updRec g b j f).lines = s.lines := (rfl)
@[simp] theorem State.updRec_spill (s : State) (g) (b) (j) (f) : (s.updRec g b j f).spill = s.spill := (rfl)
@[simp] theorem State.updRec_fields (s : State) (g) (b) (j) (f) : (s.updRec g b j f).fields = s.fields := (rfl)
@[simp] theorem State.updRec_babbitt (s : State) (g) (b) (j) (f) : (s.updRec g b j f).babbitt = s.babbitt := (rfl)
@[simp] theorem State.updRec_cap (s : State) (g) (b) (j) (f) : (s.updRec g b j f).cap = s.cap := (rfl)
@[simp] theorem State.updRec_net (s : State) (g) (b) (j) (f) : (s.updRec g b j f).net = s.net := (rfl)
@[simp] theorem State.updRec_lanes (s : State) (g) (b) (j) (f) : (s.updRec g b j f).lanes = s.lanes := (rfl)
@[simp] theorem State.updRec_pair (s : State) (g) (b) (j) (f) : (s.updRec g b j f).pair = s.pair := (rfl)
@[simp] theorem State.updRec_dom (s : State) (g) (b) (j) (f) : (s.updRec g b j f).dom = s.dom := (rfl)
@[simp] theorem State.updRec_mem (s : State) (g) (b) (j) (f) : (s.updRec g b j f).mem = s.mem := (rfl)
@[simp] theorem State.updRec_hk (s : State) (g) (b) (j) (f) : (s.updRec g b j f).hk = s.hk := (rfl)
@[simp] theorem State.updRec_boot (s : State) (g) (b) (j) (f) : (s.updRec g b j f).boot = s.boot := (rfl)
@[simp] theorem State.updRec_mspi (s : State) (g) (b) (j) (f) : (s.updRec g b j f).mspi = s.mspi := (rfl)
@[simp] theorem State.updRec_free (s : State) (g) (b) (j) (f) : (s.updRec g b j f).free = s.free := (rfl)
@[simp] theorem State.updRec_word (s : State) (g) (b) (j) (f) (x) : (s.updRec g b j f).word x = s.word x := (rfl)
@[simp] theorem State.updRec_rd (s : State) (g) (b) (j) (f) (x) : (s.updRec g b j f).rd x = s.rd x := (rfl)
@[simp] theorem State.updRec_hbmByte (s : State) (g) (b) (j) (f) (x) : (s.updRec g b j f).hbmByte x = s.hbmByte x := (rfl)
@[simp] theorem State.updRec_head (s : State) (g) (b) (j) (f) (x) : (s.updRec g b j f).head x = s.head x := (rfl)
@[simp] theorem State.updRec_now (s : State) (g) (b) (j) (f) : (s.updRec g b j f).now = s.now := (rfl)

@[simp] theorem State.updChannel_pending (s : State) (c) (f) : (s.updChannel c f).pending = s.pending := (rfl)
@[simp] theorem State.updChannel_dt (s : State) (c) (f) : (s.updChannel c f).dt = s.dt := (rfl)
@[simp] theorem State.updChannel_fine (s : State) (c) (f) : (s.updChannel c f).fine = s.fine := (rfl)
@[simp] theorem State.updChannel_regs (s : State) (c) (f) : (s.updChannel c f).regs = s.regs := (rfl)
@[simp] theorem State.updChannel_fresh (s : State) (c) (f) : (s.updChannel c f).fresh = s.fresh := (rfl)
@[simp] theorem State.updChannel_hbm (s : State) (c) (f) : (s.updChannel c f).hbm = s.hbm := (rfl)
@[simp] theorem State.updChannel_heads (s : State) (c) (f) : (s.updChannel c f).heads = s.heads := (rfl)
@[simp] theorem State.updChannel_dev (s : State) (c) (f) : (s.updChannel c f).dev = s.dev := (rfl)
@[simp] theorem State.updChannel_clk (s : State) (c) (f) : (s.updChannel c f).clk = s.clk := (rfl)
@[simp] theorem State.updChannel_pwr (s : State) (c) (f) : (s.updChannel c f).pwr = s.pwr := (rfl)
@[simp] theorem State.updChannel_thm (s : State) (c) (f) : (s.updChannel c f).thm = s.thm := (rfl)
@[simp] theorem State.updChannel_lines (s : State) (c) (f) : (s.updChannel c f).lines = s.lines := (rfl)
@[simp] theorem State.updChannel_groups (s : State) (c) (f) : (s.updChannel c f).groups = s.groups := (rfl)
@[simp] theorem State.updChannel_spill (s : State) (c) (f) : (s.updChannel c f).spill = s.spill := (rfl)
@[simp] theorem State.updChannel_fields (s : State) (c) (f) : (s.updChannel c f).fields = s.fields := (rfl)
@[simp] theorem State.updChannel_babbitt (s : State) (c) (f) : (s.updChannel c f).babbitt = s.babbitt := (rfl)
@[simp] theorem State.updChannel_cap (s : State) (c) (f) : (s.updChannel c f).cap = s.cap := (rfl)
@[simp] theorem State.updChannel_net (s : State) (c) (f) : (s.updChannel c f).net = s.net := (rfl)
@[simp] theorem State.updChannel_lanes (s : State) (c) (f) : (s.updChannel c f).lanes = s.lanes := (rfl)
@[simp] theorem State.updChannel_pair (s : State) (c) (f) : (s.updChannel c f).pair = s.pair := (rfl)
@[simp] theorem State.updChannel_dom (s : State) (c) (f) : (s.updChannel c f).dom = s.dom := (rfl)
@[simp] theorem State.updChannel_mem (s : State) (c) (f) : (s.updChannel c f).mem = s.mem := (rfl)
@[simp] theorem State.updChannel_hk (s : State) (c) (f) : (s.updChannel c f).hk = s.hk := (rfl)
@[simp] theorem State.updChannel_boot (s : State) (c) (f) : (s.updChannel c f).boot = s.boot := (rfl)
@[simp] theorem State.updChannel_mspi (s : State) (c) (f) : (s.updChannel c f).mspi = s.mspi := (rfl)
@[simp] theorem State.updChannel_free (s : State) (c) (f) : (s.updChannel c f).free = s.free := (rfl)
@[simp] theorem State.updChannel_word (s : State) (c) (f) (x) : (s.updChannel c f).word x = s.word x := (rfl)
@[simp] theorem State.updChannel_rd (s : State) (c) (f) (x) : (s.updChannel c f).rd x = s.rd x := (rfl)
@[simp] theorem State.updChannel_hbmByte (s : State) (c) (f) (x) : (s.updChannel c f).hbmByte x = s.hbmByte x := (rfl)
@[simp] theorem State.updChannel_head (s : State) (c) (f) (x) : (s.updChannel c f).head x = s.head x := (rfl)
@[simp] theorem State.updChannel_now (s : State) (c) (f) : (s.updChannel c f).now = s.now := (rfl)

@[simp] theorem State.updInput_pending (s : State) (n) (f) : (s.updInput n f).pending = s.pending := (rfl)
@[simp] theorem State.updInput_dt (s : State) (n) (f) : (s.updInput n f).dt = s.dt := (rfl)
@[simp] theorem State.updInput_fine (s : State) (n) (f) : (s.updInput n f).fine = s.fine := (rfl)
@[simp] theorem State.updInput_regs (s : State) (n) (f) : (s.updInput n f).regs = s.regs := (rfl)
@[simp] theorem State.updInput_fresh (s : State) (n) (f) : (s.updInput n f).fresh = s.fresh := (rfl)
@[simp] theorem State.updInput_hbm (s : State) (n) (f) : (s.updInput n f).hbm = s.hbm := (rfl)
@[simp] theorem State.updInput_heads (s : State) (n) (f) : (s.updInput n f).heads = s.heads := (rfl)
@[simp] theorem State.updInput_dev (s : State) (n) (f) : (s.updInput n f).dev = s.dev := (rfl)
@[simp] theorem State.updInput_clk (s : State) (n) (f) : (s.updInput n f).clk = s.clk := (rfl)
@[simp] theorem State.updInput_pwr (s : State) (n) (f) : (s.updInput n f).pwr = s.pwr := (rfl)
@[simp] theorem State.updInput_thm (s : State) (n) (f) : (s.updInput n f).thm = s.thm := (rfl)
@[simp] theorem State.updInput_lines (s : State) (n) (f) : (s.updInput n f).lines = s.lines := (rfl)
@[simp] theorem State.updInput_groups (s : State) (n) (f) : (s.updInput n f).groups = s.groups := (rfl)
@[simp] theorem State.updInput_spill (s : State) (n) (f) : (s.updInput n f).spill = s.spill := (rfl)
@[simp] theorem State.updInput_fields (s : State) (n) (f) : (s.updInput n f).fields = s.fields := (rfl)
@[simp] theorem State.updInput_babbitt (s : State) (n) (f) : (s.updInput n f).babbitt = s.babbitt := (rfl)
@[simp] theorem State.updInput_cap (s : State) (n) (f) : (s.updInput n f).cap = s.cap := (rfl)
@[simp] theorem State.updInput_net (s : State) (n) (f) : (s.updInput n f).net = s.net := (rfl)
@[simp] theorem State.updInput_lanes (s : State) (n) (f) : (s.updInput n f).lanes = s.lanes := (rfl)
@[simp] theorem State.updInput_pair (s : State) (n) (f) : (s.updInput n f).pair = s.pair := (rfl)
@[simp] theorem State.updInput_dom (s : State) (n) (f) : (s.updInput n f).dom = s.dom := (rfl)
@[simp] theorem State.updInput_mem (s : State) (n) (f) : (s.updInput n f).mem = s.mem := (rfl)
@[simp] theorem State.updInput_hk (s : State) (n) (f) : (s.updInput n f).hk = s.hk := (rfl)
@[simp] theorem State.updInput_boot (s : State) (n) (f) : (s.updInput n f).boot = s.boot := (rfl)
@[simp] theorem State.updInput_mspi (s : State) (n) (f) : (s.updInput n f).mspi = s.mspi := (rfl)
@[simp] theorem State.updInput_free (s : State) (n) (f) : (s.updInput n f).free = s.free := (rfl)
@[simp] theorem State.updInput_word (s : State) (n) (f) (x) : (s.updInput n f).word x = s.word x := (rfl)
@[simp] theorem State.updInput_rd (s : State) (n) (f) (x) : (s.updInput n f).rd x = s.rd x := (rfl)
@[simp] theorem State.updInput_hbmByte (s : State) (n) (f) (x) : (s.updInput n f).hbmByte x = s.hbmByte x := (rfl)
@[simp] theorem State.updInput_head (s : State) (n) (f) (x) : (s.updInput n f).head x = s.head x := (rfl)
@[simp] theorem State.updInput_now (s : State) (n) (f) : (s.updInput n f).now = s.now := (rfl)

@[simp] theorem State.updConn_pending (s : State) (c) (f) : (s.updConn c f).pending = s.pending := (rfl)
@[simp] theorem State.updConn_dt (s : State) (c) (f) : (s.updConn c f).dt = s.dt := (rfl)
@[simp] theorem State.updConn_fine (s : State) (c) (f) : (s.updConn c f).fine = s.fine := (rfl)
@[simp] theorem State.updConn_regs (s : State) (c) (f) : (s.updConn c f).regs = s.regs := (rfl)
@[simp] theorem State.updConn_fresh (s : State) (c) (f) : (s.updConn c f).fresh = s.fresh := (rfl)
@[simp] theorem State.updConn_hbm (s : State) (c) (f) : (s.updConn c f).hbm = s.hbm := (rfl)
@[simp] theorem State.updConn_heads (s : State) (c) (f) : (s.updConn c f).heads = s.heads := (rfl)
@[simp] theorem State.updConn_dev (s : State) (c) (f) : (s.updConn c f).dev = s.dev := (rfl)
@[simp] theorem State.updConn_clk (s : State) (c) (f) : (s.updConn c f).clk = s.clk := (rfl)
@[simp] theorem State.updConn_pwr (s : State) (c) (f) : (s.updConn c f).pwr = s.pwr := (rfl)
@[simp] theorem State.updConn_thm (s : State) (c) (f) : (s.updConn c f).thm = s.thm := (rfl)
@[simp] theorem State.updConn_lines (s : State) (c) (f) : (s.updConn c f).lines = s.lines := (rfl)
@[simp] theorem State.updConn_groups (s : State) (c) (f) : (s.updConn c f).groups = s.groups := (rfl)
@[simp] theorem State.updConn_spill (s : State) (c) (f) : (s.updConn c f).spill = s.spill := (rfl)
@[simp] theorem State.updConn_fields (s : State) (c) (f) : (s.updConn c f).fields = s.fields := (rfl)
@[simp] theorem State.updConn_babbitt (s : State) (c) (f) : (s.updConn c f).babbitt = s.babbitt := (rfl)
@[simp] theorem State.updConn_cap (s : State) (c) (f) : (s.updConn c f).cap = s.cap := (rfl)
@[simp] theorem State.updConn_net (s : State) (c) (f) : (s.updConn c f).net = s.net := (rfl)
@[simp] theorem State.updConn_lanes (s : State) (c) (f) : (s.updConn c f).lanes = s.lanes := (rfl)
@[simp] theorem State.updConn_pair (s : State) (c) (f) : (s.updConn c f).pair = s.pair := (rfl)
@[simp] theorem State.updConn_dom (s : State) (c) (f) : (s.updConn c f).dom = s.dom := (rfl)
@[simp] theorem State.updConn_mem (s : State) (c) (f) : (s.updConn c f).mem = s.mem := (rfl)
@[simp] theorem State.updConn_hk (s : State) (c) (f) : (s.updConn c f).hk = s.hk := (rfl)
@[simp] theorem State.updConn_boot (s : State) (c) (f) : (s.updConn c f).boot = s.boot := (rfl)
@[simp] theorem State.updConn_mspi (s : State) (c) (f) : (s.updConn c f).mspi = s.mspi := (rfl)
@[simp] theorem State.updConn_free (s : State) (c) (f) : (s.updConn c f).free = s.free := (rfl)
@[simp] theorem State.updConn_word (s : State) (c) (f) (x) : (s.updConn c f).word x = s.word x := (rfl)
@[simp] theorem State.updConn_rd (s : State) (c) (f) (x) : (s.updConn c f).rd x = s.rd x := (rfl)
@[simp] theorem State.updConn_hbmByte (s : State) (c) (f) (x) : (s.updConn c f).hbmByte x = s.hbmByte x := (rfl)
@[simp] theorem State.updConn_head (s : State) (c) (f) (x) : (s.updConn c f).head x = s.head x := (rfl)
@[simp] theorem State.updConn_now (s : State) (c) (f) : (s.updConn c f).now = s.now := (rfl)

end Sys2Proof.Machine
end

