-- ==== Sys2Proof/Laws/Memory.lean ====
section
/-! SUPPORT. The laws of the byte memories (the HBM and the boot flash): a byte reads as it was written, a write leaves every byte
outside it alone, and every operation keeps the canonical form. -/

namespace Sys2Proof.Machine

variable (d : Nat → Byte)

/-- A byte outside the bytes written keeps its value. -/
theorem get_writeBytes_out (m : SMap Byte) (a : Nat) (bs : List Byte) {i : Nat} (h : i < a ∨ a + bs.length ≤ i) :
    SMap.get d (writeBytes d m a bs) i = SMap.get d m i := by
  induction bs generalizing m a with
  | nil => rfl
  | cons b bs ih =>
    simp only [List.length_cons] at h
    rw [writeBytes, ih _ _ (by omega), SMap.get_set_ne d m b (by omega)]

/-- Byte `i` of the bytes written reads as byte `i` of the list. -/
theorem get_writeBytes_in (m : SMap Byte) (a : Nat) (bs : List Byte) {i : Nat} (h : i < bs.length) :
    SMap.get d (writeBytes d m a bs) (a + i) = bs[i] := by
  induction bs generalizing m a i with
  | nil => exact absurd h (Nat.not_lt_zero i)
  | cons b bs ih =>
    cases i with
    | zero =>
      rw [writeBytes, get_writeBytes_out d _ _ _ (by omega)]
      simp
    | succ i =>
      have := ih (SMap.set d m a b) (a + 1) (i := i) (by simpa using h)
      rw [writeBytes, show a + (i + 1) = a + 1 + i by omega, this]
      simp

/-- Writing bytes keeps the canonical form. -/
theorem wf_writeBytes (m : SMap Byte) (a : Nat) (bs : List Byte) (h : SMap.wf d m = true) :
    SMap.wf d (writeBytes d m a bs) = true := by
  induction bs generalizing m a with
  | nil => exact h
  | cons b bs ih => exact ih _ _ (SMap.wf_set d m a b h)

theorem State.hbmByte_hbmWrite_out (s : State) (a : Nat) (bs : List Byte) {i : Nat} (h : i < a ∨ a + bs.length ≤ i) :
    (s.hbmWrite a bs).hbmByte i = s.hbmByte i := get_writeBytes_out _ _ _ _ h

theorem State.hbmByte_hbmWrite_in (s : State) (a : Nat) (bs : List Byte) {i : Nat} (h : i < bs.length) :
    (s.hbmWrite a bs).hbmByte (a + i) = bs[i] := get_writeBytes_in _ _ _ _ h

theorem State.hbm_wf_hbmWrite (s : State) (a : Nat) (bs : List Byte) (h : SMap.wf hbmDefault s.hbm = true) :
    SMap.wf hbmDefault (s.hbmWrite a bs).hbm = true := wf_writeBytes _ _ _ _ h

/-- What was written reads back whole. -/
theorem State.hbmBytes_hbmWrite (s : State) (a : Nat) (bs : List Byte) : (s.hbmWrite a bs).hbmBytes a bs.length = bs := by
  apply List.ext_getElem
  · simp [State.hbmBytes]
  · intro i h1 h2
    simp only [State.hbmBytes, List.getElem_map, List.getElem_range]
    exact s.hbmByte_hbmWrite_in a bs h2

theorem State.hbmNat_hbmWrite (s : State) (a n v : Nat) : (s.hbmWrite a (bytesLE n v)).hbmNat a n = v % 256 ^ n := by
  have h := s.hbmBytes_hbmWrite a (bytesLE n v)
  rw [length_bytesLE] at h
  rw [State.hbmNat, h, ofBytesLE_bytesLE]

end Sys2Proof.Machine
end

