-- ==== Sys2Proof/Laws/Registers.lean ====
section
/-! SUPPORT. The laws of the registers: a field reads as what was written to it, and a write leaves every other field and every
other register alone. -/

namespace Sys2Proof.Machine

theorem State.word_lt (s : State) (a : Nat) : s.word a < 2 ^ 32 := (SMap.get resetWord s.regs a).isLt

theorem State.rd_lt (s : State) (f : FRef) : s.rd f < 2 ^ f.width := bits_lt _ _ _

theorem State.word_setWord_same (s : State) (a v : Nat) : (s.setWord a v).word a = v % 2 ^ 32 := by
  simp [State.word, State.setWord]

theorem State.word_setWord_ne (s : State) {a b : Nat} (v : Nat) (h : b ≠ a) : (s.setWord a v).word b = s.word b := by
  simp [State.word, State.setWord, SMap.get_set_ne resetWord s.regs _ h]

/-- A write to a field changes no other register. -/
theorem State.word_wr_ne (s : State) {f : FRef} {b : Nat} (v : Nat) (h : b ≠ f.addr) : (s.wr f v).word b = s.word b :=
  s.word_setWord_ne _ h

theorem State.word_wrS_ne (s : State) {f : FRef} {b : Nat} (v : Int) (h : b ≠ f.addr) : (s.wrS f v).word b = s.word b :=
  s.word_wr_ne _ h

theorem State.word_wrB_ne (s : State) {f : FRef} {b : Nat} (v : Bool) (h : b ≠ f.addr) : (s.wrB f v).word b = s.word b :=
  s.word_wr_ne _ h

theorem State.word_add_ne (s : State) {f : FRef} {b : Nat} (n : Nat) (h : b ≠ f.addr) : (s.add f n).word b = s.word b :=
  s.word_wr_ne _ h

theorem State.word_inc_ne (s : State) {f : FRef} {b : Nat} (h : b ≠ f.addr) : (s.inc f).word b = s.word b :=
  s.word_wr_ne _ h

theorem State.word_incSat_ne (s : State) {f : FRef} {b : Nat} (h : b ≠ f.addr) : (s.incSat f).word b = s.word b :=
  s.word_wr_ne _ h

theorem State.word_wrBit_ne (s : State) {f : FRef} {b : Nat} (i : Nat) (v : Bool) (h : b ≠ f.addr) :
    (s.wrBit f i v).word b = s.word b :=
  s.word_wr_ne _ h

theorem State.word_wr64_ne (s : State) {lo hi : FRef} {b : Nat} (v : Nat) (h : b ≠ lo.addr) (g : b ≠ hi.addr) :
    (s.wr64 lo hi v).word b = s.word b := by
  unfold State.wr64
  rw [State.word_wr_ne _ _ g, State.word_wr_ne _ _ h]

/-- The word that a write to a field leaves: the field replaced, every other bit kept. -/
theorem State.word_wr_same (s : State) {f : FRef} (v : Nat) (h : f.lo ≤ f.hi) (w : f.hi < 32) :
    (s.wr f v).word f.addr = putBits (s.word f.addr) f.hi f.lo v := by
  unfold State.wr
  rw [State.word_setWord_same, Nat.mod_eq_of_lt (putBits_lt v h w (s.word_lt _))]

/-- A field reads as what was written to it, narrowed to its width. -/
theorem State.rd_wr_same (s : State) {f : FRef} (v : Nat) (h : f.lo ≤ f.hi) (w : f.hi < 32) :
    (s.wr f v).rd f = v % 2 ^ f.width := by
  rw [State.rd, State.word_wr_same s v h w, bits_putBits_same _ _ h]

/-- A field that shares no bit with the one written keeps its value. -/
theorem State.rd_wr_ne (s : State) {f g : FRef} (v : Nat) (h : f.lo ≤ f.hi) (w : f.hi < 32) (hg : g.lo ≤ g.hi)
    (d : f.Disjoint g) : (s.wr f v).rd g = s.rd g := by
  unfold State.rd
  by_cases ha : g.addr = f.addr
  · rw [ha, State.word_wr_same s v h w]
    rcases d with d | d | d
    · exact absurd ha.symm d
    · exact bits_putBits_above _ _ h d
    · exact bits_putBits_below _ _ h d hg
  · rw [State.word_wr_ne s v ha]

/-- A field of another register keeps its value. -/
theorem State.rd_wr_addr (s : State) {f g : FRef} (v : Nat) (h : g.addr ≠ f.addr) : (s.wr f v).rd g = s.rd g := by
  unfold State.rd; rw [State.word_wr_ne s v h]

theorem State.rd_setWord_ne (s : State) {a : Nat} {g : FRef} (v : Nat) (h : g.addr ≠ a) : (s.setWord a v).rd g = s.rd g := by
  unfold State.rd; rw [State.word_setWord_ne s v h]

/-- A counter that wraps advances by one (R487). -/
theorem State.rd_inc_same (s : State) {f : FRef} (h : f.lo ≤ f.hi) (w : f.hi < 32) :
    (s.inc f).rd f = (s.rd f + 1) % 2 ^ f.width := State.rd_wr_same s _ h w

/-- A counter that saturates advances by one, up to its largest value (R487). -/
theorem State.rd_incSat_same (s : State) {f : FRef} (h : f.lo ≤ f.hi) (w : f.hi < 32) :
    (s.incSat f).rd f = min (s.rd f + 1) (2 ^ f.width - 1) := by
  unfold State.incSat
  rw [State.rd_wr_same s _ h w, Nat.mod_eq_of_lt]
  · rfl
  · have := Nat.two_pow_pos f.width
    have := Nat.min_le_right (s.rd f + 1) (2 ^ f.width - 1)
    show min (s.rd f + 1) (2 ^ f.width - 1) < 2 ^ f.width
    omega

/-- A flag reads as it was written. -/
theorem State.on_wrB_same (s : State) {f : FRef} (b : Bool) (h : f.lo ≤ f.hi) (w : f.hi < 32) : (s.wrB f b).on f = b := by
  unfold State.on State.wrB
  rw [State.rd_wr_same s _ h w]
  have : 2 ≤ 2 ^ f.width := by
    have := Nat.pow_le_pow_right (show 0 < 2 by decide) (show 1 ≤ f.width by unfold FRef.width; omega)
    simpa using this
  cases b with
  | false => simp
  | true => simp [Nat.mod_eq_of_lt (show 1 < 2 ^ f.width by omega)]

/-- A 64-bit pair of two registers reads as what was written to it. -/
theorem State.rd64_wr64_same (s : State) {lo hi : FRef} (v : Nat) (hl : lo.lo = 0) (wl : lo.hi = 31) (hh : hi.lo = 0)
    (wh : hi.hi = 31) (hv : v < 2 ^ 64) (d : lo.addr ≠ hi.addr) : (s.wr64 lo hi v).rd64 lo hi = v := by
  unfold State.wr64 State.rd64
  rw [State.rd_wr_addr _ _ d, State.rd_wr_same _ _ (by omega) (by omega), State.rd_wr_same _ _ (by omega) (by omega)]
  have e1 : lo.width = 32 := by unfold FRef.width; omega
  have e2 : hi.width = 32 := by unfold FRef.width; omega
  rw [e1, e2, Nat.mod_mod, Nat.mod_eq_of_lt (show v / 2 ^ 32 < 2 ^ 32 by omega)]
  omega

/-- Every register write keeps the canonical form of the registers. -/
theorem State.regs_wf_setWord (s : State) (a v : Nat) (h : SMap.wf resetWord s.regs = true) :
    SMap.wf resetWord (s.setWord a v).regs = true := SMap.wf_set _ _ _ _ h

end Sys2Proof.Machine
end

