-- ==== Sys2Proof/Laws/Ops.lean ====
section
/-! SUPPORT. What each shared operation can do, said once. `π` stands for anything read from a state: a field, a register's word, a byte
of a memory, a head. A lemma `_keeps` says: what the operation's own updates keep, the operation keeps. With `π := (·.lines)`,
`(·.word a)`, `(·.hbmByte a)`, `(·.head h)` it gives the frame of every part of the state, without unfolding the operation. -/

namespace Sys2Proof.Machine

variable {α : Type} (π : State → α)

/-! ### The form of every meaning -/

/-- A meaning answers a next state: its effect at the command's DT, with the queue as it was. -/
theorem State.run_eq (s : State) (t : Time) (f : State → State) :
    s.run t f = .next { f (s.upTo t) with pending := s.pending } := rfl

/-- What a meaning's next state is, when it answers one. -/
theorem State.run_next {s u : State} {t : Time} {f : State → State} (h : s.run t f = .next u) :
    u = { f (s.upTo t) with pending := s.pending } := by
  simp only [State.run, Host.Outcome.next.injEq] at h; exact h.symm

/-- A meaning keeps whatever its effect keeps and neither DT nor the queue shows. -/
theorem State.run_keeps {s u : State} {t : Time} {f : State → State} (h : s.run t f = .next u)
    (hp : ∀ (v : State) q, π { v with pending := q } = π v) (ht : ∀ (v : State) d, π { v with dt := d } = π v)
    (hf : π (f (s.upTo t)) = π (s.upTo t)) : π u = π s := by
  rw [State.run_next h, hp, hf]; exact ht s _

theorem State.now_upTo (s : State) (t : Time) : (s.upTo t).now = max s.now t.toNat := by
  unfold State.upTo State.now
  by_cases h : s.dt.toNat ≤ t.toNat <;> simp [h] <;> omega

/-! ### Control -/

@[simp] theorem State.when_true (s : State) (f : State → State) : s.when true f = f s := rfl
@[simp] theorem State.when_false (s : State) (f : State → State) : s.when false f = s := rfl

theorem State.when_keeps {s : State} {c : Bool} {f : State → State} (h : c = true → π (f s) = π s) : π (s.when c f) = π s := by
  cases c
  · rfl
  · exact h rfl

theorem ite_keeps {c : Prop} [Decidable c] {a b : State} {x : α} (ha : π a = x) (hb : π b = x) : π (if c then a else b) = x := by
  split
  · exact ha
  · exact hb

theorem foldl_keeps {β : Type} (l : List β) (f : State → β → State) (h : ∀ s, ∀ x ∈ l, π (f s x) = π s) (s : State) :
    π (l.foldl f s) = π s := by
  induction l generalizing s with
  | nil => rfl
  | cons x l ih =>
    rw [List.foldl_cons, ih (fun s y hy => h s y (List.mem_cons_of_mem _ hy)), h s x List.mem_cons_self]

theorem State.each_keeps {n : Nat} {f : Nat → State → State} (h : ∀ i < n, ∀ s, π (f i s) = π s) (s : State) :
    π (s.each n f) = π s :=
  foldl_keeps π _ _ (fun s x hx => h x (List.mem_range.mp hx) s) s

theorem State.eachHead_keeps {f : Nat → State → State} (h : ∀ i < 16, ∀ s, π (f i s) = π s) (s : State) :
    π (s.eachHead f) = π s :=
  foldl_keeps π _ _ (fun s x hx => h x (List.mem_range.mp hx) s) s

/-- A property that each round keeps holds after all of them. -/
theorem State.each_induct {P : State → Prop} {n : Nat} {f : Nat → State → State} (h : ∀ i < n, ∀ s, P s → P (f i s)) (s : State)
    (hs : P s) : P (s.each n f) := by
  have : ∀ (l : List Nat) (s : State), (∀ x ∈ l, x < n) → P s → P (l.foldl (fun s i => f i s) s) := by
    intro l
    induction l with
    | nil => intro s _ hs; exact hs
    | cons x l ih =>
      intro s hx hs
      exact ih _ (fun y hy => hx y (List.mem_cons_of_mem _ hy)) (h x (hx x List.mem_cons_self) s hs)
  exact this _ s (fun x hx => List.mem_range.mp hx) hs

/-! ### Register writes -/

section
variable {f : FRef} (h : ∀ (s : State) v, π (s.setWord f.addr v) = π s) (s : State)
include h

theorem State.wr_keeps (v : Nat) : π (s.wr f v) = π s := h _ _
theorem State.wrS_keeps (v : Int) : π (s.wrS f v) = π s := h _ _
theorem State.wrB_keeps (v : Bool) : π (s.wrB f v) = π s := h _ _
theorem State.add_keeps (n : Nat) : π (s.add f n) = π s := h _ _
theorem State.inc_keeps : π (s.inc f) = π s := h _ _
theorem State.incSat_keeps : π (s.incSat f) = π s := h _ _
theorem State.wrBit_keeps (i : Nat) (v : Bool) : π (s.wrBit f i v) = π s := h _ _
end

theorem State.wr64_keeps {lo hi : FRef} (h : ∀ (s : State) v, π (s.setWord lo.addr v) = π s)
    (g : ∀ (s : State) v, π (s.setWord hi.addr v) = π s) (s : State) (v : Nat) : π (s.wr64 lo hi v) = π s :=
  (g _ _).trans (h _ _)

/-- A W1C bit set by the device: its register, and the note of what was set at this DT (R7). -/
theorem State.latch_keeps {f : FRef} (h : ∀ (s : State) v, π (s.setWord f.addr v) = π s)
    (g : ∀ (s : State) x, π { s with fresh := x } = π s) (s : State) : π (s.latch f) = π s := (g _ _).trans (h _ _)

/-! ### Occurrences and outputs -/

section
variable (cap : ∀ (s : State) f, π (s.updCap f) = π s)
include cap

theorem State.occur_keeps (o : Occ) (s : State) : π (s.occur o) = π s :=
  State.each_keeps π (fun _ _ s => cap s _) s

theorem State.occurNow_keeps (src arg : Nat) (s : State) : π (s.occurNow src arg) = π s := State.occur_keeps π cap _ s

variable (safe : ∀ (s : State) f, π (s.updSafe f) = π s)
  (ossd : ∀ (s : State) v, π (s.setWord R.SAFE_OSSD_STATUS.addr v) = π s)
include safe ossd

omit cap in
theorem State.chanOff_keeps (m : Nat) (b : Bool) (s : State) : π (s.chanOff m b) = π s := by
  unfold State.chanOff
  refine (safe _ _).trans ?_
  cases b <;> exact ossd _ _

theorem State.pairOff_keeps (m cause : Nat) (s : State) : π (s.pairOff m cause) = π s := by
  unfold State.pairOff State.eachIsland
  refine (State.when_keeps π fun _ => State.occurNow_keeps π cap _ _ _).trans ?_
  refine (ossd _ _).trans ?_
  exact (State.chanOff_keeps π safe ossd _ _ _).trans (State.chanOff_keeps π safe ossd _ _ _)

theorem State.ossdOff_keeps (cause : Nat) (s : State) : π (s.ossdOff cause) = π s :=
  State.each_keeps π (fun _ _ s => State.pairOff_keeps π cap safe ossd _ _ s) s
end

/-! ### The token of a pair -/

theorem State.tokenSet_keeps (gate : ∀ h, ∀ a ∈ gateRegs h, ∀ (s : State) v, π (s.setWord a v) = π s)
    (fresh : ∀ (s : State) x, π { s with fresh := x } = π s) (s : State) : π s.tokenSet = π s := by
  refine State.eachHead_keeps π (fun h _ s => ?_) s
  have g0 := gate h (R.FIRE_INHIBIT.addr h) (by simp [gateRegs])
  have g1 := gate h (R.FIRE_INHIBIT_LATCH.addr h) (by simp [gateRegs])
  have g2 := gate h (R.HEAD_STATE.addr h) (by simp [gateRegs])
  dsimp only
  refine (g2 _ _).trans ?_
  refine (State.when_keeps π fun _ => State.latch_keeps π g1 fresh _).trans ?_
  exact g0 _ _

theorem State.tokenRelease_keeps (gate : ∀ h, ∀ a ∈ gateRegs h, ∀ (s : State) v, π (s.setWord a v) = π s)
    (fresh : ∀ (s : State) x, π { s with fresh := x } = π s)
    (status : ∀ (s : State) v, π (s.setWord R.PAIR_STATUS.addr v) = π s) (pair : ∀ (s : State) f, π (s.updPair f) = π s)
    (code : Nat) (s : State) : π (s.tokenRelease code) = π s := by
  unfold State.tokenRelease
  refine (State.tokenSet_keeps π gate fresh _).trans ?_
  refine (pair _ _).trans ?_
  exact (status _ _).trans ((status _ _).trans ((status _ _).trans (status _ _)))

/-! ### Events -/

/-- Everything that an event with its reaction may do, as updates that `π` keeps (R29, R221, R304, R344, R489). -/
structure EventKeeps : Prop where
  reg : ∀ a, eventWrites a → ∀ (s : State) v, π (s.setWord a v) = π s
  dev : ∀ (s : State) f, π (s.updDev f) = π s
  cap : ∀ (s : State) f, π (s.updCap f) = π s
  pair : ∀ (s : State) f, π (s.updPair f) = π s
  safe : ∀ (s : State) f, π (s.updSafe f) = π s
  drawn : ∀ s : State, π s.drawn = π s
  fresh : ∀ (s : State) x, π { s with fresh := x } = π s

variable {π}

theorem EventKeeps.at_ (k : EventKeeps π) {a : Nat}
    (h : a ∈ [R.DEV_STATE.addr, R.DEV_STATE_DT_LO.addr, R.DEV_STATE_DT_HI.addr, R.DEV_CAUSE.addr, R.EVT_WR.addr,
      R.SAFE_OSSD_STATUS.addr, R.PAIR_STATUS.addr]) (s : State) (v : Nat) : π (s.setWord a v) = π s := k.reg a (.inl h) s v

theorem EventKeeps.log (k : EventKeeps π) (w : Nat) (s : State) (v : Nat) : π (s.setWord (R.EVENT_LOG.addr w) v) = π s :=
  k.reg _ (.inr (.inl ⟨w, rfl⟩)) s v

theorem EventKeeps.gate (k : EventKeeps π) (h : Nat) : ∀ a ∈ gateRegs h, ∀ (s : State) v, π (s.setWord a v) = π s :=
  fun a ha s v => k.reg a (.inr (.inr ⟨h, ha⟩)) s v

theorem State.noteEvent_keeps (k : EventKeeps π) (e : Event) (head arg : Nat) (s : State) : π (s.noteEvent e head arg) = π s := by
  unfold State.noteEvent
  refine (State.occurNow_keeps π k.cap _ _ _).trans ?_
  refine (k.dev _ _).trans ?_
  refine (State.inc_keeps π (f := R.EVT_WR.WR) (k.at_ (by simp)) _).trans ?_
  exact (k.log _ _ _).trans ((k.log _ _ _).trans ((k.log _ _ _).trans (k.log _ _ _)))

theorem State.tokenRelease_event (k : EventKeeps π) (code : Nat) (s : State) : π (s.tokenRelease code) = π s :=
  State.tokenRelease_keeps π k.gate k.fresh (k.at_ (by simp)) k.pair _ _

theorem State.handover_keeps (k : EventKeeps π) (s : State) : π s.handover = π s := by
  unfold State.handover
  by_cases h : s.shadowFit = true
  · simp only [h, Bool.not_true, Bool.false_eq_true, if_false]
    refine (k.drawn _).trans ?_
    refine (State.noteEvent_keeps k _ _ _ _).trans ?_
    exact (k.pair _ _).trans (State.tokenRelease_event k _ _)
  · simp [h]

theorem State.tokenLeave_keeps (k : EventKeeps π) (st : Nat) (s : State) : π (s.tokenLeave st) = π s := by
  have out (s : State) : π (s.wr R.PAIR_STATUS.TOKEN_OUT 0) = π s := State.wr_keeps π (k.at_ (by simp)) s 0
  unfold State.tokenLeave
  split
  · split
    · exact (State.tokenSet_keeps π k.gate k.fresh _).trans (out s)
    · rfl
  · refine (State.when_keeps π fun _ => out _).trans ?_
    refine (State.when_keeps π fun _ => State.tokenRelease_event k _ _).trans ?_
    exact State.when_keeps π fun _ => State.handover_keeps k _

theorem State.setDev_keeps (k : EventKeeps π) (st : Nat) (s : State) : π (s.setDev st) = π s := by
  have dev (s : State) (v : Nat) : π (s.setWord R.DEV_STATE.addr v) = π s := k.at_ (by simp) s v
  unfold State.setDev
  dsimp only
  split
  · rfl
  · refine (State.when_keeps π fun _ => State.occurNow_keeps π k.cap _ _ _).trans ?_
    refine (State.when_keeps π fun _ => State.tokenLeave_keeps k _ _).trans ?_
    refine (State.when_keeps π fun _ => State.ossdOff_keeps π k.cap k.safe (k.at_ (by simp)) _ _).trans ?_
    refine (k.dev _ _).trans ?_
    refine (State.wr64_keeps π (k.at_ (by simp)) (k.at_ (by simp)) _ _).trans ?_
    exact (dev _ _).trans ((dev _ _).trans (dev _ _))

theorem State.settleDev_keeps (k : EventKeeps π) (s : State) : π s.settleDev = π s := by
  have cause (s : State) (v : Nat) : π (s.setWord R.DEV_CAUSE.addr v) = π s := k.at_ (by simp) s v
  unfold State.settleDev
  dsimp only
  split
  · exact (State.setDev_keeps k _ _).trans ((cause _ _).trans (cause _ _))
  · split
    · exact (State.setDev_keeps k _ _).trans ((cause _ _).trans (cause _ _))
    · exact (cause _ _).trans (cause _ _)

theorem State.condOn_keeps (k : EventKeeps π) (e : Event) (unit : Nat) (s : State) : π (s.condOn e unit) = π s :=
  (State.settleDev_keeps k _).trans (k.dev _ _)

theorem State.condOff_keeps (k : EventKeeps π) (e : Event) (unit : Nat) (s : State) : π (s.condOff e unit) = π s :=
  (State.settleDev_keeps k _).trans (k.dev _ _)

theorem State.causeOf_keeps (k : EventKeeps π) (e : Event) (unit : Nat) (s : State) : π (s.causeOf e unit) = π s := by
  unfold State.causeOf
  split
  · rfl
  · split
    · exact k.dev _ _
    · split <;> exact k.dev _ _

theorem State.react_keeps (k : EventKeeps π) (e : Event) (s : State) : π (s.react e) = π s := by
  unfold State.react
  dsimp only
  split
  · have h : π ((s.settleDev.handover).ossdOff 1) = π s :=
      (State.ossdOff_keeps π k.cap k.safe (k.at_ (by simp)) _ _).trans
        ((State.handover_keeps k _).trans (State.settleDev_keeps k _))
    split
    · exact (State.setDev_keeps k _ _).trans h
    · exact h
  · split
    · exact (State.setDev_keeps k _ _).trans (State.settleDev_keeps k _)
    · exact State.settleDev_keeps k _

/-- An event with its reaction keeps whatever its own updates keep. -/
theorem State.raiseArg_keeps (k : EventKeeps π) (e : Event) (head arg unit : Nat) (s : State) :
    π (s.raiseArg e head arg unit) = π s :=
  (State.react_keeps k _ _).trans ((State.causeOf_keeps k _ _ _).trans (State.noteEvent_keeps k _ _ _ _))

theorem State.raiseU_keeps (k : EventKeeps π) (e : Event) (head unit : Nat) (s : State) : π (s.raiseU e head unit) = π s :=
  (State.raiseArg_keeps k _ _ _ _ _).trans (k.drawn _)

theorem State.raise_keeps (k : EventKeeps π) (e : Event) (head : Nat) (s : State) : π (s.raise e head) = π s :=
  State.raiseU_keeps k _ _ _ _

/-- The registers that an event does not name keep their words. -/
theorem EventKeeps.word {a : Nat} (h : ¬ eventWrites a) : EventKeeps (fun s => s.word a) where
  reg _ hb s v := State.word_setWord_ne s v fun e => h (e ▸ hb)
  dev _ _ := rfl
  cap _ _ := rfl
  pair _ _ := rfl
  safe _ _ := rfl
  drawn _ := rfl
  fresh _ _ := rfl

/-- An event touches no head beside its registers, no line, group, lane, memory or field, and no other unit's state. -/
theorem EventKeeps.parts : EventKeeps (fun s => (s.heads, s.lines, s.groups, s.spill, s.fields, s.babbitt, s.net, s.lanes, s.dom,
    s.mem, s.hk, s.boot, s.mspi, s.clk, s.pwr, s.thm, s.hbm, s.dt, s.fine, s.pending)) where
  reg _ _ _ _ := rfl
  dev _ _ := rfl
  cap _ _ := rfl
  pair _ _ := rfl
  safe _ _ := rfl
  drawn _ := rfl
  fresh _ _ := rfl

/-! ### Access errors, calibrations, codewords -/

theorem State.accessError_keeps (h : ∀ a ∈ errorRegs, ∀ (s : State) v, π (s.setWord a v) = π s) (i : Iface) (w : Bool)
    (addr cause : Nat) (s : State) : π (s.accessError i w addr cause) = π s := by
  have c := h R.DEV_ACC_CNT.addr (by simp [errorRegs])
  have a := h R.DEV_ACC_ADDR.addr (by simp [errorRegs])
  have n := h R.DEV_ACC_INFO.addr (by simp [errorRegs])
  unfold State.accessError
  exact (n _ _).trans ((n _ _).trans ((n _ _).trans ((a _ _).trans (c _ _))))

theorem State.refuse_keeps (h : ∀ a ∈ errorRegs, ∀ (s : State) v, π (s.setWord a v) = π s) (i : Iface) (addr : Nat) (s : State) :
    π (s.refuse i addr) = π s := State.accessError_keeps h _ _ _ _ _

/-- Counting a codeword keeps whatever the lane counters, the lane's own mark and an event keep (R398). -/
theorem State.codeword_keeps (k : EventKeeps π) (l : ∀ a, linkWrites a → ∀ (s : State) v, π (s.setWord a v) = π s)
    (lane : ∀ (s : State) q l f, π (s.updLane q l f) = π s) (p : Nat) (rx : LinkRx) (s : State) : π (s.codeword p rx) = π s := by
  unfold State.codeword
  dsimp only
  split
  · rfl
  · exact l _ ⟨_, _, .inl rfl⟩ _ _
  · have u (s : State) : π (s.inc (R.LANE_CNT_UNCORR.COUNT (laneQuad p rx.lane) (rx.lane.val % 4))) = π s :=
      l _ ⟨_, _, .inr rfl⟩ _ _
    have r (s : State) : π ((s.updLane (laneQuad p rx.lane) (rx.lane.val % 4) fun x => { x with badAt := some s.now }).raiseU
        .laneFecUncorr noHead (4 * laneQuad p rx.lane + rx.lane.val % 4)) = π s :=
      (State.raiseU_keeps k _ _ _ _).trans (lane _ _ _ _)
    exact ite_keeps π (u s) ((r _).trans (u s))

end Sys2Proof.Machine
end

