-- ==== Sys2Proof/Laws/Heads.lean ====
section
/-! SUPPORT. What the shared operations on one head can do, said once: the permissions of FIRE_INHIBIT, the head states and the leave
of a head. As in Laws/Ops.lean, `π` stands for anything read from a state. -/

namespace Sys2Proof.Machine

variable {α : Type} {π : State → α}

/-- Everything that a change of the permissions or the state of head `h` may do, as updates that `π` keeps (Table 1.5). -/
structure HeadKeeps (π : State → α) (h : Nat) : Prop where
  reg : ∀ a ∈ gateRegs h ++ [R.SCAN_POS.addr h, R.EMT_STATUS.addr h, R.EMT_CNT_CYCLE.addr h, R.SRV_STATUS.addr h, R.EYE_STATUS.addr h,
    R.PWR_STATUS.addr], ∀ (s : State) v, π (s.setWord a v) = π s
  head : ∀ (s : State) f, π (s.updHead h f) = π s
  pwr : ∀ (s : State) f, π (s.updPwr f) = π s
  fresh : ∀ (s : State) x, π { s with fresh := x } = π s

namespace HeadKeeps
variable {h : Nat} (k : HeadKeeps π h)
include k

theorem inhibit (s : State) (v : Nat) : π (s.setWord (R.FIRE_INHIBIT.addr h) v) = π s := k.reg _ (by simp [gateRegs]) s v
theorem latch (s : State) (b : Inh) : π (s.latch (latchField h b)) = π s :=
  State.latch_keeps π (k.reg _ (by simp [gateRegs, latchField])) k.fresh s
theorem state (s : State) (v : Nat) : π (s.setWord (R.HEAD_STATE.addr h) v) = π s := k.reg _ (by simp [gateRegs]) s v
theorem pos (s : State) (v : Nat) : π (s.setWord (R.SCAN_POS.addr h) v) = π s := k.reg _ (by simp) s v
theorem chain (s : State) (v : Nat) : π (s.setWord (R.EMT_STATUS.addr h) v) = π s := k.reg _ (by simp) s v
theorem cycle (s : State) (v : Nat) : π (s.setWord (R.EMT_CNT_CYCLE.addr h) v) = π s := k.reg _ (by simp) s v
theorem servo (s : State) (v : Nat) : π (s.setWord (R.SRV_STATUS.addr h) v) = π s := k.reg _ (by simp) s v
theorem eye (s : State) (v : Nat) : π (s.setWord (R.EYE_STATUS.addr h) v) = π s := k.reg _ (by simp) s v
theorem power (s : State) (v : Nat) : π (s.setWord R.PWR_STATUS.addr v) = π s := k.reg _ (by simp) s v

end HeadKeeps

/-- A register that no change of head `h` names keeps its word. -/
theorem HeadKeeps.word {a h : Nat} (n : a ∉ gateRegs h ++ [R.SCAN_POS.addr h, R.EMT_STATUS.addr h, R.EMT_CNT_CYCLE.addr h,
    R.SRV_STATUS.addr h, R.EYE_STATUS.addr h, R.PWR_STATUS.addr]) : HeadKeeps (fun s => s.word a) h where
  reg _ hb s v := State.word_setWord_ne s v fun e => n (e ▸ hb)
  head _ _ := rfl
  pwr _ _ := rfl
  fresh _ _ := rfl

/-- Another head is not touched. -/
theorem HeadKeeps.other {h i : Nat} (n : i ≠ h) : HeadKeeps (fun s => s.head i) h where
  reg _ _ _ _ := rfl
  head s f := by simp [State.head, SMap.get_upd_ne headDefault s.heads f n]
  pwr _ _ := rfl
  fresh _ _ := rfl

/-- No line, group, lane, memory, field or other unit is touched. -/
theorem HeadKeeps.parts (h : Nat) : HeadKeeps (fun s => (s.dev, s.safe, s.cap, s.lines, s.groups, s.spill, s.fields, s.babbitt, s.net,
    s.lanes, s.pair, s.dom, s.mem, s.hk, s.boot, s.mspi, s.clk, s.thm, s.hbm, s.dt, s.fine, s.free, s.pending)) h where
  reg _ _ _ _ := rfl
  head _ _ := rfl
  pwr _ _ := rfl
  fresh _ _ := rfl

section
variable {h : Nat} (k : HeadKeeps π h)
include k

theorem State.showTokenOnly_keeps (s : State) : π (s.showTokenOnly h) = π s := k.state _ _

theorem State.setInh_keeps (b : Inh) (v : Bool) (s : State) : π (s.setInh h b v) = π s := by
  unfold State.setInh
  refine (State.showTokenOnly_keeps k _).trans ?_
  refine (State.when_keeps π fun _ => k.state _ _).trans ?_
  exact (State.when_keeps π fun _ => k.latch _ b).trans (k.inhibit _ _)

theorem State.refreshEye_keeps (s : State) : π (s.refreshEye h) = π s := State.setInh_keeps k _ _ _
theorem State.refreshThermal_keeps (s : State) : π (s.refreshThermal h) = π s := State.setInh_keeps k _ _ _
theorem State.refreshEmitter_keeps (s : State) : π (s.refreshEmitter h) = π s := State.setInh_keeps k _ _ _
theorem State.refreshSafetyIn_keeps (s : State) : π (s.refreshSafetyIn h) = π s := State.setInh_keeps k _ _ _

theorem State.refreshServo_keeps (s : State) : π (s.refreshServo h) = π s :=
  (State.setInh_keeps k _ _ _).trans ((k.servo _ _).trans (k.servo _ _))

theorem State.showPower_keeps (s : State) : π s.showPower = π s := (k.power _ _).trans (k.power _ _)

theorem State.leaveEnd_keeps (who : Requester) (s : State) : π (s.leaveEnd who) = π s :=
  (State.showPower_keeps k _).trans ((k.pwr _ _).trans (k.pwr _ _))

theorem State.firingEnd_keeps (s : State) : π (s.firingEnd h) = π s := by
  unfold State.firingEnd
  refine (State.setInh_keeps k _ _ _).trans ?_
  refine (State.setInh_keeps k _ _ _).trans ?_
  refine (k.head _ _).trans ?_
  exact (State.leaveEnd_keeps k _ _).trans (State.leaveEnd_keeps k _ _)

theorem State.abandonFrame_keeps (s : State) : π (s.abandonFrame h) = π s := by
  unfold State.abandonFrame
  refine (State.firingEnd_keeps k _).trans ?_
  exact (k.pos _ _).trans ((k.pos _ _).trans (k.head _ _))

theorem State.setHead_keeps (st : Nat) (s : State) : π (s.setHead h st) = π s :=
  (State.refreshServo_keeps k _).trans ((State.showTokenOnly_keeps k _).trans (k.state _ _))

theorem State.excite_keeps (mode level : Nat) (s : State) : π (s.excite h mode level) = π s := by
  unfold State.excite
  exact (State.refreshServo_keeps k _).trans ((k.head _ _).trans ((k.servo _ _).trans (k.servo _ _)))

theorem State.headOff_keeps (s : State) : π (s.headOff h) = π s := by
  unfold State.headOff
  refine (State.refreshThermal_keeps k _).trans ((State.refreshEye_keeps k _).trans ((State.refreshEmitter_keeps k _).trans ?_))
  refine (State.setHead_keeps k _ _).trans ((k.servo _ _).trans ((State.when_keeps π fun _ => State.excite_keeps k _ _ _).trans ?_))
  refine (k.head _ _).trans ((k.head _ _).trans ((k.eye _ _).trans ((k.eye _ _).trans ?_)))
  refine (k.chain _ _).trans ((k.chain _ _).trans ((k.head _ _).trans ((k.head _ _).trans ?_)))
  exact (State.leaveEnd_keeps k _ _).trans (State.abandonFrame_keeps k _)

theorem State.headPark_keeps (s : State) : π (s.headPark h) = π s := by
  unfold State.headPark
  refine (State.refreshEye_keeps k _).trans ((State.refreshServo_keeps k _).trans ((State.showTokenOnly_keeps k _).trans ?_))
  refine (State.excite_keeps k _ _ _).trans ((k.state _ _).trans ((k.servo _ _).trans ((k.head _ _).trans ((k.state _ _).trans ?_))))
  refine (k.head _ _).trans ((k.eye _ _).trans ?_)
  refine (State.when_keeps π fun _ => (State.refreshEmitter_keeps k _).trans (k.chain _ _)).trans ?_
  exact (k.head _ _).trans ((State.leaveEnd_keeps k _ _).trans (State.abandonFrame_keeps k _))

theorem State.headFault_keeps (cause : Nat) (s : State) : π (s.headFault h cause) = π s := by
  unfold State.headFault
  dsimp only
  split
  · rfl
  · refine (State.setHead_keeps k _ _).trans ((k.servo _ _).trans ((k.state _ _).trans ((k.head _ _).trans ((k.head _ _).trans ?_))))
    exact (State.leaveEnd_keeps k _ _).trans (State.abandonFrame_keeps k _)

theorem State.headScan_keeps (s : State) : π (s.headScan h) = π s := by
  unfold State.headScan
  exact (State.setHead_keeps k _ _).trans ((k.head _ _).trans (k.head _ _))

/-- A head that runs keeps what the DT of the last strobe does not name, whatever frame its chain sends (R98). -/
structure StrobeKeeps (π : State → α) (h : Nat) : Prop where
  lo : ∀ (s : State) v, π (s.setWord (R.FIRE_LAST_DT_LO.addr h) v) = π s
  hi : ∀ (s : State) v, π (s.setWord (R.FIRE_LAST_DT_HI.addr h) v) = π s

variable (x : StrobeKeeps π h)
include x

theorem State.proofStrobe_keeps (e : Nat) (s : State) : π (s.proofStrobe h e) = π s := by
  unfold State.proofStrobe
  refine (State.when_keeps π fun _ => ?_).trans (State.when_keeps π fun _ => k.head _ _)
  refine (State.wr64_keeps π x.lo x.hi _ _).trans ?_
  exact (k.head _ _).trans ((k.head _ _).trans (k.head _ _))

theorem State.chainStart_keeps (c : ChainCmd) (fails : Nat) (s : State) : π (s.chainStart h c fails) = π s := by
  cases c
  case proof e => exact (State.proofStrobe_keeps k x _ _).trans (k.head _ _)
  case verify =>
    exact (State.when_keeps π (f := fun s => s.wr (R.EMT_STATUS.CHAIN h) 2) fun _ => k.chain _ _).trans (k.head _ _)
  all_goals exact k.head _ _

theorem State.chainNext_keeps (s : State) : π (s.chainNext h) = π s := by
  unfold State.chainNext
  dsimp only
  split
  · exact (State.chainStart_keeps k x _ _ _).trans (k.head _ _)
  · rfl

theorem State.chainPut_keeps (c : ChainCmd) (s : State) : π (s.chainPut h c) = π s :=
  (State.chainNext_keeps k x _).trans (k.head _ _)

end

end Sys2Proof.Machine
end

