-- ==== Sys2Proof/Tests/Slice0.lean ====
section
/-! SUPPORT. The model's own tests: the worked examples of the spec, one ill-formed command for each check of Instr.wf, and
for each statement of Obligations.lean that has hypotheses a state and operands that meet all of them together. -/

set_option linter.all false

namespace Sys2Proof.Tests

set_option Elab.async false

open Sys2Proof Sys2Proof.Machine

/-! ### Dwell 5 of the forward-head program (02, Example) -/

/-- The words that the example of file 02 writes out; word 15, the CRC, is not given there. -/
def dwell5 : List Nat :=
  [0x012CFB50, 0x00640003, 0x0000F03F, 0x0000044C, 0x20000000, 0x00000A00, 0xFFFFFFFF, 0, 0, 0, 0, 0, 0, 0, 0, 0]

/-- "MIRROR_Y 300, MIRROR_X −1,200", "MOVE_T 100, profile 0, PATTERN 3". -/
theorem test_descriptor_move :
    Desc.mirrorX dwell5 = -1200 ∧ Desc.mirrorY dwell5 = 300 ∧ Desc.moveT dwell5 = 10000 ∧ Desc.settleProf dwell5 = 0 ∧
      Desc.pattern dwell5 = 3 := by decide

/-- "BIN_W 8 ns, SIF 8, 64 shots, SELECTED", "SHOT_INT 1,100 ns", "FAR 8,192 ns, NEAR 0", "BBASE 0xA00", "G0–G31". -/
theorem test_descriptor_shots :
    Desc.binW dwell5 = 8 ∧ Desc.sif dwell5 = 8 ∧ Desc.shotCntM1 dwell5 + 1 = 64 ∧ Desc.fsPolicy dwell5 = 0 ∧
      Desc.shotInt dwell5 = 1100 ∧ Desc.far dwell5 = 8192 ∧ Desc.near dwell5 = 0 ∧ Desc.bbase dwell5 = 0xA00 ∧
      Desc.enables dwell5 31 = true ∧ Desc.enables dwell5 32 = false ∧ Desc.reservedZero dwell5 = true := by decide

/-- T_nom = 77,492 ns and P = 88,004 ns; RI[100] is bearing 0xA64 in dwell 5. -/
theorem test_dwell_times :
    Desc.tNom dwell5 = 77492 ∧ Desc.period dwell5 = 88004 ∧ Desc.bid dwell5 100 = 0xA64 := by decide

/-- The forward program: 1,024 such dwells and 2,000 µs of flyback. -/
def forward : Prog := { descs := List.replicate 1024 dwell5, fly := 2000000, flyMin := 500000 }

/-- "the frame lasts 92,116,096 ns"; with 64 emitters and PERIOD 1,000 ms, n_f = 7 (03, Example). -/
theorem test_forward_frame : forward.frameNs = 92116096 := by decide +kernel

theorem test_forward_proof_steps :
    ((State.reset.wr (R.EMT_CFG.EMIT_M1 0) 63).wr (R.EMT_PROOF.PERIOD 0) 1000).proofSteps 0 forward = 7 := by decide +kernel

/-! ### Shots and returns (04 and 05, Examples) -/

/-- "17 selected taps passed, n = 17. Stamp = 256 × 9,640 − 1 − 17 = 2,467,822"; the corrected stamp is 192 less. -/
theorem test_stamp :
    tdcStamp 9640 (BitVec.ofNat 288 ((2 ^ 17 - 1) * 2 ^ 16)) nominalTaps = 2467822 ∧
      (State.reset.wr (R.CAL_REC_SKEW.SKEW 100) 0xC0).corrected 100 2467822 = 2467630 := by decide +kernel

/-- A record of a dwell with 8 ns bins, gates 0 and 8,192 ns, and window 0 at 31,992. -/
def record5 : InRec := { binW := 3, near := 0, far := 8192, zen := 1, zs := [31992, 0, 0, 0] }

/-- The seven hypotheses of the example: shots 2 to 8 with their phase sets. -/
def entered : InRec :=
  [(610368, 4), (859545, 0), (1191335, 7), (1442620, 3), (1714453, 2), (2024160, 5), (2294835, 4)].foldl
    (fun r y => r.enter false 2467630 y.1 y.2) record5

/-- Coarse bins 906, 785, 623, 500, 367, 216 and 84 hold one each, HYP_W is 7, and bin 501 stays empty. -/
theorem test_hypotheses :
    ([906, 785, 623, 500, 367, 216, 84, 501].map fun b => SMap.get (fun _ => 0) entered.coarse b) = [1, 1, 1, 1, 1, 1, 1, 0] ∧
      entered.hyp = 7 := by decide +kernel

/-- Phase blocks (113, 4), (98, 0), (77, 7), (62, 3), (45, 2), (27, 5) and (10, 4). -/
theorem test_phase_blocks :
    ([(113, 4), (98, 0), (77, 7), (62, 3), (45, 2), (27, 5), (10, 4)].map fun x =>
      SMap.get (fun _ => 0) entered.pblk (8 * x.1 + x.2)) = [1, 1, 1, 1, 1, 1, 1] := by decide +kernel

/-- "ZBIN[0][39] and ZPH[0][3] each gain 1. S0 gains 1, S1 gains 1,266 and S2 gains 1,602,756." -/
theorem test_zoom_window :
    SMap.get (fun _ => 0) entered.zbin 39 = 1 ∧ SMap.get (fun _ => 0) entered.zph 3 = 1 ∧
      ([0, 1, 2].map fun i => SMap.get (fun _ => 0) entered.csum i) = [1, 1266, 1602756] := by decide +kernel

/-- An entry that is taken back (R118) leaves the record as it was. -/
theorem test_taken_back : (record5.enter false 2467630 1442620 3).enter true 2467630 1442620 3 = record5 := by decide +kernel

/-- At the default hold-off DEC_LOG2 of G6 is 2 with 8 shots in flight; with 40 ns on all 16 inputs it is 0. -/
theorem test_decimation :
    ((State.reset.each 16 fun j s => s.wr (R.INCFG.HEAD (96 + j)) 0).decSeal 6 8,
      (State.reset.each 16 fun j s => (s.wr (R.INCFG.HEAD (96 + j)) 0).wr (R.INCFG.HOLD_OFF (96 + j)) 40).decSeal 6 8) = (2, 0) := by
  decide +kernel

/-! ### A return in daylight (06, Example) -/

/-- Bins 495 to 503 of the example hold 2, 1, 2, 2, 1, 15, 4, 3 and 3 counts. -/
def daylightCounts : List Nat := List.replicate 495 2 ++ [2, 1, 2, 2, 1, 15, 4, 3, 3] ++ List.replicate 8 0

/-- The pass with B_SEG 576, tb 5, 64 shots, N_SIG 5.0 and M_MIN 3, newest bin first. -/
def daylight : List Bin := (thresholdPass daylightCounts (fun _ => 576) 5 1 64 80 3).reverse

/-- "The candidate is a single bin: start 500, length 1, E_run = 3,264", with Lc = 1.0 and Be = 576. -/
theorem test_daylight_candidate :
    ((runsOf (daylight.map (·.above))).map fun r =>
      let c := candOf daylight r
      (c.start, c.len, c.excess, c.be, c.lc)) = [(500, 1, 3264, 576, 32768)] := by decide +kernel

/-- The phase counts of block 62. -/
def daylightRecord : InRec :=
  { shots := 64, nP := [8, 8, 8, 8, 8, 8, 8, 8]
    pblk := [(496, 4), (497, 5), (498, 3), (499, 4), (500, 5), (501, 3), (502, 4), (503, 3)] }

/-- Bins with the expected background of the example's block, bgsum = 4,608. (By R168 the hold-off shadow of bin 500 lowers
Be of bins 501 to 503, which the example leaves out of its sum.) -/
def evenBins : List Bin := List.replicate 512 ⟨0, 576, 0, 32768, false⟩

/-- "the test applies", no set dominates, sets = 8, BAL_RATIO = 433. -/
theorem test_daylight_balance :
    (let c := balance daylightRecord evenBins 1024 12 64 3 { start := 500, len := 1 }
     (c.balNa, c.balFail, c.balSets, c.balRatio)) = (false, false, 8, 433) := by decide +kernel

/-- L_u = 320 ÷ 384 = 27,306. -/
theorem test_daylight_live : liveOf { acc := 320, lost := 64 } = 27306 := by decide

/-- 32,800,370 units of 1/8,192 ns are 2,400,006 range units at the default index; K is about 314.26 × 10^6. -/
theorem test_range_units :
    rangeK 1000293 / 10000 = 31426 ∧
      (State.reset.wr (R.DET_RANGE_K.K 0) (rangeK 1000293)).rangeUnits 0 32800370 = 2400006 := by decide +kernel

/-- The field entry 0x9901_9004: NEAR 2 m, PROT 50 m, WARN 200 m in units of 0.25 mm. -/
theorem test_field_entry :
    fieldNear 0x99019004 = 8000 ∧ fieldProt 0x99019004 = 200000 ∧ fieldWarn 0x99019004 = 800000 := by decide

/-! ### Streams, eye safety, pins (08, 11 and 23, Examples) -/

/-- IPv4, MTU 1,500, PRP: 44 records a frame; 2,048 records are 566,400 bits on the wire. -/
theorem test_records_per_frame :
    (let s := (State.reset.wr R.NET_PRP.EN 1).wr (R.NET_PORT.MTU 0) 1500
     (s.recsPerFrame 0, s.wireBits 0 2048)) = (44, 566400) := by decide +kernel

/-- A reading of 6,100 with ZERO 150 and GAIN 16.0 is 95,200 pJ; with CAP_DLY 100 ns and SHOT_INT 1,100 ns, n_h = 2. -/
theorem test_pulse_energy :
    (let s := ((State.reset.wr (R.EYE_GAIN.GAIN 0) 0x100000).wr (R.EYE_ZERO.ZERO 0) 150).wr (R.EYE_CFG.CAP_DLY 0) 100
     (s.energyPJ 0 6100, s.nHead 0 1100)) = (95200, 2) := by decide +kernel

/-- RI_P[100] is D11; RX_P of L = 15 is AM3; PORST_N (k = 178) is AJ41. -/
theorem test_balls :
    (riBall 100, rowName (riBall 100).1) = ((3, 11), ['D']) ∧
      ((laneBall 15).1, (laneBall 15).2 + 2, rowName (laneBall 15).1) = (30, 3, ['A', 'M']) ∧
      (signalBall 178, rowName (signalBall 178).1) = ((27, 41), ['A', 'J']) := by decide

/-- R395: 0b00, 0b01, 0b11 and 0b10 are levels 0 to 3, −3 to +3; the receiver inverts the precoding. -/
theorem test_gray :
    [0, 1, 3, 2].map gray = [0, 1, 2, 3] ∧ [0, 1, 2, 3].map level = [-3, -1, 1, 3] ∧
      unprecode 0 (precode 0 [3, 1, 0, 2]) = [3, 1, 0, 2] := by decide

/-- R420: nominal at a multiple of 32,000 ns, nominal × (1 − SPREAD) 16,000 ns later; the reset value of SPREAD is 1 %. -/
theorem test_spread :
    (State.reset.upTo 32000).spreadFactor = 1 ∧ (State.reset.upTo 48000).spreadFactor = 99 / 100 ∧
      (State.reset.upTo 48000).spreadRising = true ∧ (State.reset.upTo 47999).spreadRising = false := by decide +kernel

/-! ### Ill-formed commands: one for each check of Instr.wf -/

def anImage : Image :=
  { fwVer := 1, config := [], pads := List.replicate 37 0, programs := [], fields := [], devtag := 0, cal := [], heads := []
    power := ⟨0, 0, 0, 0, 0, 0, 0⟩, plan := [] }

/-- A slot that reads well with an image. -/
def slotOf (i : Image) : Instr := .slotReadComplete 0 ⟨true, true, true, true, true, i⟩

/-- The image itself is accepted; without 37 slew codes it is not. -/
theorem test_wf_pads : (slotOf anImage).wf = true ∧ (slotOf { anImage with pads := [] }).wf = false := by decide

/-- A factory record without four roots. -/
theorem test_wf_fuses : (Instr.fuseLoadComplete 0 { roots := [] } none none).wf = false := by decide

/-- A memory request across a granule, and a write without its bytes. -/
theorem test_wf_request :
    (Instr.memRequestIssue 0 ⟨0, false, 0xFF, 2, []⟩).wf = false ∧ (Instr.memRequestIssue 0 ⟨0, true, 0, 2, [1]⟩).wf = false ∧
      (Instr.memRequestIssue 0 ⟨0, true, 0xFE, 2, [1, 2]⟩).wf = true := by decide

/-! ### The emitter chain (R87, R88, R90) -/

/-- "ZERO below 7.5 ns of high time, ONE from 7.5 ns to 12.5 ns and MARK above 12.5 ns"; bits go most significant first. -/
theorem test_chain_symbols :
    [74, 75, 125, 126].map chainDecide = [.zero, .one, .one, .mark] ∧
      (chainSyms [0xA1]).map ChainSym.high = [10, 5, 10, 5, 5, 5, 5, 10] := by decide

/-- A DIAG frame that comes back whole from one driver: ACT, an open of emitter 3 and a short of emitter 8. -/
theorem test_chain_status :
    (chainRead .diag ((ChainSym.mark :: chainSyms (chainHeader .diag) ++ [ChainSym.mark] ++
      chainSyms (chainField ([0x48, 8, 0, 0, 0, 0, 0, 0, 0, 0, 1, 0, 0, 0, 0, 0, 0])) ++ [ChainSym.mark]).map
        fun x => 10 * x.high)).map (fun r => (r.headerIntact, r.whole, r.entries)) =
      some (true, true, [{ crcOk := true, rxErr := false, fault := true, overtemp := false, nextValid := false, act := true
                           opens := 8, shorts := 256, memCrc := 0 }]) := by decide +kernel


def rxGood : LinkRx := ⟨0, .clean, true⟩

/-- Lists of the wrong length, one for each command that carries one. -/
theorem test_wf_lengths :
    (Instr.zeroCalComplete 0 0 []).wf = false ∧ (Instr.hkCalibrate 0 none []).wf = false ∧
      (Instr.hkUpReceive 0 0 rxGood []).wf = false ∧ (Instr.hbmTrainingComplete 0 [] []).wf = false ∧
      (Instr.mspiWrite 0 0 0 (List.replicate 257 0) 0).wf = false ∧ (Instr.thermalRound 0 [] 0 0).wf = false ∧
      (Instr.catchupRecord 0 0 rxGood 0 []).wf = false ∧ (Instr.attestComplete 0 ⟨[], [], []⟩).wf = false := by decide +kernel

/-- A forwarded descriptor has 16 words, a heartbeat 16 heads. -/
theorem test_wf_pair :
    (Instr.forwardedWrite 0 0 rxGood (.descriptor 0 0 0 [])).wf = false ∧
      (Instr.heartbeatReceive 0 0 rxGood ⟨1, 1000, 1, 0, 0, 0, false, true, 2, 0, 0, 77, 0, [], [], 0, 0⟩ none).wf = false := by
  decide

/-- A program has whole descriptors, a line eight field entries. -/
theorem test_wf_image :
    (slotOf { anImage with programs := [{ head := 0, slot := 0, fly := 0, flyMin := 0, descs := [[0]] }] }).wf = false ∧
      (slotOf { anImage with fields := [(0, [])] }).wf = false := by decide

/-! ### Witnesses: every hypothesis of every statement is met -/

def w_Head_0 : State :=
  let h : HeadIx := 3
  let s := State.reset
  let s := s.wr (R.HEAD_STATE.STATE h) hsParked
  let s := s.setWord (R.FIRE_INHIBIT.addr h) 0
  s

theorem witness_Head_0 :
    let s := w_Head_0; let t : Time := 1000; let h : HeadIx := 3; s.headState h = hsParked ∧ s.calibrating h = false ∧
    s.blocked h = false ∧ (s.upTo t).servoCause h = 0 := by decide +kernel

def w_Head_1 : State :=
  let h : HeadIx := 3
  let s := State.reset
  let s := s.wr (R.HEAD_STATE.STATE h) hsParked
  let s := s.wr R.DEV_STATE.STATE 2
  let s := s.setWord (R.FIRE_INHIBIT.addr h) 0
  let s := s.updHead h fun H => { H with scan := { H.scan with armed := true } }
  s

theorem witness_Head_1 :
    let s := w_Head_1; let t : Time := 1000; let h : HeadIx := 3; (s.head h).scan.armed = true ∧ s.headState h = hsParked ∧
    s.running = true ∧ s.blocked h = false ∧ (s.upTo t).servoCause h = 0 := by decide +kernel

def w_Head_2 : State :=
  let h : HeadIx := 3
  let s := State.reset
  let s := s.wr (R.HEAD_STATE.STATE h) 2
  s

theorem witness_Head_2 :
    let s := w_Head_2; let h : HeadIx := 3; s.scanning h = true ∧ (s.head h).scan.parking = false := by decide +kernel

def w_Head_3 : State :=
  let h : HeadIx := 3
  let s := State.reset
  let s := s.wr (R.HEAD_STATE.STATE h) hsFault
  s

theorem witness_Head_3 :
    let s := w_Head_3; let h : HeadIx := 3; s.headState h = hsFault ∧ s.faultPresent h = false := by decide +kernel

theorem witness_Head_4 :
    let s := State.reset; let h : HeadIx := 3; s.isHelper h = false ∧ s.devState ≠ devMaint := by decide +kernel

theorem witness_Frame_0 :
    let s := w_Head_2; let t : Time := 1000; let h : HeadIx := 3; (s.upTo t).frameDue h = true ∧
    bit s.pair.adopt h = false := by decide +kernel

def w_Frame_1 : State :=
  let h : HeadIx := 3
  let s := State.reset
  let s := s.wr (R.HEAD_STATE.STATE h) 2
  let s := s.updHead h fun H => { H with scan := { H.scan with inFrame := true } }
  s

theorem witness_Frame_1 :
    let s := w_Frame_1; let t : Time := 1000; let h : HeadIx := 3; s.scanning h = true ∧ (s.head h).scan.inFrame = true ∧
    s.rd (R.SCAN_POS.PHASE h) = 0 ∧ (s.head h).scan.nextDwell < s.progLen h (s.rd (R.SCAN_STATUS.ACTIVE_SLOT h)) ∧
    s.periodStart h ≤ (s.upTo t).now := by decide +kernel

def w_Frame_2 : State :=
  let h : HeadIx := 3
  let s := State.reset
  let s := s.wr (R.HEAD_STATE.STATE h) 2
  let s := s.updHead h fun H => { H with scan := { H.scan with inFrame := true } }
  let s := s.updScan h fun c => { c with nextDwell := 1 }
  s

theorem witness_Frame_2 :
    let s := w_Frame_2; let t : Time := 1000; let h : HeadIx := 3; s.scanning h = true ∧ (s.head h).scan.inFrame = true ∧
    s.rd (R.SCAN_POS.PHASE h) = 0 ∧ s.progLen h (s.rd (R.SCAN_STATUS.ACTIVE_SLOT h)) ≤ (s.head h).scan.nextDwell ∧
    s.periodStart h ≤ (s.upTo t).now := by decide +kernel

def w_Dwell_0 : State :=
  let h : HeadIx := 3
  let s := State.reset
  let s := s.wr (R.HEAD_STATE.STATE h) hsScanning
  let s := s.wr (R.SCAN_POS.PHASE h) 2
  let s := s.updScan h fun c => { c with settledAt := some 0 }
  s

theorem witness_Dwell_0 :
    let s := w_Dwell_0; let t : Time := 1000; let h : HeadIx := 3; s.scanning h = true ∧ (s.rd (R.SCAN_POS.PHASE h) = 1 ∨
    s.rd (R.SCAN_POS.PHASE h) = 2) ∧ s.isHelper h = false ∧ (s.isOwner h = true → (s.head h).scan.fixedOpen = none) ∧
    s.skips h = false ∧ (s.head h).scan.target ≤ (s.upTo t).now ∧
    s.settledBy h (min (s.upTo t).now (s.settleLimit h)) = true := by decide +kernel

def w_Dwell_1 : State :=
  let h : HeadIx := 3
  let a : Nat := 5
  let d : BitVec 16 := 5
  let s := State.reset
  let s := s.wr (R.HEAD_STATE.STATE h) 2
  let s := s.wr (R.SCAN_POS.PHASE h) (1 + s.free % 2)
  let s := ((s.wr (R.DOM_MULT.EN h) 1).wr (R.DOM_MULT.ROLE h) (s.free % 2)).updDev fun d => { d with sealed := true }
  let s := s.updScan h fun c => { c with fixedOpen := some a, noticeBad := false }
  s

theorem witness_Dwell_1 :
    let s := w_Dwell_1; let t : Time := 1000; let h : HeadIx := 3; let a : Nat := 5; s.scanning h = true ∧
    (s.rd (R.SCAN_POS.PHASE h) = 1 ∨ s.rd (R.SCAN_POS.PHASE h) = 2) ∧ (s.isHelper h = true ∨ s.isOwner h = true) ∧
    (s.head h).scan.noticeBad = false ∧ (s.head h).scan.fixedOpen = some a ∧ a ≤ (s.upTo t).now := by decide +kernel

def w_Dwell_2 : State :=
  let h : HeadIx := 3
  let s := State.reset
  let s := s.wr (R.SCAN_POS.PHASE h) 2
  let s := s.wr (R.HEAD_STATE.STATE h) 2
  s

theorem witness_Dwell_2 :
    let s := w_Dwell_2; let t : Time := 1000; let h : HeadIx := 3; s.scanning h = true ∧ s.rd (R.SCAN_POS.PHASE h) = 2 ∧
    s.isHelper h = false ∧ s.isOwner h = false ∧ s.skips h = false ∧ s.settleLimit h ≤ (s.upTo t).now ∧
    s.settledBy h (s.settleLimit h) = false ∧ (s.head h).scan.fixedOpen = none := by decide +kernel

def w_Dwell_3 : State :=
  let h : HeadIx := 3
  let s := State.reset
  let s := s.wr (R.SCAN_POS.PHASE h) 3
  s

theorem witness_Dwell_3 :
    let s := w_Dwell_3; let t : Time := 1000; let h : HeadIx := 3; s.rd (R.SCAN_POS.PHASE h) = 3 ∧
    (s.upTo t).closeDue h = true := by decide +kernel

def w_Commit_0 : State :=
  let h : HeadIx := 3
  let s := State.reset
  let s := (s.wr (R.SCAN_CTL.WRITE_EN h) 1).wr (R.SCAN_STATUS.COMMIT_STATE h) 0
  let s := s.wr (R.SCAN_LOAD_IDX.SLOT h) 1
  s

theorem witness_Commit_0 :
    let s := w_Commit_0; let h : HeadIx := 3; s.standbyOk h (s.rd (R.SCAN_LOAD_IDX.SLOT h)) = true := by decide +kernel

theorem witness_Commit_1 :
    let s := State.reset; ¬(s.on R.PAIR_CFG.EN = true ∧ s.rd R.PAIR_STATUS.ROLE = 2 ∧
    s.on R.PAIR_STATUS.PARTNER = true) := by decide +kernel

def w_Commit_2 : State :=
  let h : HeadIx := 3
  let s := State.reset
  let s := s.wr (R.SCAN_STATUS.COMMIT_STATE h) 1
  s

theorem witness_Commit_2 : let s := w_Commit_2; let h : HeadIx := 3; s.commitBusy h = true := by decide +kernel

theorem witness_Commit_3 :
    let s := w_Commit_2; let h : HeadIx := 3; s.rd (R.SCAN_STATUS.COMMIT_STATE h) = 1 := by decide +kernel

def w_Commit_4 : State :=
  let s := State.reset
  let s := s.wrB R.PAIR_CFG.EN true
  let s := { s with dev := { s.dev with sealed := true } }
  s

theorem witness_Commit_4 :
    let s := w_Commit_4; let h : HeadIx := 3; let slot : Fin 2 := 1; let rx : LinkRx := rxGood; linkGood rx = true ∧
    s.on R.PAIR_CFG.EN = true ∧ s.dev.sealed = true ∧ s.commitBusy h = false ∧
    s.rd (R.SCAN_STATUS.ACTIVE_SLOT h) ≠ slot.val := by decide +kernel

def w_Commit_5 : State :=
  let h : HeadIx := 3
  let d : BitVec 16 := 5
  let s := State.reset
  let s := (s.wr (R.SCAN_CTL.WRITE_EN h) 1).wr (R.SCAN_STATUS.COMMIT_STATE h) 0
  let s := (s.wr R.PAIR_CFG.EN 1).updDev fun d => { d with sealed := true }
  s

theorem witness_Commit_5 :
    let s := w_Commit_5; let h : HeadIx := 3; let slot : Fin 2 := 1; let rx : LinkRx := rxGood;
    let ws : List Word := List.replicate 16 0; linkGood rx = true ∧ s.on R.PAIR_CFG.EN = true ∧ s.dev.sealed = true ∧
    ws.length = 16 ∧ s.standbyOk h slot.val = true := by decide +kernel

def w_Commit_6 : State :=
  let h : HeadIx := 3
  let d : BitVec 16 := 5
  let s := State.reset
  let s := (s.wrB R.PAIR_CFG.EN true).updDev fun d => { d with sealed := true }
  let s := (s.wr (R.SCAN_CTL.WRITE_EN h) 1).wr (R.SCAN_STATUS.ACTIVE_SLOT h) 1
  s

theorem witness_Commit_6 :
    let s := w_Commit_6; let h : HeadIx := 3; let rx : LinkRx := rxGood;
    let a : Word := BitVec.ofNat 32 (R.SCAN_LEN.addr 3 0); let sl : Nat := 0; let fly : Bool := false; linkGood rx = true ∧
    s.on R.PAIR_CFG.EN = true ∧ s.dev.sealed = true ∧ standbyReg a.toNat = some (h.val, sl, fly) ∧
    s.standbyOk h sl = true := by decide +kernel

theorem witness_Commit_7 :
    let s := w_Commit_4; let rx : LinkRx := rxGood; linkGood rx = true ∧ s.on R.PAIR_CFG.EN = true ∧
    s.dev.sealed = true := by decide +kernel

theorem witness_Commit_8 : let s := State.reset; let h : HeadIx := 3; s.commitBusy h = false := by decide +kernel

def w_FireStrobe_0 : State :=
  let h : HeadIx := 3
  let s := State.reset
  let s := ((s.wr (R.HEAD_STATE.STATE h) 2).wr (R.SCAN_POS.PHASE h) 3).updScan h fun c => { c with fire := true, openAt := 5, stopShot := none, calVernier := false }
  let s := s.setWord (R.FIRE_INHIBIT.addr h) 0
  s

theorem witness_FireStrobe_0 :
    let s := w_FireStrobe_0; let t : Time := 1000; let h : HeadIx := 3; let k : BitVec 12 := 0; (s.upTo t).mayFire h = true ∧
    s.shotDue h k.toNat = true ∧ (s.shotTime h k.toNat).2.2 / 256 ≤ (s.upTo t).now ∧
    s.pair.tokenAt * 256 ≤ (s.shotTime h k.toNat).2.2 ∧ s.gateOpen h = true := by decide +kernel

def w_FireStrobe_1 : State :=
  let h : HeadIx := 3
  let s := State.reset
  let s := s.setWord (R.FIRE_INHIBIT.addr h) 64
  let s := ((s.wr (R.HEAD_STATE.STATE h) 2).wr (R.SCAN_POS.PHASE h) 3).updScan h fun c => { c with fire := true, openAt := 5, stopShot := none, calVernier := false }
  s

theorem witness_FireStrobe_1 :
    let s := w_FireStrobe_1; let t : Time := 1000; let h : HeadIx := 3; let k : BitVec 12 := 0; (s.upTo t).mayFire h = true ∧
    s.shotDue h k.toNat = true ∧ (s.shotTime h k.toNat).2.2 / 256 ≤ (s.upTo t).now ∧ s.inhWord h = 2 ^ 6 := by decide +kernel

theorem witness_FireStrobe_2 : let s := State.reset; let h : HeadIx := 3; s.inhWord h ≠ 0 := by decide +kernel

theorem witness_Echo_0 :
    let s := State.reset; let t : Time := 1000; let h : HeadIx := 3; let a : BitVec 288 := 5; let b : BitVec 288 := 5;
    s.echoShot h ((s.upTo t).stampOf (1536 + h.val) a b) = none := by decide +kernel

def w_Echo_1 : State :=
  let t : Time := 1000
  let h : HeadIx := 3
  let a : BitVec 288 := 5
  let b : BitVec 288 := 5
  let s := State.reset
  let s := (s.wr (R.FIRE_CFG.ECHO_MIN h) 0).updFire h fun f => { f with shots := [⟨3, true, (s.upTo t).stampOf (1536 + h.val) a b, 0, 0, none, false⟩] }
  let s := s.updClk fun c => { c with calHold := 0 }
  s

theorem witness_Echo_1 :
    let s := w_Echo_1; let t : Time := 1000; let h : HeadIx := 3; let a : BitVec 288 := 5; let b : BitVec 288 := 5;
    (∃ x ∈ s.echoShot h ((s.upTo t).stampOf (1536 + h.val) a b), s.calHeld h = false ∧ x.ek.isNone = true ∧
    x.missed = false) := by decide +kernel

def w_Echo_2 : State :=
  let h : HeadIx := 3
  let s := State.reset
  let s := s.updFire h fun f => { f with shots := [⟨5, true, 100, 0, 0, none, false⟩] }
  s

theorem witness_Echo_2 :
    let s := w_Echo_2; let t : Time := 1000; let h : HeadIx := 3; let k : BitVec 12 := 5;
    (∃ x ∈ ((s.head h).fire.shots.find? fun (x : Shot) => x.k == k.toNat && x.ek.isNone && !x.missed), (x.fk + s.rd (R.FIRE_CFG.ECHO_MAX h) * 256) / 256 ≤ (s.upTo t).now) := by decide +kernel

def w_Echo_3 : State :=
  let h : HeadIx := 3
  let s := State.reset
  let s := s.wrB (R.FIRE_STATUS.ECHO_LOST h) true
  s

theorem witness_Echo_3 : let s := w_Echo_3; let h : HeadIx := 3; s.on (R.FIRE_STATUS.ECHO_LOST h) = true := by decide +kernel

def w_Chain_0 : State :=
  let h : HeadIx := 3
  let s := State.reset
  let s := s.wr (R.EMT_STATUS.CHAIN h) 1
  let s := s.wr (R.HEAD_STATE.STATE h) hsParked
  s

theorem witness_Chain_0 :
    let s := w_Chain_0; let h : HeadIx := 3; s.headState h ≠ hsOff ∧ s.rd (R.EMT_STATUS.CHAIN h) = 1 ∧
    (s.head h).chain.flight = none ∧ (s.head h).chain.queue = [] := by decide +kernel

def w_Chain_1 : State :=
  let h : HeadIx := 3
  let s := State.reset
  let s := s.updScan h fun c => { c with inFrame := true }
  s

theorem witness_Chain_1 :
    let s := w_Chain_1; let h : HeadIx := 3; (∃ p ∈ s.patternDue h, (s.head h).chain.flight = none ∧
    (s.head h).chain.queue = []) := by decide +kernel

def w_Chain_2 : State :=
  let h : HeadIx := 3
  let s := State.reset
  let s := s.updScan h fun c => { c with inFrame := true }
  let s := s.updChain h fun c => { c with swapWait := true, nextPat := some 0 }
  s

theorem witness_Chain_2 :
    let s := w_Chain_2; let t : Time := 1000; let h : HeadIx := 3;
    (∃ d ∈ s.swapDesc h, (s.head h).chain.nextPat = some (Desc.pattern d) ∧ (s.upTo t).swapClear h = true ∧
    (s.head h).chain.flight = none ∧ (s.head h).chain.queue = []) := by decide +kernel

def w_Chain_3 : State :=
  let h : HeadIx := 3
  let s := State.reset
  let s := s.updChain h fun c => { c with flight := some ⟨.pattern 7, 0, 900⟩ }
  s

theorem witness_Chain_3 :
    let s := w_Chain_3; let t : Time := 1000; let h : HeadIx := 3;
    let r : List Nat := ([ChainSym.mark] ++ chainSyms (chainHeader (.pattern 7)) ++ [ChainSym.mark] ++ chainSyms (chainField [0x18]) ++ [ChainSym.mark]).map fun x => 10 * ChainSym.high x;
    (∃ f ∈ (s.head h).chain.flight, (∃ q ∈ chainRead f.cmd r, (s.upTo t).frameFails h f q = false)) := by decide +kernel

def w_Chain_4 : State :=
  let h : HeadIx := 3
  let s := State.reset
  let s := s.wr (R.HEAD_STATE.STATE h) hsScanning
  let s := s.updChain h fun c => { c with flight := some ⟨.verify, 0, 900⟩ }
  s

theorem witness_Chain_4 :
    let s := w_Chain_4; let t : Time := 1000; let h : HeadIx := 3; let r : List Nat := [];
    ∃ f ∈ (s.head h).chain.flight, (s.headState h = hsParked ∨ s.headState h = hsScanning ∨ s.headState h = hsInhibited) ∧
    ∀ q ∈ chainRead f.cmd r, (s.upTo t).frameFails h f q = true := by decide +kernel

def w_Proof_0 : State :=
  let h : HeadIx := 3
  let s := State.reset
  let s := (s.wr (R.HEAD_STATE.STATE h) 2).wr (R.SCAN_POS.PHASE h) 4
  let s := s.updChain h fun c => { c with stepsDue := 3, flight := none, queue := [] }
  s

theorem witness_Proof_0 :
    let s := w_Proof_0; let t : Time := 1000; let h : HeadIx := 3; (s.upTo t).proofDue h = true := by decide +kernel

def w_Proof_1 : State :=
  let h : HeadIx := 3
  let s := State.reset
  let s := s.wr (R.HEAD_STATE.STATE h) 2
  let s := { s with dt := 90000000000#64 }
  s

theorem witness_Proof_1 :
    let s := w_Proof_1; let t : Time := 1000; let h : HeadIx := 3; s.scanning h = true ∧
    (s.upTo t).lateEmitters h ≠ [] := by decide +kernel

theorem witness_ReturnInput_0 : let s := State.reset; let n : Fin 1536 := 3; s.generatorOn n = true := by decide +kernel

def w_ReturnInput_1 : State :=
  let n : Fin 1536 := 3
  let s := State.reset
  let s := s.wr (R.INCFG.HEAD n) 3
  let s := s.wr (R.HEAD_STATE.STATE 3) hsScanning
  let s := s.updClk fun c => { c with calHold := 0 }
  let s := s.updLine n fun l => { l with lastEdge := some 255000 }
  s

theorem witness_ReturnInput_1 :
    let s := w_ReturnInput_1; let t : Time := 1000; let n : Fin 1536 := 3; let back : BitVec 8 := 5;
    let arr := (s.upTo t).now * 256 - back.toNat;
    let lost := (s.upTo t).inHoldOff (s.line n).lastEdge arr (s.rd (R.INCFG.HOLD_OFF n)); s.generatorOn n = false ∧
    lost = true := by decide +kernel

def w_ReturnInput_2 : State :=
  let n : Fin 1536 := 3
  let s := State.reset
  let s := s.wr (R.INCFG.HEAD n) 3
  let s := s.wr (R.HEAD_STATE.STATE 3) hsScanning
  let s := s.updClk fun c => { c with calHold := 0 }
  s

theorem witness_ReturnInput_2 :
    let s := w_ReturnInput_2; let t : Time := 1000; let n : Fin 1536 := 3; let back : BitVec 8 := 5;
    let arr := (s.upTo t).now * 256 - back.toNat;
    let lost := (s.upTo t).inHoldOff (s.line n).lastEdge arr (s.rd (R.INCFG.HOLD_OFF n)); s.generatorOn n = false ∧
    lost = false := by decide +kernel

theorem witness_ReturnInput_3 : let s := State.reset; let n : Fin 1536 := 3; (s.line n).sat = false := by decide +kernel

def w_ReturnInput_4 : State :=
  let n : Fin 1536 := 3
  let s := State.reset
  let s := s.updLine n fun l => { l with sat := true }
  s

theorem witness_ReturnInput_4 : let s := w_ReturnInput_4; let n : Fin 1536 := 3; (s.line n).sat = true := by decide +kernel

theorem witness_Calibration_0 :
    let s := State.reset; let t : Time := 1000; let i : Fin 1558 := 3;
    (if i.val < 1536 then s.generatorOn i else if i.val < 1552 then s.echoGeneratorOn (i - 1536) ((s.upTo t).now * 256) else true) = true := by decide +kernel

theorem witness_Calibration_1 :
    let s := State.reset; let t : Time := 400000000000; let i : Fin 1558 := 3; i.val < 1552 ∧ (s.upTo t).epochDue i = true ∧
    (s.line i).hits < 2 ^ 18 := by decide +kernel

def w_Calibration_2 : State :=
  let i : Fin 1558 := 3
  let s := State.reset
  let s := s.updLine i fun l => { l with hits := 2 ^ 20 }
  s

theorem witness_Calibration_2 :
    let s := w_Calibration_2; let t : Time := 1000; let i : Fin 1558 := 3; i.val < 1552 ∧ (s.upTo t).epochDue i = true ∧
    2 ^ 18 ≤ (s.line i).hits := by decide +kernel

def w_Calibration_3 : State :=
  let i : Fin 1558 := 1553
  let s := State.reset
  let s := s.updLine i fun l => { l with hits := 2 ^ 20 }
  s

theorem witness_Calibration_3 :
    let s := w_Calibration_3; let t : Time := 1000; let i : Fin 1558 := 1553; 1552 ≤ i.val ∧
    (s.upTo t).epochDue i = true := by decide +kernel

def w_Calibration_4 : State :=
  let i : Fin 1558 := 3
  let s := State.reset
  let s := s.updLine i fun l => { l with pend := some (1, 3, 5, true) }
  s

theorem witness_Calibration_4 :
    let s := w_Calibration_4; let t : Time := 1000; let i : Fin 1558 := 3;
    (∃ p ∈ (s.line i).pend, s.on R.CAL_CFG.HOLD = false ∧ (i.val < 1552 →
    (s.upTo t).selectionWaits (s.headOf i) = false)) := by decide +kernel

theorem witness_Calibration_5 :
    let s := State.reset; let t : Time := 4000000000000; let n : Fin 1552 := 3; s.on (R.CAL_REC0.STALE n) = false ∧
    (s.line n).passAt + s.rd R.CAL_CFG.STALE_AGE * 1000000000 ≤ (s.upTo t).now := by decide +kernel

def w_Calibration_6 : State :=
  let s := State.reset
  let s := s.wr R.SEC_SERIAL_LO.SERIAL 77
  let s := ((List.range 8).foldl (fun s k => s.wr (R.CAL_STAGE.WORD (k + 2)) 0xFFFFFFFF) s).wr (R.CAL_STAGE.WORD 1) 0xFFFFFFFF
  let s := (s.wr (R.CAL_STAGE.WORD 0) (77 * 65536 + 3)).wr R.CAL_LIM.RESTORE_DT 255
  let s := s.wr (R.CAL_STAGE.WORD 9) 0
  let s := s.wr (R.CAL_STAGE.WORD 15) (crc16 ((List.range 15).flatMap fun k => bytesLE 4 (s.rd (R.CAL_STAGE.WORD k))))
  s

/-- The choice of the nearest sensor is a free value: all 48 sensors read 0 in this state. -/
theorem near_Calibration_6 : (w_Calibration_6.upTo (1000 : Time)).nearTemp = 0 :=
  (by decide +kernel : ∀ k < 48, (w_Calibration_6.upTo (1000 : Time)).rd (R.THM_SENSOR.TEMP k) = 0) _ (Nat.mod_lt _ (by decide))


theorem witness_Calibration_6 :
    let s := w_Calibration_6; let t : Time := 1000; let x : BitVec 11 := 5; x.toNat < 1552 ∧
    (s.upTo t).restoreCheck x.toNat = 0 := by
  refine ⟨by decide, ?_⟩
  unfold State.restoreCheck
  rw [near_Calibration_6]
  dsimp only
  rw [if_neg (by decide +kernel), if_neg (by decide +kernel), if_neg (by decide +kernel), if_neg (by decide +kernel),
    if_neg (by decide +kernel)]

theorem witness_Calibration_7 :
    let s := State.reset; let t : Time := 1000; let x : BitVec 11 := 5; x.toNat < 1552 ∧
    (s.upTo t).restoreCheck x.toNat ≠ 0 := by decide +kernel

def w_Calibration_8 : State :=
  let h : HeadIx := 3
  let s := State.reset
  let s := s.updHead h fun H => { H with scan := { H.scan with calVernier := true } }
  s

theorem witness_Calibration_8 :
    let s := w_Calibration_8; let h : HeadIx := 3; (s.head h).scan.calVernier = true := by decide +kernel

def w_Bench_1_0 : State :=
  let g : Fin 96 := 3
  let j : Fin 16 := 3
  let c : Nat := 5
  let b : Nat := 5
  let s := State.reset
  let s := s.wr (R.INCFG.HEAD (16*g.val+j.val)) 1
  let s := s.updGroup g fun G => { G with events := [{ pos := j.val, stamp := c, fate := .waiting }] }
  let s := (s.wr (R.SCAN_POS.PHASE 1) 3).updHead 1 fun H => { H with scan := {H.scan with desc := ((List.replicate 16 0xFFFFFFFF).set 2 0)}, closed := { H.closed with complete := [g.val] } }
  let s := s.updGroup g fun G => { G with use := b }
  s

theorem witness_Bench_1_0 :
    let s := w_Bench_1_0; let t : Time := 1000; let g : Fin 96 := 3; let j : Fin 16 := 3; let c : Nat := 5; let b : Nat := 5;
    nextEvent j (s.group g).events = some c ∧ s.bufferAt (s.headOf (16 * g + j)) g c = some b ∧
    c + (s.rd (R.HIST_COINC.W_M1 (s.groupHead g)) + 1) * 64 + 256 < ((s.upTo t).now + 1) * 256 := by decide +kernel

def w_Bench_1_1 : State :=
  let g : Fin 96 := 3
  let y : Hyp := ⟨0, 3, 1000, 500, 2⟩
  let ys : List Hyp := []
  let s := State.reset
  let s := s.updGroup g fun G => { G with queue := y :: ys }
  s

theorem witness_Bench_1_1 :
    let s := w_Bench_1_1; let g : Fin 96 := 3; let y : Hyp := ⟨0, 3, 1000, 500, 2⟩; let ys : List Hyp := [];
    (s.group g).queue = y :: ys := by decide +kernel

def w_Bench_1_2 : State :=
  let h : HeadIx := 3
  let s := State.reset
  let s := s.updHead h fun H => { H with closed := { H.closed with desc := List.replicate 16 0xFFFFFFFF, complete := [] } }
  s

theorem witness_Bench_1_2 :
    let s := w_Bench_1_2; let h : HeadIx := 3; let g : Fin 96 := 3; Desc.enables (s.head h).closed.desc g = true ∧
    (s.head h).closed.complete.contains g.val = false := by decide +kernel

def w_Detection_0 : State :=
  let h : HeadIx := 3
  let g : Fin 96 := 3
  let s := State.reset
  let s := s.updHead h fun H => { H with closed := { H.closed with fired := 9, complete := [g.val], evaluated := [], desc := ((List.replicate 16 0x3fffffff).set 2 0x8000).set 4 0x00400000 } }
  s

theorem witness_Detection_0 :
    let s := w_Detection_0; let h : HeadIx := 3; let g : Fin 96 := 3; let k := (s.head h).closed;
    k.complete.contains g.val = true ∧ k.evaluated.contains g.val = false ∧ k.fired ≠ 0 := by decide +kernel

theorem witness_Detection_1 :
    let s := State.reset; let h : HeadIx := 3; let n : Fin 1536 := 3; let bid : BitVec 20 := 5; let a : LineRead := .whole;
    let b : LineRead := .whole; let k := (s.head h).closed;
    let awaits := !k.decided && k.items.any fun i => i.n == n.val && i.bid == bid.toNat && ((a != .missing && !i.a) || (b != .missing && !i.b));
    s.stackLost (0x100000000 + 32 * bid.toNat) = false ∧ awaits = false := by decide +kernel

def w_Detection_2 : State :=
  let h : HeadIx := 3
  let n : Fin 1536 := 3
  let bid : BitVec 20 := 5
  let s := State.reset
  let s := s.updClosed h fun k => { k with items := [{ n := n.val, bid := bid.toNat }] }
  s

theorem witness_Detection_2 :
    let s := w_Detection_2; let h : HeadIx := 3; let n : Fin 1536 := 3; let bid : BitVec 20 := 5; let a : LineRead := .whole;
    let b : LineRead := .whole; let k := (s.head h).closed;
    let awaits := !k.decided && k.items.any fun i => i.n == n.val && i.bid == bid.toNat && ((a != .missing && !i.a) || (b != .missing && !i.b));
    s.stackLost (0x100000000 + 32 * bid.toNat) = false ∧ awaits = true := by decide +kernel

def w_Bearing_0 : State :=
  let h : HeadIx := 3
  let g : Fin 96 := 3
  let n : Fin 1536 := 3
  let s := State.reset
  let s := (s.wr (R.BEAR_CFG.K h) 1).updClosed h fun c => { c with evaluated := [g.val], items := [{ n := 48, bid := 5, det := some {} }] }
  s

theorem witness_Bearing_0 :
    let s := w_Bearing_0; let h : HeadIx := 3; let g : Fin 96 := 3; (s.head h).closed.evaluated.contains g.val = true ∧
    s.persists h = true ∧ recordsDue s h g ≠ [] ∧ s.regulated 3 = false ∧
    s.spill.length + (recordsDue s h g).length ≤ 8192 := by decide +kernel

def w_Bearing_1 : State :=
  let h : HeadIx := 3
  let s := State.reset
  let s := (s.wr (R.BEAR_CFG.K h) 1).updClosed h fun c => { c with fired := 3 }
  s

theorem witness_Bearing_1 :
    let s := w_Bearing_1; let t : Time := 5000; let h : HeadIx := 3; (s.head h).closed.fired ≠ 0 ∧ s.persists h = true ∧
    (s.head h).closed.closeAt + 1900 ≤ (s.upTo t).now := by decide +kernel

def w_Bearing_2 : State :=
  let n : Fin 1536 := 3
  let s := State.reset
  let s := s.updStaging n fun G => { G with lines := [{ bid := 5, at_ := .fetching }] }
  s

theorem witness_Bearing_2 :
    let s := w_Bearing_2; let n : Fin 1536 := 3;
    (∃ l ∈ (s.staging n).lines.find? (·.at_ == .fetching), s.stackLost (4096 * l.bid) = false ∧ s.regulated 2 = false ∧
    (s.staging n).lines.Pairwise (fun x y => x.bid ≠ y.bid)) := by decide +kernel

def w_Bearing_3 : State :=
  let g : Fin 96 := 3
  let n : Fin 1536 := 3
  let s := State.reset
  let s := s.updGroup g fun G => { G with mq := [{ n := 50, input := { head := 1, bid := 3 }, det := {}, slot := 0, desc := [], od := 0 }] }
  let s := s.updStaging 50 fun G => { G with lines := [{ bid := 3, at_ := .staged }] }
  s

theorem witness_Bearing_3 :
    let s := w_Bearing_3; let g : Fin 96 := 3;
    (∃ x ∈ s.nextRecord g, (∃ l ∈ s.stagedLine x.1.n x.1.input.bid, x.1.input.head < 16)) := by decide +kernel

def w_Bearing_4 : State :=
  let g : Fin 96 := 3
  let n : Fin 1536 := 3
  let s := State.reset
  let s := s.updGroup g fun G => { G with mq := [{ n := 50, input := { head := 1, bid := 3 }, det := {}, slot := 0, desc := [], od := 0 }] }
  s

theorem witness_Bearing_4 :
    let s := w_Bearing_4; let g : Fin 96 := 3; (∃ x ∈ s.nextRecord g, x.1.input.head < 16) := by decide +kernel

def w_Bearing_5 : State :=
  let n : Fin 1536 := 3
  let s := State.reset
  let s := s.updStaging n fun G => { G with lines := [{ bid := 5, at_ := .writing }] }
  s

theorem witness_Bearing_5 :
    let s := w_Bearing_5; let n : Fin 1536 := 3;
    (∃ l ∈ (s.staging n).lines.find? (·.at_ == .writing), (s.staging n).wanted = [] ∧
    s.regulated 2 = false) := by decide +kernel

theorem witness_MergeNeverInventsACount_0 :
    let s := State.reset; let p : List Nat := []; let f : Nat → Nat := default; let d : Nat := 5; let k : Nat := 5;
    let lg : Nat := 5; let sh : Int := 5; let m : Nat := 5; let b : Nat := 5; (∀ x ∈ p, x ≤ m) ∧
    interp p lg b sh 256 k ≤ m / 2 ^ k ∧ (mergeCoarse p f d sh k lg).length = 1024 ∧
    (∀ x ∈ mergeCoarse p f d sh k lg, x ≤ 0xFFFF) ∧ (lg ≤ b → b < 1024 →
    (mergeCoarse p f d sh k lg).getD b 0 ≤ m / 2 ^ k) := by decide +kernel

theorem witness_Speed_0 :
    let s := State.reset; let t : Time := 1000; let b : Bool := true;
    (s.upTo t).clampedIn (flag b) = false := by decide +kernel

def w_Speed_1 : State :=
  let t : Time := 1000
  let s := State.reset
  let s := { s with dev := { s.dev with sealed := true } }
  let s := s.wr R.SPEED_STATUS.STATE 1
  let s := { s with dt := 9000000000#64 }
  let s := (s.wr R.TACH_CFG.MODE 0).wr R.TACH_CFG.DIR_SRC 0
  let s := s.updTach fun x => { x with reverse := false, a := { x.a with speed := some ((s.upTo t).tachSpeed false) } }
  s

theorem witness_Speed_1 :
    let s := w_Speed_1; let t : Time := 1000;
    let due := s.dev.sealed = true ∧ s.tach.gateAt + s.rd R.TACH_CFG.GATE_MS * 1000000 ≤ (s.upTo t).now; due ∧
    s.rd R.TACH_CFG.MODE = 0 ∧ s.rd R.TACH_CFG.DIR_SRC = 0 ∧ s.plausibility = none ∧ s.tach.reverse = false ∧
    s.tach.a.speed = some ((s.upTo t).tachSpeed false) ∧ s.speedInvalid = false := by decide +kernel

def w_Speed_2 : State :=
  let s := State.reset
  let s := s.wr R.TACH_CFG.DIR_SRC 2
  let s := { s with dev := { s.dev with sealed := true } }
  let s := s.wr R.SPEED_STATUS.STATE 1
  let s := { s with dt := 9000000000#64 }
  s

theorem witness_Speed_2 :
    let s := w_Speed_2; let t : Time := 1000;
    let due := s.dev.sealed = true ∧ s.tach.gateAt + s.rd R.TACH_CFG.GATE_MS * 1000000 ≤ (s.upTo t).now; due ∧
    s.rd R.TACH_CFG.DIR_SRC = 2 ∧ s.plausibility = none ∧ s.speedInvalid = false := by decide +kernel

def w_Speed_3 : State :=
  let s := State.reset
  let s := s.updTach fun x => { x with clearAt := some 5 }
  let s := { s with dt := 9000000000#64 }
  let s := s.updTach fun x => { x with clearAt := some 5 }
  s

theorem witness_Speed_3 :
    let s := w_Speed_3; let t : Time := 1000; (∃ a ∈ s.tach.clearAt, s.speedInvalid = true ∧
    a + s.rd R.TACH_LIM.VALID_T * 10000000 ≤ (s.upTo t).now) := by decide +kernel

theorem witness_Point_0 :
    let s := State.reset; let t : Time := 1000; let h : HeadIx := 3; (s.upTo t).formatReady h = true ∧
    16 ≤ s.rd (R.NET_RING.RING_LOG2 h) ∧ s.rd (R.NET_RING.RING_LOG2 h) ≤ 22 ∧
    (pointsDue s h).length ≤ 2 ^ 16 := by decide +kernel

def w_Point_1 : State :=
  let h : HeadIx := 3
  let str : Fin 16 := 3
  let s := State.reset
  let s := s.setOpenFrame str h { recs := [7, 6], openAt := 5, frame := 1 }
  s

theorem witness_Point_1 :
    let s := w_Point_1; let t : Time := 90000000000; let h : HeadIx := 3; let str : Fin 16 := 3;
    (s.openFrame str h).recs ≠ [] ∧
    (s.openFrame str h).openAt + s.rd (R.NET_STREAM_CTL.FLUSH str) * 1000 ≤ (s.upTo t).now := by decide +kernel

def w_Point_2 : State :=
  let str : Fin 16 := 3
  let s := State.reset
  let s := s.wrB (R.NET_STREAM0.EN str) true
  s

theorem witness_Point_2 : let s := w_Point_2; let str : Fin 16 := 3; s.on (R.NET_STREAM0.EN str) = true := by decide +kernel

theorem witness_FrameQueue_0 :
    let s := State.reset; let str : Fin 16 := 3; s.rd (R.NET_STREAM_CTL.GEO_S str) ≠ 0 := by decide +kernel

def w_FrameQueue_1 : State :=
  let h : HeadIx := 3
  let s := State.reset
  let s := s.wr (R.SCAN_LEN.VALID h 0) 1
  s

theorem witness_FrameQueue_1 :
    let s := w_FrameQueue_1; let t : Time := 1000; let h : HeadIx := 3; s.hasProgram h = true ∧
    (s.upTo t).alarmDue h = true := by decide +kernel

theorem witness_FrameQueue_2 : let s := State.reset; s.dev.evtSent < 2 ^ 32 := by decide +kernel

def w_FrameQueue_3 : State :=
  let str : Fin 16 := 3
  let s := State.reset
  let s := s.wr (R.NET_STREAM0.EN str) 1
  let s := s.wr (R.NET_STREAM0.TYPES str) 24
  s

theorem witness_FrameQueue_3 :
    let s := w_FrameQueue_3; let t : Time := 1000; let str : Fin 16 := 3; s.carries str 4 = true ∧
    (∀ a ∈ s.net.statusAt, a + s.rd R.NET_SAFE.STATUS_MS * 1000000 ≤ (s.upTo t).now) := by decide +kernel

def w_Port_0 : State :=
  let p : Fin 4 := 3
  let q : Fin 8 := 3
  let s := State.reset
  let s := { s with net := { s.net with queues := [(p.val*8+q.val, [⟨.status, 1, 0, 3,4,5,6,[],[]⟩, ⟨.points, 2, 1, 3,4,5,6,[1,2],[]⟩])] } }
  let s := s.wr R.PAIR_STATUS.ROLE 0
  s

theorem witness_Port_0 :
    let s := w_Port_0; let t : Time := 1000; let p : Fin 4 := 3; let q : Fin 8 := 3;
    (∃ f ∈ (s.sendable p q).head?, (s.upTo t).mayTransmit p q = true ∧ f.kind.type ≠ 3 ∧ f.kind.type ≠ 0) := by decide +kernel

def w_Port_1 : State :=
  let p : Fin 4 := 3
  let q : Fin 8 := 3
  let s := State.reset
  let s := { s with net := { s.net with queues := [(p.val*8+q.val, [⟨.alarm true, 0, 0, 3,4,5,6,[],[]⟩, ⟨.points, 2, 1, 3,4,5,6,[1,2],[]⟩])] } }
  let s := s.wr R.PAIR_STATUS.ROLE 0
  let s := s.wr (R.NET_PORT.LINK p) 1
  s

theorem witness_Port_1 :
    let s := w_Port_1; let t : Time := 1000; let p : Fin 4 := 3; let q : Fin 8 := 3;
    (∃ f ∈ (s.sendable p q).head?, (s.upTo t).mayTransmit p q = true ∧ s.on (R.NET_PORT.LINK p) = true) := by decide +kernel

def w_Port_2 : State :=
  let s := State.reset
  let s := s.wrB R.NET_PRP.EN true
  s

theorem witness_Port_2 :
    let s := w_Port_2; let t : Time := 1000; s.on R.NET_PRP.EN = true ∧
    (∀ a ∈ s.net.supAt, a + s.rd R.NET_PRP.SUP_MS * 2000000 ≤ (s.upTo t).now) := by decide +kernel

def w_Port_3 : State :=
  let s := State.reset
  let s := s.wrB R.NET_PRP.EN true
  let s := { s with dt := 900000000000#64 }
  s

theorem witness_Port_3 :
    let s := w_Port_3; let t : Time := 1000; let i : Fin 2 := 1; s.on R.NET_PRP.EN = true ∧
    SMap.get (fun _ => 0) s.net.planeAt i + 3 * (s.rd R.NET_PRP.SUP_MS * 2000000) ≤ (s.upTo t).now := by decide +kernel

def w_Port_4 : State :=
  let p : Fin 4 := 3
  let s := State.reset
  let s := s.wrB (R.NET_PORT.LINK p) true
  s

theorem witness_Port_4 : let s := w_Port_4; let p : Fin 4 := 3; s.on (R.NET_PORT.LINK p) = true := by decide +kernel

def w_Port_5 : State :=
  let p : Fin 4 := 3
  let s := State.reset
  let s := s.wr (R.NET_PORT.MODE p) 1
  s

theorem witness_Port_5 :
    let s := w_Port_5; let p : Fin 4 := 3; s.on (R.NET_PORT.LINK p) = false ∧
    s.rd (R.NET_PORT.MODE p) ≠ 0 := by decide +kernel

def w_Capture_0 : State :=
  let s := State.reset
  let s := s.wrB R.CAP_STAT.EN true
  let s := { s with dev := { s.dev with sealed := true } }
  let s := s.wr R.DEV_STATE.STATE 2
  s

theorem witness_Capture_0 :
    let s := w_Capture_0; let t : Time := 1000; s.capturing = true ∧ (∀ q < 4, (s.seqr q).missN = 0) ∧
    s.on R.CAP_STAT.EN = true ∧ s.dev.sealed = true ∧ s.cap.statusTick ≠ some ((s.upTo t).now / 2048) := by decide +kernel

def w_Capture_1 : State :=
  let s := State.reset
  let s := s.wr R.CAP_CFG.STREAM_EN 15
  let s := s.wr R.DEV_STATE.STATE 2
  s

theorem witness_Capture_1 :
    let s := w_Capture_1; let t : Time := 1000; let k : Fin 4 := 3; s.capturing = true ∧ (∀ q < 4, (s.seqr q).missN = 0) ∧
    s.bitOf R.CAP_CFG.STREAM_EN k = true ∧ (s.on R.CAP_RL.EN && s.rd R.CAP_RL.STREAM == k.val) = false ∧
    (s.stream k).opened.length ≤ 166 ∧ (s.upTo t).capFrameDue k = true := by decide +kernel

def w_Capture_2 : State :=
  let s := State.reset
  let s := s.wr R.DEV_STATE.STATE 2
  s

theorem witness_Capture_2 :
    let s := w_Capture_2; let i : Fin 8 := 3; s.capturing = true ∧ (∀ q < 4, (s.seqr q).missN = 0) ∧
    s.slotState i = slIdle := by decide +kernel

def w_Capture_3 : State :=
  let i : Fin 8 := 3
  let s := State.reset
  let s := (s.wr (R.CAP_SLOT2.STATE i) 4).wr R.CAP_SLOT_GEN.GEN (s.rd (R.CAP_SLOT3.GEN i))
  let s := s.wr R.DEV_STATE.STATE 2
  s

theorem witness_Capture_3 :
    let s := w_Capture_3; let i : Fin 8 := 3; s.capturing = true ∧ (∀ q < 4, (s.seqr q).missN = 0) ∧ s.slotState i = slFull ∧
    s.rd (R.CAP_SLOT3.GEN i) = s.rd R.CAP_SLOT_GEN.GEN := by decide +kernel

theorem witness_Capture_4 :
    let s := w_Capture_2; let i : Fin 8 := 3; s.capturing = true ∧ (∀ q < 4, (s.seqr q).missN = 0) ∧ s.slotState i ≠ slFull ∨
    s.rd (R.CAP_SLOT3.GEN i) ≠ s.rd R.CAP_SLOT_GEN.GEN := by decide +kernel

def w_Capture_5 : State :=
  let i : Fin 8 := 3
  let s := State.reset
  let s := s.wr R.DEV_STATE.STATE 2
  let s := s.wr (R.CAP_SLOT2.STATE i) slPost
  s

theorem witness_Capture_5 :
    let s := w_Capture_5; let t : Time := 90000000000; let i : Fin 8 := 3; s.capturing = true ∧
    (∀ q < 4, (s.seqr q).missN = 0) ∧ s.slotState i = slPost ∧ s.slotEnd i ≤ (s.upTo t).now * 256 := by decide +kernel

def w_Sequencer_0 : State :=
  let q : Fin 4 := 3
  let j : Fin 16 := 3
  let s := State.reset
  let s := (s.wr R.DEV_STATE.STATE 2).wrB (R.SEQ_CFG.EN q) true
  let s := s.wr (R.SEQ_STAT.STATE q) j.val
  let s := (s.wr (R.SEQ_ST0.COND q j) 10).updSeqr q fun Q => { Q with waiting := [⟨10, 0, false, 77777⟩] }
  s

theorem witness_Sequencer_0 :
    let s := w_Sequencer_0; let t : Time := 9000000; let q : Fin 4 := 3; let j : Fin 16 := 3; s.capturing = true ∧
    s.on (R.SEQ_CFG.EN q) = true ∧ s.rd (R.SEQ_STAT.STATE q) = j.val ∧
    (∃ o ∈ (s.seqr q).waiting.head?, s.on (R.SEQ_STAT.REARMING q) = false ∧ s.occMatches q j o = true ∧
    s.occAdmitted q j o.time = true ∧ (∀ e ∈ s.seqTimer q, o.time ≤ e) ∧
    (s.upTo t).seqMay q o.time = true) := by decide +kernel

def w_Sequencer_1 : State :=
  let q : Fin 4 := 3
  let j : Fin 16 := 3
  let s := State.reset
  let s := (s.wr R.DEV_STATE.STATE 2).wrB (R.SEQ_CFG.EN q) true
  let s := s.wr (R.SEQ_STAT.STATE q) j.val
  let s := s.wr (R.SEQ_ST1.TMODE q j) 1
  s

theorem witness_Sequencer_1 :
    let s := w_Sequencer_1; let t : Time := 9000000; let q : Fin 4 := 3; let j : Fin 16 := 3; s.capturing = true ∧
    s.on (R.SEQ_CFG.EN q) = true ∧ s.rd (R.SEQ_STAT.STATE q) = j.val ∧
    (∃ e ∈ s.seqTimer q, ((s.seqr q).waiting.all fun o => decide (e < o.time)) = true ∧
    (s.upTo t).seqMay q e = true) := by decide +kernel

def w_Sequencer_2 : State :=
  let q : Fin 4 := 3
  let idx : Fin 4 := 3
  let j : Fin 16 := 3
  let s := State.reset
  let s := (s.wr R.DEV_STATE.STATE 2).wrB (R.SEQ_CFG.EN q) true
  let s := s.wr (R.SEQ_STAT.STATE q) j.val
  let s := s.updCap fun c => { c with trigOut := [(idx.val, [2])] }
  s

theorem witness_Sequencer_2 :
    let s := w_Sequencer_2; let t : Time := 1000; let q : Fin 4 := 3; let idx : Fin 4 := 3; let j : Fin 16 := 3;
    s.capturing = true ∧ s.on (R.SEQ_CFG.EN q) = true ∧ s.rd (R.SEQ_STAT.STATE q) = j.val ∧ s.trigOutHigh idx = true ∧
    (∀ e ∈ SMap.get (fun _ => []) s.cap.trigOut idx, e ≤ (s.upTo t).now) := by decide +kernel

def w_Sequencer_3 : State :=
  let q : Fin 4 := 3
  let j : Fin 16 := 3
  let s := State.reset
  let s := (s.wr R.DEV_STATE.STATE 2).wrB (R.SEQ_CFG.EN q) true
  let s := s.wr (R.SEQ_STAT.STATE q) j.val
  let s := s.wrB (R.SEQ_STAT.REARMING q) true
  s

theorem witness_Sequencer_3 :
    let s := w_Sequencer_3; let t : Time := 1000; let q : Fin 4 := 3; let j : Fin 16 := 3; s.capturing = true ∧
    s.on (R.SEQ_CFG.EN q) = true ∧ s.rd (R.SEQ_STAT.STATE q) = j.val ∧ s.on (R.SEQ_STAT.REARMING q) = true ∧
    (s.seqr q).rearmAt ≤ (s.upTo t).now ∧ (s.seqr q).slots = 0 := by decide +kernel

def w_Sequencer_4 : State :=
  let q : Fin 4 := 3
  let j : Fin 16 := 3
  let s := State.reset
  let s := s.wr R.DEV_STATE.STATE 2
  let s := s.wr (R.SEQ_CFG.EN q) 1
  let s := s.wr (R.SEQ_STAT.STATE q) j.val
  s

theorem witness_Sequencer_4 :
    let s := w_Sequencer_4; let q : Fin 4 := 3; let j : Fin 16 := 3; s.capturing = true ∧ s.on (R.SEQ_CFG.EN q) = true ∧
    s.rd (R.SEQ_STAT.STATE q) = j.val := by decide +kernel

theorem witness_Sequencer_5 :
    let s := w_Sequencer_4; let q : Fin 4 := 3; let j : Fin 16 := 3; s.capturing = true ∧ s.on (R.SEQ_CFG.EN q) = true ∧
    s.rd (R.SEQ_STAT.STATE q) = j.val := by decide +kernel

def w_Servo_0 : State :=
  let h : HeadIx := 3
  let s := State.reset
  let s := { s with dt := s.dt - s.dt % 10000 + 10000 + BitVec.ofNat 64 (625 * h.val % 10000) }
  let s := s.wr (R.HEAD_STATE.STATE h) 2
  s

theorem witness_Servo_0 :
    let s := w_Servo_0; let t : Time := 1000; let h : HeadIx := 3; s.headState h ≠ hsOff ∧
    (s.upTo t).sampleInstant h = true := by decide +kernel

def w_Servo_1 : State :=
  let h : HeadIx := 3
  let y : Bool := true
  let s := State.reset
  let s := s.wr (R.HEAD_STATE.STATE h) hsScanning
  let s := s.updServo h fun v => { v with y := { v.y with ovr := 2, late := true } }
  s

theorem witness_Servo_1 :
    let s := w_Servo_1; let t : Time := 5000; let h : HeadIx := 3; let y : Bool := true; s.headState h ≠ hsOff ∧
    s.headState h ≠ hsFault ∧ (s.head h).servo.faultPark = false ∧ ((s.head h).servo.axis (flag y)).ovr = 2 ∧
    ((s.head h).servo.axis (flag y)).late = true ∧ (s.head h).servo.sampleAt + 2000 ≤ (s.upTo t).now := by decide +kernel

def w_Servo_2 : State :=
  let h : HeadIx := 3
  let y : Bool := true
  let s := State.reset
  let s := s.wr (R.HEAD_STATE.STATE h) hsScanning
  let s := s.updServo h fun v => { v with y := { v.y with late := true } }
  s

theorem witness_Servo_2 :
    let s := w_Servo_2; let t : Time := 5000; let h : HeadIx := 3; let y : Bool := true; s.headState h ≠ hsOff ∧
    ((s.head h).servo.axis (flag y)).ovr ≠ 2 ∧ ((s.head h).servo.axis (flag y)).late = true ∧
    (s.head h).servo.sampleAt + 2000 ≤ (s.upTo t).now := by decide +kernel

theorem witness_Servo_3 :
    let s := w_Head_2; let t : Time := 1000; let h : HeadIx := 3; let y : Bool := true; s.headState h ≠ hsOff ∧
    s.headState h ≠ hsFault ∧ (s.head h).servo.faultPark = false ∧ ((s.head h).servo.axis (flag y)).lost = false ∧
    (s.upTo t).blocksGone h = true := by decide +kernel

def w_Servo_4 : State :=
  let h : HeadIx := 3
  let s := State.reset
  let s := s.wr (R.SRV_STATUS.SEQ h) 3
  let s := s.updServo h fun v => { v with faultPark := true, faultAt := 5 }
  let s := { s with dt := 90000000#64 }
  let s := s.wr (R.HEAD_STATE.STATE h) 2
  s

theorem witness_Servo_4 :
    let s := w_Servo_4; let t : Time := 1000; let h : HeadIx := 3; s.headState h ≠ hsOff ∧ (s.head h).servo.faultPark = true ∧
    s.rd (R.SRV_STATUS.SEQ h) = 3 ∧ (s.head h).servo.faultAt + 1000000 ≤ (s.upTo t).now := by decide +kernel

theorem witness_Servo_5 :
    let s := w_Head_2; let t : Time := 1000; let h : HeadIx := 3; s.headState h ≠ hsOff ∧ (s.head h).scan.parking = true ∧
    s.headState h = hsParked ∨ s.headState h = hsScanning ∨ s.headState h = hsInhibited ∧
    (∃ d ∈ (s.head h).servo.parkDeadline, d ≤ (s.upTo t).now) := by decide +kernel

def w_Servo_6 : State :=
  let h : HeadIx := 3
  let s := State.reset
  let s := s.wr (R.HEAD_STATE.STATE h) hsScanning
  let s := s.updServo h fun v => { v with calStep := 3 }
  s

theorem witness_Servo_6 :
    let s := w_Servo_6; let t : Time := 90000000000; let h : HeadIx := 3; s.headState h ≠ hsOff ∧
    (s.head h).servo.calStep = 3 ∧ (s.head h).servo.calAt + s.calTime h ≤ (s.upTo t).now := by decide +kernel

def w_Servo_7 : State :=
  let h : HeadIx := 3
  let s := State.reset
  let s := s.updServo h fun v => { v with calStep := 1+v.calStep%2}
  let s := s.wr (R.HEAD_STATE.STATE h) 2
  s

theorem witness_Servo_7 :
    let s := w_Servo_7; let t : Time := 1000; let h : HeadIx := 3; s.headState h ≠ hsOff ∧ (s.head h).servo.calStep = 1 ∨
    (s.head h).servo.calStep = 2 ∧ (s.head h).servo.calAt + s.calTime h ≤ (s.upTo t).now := by decide +kernel

theorem witness_CompensatorStaysInLimits_0 :
    let s := State.reset; let h : HeadIx := 3; let a : Fin 2 := 1;
    s.rdS (R.SRV_DRV.DRV_MIN h a) ≤ s.rdS (R.SRV_DRV.DRV_MAX h a) := by decide +kernel

theorem witness_ServoWrites_0 : let s := State.reset; let level : BitVec 2 := 1; level ≠ 3 := by decide +kernel

def w_ServoWrites_2 : State :=
  let s := State.reset
  let s := (s.wr R.SEC_SESSION.STATE 2).wr R.SEC_SESSION.PERM 0xFF
  s

theorem witness_ServoWrites_2 :
    let s := w_ServoWrites_2; let h : HeadIx := 3; let a : Fin 2 := 1; let k : Fin 2 := 1; s.mayConfig .session = true ∧
    ((s.head h).servo.axis a).bank ≠ k := by decide +kernel

theorem witness_ServoWrites_3 : let s := State.reset; s.mayConfig .session = false := by decide +kernel

def w_ServoWrites_4 : State :=
  let h : HeadIx := 3
  let v : Word := 5
  let s := State.reset
  let s := s.updServo h fun v => { v with sdCtr := some 4 }
  s

theorem witness_ServoWrites_4 :
    let s := w_ServoWrites_4; let h : HeadIx := 3; let seq : BitVec 4 := 5; let rx : LinkRx := rxGood;
    let ctr : BitVec 6 := 5; linkGood rx = true ∧ (s.head h).servo.sdCtr = some ((ctr.toNat + 63) % 64) ∧
    (s.head h).servo.sdSeq ≠ seq.toNat := by decide +kernel

def w_Eye_0 : State :=
  let h : HeadIx := 3
  let s := State.reset
  let s := s.updEye h fun e => { e with proofAt := some 5 }
  s

theorem witness_Eye_0 :
    let s := w_Eye_0; let t : Time := 1000; let h : HeadIx := 3; let code : BitVec 14 := 0;
    SMap.wf ringDefault (s.eye h).rings = true ∧ (∃ f ∈ (s.eye h).proofAt, (s.upTo t).codeReady h (f * 256) = true ∧
    s.energyPJ h code.toNat ≤ (s.image h).eProof * 1000 ∧ code.toNat ≠ 0x3FFF) := by decide +kernel

def w_Eye_1 : State :=
  let h : HeadIx := 3
  let s := State.reset
  let s := s.updEye h fun e => { e with pulses := [⟨5, 77, 0, 0, {}, false⟩] }
  s

theorem witness_Eye_1 :
    let s := w_Eye_1; let t : Time := 1000; let h : HeadIx := 3; let k : BitVec 12 := 5; let code : BitVec 14 := 0x3FFF;
    SMap.wf ringDefault (s.eye h).rings = true ∧
    (∃ x ∈ (s.eye h).pulses.find? (fun (x : Pulse) => x.k == k.toNat), (s.upTo t).codeReady h x.fk = true ∧
    code.toNat = 0x3FFF) := by decide +kernel

theorem witness_Eye_2 :
    let s := State.reset; let h : HeadIx := 3; SMap.wf ringDefault (s.eye h).rings = true := by decide +kernel

def w_Eye_3 : State :=
  let h : HeadIx := 3
  let z : Nat := 5
  let s := State.reset
  let s := s.wr (R.HEAD_STATE.STATE h) 1
  let s := s.updEye h fun e => { e with zeroAt := some z, latchAt := min z e.latchAt }
  s

theorem witness_Eye_3 :
    let s := w_Eye_3; let h : HeadIx := 3; let z : Nat := 5; SMap.wf ringDefault (s.eye h).rings = true ∧
    s.headState h = hsParked ∧ (s.eye h).zeroAt = some z ∧ (s.eye h).latchAt ≤ z := by decide +kernel

def w_Eye_4 : State :=
  let h : HeadIx := 3
  let s := State.reset
  let s := s.updHead h fun H => { H with scan := { H.scan with calZero := true } }
  let s := {s with dt := 9000000#64}
  s

theorem witness_Eye_4 :
    let s := w_Eye_4; let t : Time := 1000; let h : HeadIx := 3; SMap.wf ringDefault (s.eye h).rings = true ∧
    (s.head h).scan.calZero = true ∧ (s.upTo t).codeReady h (((s.eye h).zeroFrom + 255000) * 256) = true := by decide +kernel

theorem witness_Eye_5 :
    let s := w_Eye_4; let t : Time := 1000; let h : HeadIx := 3; let code : BitVec 14 := 65;
    SMap.wf ringDefault (s.eye h).rings = true ∧ (s.head h).scan.calZero = true ∧
    (s.upTo t).codeReady h (((s.eye h).zeroFrom + 255000) * 256) = true ∧ 64 < code.toNat := by decide +kernel

theorem witness_Eye_6 :
    let s := State.reset; let h : HeadIx := 3; SMap.wf ringDefault (s.eye h).rings = true := by decide +kernel

def w_Ossd_0 : State :=
  let m : Fin 4 := 3
  let s := State.reset
  let s := ((s.wr R.DEV_STATE.STATE 2).wr (R.SAFE_OSSD_CFG.HEAD_MASK m) 0)
  let s := { s with safe := { s.safe with okSince := [(2*m.val, some 4),(2*m.val+1, some 5)], need := 0 } }
  let s := { s with dt := 90000000000#64 }
  s

theorem witness_Ossd_0 :
    let s := w_Ossd_0; let t : Time := 1000; let m : Fin 4 := 3; (∀ i, (s.upTo t).chanCause m i = none) ∧
    faulted s m = false ∧ (∀ i, s.chanOn m i = false) ∧
    (∀ i, ∃ d ∈ SMap.get (fun _ => none) s.safe.okSince (chanIx m i), d + s.rd (R.SAFE_OSSD_CFG.ON_DLY m) * 10000000 ≤ (s.upTo t).now) ∧
    (s.on (R.SAFE_OSSD_CFG.RESTART m) = false ∨ ∀ i, bit s.safe.need (chanIx m i) = false) := by decide +kernel

def w_Ossd_2 : State :=
  let s := State.reset
  let s := s.wr R.SAFE_OSSD_STATUS.ON_A 15
  s

theorem witness_Ossd_2 :
    let s := w_Ossd_2; let t : Time := 0; let m : Fin 4 := 3; let b : Bool := false; s.bitOf (onField b) m = true ∧
    (s.upTo t).testTime b = true := by decide +kernel

def w_Ossd_3 : State :=
  let s := State.reset
  let s := { s with safe := { s.safe with testing := 255 } }
  s

theorem witness_Ossd_3 :
    let s := w_Ossd_3; let t : Time := 90000000000; let m : Fin 4 := 3; let b : Bool := true;
    bit s.safe.testing (testBit m b) = true ∧
    SMap.get (fun _ => 0) s.safe.chanAt (chanIx m b) + s.rd R.SAFE_OSSD_TEST.TEST_W * 1000 ≤ (s.upTo t).now := by decide +kernel

def w_Ossd_4 : State :=
  let s := State.reset
  let s := { s with safe := { s.safe with rstDone := some true } }
  let s := s.updDev fun d => { d with safeOcc := [0x0A01] }
  s

theorem witness_Ossd_4 : let s := w_Ossd_4; s.safe.rstDone = some true ∧ s.dev.safeOcc ≠ [] := by decide +kernel

def w_Ossd_5 : State :=
  let s := State.reset
  let s := { s with safe := { s.safe with rstDone := some false } }
  s

theorem witness_Ossd_5 : let s := w_Ossd_5; s.safe.rstDone = some false := by decide +kernel

def w_Ossd_6 : State :=
  let c : Fin 2 := 1
  let s := State.reset
  let s := s.updChannel (16 + c) fun x => { x with filt := true, highSince := some 5 }
  s

theorem witness_Ossd_6 :
    let s := w_Ossd_6; let t : Time := 90000000000; let c : Fin 2 := 1;
    (∃ a ∈ (s.channel (16 + c)).highSince, a + 5000000000 ≤ (s.upTo t).now) ∧
    s.on R.SAFE_RST_STATUS.STUCK = false := by decide +kernel

def w_Ossd_7 : State :=
  let c : Fin 2 := 1
  let s := State.reset
  let s := s.updDev fun d => { d with sealed := true }
  let s := s.updChannel (16 + c) fun x => { x with filt := true, count := 100 }
  s

theorem witness_Ossd_7 :
    let s := w_Ossd_7; let c : Fin 2 := 1; (s.channel (16 + c)).filt = true ∧ (s.channel (17 - c)).filt = false ∧
    s.dev.sealed = true ∧ 100 ≤ (s.channel (16 + c)).count := by decide +kernel

def w_Decision_0 : State :=
  let h : HeadIx := 3
  let s := State.reset
  let s := s.updClosed h fun k => { k with fired := 3, items := [{ n := 48, bid := 5, det := some {} }] }
  s

theorem witness_Decision_0 :
    let s := w_Decision_0; let h : HeadIx := 3; let i : Bool := true; (s.head h).closed.fired ≠ 0 ∧
    (s.head h).closed.items.all (fun i => i.det.isSome) = true ∧ (s.head h).closed.decided = false := by decide +kernel

def w_Decision_1 : State :=
  let h : HeadIx := 3
  let i : Bool := true
  let s := State.reset
  let s := s.updClosed h fun k => { k with fired := 3, decided := true, slowDone := false, items := k.items.map fun i => { i with done := true } }
  let s := s.wr (R.BEAR_CFG.K h) 1
  s

theorem witness_Decision_1 :
    let s := w_Decision_1; let t : Time := 1000; let h : HeadIx := 3; (s.head h).closed.fired ≠ 0 ∧
    (s.upTo t).slowReady h = true := by decide +kernel

def w_Decision_2 : State :=
  let h : HeadIx := 3
  let s := State.reset
  let s := s.updHead h fun H => { H with closed := { H.closed with fired := 2 } }
  s

theorem witness_Decision_2 :
    let s := w_Decision_2; let t : Time := 1000; let h : HeadIx := 3; (s.head h).closed.fired ≠ 0 ∧
    (s.head h).closed.decided = false ∧ (s.head h).closed.closeAt + 178 ≤ (s.upTo t).now := by decide +kernel

def w_Decision_3 : State :=
  let dev : BitVec 16 := 201
  let s := State.reset
  let s := { s with dev := { s.dev with sealed := true }, dt := 40000#64 }
  s

theorem witness_Decision_3 :
    let s := w_Decision_3; let t : Time := 1000; s.dev.sealed = true ∧ (s.upTo t).now % 10000 = 0 := by decide +kernel

theorem witness_Decision_4 : let s := State.reset; let dev : BitVec 16 := 201; 200 < dev.toInt.natAbs := by decide +kernel

def w_BreachSwitchesPairsOff_0 : State :=
  let h : HeadIx := 3
  let it : Item := { n := 48, bid := 5, words := [0x99019004], det := some { failed := true } }
  let s := State.reset
  let s := s.updClosed h fun k => { k with fired := 3, items := [it] }
  s

theorem witness_BreachSwitchesPairsOff_0 :
    let s := w_BreachSwitchesPairsOff_0; let h : HeadIx := 3;
    let it : Item := { n := 48, bid := 5, words := [0x99019004], det := some { failed := true } }; let island : Bool := true;
    (s.head h).closed.fired ≠ 0 ∧ (s.head h).closed.items.all (fun i => i.det.isSome) = true ∧
    (s.head h).closed.decided = false ∧ (s.head h).closed.items.contains it = true ∧ it.un = false ∧
    (s.itemBreach h (s.head h).closed island false it).1 = true ∧
    (s.head h).closed.frame = s.rd (R.SCAN_FRAME_NUM.FRAME h) := by decide +kernel

def w_SafetyInput_0 : State :=
  let c : Fin 16 := 3
  let s := State.reset
  let s := s.updDev fun d => { d with sealed := true }
  let s := s.updChannel c fun x => { x with count := 200 }
  s

theorem witness_SafetyInput_0 :
    let s := w_SafetyInput_0; let c : Fin 16 := 3; let level : Bool := true; s.dev.sealed = true ∧
    (s.channel c).filt ≠ level ∧ s.filterTicks c ≤ (s.channel c).count + 1 ∧ s.inputFault (c / 2) = false := by decide +kernel

def w_SafetyInput_1 : State :=
  let c : Fin 16 := 3
  let s := State.reset
  let s := s.updDev fun d => { d with sealed := true }
  let s := s.wr (R.SAFE_SI_CFG.SRC_B 1) 3
  let s := s.updChannel c fun x => { x with filt := true, testHigh := true, fails := 1 }
  s

theorem witness_SafetyInput_1 :
    let s := w_SafetyInput_1; let t : Time := 90000000000; let c : Fin 16 := 3; let k : Fin 4 := 3; s.chanSrc c = k ∧
    (s.channel c).filt = true ∧ (s.channel c).testHigh = true ∧ (s.channel c).fails = 1 ∧ s.dev.sealed = true ∧
    1000 * s.rd R.SAFE_TP_CFG.TPW ≤ (s.upTo t).tpOffset k ∧
    SMap.get (fun _ => none) s.safe.tpDone k ≠ some ((s.upTo t).now - (s.upTo t).tpOffset k) := by decide +kernel

def w_SafetyInput_2 : State :=
  let n : Fin 8 := 3
  let s := State.reset
  let s := s.updChannel (2 * n) fun x => { x with filt := true }
  let s := { s with safe := { s.safe with inputs := [(n.val, { discAt := some 5 })] } }
  s

theorem witness_SafetyInput_2 :
    let s := w_SafetyInput_2; let t : Time := 90000000000; let n : Fin 8 := 3; s.atClosed (2 * n) ≠ s.atClosed (2 * n + 1) ∧
    (∃ d ∈ (s.safeInput n).discAt, d + s.rd (R.SAFE_SI_CFG.DISC_T n) * 10000000 ≤ (s.upTo t).now) ∧
    s.bitOf R.SAFE_SI_STATE.DISC n = false := by decide +kernel

def w_SafetyInput_3 : State :=
  let s := State.reset
  let s := { s with safe := { s.safe with code := 7 } }
  s

theorem witness_SafetyInput_3 :
    let s := w_SafetyInput_3; let t : Time := 90000000000; s.inputCode ≠ s.safe.code ∧
    s.safe.codeAt + s.rd R.SAFE_FSEL_CFG.FSEL_T * 1000000 ≤ (s.upTo t).now := by decide +kernel

def w_SafetyMessages_0 : State :=
  let c : Fin 4 := 3
  let s := State.reset
  let s := (s.wr (connField c) 1)
  s

theorem witness_SafetyMessages_0 :
    let s := w_SafetyMessages_0; let t : Time := 1000; let c : Fin 4 := 3; s.connState c = 1 ∧
    (s.conn c).deadline < (s.upTo t).now := by decide +kernel

def w_SafetyMessages_1 : State :=
  let c : Fin 4 := 3
  let s := State.reset
  let s := s.updDev fun d => { d with sealed := true }
  let s := (s.wrB (R.SAFE_CONN1.EN c) true).wr (R.SAFE_CONN1.CMD_MASK c) 15
  s

theorem witness_SafetyMessages_1 :
    let s := w_SafetyMessages_1; let t : Time := 10000; let c : Fin 4 := 3; let stamp : Time := 1000; let seq : Word := 1;
    let a0 : Word := 0; let a1 : Word := 0; passesChecks s t c 0 stamp.toNat seq.toNat a0.toNat a1.toNat := by decide +kernel

theorem witness_SafetyMessages_2 :
    let s := w_SafetyMessages_1; let t : Time := 10000; let c : Fin 4 := 3; let stamp : Time := 1000; let seq : Word := 1;
    let a0 : Word := 0; let a1 : Word := 0; passesChecks s t c 1 stamp.toNat seq.toNat a0.toNat a1.toNat := by decide +kernel

theorem witness_SafetyMessages_3 :
    let s := w_SafetyMessages_1; let t : Time := 10000; let c : Fin 4 := 3; let stamp : Time := 1000; let seq : Word := 1;
    let a0 : Word := 0; let a1 : Word := 0; passesChecks s t c 2 stamp.toNat seq.toNat a0.toNat a1.toNat := by decide +kernel

theorem witness_SafetyMessages_4 :
    let s := w_SafetyMessages_1; let t : Time := 10000; let c : Fin 4 := 3; let stamp : Time := 1000; let seq : Word := 1;
    let a0 : Word := 0; let a1 : Word := 0; passesChecks s t c 3 stamp.toNat seq.toNat a0.toNat a1.toNat := by decide +kernel

def w_SafetyMessages_5 : State :=
  let c : Fin 4 := 3
  let s := State.reset
  let s := s.updDev fun d => { d with sealed := true }
  let s := s.wrB (R.SAFE_CONN1.EN c) true
  s

theorem witness_SafetyMessages_5 :
    let s := w_SafetyMessages_5; let t : Time := 10000; let c : Fin 4 := 3; let stamp : Time := 1000; let a0 : Word := 5;
    let a1 : Word := 5; (s.upTo t).mayTake stamp.toNat = true ∧ s.on (R.SAFE_CONN1.EN c) = true ∧
    s.cmdAllowed c 2 a0.toNat a1.toNat = false := by decide +kernel

def w_Token_0 : State :=
  let s := State.reset
  let s := s.updPair fun p => { p with claim := true }
  s

theorem witness_Token_0 :
    let s := w_Token_0; let t : Time := 1000; s.pair.claim = true ∧ (s.upTo t).tokenFree = true ∧
    s.pair.busyAt = none := by decide +kernel

def w_Token_1 : State :=
  let s := State.reset
  let s := (s.wr R.PAIR_STATUS.TOKEN_OUT 2).updPair fun p => { p with claimAt := some 3 }
  s

theorem witness_Token_1 :
    let s := w_Token_1; let t : Time := 90000000000; (∃ x ∈ s.pair.claimAt, x + 1000 ≤ (s.upTo t).now) ∧
    s.rd R.PAIR_STATUS.TOKEN_OUT = 2 := by decide +kernel

def w_Token_2 : State :=
  let s := State.reset
  let s := s.wr R.PAIR_STATUS.TOKEN_OUT 2
  let s := s.wrB R.PAIR_CFG.EN true
  s

theorem witness_Token_2 :
    let s := w_Token_2; s.on R.PAIR_CFG.EN = true ∧ s.rd R.PAIR_STATUS.TOKEN_OUT = 2 := by decide +kernel

theorem witness_Token_3 : let s := State.reset; s.on R.PAIR_CFG.EN = false := by decide +kernel

def w_Token_4 : State :=
  let s := State.reset
  let s := s.updPair fun p => { p with retryDue := true }
  s

theorem witness_Token_4 :
    let s := w_Token_4; let t : Time := 1000; s.pair.retryDue = true ∧ (s.upTo t).tokenFree = true ∧
    s.pair.busyAt = none := by decide +kernel

def w_Token_5 : State :=
  let s := State.reset
  let s := s.wr R.PAIR_STATUS.TOKEN_OUT 2
  let s := s.wrB R.PAIR_CFG.EN true
  let s := s.wr R.PAIR_STATUS.ROLE 1
  s

theorem witness_Token_5 :
    let s := w_Token_5; let t : Time := 1000; s.on R.PAIR_CFG.EN = true ∧ s.rd R.PAIR_STATUS.TOKEN_OUT = 2 ∧
    s.rd R.PAIR_STATUS.ROLE ≠ roleShadow ∧ (s.upTo t).silentFor 4000 = true := by decide +kernel

def w_Token_6 : State :=
  let s := State.reset
  let s := s.wrB R.PAIR_CFG.EN true
  let s := (s.wr R.PAIR_STATUS.ROLE 1).wr R.PAIR_STATUS.PARTNER 1
  let s := s.updPair fun p => { p with partner := some ⟨1, 1000, 2, 3, 0, 0, false, true, 2, 0, 0, 77, 0, [], [], 0, 0⟩ }
  s

theorem witness_Token_6 : let s := w_Token_6; s.shadowFit = true := by decide +kernel

def w_Token_7 : State :=
  let s := State.reset
  let s := (s.wr R.PAIR_STATUS.ROLE 2).wr R.PAIR_STATUS.SYNC 2
  s

theorem witness_Token_7 : let s := w_Token_7; s.rd R.PAIR_STATUS.ROLE = roleShadow ∧ 2 ≤ s.sync := by decide +kernel

def w_Token_8 : State :=
  let s := State.reset
  let s := { s with dt := 9000000000000#64, dev := { s.dev with sealed := true } }
  let s := s.wr R.PAIR_CFG.EN 1
  s

theorem witness_Token_8 :
    let s := w_Token_8; let t : Time := 1000; s.on R.PAIR_CFG.EN = true ∧ s.dev.sealed = true ∧
    s.rd R.PAIR_STATUS.ROLE = roleShadow ∧ s.sync = syncNone ∧ s.pair.partner = none ∧ s.pair.released = false ∧
    s.pair.sealAt + s.rd R.PAIR_CFG.JOIN_T * 1000000 ≤ (s.upTo t).now := by decide +kernel

def w_Heartbeat_0 : State :=
  let s := State.reset
  let s := s.wrB R.PAIR_CFG.EN true
  let s := { s with dev := { s.dev with sealed := true } }
  let s := s.wr R.DEV_STATE.STATE 2
  s

theorem witness_Heartbeat_0 :
    let s := w_Heartbeat_0; let t : Time := 1000; s.on R.PAIR_CFG.EN = true ∧ s.dev.sealed = true ∧ 2 ≤ s.devState ∧
    s.devState ≠ 5 ∧ (s.upTo t).silentFor 1950 = true := by decide +kernel

theorem witness_Heartbeat_1 :
    let s := w_Commit_4; let rx : LinkRx := rxGood; s.on R.PAIR_CFG.EN = true ∧ s.dev.sealed = true ∧ linkGood rx = true ∧
    s.pair.rxSeq = none := by decide +kernel

def w_Heartbeat_2 : State :=
  let p : Fin 2 := 1
  let s := State.reset
  let s := s.updPair fun p => { p with deadline := some 5 }
  let s := {s with dt := 100000}
  s

theorem witness_Heartbeat_2 :
    let s := w_Heartbeat_2; let t : Time := 1000; (∃ x ∈ s.pair.deadline, x < (s.upTo t).now ∧
    (s.upTo t).now % 10000 = 0) := by decide +kernel

def w_Heartbeat_3 : State :=
  let p : Fin 2 := 1
  let d : Digest := ⟨3, 1, 2, 3, 4, 5, 6, 7⟩
  let s := State.reset
  let s := ((s.wrB R.PAIR_CFG.EN true).wr R.PAIR_STATUS.ROLE 1).wr R.PAIR_STATUS.PARTNER 1
  let s := s.updPair fun p => { p with own := [(d.head.val, [({ d with nrec := d.nrec + 1 }, 900)])], partner := some ⟨1, 1000, 2, 3, 0, 0, false, true, 2, 0, 0, 77, 0, [], [], 0, 0⟩ }
  s

theorem witness_Heartbeat_3 :
    let s := w_Heartbeat_3; let rx : LinkRx := rxGood; let d : Digest := ⟨3, 1, 2, 3, 4, 5, 6, 7⟩;
    (∃ x ∈ (s.ownDigests d.head).find? (fun (x : Digest × Nat) => sameDwell x.1 d), linkGood rx = true ∧ s.comparing = true ∧
    (s.theirDigests d.head).length < 64 ∧
    ((s.ownDigests d.head).any fun a => (s.theirDigests d.head).any (sameDwell a.1)) = false) := by decide +kernel

def w_Heartbeat_4 : State :=
  let p : Fin 2 := 1
  let h : HeadIx := 3
  let d : Digest := ⟨3, 1, 2, 3, 4, 5, 6, 7⟩
  let s := State.reset
  let s := s.updPair fun p => { p with own := [(h.val, [(d, 900)])] }
  s

theorem witness_Heartbeat_4 :
    let s := w_Heartbeat_4; let t : Time := 90000000000; let h : HeadIx := 3;
    (∃ x ∈ (s.ownDigests h).head?, x.2 + 20000 ≤ (s.upTo t).now) := by decide +kernel

def w_Heartbeat_5 : State :=
  let s := State.reset
  let s := (s.wr R.PAIR_STATUS.ROLE 2).wr R.PAIR_CATCHUP.PASS 1
  s

theorem witness_Heartbeat_5 :
    let s := w_Heartbeat_5; let rx : LinkRx := rxGood; let bid : BitVec 20 := 5;
    let record : List Byte := List.replicate 4096 0; linkGood rx = true ∧ s.rd R.PAIR_STATUS.ROLE = roleShadow ∧
    s.rd R.PAIR_CATCHUP.PASS = 1 ∧ record.length = 4096 ∧ bid.toNat < 0xFFFFF ∧
    (s.bearing bid.toNat).dtLast ≤ (Bear.read fun o n => ofBytesLE ((record.drop o).take n)).dtLast := by decide +kernel

def w_DomainMaster_0 : State :=
  let s := State.reset
  let s := s.wrB R.DOM_CFG.EN true
  let s := { s with dev := { s.dev with sealed := true } }
  let s := s.wr R.DOM_STATUS.ROLE 1
  s

theorem witness_DomainMaster_0 :
    let s := w_DomainMaster_0; let t : Time := 1000; s.on R.DOM_CFG.EN = true ∧ s.domRole = domMaster ∧ s.dev.sealed = true ∧
    (s.upTo t).dueAgain s.dom.beaconAt 8000 = true := by decide +kernel

def w_DomainMaster_1 : State :=
  let s := State.reset
  let s := s.wr R.DOM_CFG.EN 1
  let s := s.wr R.DOM_STATUS.ROLE 1
  s

theorem witness_DomainMaster_1 :
    let s := w_DomainMaster_1; let via : DomVia := .port 2 rxGood; let hdr : DomHdr := ⟨9, false, true, 0, 1, 1, 7, 77⟩;
    let pref : Option (BitVec 14) := none; (∃ d ∈ s.grant hdr.serial.toNat (pref.map BitVec.toNat), usable s via hdr ∧
    s.domRole = domMaster) := by decide +kernel

def w_DomainMaster_2 : State :=
  let s := State.reset
  let s := { s with dev := { s.dev with sealed := true } }
  let s := s.wr R.DOM_CFG.EN 1
  let s := s.wr R.DOM_STATUS.ROLE 1
  s

theorem witness_DomainMaster_2 :
    let s := w_DomainMaster_2; let t : Time := 1000; s.on R.DOM_CFG.EN = true ∧ s.domRole = domMaster ∧ s.dev.sealed = true ∧
    (s.upTo t).dueAgain s.dom.rollAt (s.rd R.DOM_TIMERS.ROLL_S * 1000000000) = true := by decide +kernel

theorem witness_DomainMaster_3 :
    let s := w_DomainMaster_1; let via : DomVia := .port 2 rxGood; let hdr : DomHdr := ⟨9, false, true, 0, 1, 1, 7, 77⟩;
    usable s via hdr ∧ hdr.bcast = true ∧ s.domRole = domMaster := by decide +kernel

def w_DomainMaster_4 : State :=
  let s := State.reset
  let s := s.wr R.DOM_CFG.EN 1
  let s := s.wr R.DOM_STATUS.ROLE 2
  s

theorem witness_DomainMaster_4 :
    let s := w_DomainMaster_4; let via : DomVia := .port 2 rxGood; let hdr : DomHdr := ⟨9, false, true, 0, 1, 1, 7, 77⟩;
    usable s via hdr ∧ hdr.bcast = true ∧ s.domRole = domBackup := by decide +kernel

def w_DomainMember_0 : State :=
  let d : BitVec 16 := 5
  let s := State.reset
  let s := s.updDev fun d => { d with sealed := true }
  let s := (s.wrB R.DOM_CFG.EN true).wrB R.DOM_CFG.NET_JOIN true
  s

theorem witness_DomainMember_0 :
    let s := w_DomainMember_0; let t : Time := 1000; s.on R.DOM_CFG.EN = true ∧ s.admitted = false ∧ s.dev.sealed = true ∧
    s.domRole ≠ domMaster ∧ s.rd R.DOM_STATUS.DEPTH ≤ 8 ∧ (s.upTo t).hopReady = true := by decide +kernel

def w_DomainMember_1 : State :=
  let s := State.reset
  let s := s.wr R.DOM_CFG.EN 1
  s

theorem witness_DomainMember_1 :
    let s := w_DomainMember_1; let via : DomVia := .port 2 rxGood; let hdr : DomHdr := ⟨9, false, true, 0, 1, 1, 7, 77⟩;
    usable s via hdr := by decide +kernel

def w_DomainMember_2 : State :=
  let s := State.reset
  let s := s.wr R.DOM_CFG.EN 1
  let s := (s.wr R.DOM_STATUS.STATE 2).wr R.DOM_STATUS.ROLE 0
  s

theorem witness_DomainMember_2 :
    let s := w_DomainMember_2; let via : DomVia := .port 2 rxGood; let hdr : DomHdr := ⟨9, false, true, 0, 1, 1, 7, 77⟩;
    usable s via hdr ∧ hdr.bcast = true ∧ s.admitted = true ∧ s.domRole ≠ domMaster := by decide +kernel

theorem witness_DomainMember_3 :
    let s := w_DomainMember_1; let via : DomVia := .port 2 rxGood; let hdr : DomHdr := ⟨9, false, true, 0, 1, 1, 7, 77⟩;
    usable s via hdr ∧ hdr.bcast = true ∧ s.domRole ≠ domMaster ∧ s.laterTerm hdr.term.toNat = true := by decide +kernel

def w_DomainMember_4 : State :=
  let s := State.reset
  let s := s.wr R.DOM_CFG.EN 1
  let s := (s.wr R.DOM_STATUS.STATE 2).wr R.DOM_STATUS.ROLE (s.free % 2 * 2)
  let s := { s with dom := { s.dom with deadlines := [] }, dt := 40000#64 }
  let s := (s.wr R.DOM_STATUS.UP_PORT 1).wr (R.DOM_PORT.ROLE 1) 1
  s

theorem witness_DomainMember_4 :
    let s := w_DomainMember_4; let t : Time := 1000; s.on R.DOM_CFG.EN = true ∧ s.domState = dsJoined ∧
    s.upstream.isSome = true ∧ (∀ p < 5, (s.upTo t).beaconDead p = true) ∧ s.domRole ≠ domMaster ∧
    (s.upTo t).now % 10000 = 0 := by decide +kernel

def w_DomainMember_5 : State :=
  let s := State.reset
  let s := s.wr R.DOM_STATUS.STATE 3
  let s := s.updClk fun c => { c with holdSince := some 3 }
  let s := {s with dt := 60000000000#64}
  let s := s.wr R.DOM_TIMERS.HOLD_T 2
  s

theorem witness_DomainMember_5 :
    let s := w_DomainMember_5; let t : Time := 1000; s.domState = dsHoldover ∧
    (s.upTo t).heldOver (s.rd R.DOM_TIMERS.HOLD_T) = true := by decide +kernel

theorem witness_DomainMember_6 :
    let s := w_DomainMember_1; let via : DomVia := .port 2 rxGood; let hdr : DomHdr := ⟨9, false, true, 0, 1, 1, 7, 77⟩;
    usable s via hdr ∧ hdr.bcast = true := by decide +kernel

def w_DomainMember_7 : State :=
  let h : HeadIx := 3
  let owner : HeadIx := 3
  let hdr : DomHdr := ⟨9, false, true, 0, 1, 1, 7, 77⟩
  let d : BitVec 16 := 5
  let s := State.reset
  let s := s.updDev fun d => { d with sealed := true }
  let s := s.wrB R.DOM_CFG.EN true
  let s := (((s.wr (R.DOM_MULT.EN h) 1).wr (R.DOM_MULT.ROLE h) 1).wr (R.DOM_MULT.OWNER_DID h) hdr.srcDid.toNat).wr (R.DOM_MULT.OWNER_HEAD h) owner
  let s := s.updScan h fun c => { c with inFrame := true }
  let s := s.wr (R.SCAN_POS.DWELL h) 5
  s

theorem witness_DomainMember_7 :
    let s := w_DomainMember_7; let t : Time := 1000; let h : HeadIx := 3; let owner : HeadIx := 3;
    let via : DomVia := .port 2 rxGood; let hdr : DomHdr := ⟨9, false, true, 0, 1, 1, 7, 77⟩; let d : BitVec 16 := 5;
    let v := if s.headState h = hsParked ∧ s.calibrating h = false then (s.upTo t).headScan h else s.upTo t;
    usable s via hdr ∧ hdr.bcast = true ∧ (s.helpersOf hdr.srcDid.toNat owner).contains h = true ∧
    v.helperDwell h = d.toNat := by decide +kernel

def w_DomainMember_8 : State :=
  let h : HeadIx := 3
  let owner : HeadIx := 3
  let hdr : DomHdr := ⟨9, false, true, 0, 1, 1, 7, 77⟩
  let d : BitVec 16 := 5
  let s := State.reset
  let s := s.wr R.DOM_CFG.EN 1
  let s := ((((s.wr (R.DOM_MULT.EN h) 1).wr (R.DOM_MULT.ROLE h) 1).wr (R.DOM_MULT.OWNER_DID h) hdr.srcDid.toNat).wr (R.DOM_MULT.OWNER_HEAD h) owner).updDev fun d => { d with sealed := true }
  let s := s.wr (R.SCAN_POS.DWELL h) d.toNat
  s

theorem witness_DomainMember_8 :
    let s := w_DomainMember_8; let h : HeadIx := 3; let owner : HeadIx := 3; let via : DomVia := .port 2 rxGood;
    let hdr : DomHdr := ⟨9, false, true, 0, 1, 1, 7, 77⟩; let d : BitVec 16 := 5; usable s via hdr ∧ hdr.bcast = true ∧
    (s.helpersOf hdr.srcDid.toNat owner).contains h = true ∧ s.rd (R.SCAN_POS.DWELL h) = d.toNat := by decide +kernel

def w_DomainMember_9 : State :=
  let h : HeadIx := 3
  let s := State.reset
  let s := s.wr (R.SCAN_POS.PHASE h) 2
  s

theorem witness_DomainMember_9 :
    let s := w_DomainMember_9; let t : Time := 1000; let h : HeadIx := 3; s.isHelper h = true ∧
    (s.head h).scan.fixedOpen = none ∧ (s.head h).scan.noticeBad = false ∧ s.rd (R.SCAN_POS.PHASE h) = 1 ∨
    s.rd (R.SCAN_POS.PHASE h) = 2 ∧ (s.head h).scan.target ≤ (s.upTo t).now := by decide +kernel

def w_DomainTime_0 : State :=
  let c : Fin 4 := 3
  let s := State.reset
  let s := s.wr (R.DOM_PORT.ROLE c) 1
  let s := s.wrB R.DOM_CFG.EN true
  s

theorem witness_DomainTime_0 :
    let s := w_DomainTime_0; let t : Time := 1000; let c : Fin 4 := 3; let down := s.rd (R.DOM_PORT.ROLE c) = 3;
    let last := SMap.get (fun _ => 0) (if down then s.dom.t1 else s.dom.t3) c; s.on R.DOM_CFG.EN = true ∧
    s.rd (R.DOM_PORT.ROLE c) ≠ 0 ∧ (last ≠ 0 → last / 256 + 125000 ≤ (s.upTo t).now) := by decide +kernel

def w_DomainTime_1 : State :=
  let c : Fin 4 := 3
  let s := State.reset
  let s := s.wr (R.DOM_PORT.ROLE c) 1
  let s := s.wr R.DOM_CFG.EN 1
  s

theorem witness_DomainTime_1 :
    let s := w_DomainTime_1; let c : Fin 4 := 3; let rx : LinkRx := rxGood;
    let hdr : DomHdr := ⟨9, false, true, 0, 1, 1, 7, 77⟩; usable s (.port c rx) hdr ∧
    s.rd (R.DOM_PORT.ROLE c) ≠ 0 := by decide +kernel

def w_DomainTime_2 : State :=
  let c : Fin 4 := 3
  let s := State.reset
  let s := (s.wr R.DOM_CFG.EN 1).wr (R.DOM_PORT.ROLE c) 1
  s

theorem witness_DomainTime_2 :
    let s := w_DomainTime_2; let c : Fin 4 := 3; let rx : LinkRx := rxGood;
    let hdr : DomHdr := ⟨9, false, true, 0, 1, 1, 7, 77⟩; usable s (.port c rx) hdr ∧ s.rd (R.DOM_PORT.ROLE c) = 1 ∨
    s.rd (R.DOM_PORT.ROLE c) = 2 ∧ SMap.get (fun _ => 0) s.dom.t2 c ≠ 0 := by decide +kernel

theorem witness_DomainTime_3 :
    let s := w_DomainMember_1; let via : DomVia := .port 2 rxGood; let hdr : DomHdr := ⟨9, false, true, 0, 1, 1, 7, 77⟩;
    let a : Time := 1000; usable s via hdr ∧ hdr.bcast = true ∧ a.toNat % 5 = 0 ∧ s.anyScanning = false := by decide +kernel

def w_DomainTime_4 : State :=
  let s := State.reset
  let s := s.wr (R.DOM_CFG.SYNC_PIN) 1
  s

theorem witness_DomainTime_4 :
    let s := w_DomainTime_4; s.on R.DOM_CFG.SYNC_PIN = true ∧ s.portOfRole 1 = none ∧ s.on R.DOM_STATUS.VIA_NET = false ∧
    s.anyScanning = false := by decide +kernel

def w_DomainTime_5 : State :=
  let s := State.reset
  let s := { s with clk := { s.clk with syncEdge := some 4 } }
  s

theorem witness_DomainTime_5 :
    let s := w_DomainTime_5; let t : Time := 1000; s.anyScanning = false ∧ (∃ e ∈ s.clk.syncEdge, e + 20 ≤ (s.upTo t).now) ∨
    (s.clk.syncEdge = none ∧ s.clk.syncAt = some (s.upTo t).now ∧ s.timeConverged = true) ∧
    (s.upTo t).fullTime + 1280 < 2 ^ 72 := by decide +kernel

def w_DomainTime_6 : State :=
  let c : Fin 4 := 3
  let s := State.reset
  let s := s.updClk fun c => { c with holdSince := some 3 }
  let s := {s with dt := 60000000000#64}
  let s := s.wr R.CLK_STATUS.HOLDOVER 1
  s

theorem witness_DomainTime_6 :
    let s := w_DomainTime_6; let t : Time := 1000; s.on R.CLK_STATUS.HOLDOVER = true ∧ s.on R.CLK_DISC.HOLD_ALIGN = true ∧
    (s.upTo t).heldOver (s.rd R.CLK_DISC.HOLD_ALIGN) = true := by decide +kernel

def w_Memory_0 : State :=
  let s := State.reset
  let s := s.wrB R.MEM_STATUS.WIPE_DONE true
  s

theorem witness_Memory_0 :
    let s := w_Memory_0; let r : MemReq := ⟨0, true, 0x100, 2, [1, 2]⟩; quiet s r ∧ r.write = true := by decide +kernel

theorem witness_Memory_1 :
    let s := w_Memory_0; let r : MemReq := ⟨0, false, 0x100, 32, []⟩; quiet s r ∧ r.write = false := by decide +kernel

def w_Memory_2 : State :=
  let r : MemReq := ⟨0, false, 0x100, 32, []⟩
  let p : Fin 10 := 3
  let addr : BitVec 35 := 5
  let c : Fin 32 := 3
  let s := State.reset
  let s := s.updPc (pcOf addr.toNat) fun c => { c with out := [{req := { r with addr := addr, port := p }, at_ := 3, data := [1,2]}] }
  s

theorem witness_Memory_2 :
    let s := w_Memory_2; let p : Fin 10 := 3; let addr : BitVec 35 := 5;
    (∃ j ∈ (s.pc (pcOf addr.toNat)).out.find? fun j => j.req.addr == addr && j.req.port == p, s.stackLost addr.toNat = false) := by decide +kernel

def w_Memory_4 : State :=
  let s := State.reset
  let s := { s with dt := 900000000#64 }
  s

theorem witness_Memory_4 :
    let s := w_Memory_4; let t : Time := 1000; let pc : Fin 64 := 3; (s.upTo t).pauseDue pc = true := by decide +kernel

theorem witness_Memory_5 :
    let s := w_Memory_4; let t : Time := 1000; let pc : Fin 64 := 3; (s.upTo t).pauseDue pc = true := by decide +kernel

def w_Memory_6 : State :=
  let s := State.reset
  let s := s.wr R.MEM_CFG.SR_IDLE 0
  s

theorem witness_Memory_6 :
    let s := w_Memory_6; let t : Time := 1000; let c : Fin 32 := 3; s.on R.MEM_CFG.SR_EN = true ∧ bit s.mem.asleep c = false ∧
    idleFor s (2 * c) (s.upTo t).now ∧ idleFor s (2 * c + 1) (s.upTo t).now := by decide +kernel

def w_Memory_8 : State :=
  let st : Fin 2 := 1
  let s := State.reset
  let s := s.wr R.MEM_STATUS.RATE_PEND 1
  let s := s.wr R.MEM_STATUS.RATE (if st = 0 then 0 else if s.on R.MEM_STATUS.TARGET then 1 else 2)
  s

theorem witness_Memory_8 :
    let s := w_Memory_8; let t : Time := 1000; let st : Fin 2 := 1; s.on R.MEM_STATUS.RATE_PEND = true ∧
    s.bitOf R.MEM_STATUS.RATE st ≠ s.on R.MEM_STATUS.TARGET ∧ (st = 1 →
    s.bitOf R.MEM_STATUS.RATE 0 = s.on R.MEM_STATUS.TARGET) ∧
    (∀ i < 32, (s.upTo t).windowOpen (32 * st + i) = false) := by decide +kernel

def w_Memory_9 : State :=
  let p : Fin 10 := 3
  let s := State.reset
  let s := s.updPwr fun p => { p with grants := [⟨.scrub, 5, 3, false⟩] }
  s

theorem witness_Memory_9 :
    let s := w_Memory_9; let t : Time := 90000000000; (s.upTo t).scrubDue = true ∧
    ((s.upTo t).portTake 9 64).2 = true := by decide +kernel

def w_Memory_10 : State :=
  let p : Fin 10 := 3
  let s := State.reset
  let s := s.updPwr fun p => { p with grants := [⟨.wipe, 5, 3, false⟩] }
  s

theorem witness_Memory_10 :
    let s := w_Memory_10; let t : Time := 90000000000; s.on R.MEM_STATUS.WIPE_DONE = false ∧
    (∃ l ∈ s.pwr.grants, l.who = .wipe ∧ l.at_ + 34359739 ≤ (s.upTo t).now) := by decide +kernel

def w_Lane_0 : State :=
  let q : Fin 36 := 3
  let l : Fin 4 := 3
  let i : Iface := .session
  let s := State.reset
  let s := (s.wrB (R.LANE_CFG.RX_SLEEP q l) false).each 36 fun i s => s.wr (R.LANE_QSTATUS.PORT_STATE i) 3
  let s := s.updLane q l fun x => { x with trainAt := some 5 }
  let s := { s with dt := 900000000#64 }
  s

theorem witness_Lane_0 :
    let s := w_Lane_0; let t : Time := 1000; let q : Fin 36 := 3; let l : Fin 4 := 3; s.laneRx q l = true ∧
    s.on (R.LANE_STATUS.CW_LOCK q l) = false ∧
    (∃ a ∈ (s.lane q l).trainAt, a + 100000000 ≤ (s.upTo t).now) := by decide +kernel

def w_Lane_1 : State :=
  let q : Fin 36 := 3
  let l : Fin 4 := 3
  let i : Iface := .session
  let s := State.reset
  let s := s.wrB (R.LANE_QSTATUS.PLL_LOCK q) true
  let s := (s.wrB (R.LANE_CFG.RX_SLEEP q l) false).each 36 fun i s => s.wr (R.LANE_QSTATUS.PORT_STATE i) 3
  s

theorem witness_Lane_1 :
    let s := w_Lane_1; let q : Fin 36 := 3; let l : Fin 4 := 3; s.laneRx q l = true ∧ (s.lane q l).failed = false ∧
    s.on (R.LANE_STATUS.HELD q l) = false ∧ s.on (R.LANE_QSTATUS.PLL_LOCK q) = true := by decide +kernel

def w_Lane_2 : State :=
  let q : Fin 36 := 3
  let l : Fin 4 := 3
  let i : Iface := .session
  let s := State.reset
  let s := s.wrB (R.LANE_STATUS.CW_LOCK q l) true
  let s := (s.wrB (R.LANE_CFG.RX_SLEEP q l) false).each 36 fun i s => s.wr (R.LANE_QSTATUS.PORT_STATE i) 3
  s

theorem witness_Lane_2 :
    let s := w_Lane_2; let q : Fin 36 := 3; let l : Fin 4 := 3; let c : LaneCause := .los; s.laneRx q l = true ∧
    c ≠ .txFault ∧ s.on (R.LANE_STATUS.CW_LOCK q l) = true ∧ (s.lane q l).failing = false ∧
    (s.lane q l).fails = 0 := by decide +kernel

def w_Lane_3 : State :=
  let q : Fin 36 := 3
  let l : Fin 4 := 3
  let i : Iface := .session
  let s := State.reset
  let s := s.wrB (R.LANE_STATUS.CW_LOCK q l) true
  let s := (s.wrB (R.LANE_CFG.RX_SLEEP q l) false).each 36 fun i s => s.wr (R.LANE_QSTATUS.PORT_STATE i) 3
  let s := s.updLane q l fun x => { x with failing := false, firstAt := s.now, fails := 2 }
  s

theorem witness_Lane_3 :
    let s := w_Lane_3; let t : Time := 1000; let q : Fin 36 := 3; let l : Fin 4 := 3; let c : LaneCause := .los;
    s.laneRx q l = true ∧ c ≠ .txFault ∧ s.on (R.LANE_STATUS.CW_LOCK q l) = true ∧ (s.lane q l).failing = false ∧
    2 ≤ (s.lane q l).fails ∧ (s.upTo t).now ≤ (s.lane q l).firstAt + 10000000000 := by decide +kernel

def w_Lane_4 : State :=
  let q : Fin 36 := 3
  let l : Fin 4 := 1
  let i : Iface := .session
  let s := State.reset
  let s := (s.wrB (R.LANE_CFG.TX_SLEEP q l) false).each 36 fun i s => s.wr (R.LANE_QSTATUS.PORT_STATE i) 3
  s

theorem witness_Lane_4 :
    let s := w_Lane_4; let q : Fin 36 := 3; let l : Fin 4 := 1; s.laneTx q l = true ∧
    (s.lane q l).failing = false := by decide +kernel

def w_Lane_5 : State :=
  let q : Fin 36 := 3
  let l : Fin 4 := 3
  let i : Iface := .session
  let s := State.reset
  let s := (s.wrB (R.LANE_CFG.RX_SLEEP q l) false).each 36 fun i s => s.wr (R.LANE_QSTATUS.PORT_STATE i) 3
  let s := (s.updLane q l fun x => { x with failed := true, cleanAt := 3 }).wrB (R.LANE_QCFG.AUTO_READD (((quadPort q).map portQuad).getD q)) true
  let s := { s with dt := 900000000#64 }
  let s := s.wr (R.LANE_STATUS.CW_LOCK q l) 1
  s

theorem witness_Lane_5 :
    let s := w_Lane_5; let t : Time := 1000; let q : Fin 36 := 3; let l : Fin 4 := 3; (s.lane q l).failed = true ∧
    (s.lane q l).cleanAt + 100000000 ≤ (s.upTo t).now ∧ s.on (R.LANE_STATUS.HELD q l) = false ∧ autoReadd s q = true ∧
    s.laneRx q l = true ∧ s.on (R.LANE_STATUS.CW_LOCK q l) = true ∧ q.val < 34 := by decide +kernel

def w_Lane_6 : State :=
  let s := State.reset
  let s := (s.wr R.SEC_SESSION.STATE 2).wr R.SEC_SESSION.PERM 2
  s

theorem witness_Lane_6 :
    let s := w_Lane_6; let i : Iface := .session; let m : BitVec 4 := 5; s.mayConfig i = true ∧ m ≠ 0 := by decide +kernel

def w_Report_0 : State :=
  let s := State.reset
  let s := s.each 36 fun i s => s.wr (R.LANE_QSTATUS.PORT_STATE i) 3
  s

theorem witness_Report_0 :
    let s := w_Report_0; let t : Time := 1000; let p : Fin 26 := 3; rxLanes p ≠ 0 ∧ s.portState p ≠ psOff ∧
    (s.upTo t).reportDue p = true := by decide +kernel

theorem witness_Report_1 : let s := State.reset; let p : Fin 26 := 16; 16 ≤ p.val := by decide +kernel

theorem witness_Report_2 :
    let s := w_Report_0; let p : Fin 26 := 3; rxLanes p ≠ 0 ∧ s.portState p ≠ psOff := by decide +kernel

def w_Report_3 : State :=
  let p : Fin 26 := 3
  let s := State.reset
  let s := s.updPort p fun P => { P with pend := some 3 }
  s

theorem witness_Report_3 :
    let s := w_Report_3; let t : Time := 1000; let p : Fin 26 := 3; (∃ m ∈ (s.port p).pend, m < 256 ∧
    (s.port p).pendAt + 200 ≤ (s.upTo t).now) := by decide +kernel

def w_Report_4 : State :=
  let h : HeadIx := 3
  let s := State.reset
  let s := s.wr (R.HEAD_STATE.STATE h) hsInhibited
  s

theorem witness_Report_4 :
    let s := w_Report_4; let t : Time := 1000; let h : HeadIx := 3; (∃ a ∈ (s.port h).noLane, a + 50000 ≤ (s.upTo t).now) ∧
    s.headState h = hsParked ∨ s.headState h = hsScanning ∨ s.headState h = hsInhibited := by decide +kernel

theorem witness_Report_5 : let s := State.reset; let rx : LinkRx := rxGood; linkGood rx = true := by decide +kernel

theorem witness_Report_6 : let s := State.reset; let rx : LinkRx := rxGood; linkGood rx = true := by decide +kernel

def w_Clock_0 : State :=
  let s := State.reset
  let s := s.wrB R.CLK_STATUS.REFCLK_OK true
  s

theorem witness_Clock_0 : let s := w_Clock_0; s.on R.CLK_STATUS.REFCLK_OK = true := by decide +kernel

theorem witness_Clock_1 :
    let s := State.reset; let t : Time := 1000; (s.upTo t).refGood s.clk.refLostAt = true := by decide +kernel

def w_Clock_2 : State :=
  let s := State.reset
  let s := s.wrB R.CLK_STATUS.TPLL_LOCK true
  s

theorem witness_Clock_2 : let s := w_Clock_2; s.on R.CLK_STATUS.TPLL_LOCK = true := by decide +kernel

theorem witness_Clock_3 :
    let s := w_Clock_0; s.on R.CLK_STATUS.TPLL_LOCK = false ∧ s.on R.CLK_CFG.TPLL_BYP = false ∧
    s.on R.CLK_STATUS.REFCLK_OK = true := by decide +kernel

theorem witness_Clock_4 :
    let s := w_Lane_6; let i : Iface := .session; let on : Bool := true; s.mayConfig i = true ∧
    s.on R.CLK_CFG.TPLL_BYP ≠ on := by decide +kernel

def w_Clock_5 : State :=
  let s := State.reset
  let s := s.wrB R.CLK_STATUS.LPLL_LOCK true
  s

theorem witness_Clock_5 : let s := w_Clock_5; s.on R.CLK_STATUS.LPLL_LOCK = true := by decide +kernel

theorem witness_Clock_7 :
    let s := w_Lane_6; let i : Iface := .session; let on : Bool := true; s.mayConfig i = true ∧
    s.on R.CLK_CFG.LPLL_BYP ≠ on := by decide +kernel

def w_Clock_8 : State :=
  let r : Fin 9 := 3
  let s := State.reset
  let s := s.wrBit R.CLK_STATUS.LREF_OK r true
  s

theorem witness_Clock_8 : let s := w_Clock_8; let r : Fin 9 := 3; s.bitOf R.CLK_STATUS.LREF_OK r = true := by decide +kernel

theorem witness_Clock_9 :
    let s := State.reset; let t : Time := 1000; let r : Fin 9 := 3;
    (s.upTo t).refGood (SMap.get (fun _ => none) s.clk.lrefLostAt r) = true := by decide +kernel

theorem witness_StewardNeverOverspends_0 :
    let s := State.reset; let t : Time := 1000; (s.upTo t).now % 1000 = 0 ∧
    s.pwr.stepAt ≠ some (s.upTo t).now := by decide +kernel

def w_StewardNeverOverspends_1 : State :=
  let l : Leave := ⟨.wipe, 5, 3, false⟩
  let s := State.reset
  let s := s.updPwr fun p => { p with grants := [], released := 0, waiting := [l], base := 10 }
  s

theorem witness_StewardNeverOverspends_1 :
    let s := w_StewardNeverOverspends_1; let t : Time := 1000; let l : Leave := ⟨.wipe, 5, 3, false⟩;
    (s.upTo t).now % 1000 = 0 ∧ s.pwr.stepAt ≠ some (s.upTo t).now ∧ s.pwr.grants = [] ∧ s.pwr.released = 0 ∧
    s.pwr.waiting = [l] ∧ l.at_ < (s.upTo t).now ∧ l.units ≤ 8 ∧ (l.units : Int) ≤ room s := by decide +kernel

theorem witness_StewardNeverOverspends_2 :
    let s := State.reset; let t : Time := 1000; (s.upTo t).now % 1000 = 0 ∧ s.pwr.stepAt ≠ some (s.upTo t).now ∧
    s.pwr.pool ≤ 1000 * s.rd R.PWR_HS_CFG.DEPTH ∧ s.pwr.grants = [] ∧ s.pwr.waiting = [] := by decide +kernel

theorem witness_ThermalRound_0 :
    let s := State.reset; let t : Time := 1000; (s.upTo t).dueAgain s.thm.roundAt s.periodTP = true := by decide +kernel

theorem witness_ThermalRound_1 :
    let s := State.reset; let t : Time := 1000; (s.upTo t).dueAgain s.thm.roundAt s.periodTP = true := by decide +kernel

def w_ThermalRound_2 : State :=
  let s := State.reset
  let s := { s with dt := 9000000000#64 }
  s

theorem witness_ThermalRound_2 :
    let s := w_ThermalRound_2; let t : Time := 1000; let h : HeadIx := 3; s.isHelper h = false ∧
    SMap.get (fun _ => 0) s.thm.headAt h + 10000000 ≤ (s.upTo t).now := by decide +kernel

theorem witness_Reset_0 : let s := State.reset; s.devState ≠ devReset := by decide +kernel

def w_Reset_1 : State :=
  let s := State.reset
  let s := (s.wr R.DEV_STATE.STATE 0).updDev fun d => { d with porst := true }
  s

theorem witness_Reset_1 : let s := w_Reset_1; s.devState = devReset ∧ s.dev.porst = true := by decide +kernel

def w_Reset_2 : State :=
  let s := State.reset
  let s := s.wr R.DEV_STATE.STATE 0
  s

theorem witness_Reset_2 : let s := w_Reset_2; s.devState = devReset := by decide +kernel

theorem witness_Reset_4 : let s := State.reset; s.devState ≠ devReset := by decide +kernel

def w_Reset_5 : State :=
  let s := State.reset
  let s := ((s.wr R.THM_TRIP.HOLD 0).wr (R.THM_SENSOR.FAULTY 3) 1).wrS (R.THM_SENSOR.TEMP 7) 2003
  s

theorem witness_Reset_5 :
    let s := w_Reset_5; 2 ≤ s.hotSensors.length ∧ s.devState ≠ devReset ∧ s.on R.THM_TRIP.HOLD = false := by decide +kernel

def w_Reset_6 : State :=
  let s := State.reset
  let s := ((((s.wr R.THM_TRIP.HOLD 1).wr R.DEV_STATE.STATE 5).updThm fun m => {m with coolSince := some 5}).updDev fun d => { d with porst := false, supplies := true }).each 45 fun i s => s.wr (R.THM_SENSOR.FAULTY i) 0
  let s := { s with dt := 90000000000#64 }
  s

theorem witness_Reset_6 :
    let s := w_Reset_6; let t : Time := 1000; let a : Nat := 5; s.devState = devShutdown ∧ s.on R.THM_TRIP.HOLD = true ∧
    (∃ a ∈ s.thm.coolSince, a + 10000000000 ≤ (s.upTo t).now) ∧ 40 ≤ s.goodSensors.length ∧ s.dev.porst = false ∧
    s.dev.supplies = true := by decide +kernel

def w_Input_0 : State :=
  let s := State.reset
  let s := s.wr R.DEV_STATE.STATE 3
  s

theorem witness_Input_0 : let s := w_Input_0; s.devState = devDegraded := by decide +kernel

theorem witness_Input_3 :
    let s := State.reset; let t : Time := 1000; let idx : Fin 4 := 3; let taps : BitVec 288 := 5;
    (s.upTo t).inHoldOff (SMap.get (fun _ => none) s.cap.trigAt idx) ((s.upTo t).auxStamp (2 + idx) taps) 20 = false ∧
    (s.upTo t).clampedIn (2 + idx) = false := by decide +kernel

def w_Input_4 : State :=
  let idx : Fin 4 := 3
  let s := State.reset
  let s := s.updDev fun d => { d with clamps := [(2 + idx, { on := true, until_ := 0 })] }
  s

theorem witness_Input_4 :
    let s := w_Input_4; let t : Time := 1000; let idx : Fin 4 := 3; let taps : BitVec 288 := 5;
    (s.upTo t).clampedIn (2 + idx) = true ∨
    (s.upTo t).inHoldOff (SMap.get (fun _ => none) s.cap.trigAt idx) ((s.upTo t).auxStamp (2 + idx) taps) 20 = true := by decide +kernel

def w_Input_5 : State :=
  let p : Fin 4 := 3
  let port : BitVec 16 := 5
  let s := State.reset
  let s := ((s.wrB (R.NET_PORT.LINK p) true).wr R.DEV_STATE.STATE 3)
  let s := (s.wr (R.SAFE_CONN1.EN 1) 1).wr (R.SAFE_CONN1.UDP_PORT 1) port.toNat
  s

theorem witness_Input_5 :
    let s := w_Input_5; let p : Fin 4 := 3; let port : BitVec 16 := 5;
    (∃ c ∈ s.connOfPort port.toNat, listening s p) := by decide +kernel

def w_Input_6 : State :=
  let p : Fin 4 := 3
  let s := State.reset
  let s := ((s.wrB (R.NET_PORT.LINK p) true).wr R.DEV_STATE.STATE 3)
  s

theorem witness_Input_6 : let s := w_Input_6; let p : Fin 4 := 3; listening s p := by decide +kernel

def w_Input_7 : State :=
  let p : Fin 4 := 1
  let src : BitVec 48 := 5
  let seq : BitVec 16 := 5
  let s := State.reset
  let s := ((s.wrB (R.NET_PORT.LINK p) true).wr R.DEV_STATE.STATE 3)
  let s := (s.wrB R.NET_PRP.EN true).updNet fun N => { N with seen := [⟨src.toNat, seq.toNat, s.now⟩] }
  s

theorem witness_Input_7 :
    let s := w_Input_7; let t : Time := 1000; let p : Fin 4 := 1; let src : BitVec 48 := 5; let seq : BitVec 16 := 5;
    s.on (R.NET_PORT.LINK p) = true ∧ 2 ≤ s.devState ∧ s.devState ≠ devShutdown ∧ s.prpPort p = true ∧
    (s.upTo t).prpSeen src.toNat seq.toNat = true := by decide +kernel

def w_Housekeeping_0 : State :=
  let s := State.reset
  let s := s.updHk fun k => { k with run := .step }
  s

theorem witness_Housekeeping_0 :
    let s := w_Housekeeping_0; let t : Time := 90000000000; let v : BitVec 48 := 5; let ref : BitVec 48 := 0x100000;
    let swing : Bool := false; let compl : Bool := false; s.hk.run ≠ .idle ∧ (s.upTo t).hkDone = true ∧
    s.hkCurve s.hkEntry = 0 ∧ s.hkChanP s.hkEntry ≠ 73 ∧ s.hk.clamped = false ∧ 0 < ref.toInt ∧
    (hkDividend s v.toInt).natAbs ≤ 0x7FFFFE * ref.toNat ∧ swing = false ∧ compl = false := by decide +kernel

def w_Housekeeping_1 : State :=
  let s := State.reset
  let s := s.updHk fun k => { k with run := .step }
  let s := { s with dt := 900000000#64 }
  s

theorem witness_Housekeeping_1 :
    let s := w_Housekeeping_1; let t : Time := 1000; let swing : Bool := true; let compl : Bool := true; s.hk.run ≠ .idle ∧
    (s.upTo t).hkDone = true ∧ swing = true ∨ s.hk.clamped = true ∨ (compl = true ∧
    s.hkCfg s.hkEntry 1 2 2 = 1) := by decide +kernel

theorem witness_Housekeeping_2 :
    let s := w_Housekeeping_1; let t : Time := 1000; s.hk.run = .step ∧ (s.upTo t).hkDone = true ∧
    s.on R.HK_STATUS.URG_PEND = false := by decide +kernel

def w_Housekeeping_3 : State :=
  let s := State.reset
  let s := (s.wr R.HK_CTL.MODE 1).updHk fun k => { k with run := .step }
  s

theorem witness_Housekeeping_3 :
    let s := w_Housekeeping_3; s.rd R.HK_CTL.MODE = 1 ∧ s.hk.run ≠ .idle ∧
    s.on R.HK_STATUS.URG_PEND = false := by decide +kernel

def w_Housekeeping_4 : State :=
  let s := State.reset
  let s := s.wrB R.HK_STATUS.URG_PEND true
  s

theorem witness_Housekeeping_4 : let s := w_Housekeeping_4; s.on R.HK_STATUS.URG_PEND = true := by decide +kernel

def w_Housekeeping_5 : State :=
  let s := State.reset
  let s := ((s.wr R.SEC_SESSION.STATE 2).wr R.SEC_SESSION.PERM 2).updHk fun k => { k with run := .idle }
  s

theorem witness_Housekeeping_5 :
    let s := w_Housekeeping_5; let i : Iface := .session; s.mayConfig i = true ∧ s.hk.run = .idle := by decide +kernel

theorem witness_Housekeeping_6 : let s := State.reset; s.on R.HK_STATUS.CAL_DONE = false := by decide +kernel

theorem witness_Housekeeping_7 :
    let s := State.reset; let i : Iface := .session; let seq : Bool := true; s.mayMode i = true ∧
    s.on R.HK_CTL.MODE ≠ seq := by decide +kernel

theorem witness_Boot_0 : let s := State.reset; s.booting = true ∧ s.boot.loaded = false := by decide +kernel

theorem witness_Boot_1 : let s := State.reset; s.boot.trained = false ∧ s.devState ≠ devReset := by decide +kernel

def w_Boot_2 : State :=
  let b : Option Manifest := none
  let s := State.reset
  let s := ((s.wr R.DEV_STATE.STATE 1).updBoot fun b => { b with loaded := true, trained := true, passed := none }).updDev fun d => { d with sealed := false }
  let s := s.updBoot fun b => { b with cands := [(0, ⟨0, 0, 0, 0, 0, true, 0, 0, 0, 0, false, 0, true, true, 0, 0, [], 0⟩)] }
  s

theorem witness_Boot_2 :
    let s := w_Boot_2; s.booting = true ∧ s.boot.loaded = true ∧ s.boot.trained = true ∧ s.boot.passed = none ∧
    s.dev.sealed = false ∧ s.boot.cands ≠ [] := by decide +kernel

def w_Boot_3 : State :=
  let b : Option Manifest := none
  let s := State.reset
  let s := s.wrB R.MEM_STATUS.WIPE_DONE true
  let s := s.updBoot fun b => { b with passed := some (0, ⟨0, 0, 0, 0, 0, true, 0, 0, 0, 0, false, 0, true, true, 0, 0, [], 0⟩, anImage) }
  s

theorem witness_Boot_3 :
    let s := w_Boot_3; (∃ x ∈ s.boot.passed, s.booting = true ∧ s.dev.sealed = false ∧
    s.on R.MEM_STATUS.WIPE_DONE = true) := by decide +kernel

theorem witness_Session_0 : let s := State.reset; s.on R.SEC_ATTEST_STATUS.BUSY = false := by decide +kernel

def w_Session_1 : State :=
  let s := State.reset
  let s := s.wrB R.SEC_ATTEST_STATUS.BUSY true
  s

theorem witness_Session_1 : let s := w_Session_1; s.on R.SEC_ATTEST_STATUS.BUSY = true := by decide +kernel

theorem witness_Session_2 : let s := w_Session_1; s.on R.SEC_ATTEST_STATUS.BUSY = true := by decide +kernel

def w_Session_3 : State :=
  let s := State.reset
  let s := ((s.wr R.SEC_SESSION.STATE 0).wr R.DEV_STATE.STATE 2)
  s

theorem witness_Session_3 :
    let s := w_Session_3; let p : Option (Fin 4) := none; s.sessionState = 0 ∧ s.mayMaintain = true ∧
    s.helloPort p = true := by decide +kernel

def w_Session_4 : State :=
  let s := State.reset
  let s := ((s.wr R.SEC_SESSION.STATE 1).wr R.DEV_STATE.STATE 2)
  s

theorem witness_Session_4 : let s := w_Session_4; s.sessionState = 1 ∧ s.mayMaintain = true := by decide +kernel

theorem witness_Session_5 : let s := w_Session_4; s.sessionState = 1 ∧ s.mayMaintain = true := by decide +kernel

def w_Session_6 : State :=
  let x : Signed := ⟨[], [], []⟩
  let r : SessRec := ⟨5, true⟩
  let s := State.reset
  let s := (s.wr R.SEC_SESSION.STATE 2).updSession fun x => { x with rxSeq := r.seq.toNat }
  s

theorem witness_Session_6 : let s := w_Session_6; let r : SessRec := ⟨5, true⟩; nextRecord s r := by decide +kernel

def w_Session_7 : State :=
  let s := State.reset
  let s := { s with dt := 90000000000#64 }
  let s := s.wr R.SEC_SESSION.STATE 2
  let s := s.wr R.SEC_SESSION.STATE 2
  s

theorem witness_Session_7 :
    let s := w_Session_7; let t : Time := 1000; s.sessionState = 2 ∧
    s.boot.session.lastAt + s.rd R.SEC_MAINT_CFG.LOST_T * 1000000000 ≤ (s.upTo t).now := by decide +kernel

def w_Session_8 : State :=
  let s := State.reset
  let s := s.wr R.SEC_SESSION.STATE 2
  s

theorem witness_Session_8 :
    let s := w_Session_8; let t : Time := 1000; s.sessionState = 2 ∧
    s.boot.session.notAfter ≤ (s.upTo t).now := by decide +kernel

def w_Service_0 : State :=
  let r : SessRec := ⟨5, true⟩
  let x : Signed := ⟨[], [], []⟩
  let s := State.reset
  let s := (s.wr R.SEC_SESSION.STATE 2).updSession fun x => { x with rxSeq := r.seq.toNat }
  s

theorem witness_Service_0 :
    let s := w_Service_0; let r : SessRec := ⟨5, true⟩; nextRecord s r ∧ s.hasPerm .read = false := by decide +kernel

def w_Service_1 : State :=
  let r : SessRec := ⟨5, true⟩
  let x : Signed := ⟨[], [], []⟩
  let s := State.reset
  let s := (s.wr R.SEC_SESSION.STATE 2).updSession fun x => { x with rxSeq := r.seq.toNat }
  let s := s.wr R.SEC_SESSION.PERM 0xFF
  s

theorem witness_Service_1 :
    let s := w_Service_1; let t : Time := 1000; let r : SessRec := ⟨5, true⟩; let addr : Word := 0; nextRecord s r ∧
    s.hasPerm .read = true ∧ addr.toNat % 4 = 0 ∧ (s.upTo t).shadow .session addr.toNat = 0 := by decide +kernel

theorem witness_Service_2 :
    let s := w_Service_0; let r : SessRec := ⟨5, true⟩; let words : List Word := [1]; nextRecord s r ∧ words ≠ [] ∧
    words.length ≤ 256 := by decide +kernel

def w_Service_3 : State :=
  let r : SessRec := ⟨5, true⟩
  let i : Fin 8 := 3
  let g : Word := 5
  let first : Word := 5
  let x : Signed := ⟨[], [], []⟩
  let s := State.reset
  let s := ((s.wr R.SEC_SESSION.STATE 2).updSession fun x => { x with rxSeq := r.seq.toNat })
  let s := s.wr R.SEC_SESSION.PERM 0xFF
  let s := ((s.wr (R.CAP_SLOT3.GEN i) g.toNat).updSlot i fun x => { x with nFrames := 10 + first.toNat }).wr (R.CAP_SLOT2.STATE i) slFull
  let s := { s with mem := { s.mem with pcs := [] } }
  s

theorem witness_Service_3 :
    let s := w_Service_3; let r : SessRec := ⟨5, true⟩; let i : Fin 8 := 3; let g : Word := 5; let first : Word := 5;
    let k : Fin 2 := 1; nextRecord s r ∧ s.hasPerm .read = true ∧ s.slotState i = slFull ∧
    s.rd (R.CAP_SLOT3.GEN i) = g.toNat ∧ first.toNat + 1 ≤ (s.slot i).nFrames ∧
    (∀ k, (s.pc k).writes = []) := by and_intros <;> first | decide +kernel | exact fun _ => rfl

theorem witness_Service_4 :
    let s := w_Service_1; let r : SessRec := ⟨5, true⟩; nextRecord s r ∧ s.hasPerm .read = true ∧
    s.on R.SEC_ATTEST_STATUS.BUSY = false := by decide +kernel

def w_Service_5 : State :=
  let r : SessRec := ⟨5, true⟩
  let x : Signed := ⟨[], [], []⟩
  let h : HeadIx := 3
  let s := State.reset
  let s := (s.wr R.SEC_SESSION.STATE 2).updSession fun x => { x with rxSeq := r.seq.toNat }
  let s := s.wr R.SEC_SESSION.PERM 0xFF
  let s := ((s.wr (R.HK_RES0.OVR (s.rd R.THM_BOARD.HK_ENTRY)) 0).wrS (R.HK_RES0.RESULT (s.rd R.THM_BOARD.HK_ENTRY)) 3000).updHk fun h => { h with doneAt := SMap.set (fun _ => none) h.doneAt (s.rd R.THM_BOARD.HK_ENTRY) (some s.now) }
  s

theorem witness_Service_5 :
    let s := w_Service_5; let t : Time := 1000; let r : SessRec := ⟨5, true⟩; let addr : Word := 5; nextRecord s r ∧
    s.hasPerm .flash = true ∧ s.flashOpen (addr.toNat / 0x10000 * 0x10000) 0x10000 = true ∧
    (s.upTo t).flashWindow = true := by decide +kernel

theorem witness_Service_6 :
    let s := w_Service_5; let t : Time := 1000; let r : SessRec := ⟨5, true⟩; let addr : Word := 0x10000;
    let data : List Byte := [1]; nextRecord s r ∧ s.hasPerm .flash = true ∧ s.flashOpen addr.toNat data.length = true ∧
    (s.upTo t).flashWindow = true := by decide +kernel

theorem witness_Service_7 :
    let s := w_Service_1; let r : SessRec := ⟨5, true⟩; let addr : Word := 5; let b : BitVec 16 := 5; nextRecord s r ∧
    s.hasPerm .flash = true ∧ s.flashOpen addr.toNat b.toNat = true := by decide +kernel

def w_Service_8 : State :=
  let r : SessRec := ⟨5, true⟩
  let x : Signed := ⟨[], [], []⟩
  let s := State.reset
  let s := { s with dev := { s.dev with sealed := true } }
  let s := (s.wr R.SEC_SESSION.STATE 2).updSession fun x => { x with rxSeq := r.seq.toNat }
  let s := s.wr R.SEC_SESSION.PERM 0xFF
  s

theorem witness_Service_8 :
    let s := w_Service_8; let r : SessRec := ⟨5, true⟩; let addr : Word := 5; nextRecord s r ∧ s.hasPerm .flash = true ∧
    s.dev.sealed = true ∧ addr.toNat / 0x4000000 = s.rd R.SEC_STATUS.SLOT := by decide +kernel

theorem witness_Service_9 :
    let s := w_Service_1; let r : SessRec := ⟨5, true⟩; nextRecord s r ∧ s.hasPerm .heads = true := by decide +kernel

theorem witness_Service_10 :
    let s := w_Service_1; let t : Time := 1000; let r : SessRec := ⟨5, true⟩; let target : BitVec 3 := 1; nextRecord s r ∧
    s.hasPerm .lc = true ∧ lcAllowed s.boot.fuses (s.boot.session.root / 2) target.toNat = true ∧
    (s.upTo t).fuseWindow = true ∧ s.boot.fuses.stages.length = 4 := by decide +kernel

def w_Service_11 : State :=
  let r : SessRec := ⟨5, true⟩
  let x : Signed := ⟨[], [], []⟩
  let b : BitVec 16 := 5
  let s := State.reset
  let s := (s.wr R.SEC_SESSION.STATE 2).updSession fun x => { x with rxSeq := r.seq.toNat }
  let s := s.wr R.SEC_SESSION.PERM 0xFF
  let s := (s.updBoot fun b => { b with fuses := { b.fuses with rollback := 0 } }).updDev fun d => { d with sealed := true }
  let s := s.wr R.SEC_STATUS.SEC_VER 7
  s

theorem witness_Service_11 :
    let s := w_Service_11; let t : Time := 1000; let r : SessRec := ⟨5, true⟩; nextRecord s r ∧ s.hasPerm .fuse = true ∧
    s.dev.sealed = true ∧ (s.upTo t).fuseWindow = true ∧
    s.boot.fuses.rollback < s.rd R.SEC_STATUS.SEC_VER := by decide +kernel

def w_Service_12 : State :=
  let b : BitVec 16 := 5
  let s := State.reset
  let s := ((((((s.wr R.SEC_STATUS.SEC_VER 7).wrS R.THM_STATUS.TJ 300).wr R.DEV_STATE.STATE 2).updBoot fun b => { b with autoCommit := true, fuses := { b.fuses with rollback := 0 } }).updDev fun d => { d with sealed := true, runSince := some (s.now - 60000000000) }))
  s

theorem witness_Service_12 :
    let s := w_Service_12; let t : Time := 1000; s.boot.autoCommit = true ∧ s.dev.sealed = true ∧ s.running = true ∧
    (s.upTo t).fuseWindow = true ∧ s.boot.fuses.rollback < s.rd R.SEC_STATUS.SEC_VER ∧
    (s.upTo t).dueAgain s.boot.triedAt 60000000000 = true := by decide +kernel

def w_Service_13 : State :=
  let r : SessRec := ⟨5, true⟩
  let x : Signed := ⟨[], [], []⟩
  let b : BitVec 16 := 5
  let s := State.reset
  let s := (s.wr R.SEC_SESSION.STATE 2).updSession fun x => { x with rxSeq := r.seq.toNat }
  let s := s.wr R.SEC_SESSION.PERM 0xFF
  let s := s.updBoot fun b => { b with fuses := { b.fuses with stages := [7,0,0,0], roots := [1,2,0,0] } }
  s

theorem witness_Service_13 :
    let s := w_Service_13; let t : Time := 1000; let r : SessRec := ⟨5, true⟩; let k : Fin 2 := 1; nextRecord s r ∧
    s.hasPerm .fuse = true ∧ 1 = lcOf s.boot.fuses ∧ s.boot.fuses.roots.getD (2 + k) 0 = 0 ∧ (s.upTo t).fuseWindow = true ∧
    s.boot.fuses.roots.length = 4 := by decide +kernel

def w_Service_14 : State :=
  let r : SessRec := ⟨5, true⟩
  let x : Signed := ⟨[], [], []⟩
  let b : BitVec 16 := 5
  let s := State.reset
  let s := (s.wr R.SEC_SESSION.STATE 2).updSession fun x => { x with rxSeq := r.seq.toNat }
  let s := s.wr R.SEC_SESSION.PERM 0xFF
  let s := s.updBoot fun b => { b with fuses := { b.fuses with roots := [1,2,3,4], revoked := 0 } }
  s

theorem witness_Service_14 :
    let s := w_Service_14; let t : Time := 1000; let r : SessRec := ⟨5, true⟩; let q : Fin 4 := 3; nextRecord s r ∧
    s.hasPerm .fuse = true ∧ s.boot.session.root ≠ q.val ∧
    bare { s.boot.fuses with revoked := setBit s.boot.fuses.revoked q } (lcOf s.boot.fuses) = false ∧
    bare { s.boot.fuses with revoked := setBit s.boot.fuses.revoked q } (lcOf s.boot.fuses + 1) = false ∧
    (s.upTo t).fuseWindow = true := by decide +kernel

def w_Service_15 : State :=
  let r : SessRec := ⟨5, true⟩
  let x : Signed := ⟨[], [], []⟩
  let q : Fin 4 := 3
  let s := State.reset
  let s := (s.wr R.SEC_SESSION.STATE 2).updSession fun x => { x with rxSeq := r.seq.toNat }
  let s := s.wr R.SEC_SESSION.PERM 0xFF
  let s := s.updSession fun x => {x with root := q.val }
  s

theorem witness_Service_15 :
    let s := w_Service_15; let r : SessRec := ⟨5, true⟩; let q : Fin 4 := 3; nextRecord s r ∧ s.hasPerm .fuse = true ∧
    s.boot.session.root = q.val := by decide +kernel

theorem witness_HostWritesActByField_0 :
    let s := State.reset; let addr : Word := BitVec.ofNat 32 R.DEV_EVT_CFG.addr; let v : Word := 5;
    (∃ r ∈ regRow addr.toNat, addr.toNat % 4 = 0 ∧ plain addr.toNat v.toNat (s.word addr.toNat) = true ∧
    addr.toNat ∉ errorRegs) := by decide +kernel

theorem witness_HostWritesActByField_1 : let s := State.reset; let addr : Word := 5; addr.toNat % 4 ≠ 0 := by decide +kernel

theorem witness_HostWritesActByField_2 :
    let s := State.reset; let addr : Word := 0x300000; addr.toNat % 4 = 0 ∧ regRow addr.toNat = none ∧
    isWindow addr.toNat = false := by decide +kernel

theorem witness_ManagementSpi_0 :
    let s := State.reset; let t : Time := 3000000; let waits : BitVec 8 := 5; (s.upTo t).mspiDeaf = false ∧
    waits.toNat ≤ 64 := by decide +kernel

theorem witness_ManagementSpi_1 :
    let s := State.reset; let t : Time := 3000000; let addr : Word := 0; let waits : BitVec 8 := 0;
    (s.upTo t).mspiDeaf = false ∧ waits = 0 ∧ addr.toNat % 4 = 0 ∧ (s.upTo t).shadow .mspi addr.toNat = 0 := by decide +kernel

theorem witness_ManagementSpi_2 :
    let s := State.reset; let t : Time := 3000000; let waits : BitVec 8 := 65; (s.upTo t).mspiDeaf = false ∧
    64 < waits.toNat := by decide +kernel

theorem witness_ManagementSpi_3 :
    let s := State.reset; let t : Time := 3000000; let lenM1 : BitVec 8 := 5; let words : List Word := [1, 2, 3, 4, 5, 6];
    (s.upTo t).mspiDeaf = false ∧ words.length = lenM1.toNat + 1 := by decide +kernel

theorem witness_ManagementSpi_4 :
    let s := State.reset; let t : Time := 3000000; (s.upTo t).mspiDeaf = false := by decide +kernel

theorem witness_ManagementSpi_5 :
    let s := State.reset; let t : Time := 3000000; (s.upTo t).mspiDeaf = false := by decide +kernel

/-! ### Witnesses of the remaining statements -/

/-- For the entry arithmetic of BenchCommandsComplete: a stamp within the gates, and one before the echo, which wraps beyond the far gate. -/
theorem witness_entry_arithmetic :
    2467630 < 2 ^ 32 ∧ 3 < 8 ∧ ¬((2467630 + 2 ^ 32 - 1442620) % 2 ^ 32 < record5.near * 256 ∨
      record5.far * 256 ≤ (2467630 + 2 ^ 32 - 1442620) % 2 ^ 32) ∧
      record5.far * 256 ≤ (1442619 + 2 ^ 32 - 1442620) % 2 ^ 32 := by decide

/-- Two orders of the same hypotheses. -/
theorem witness_EntryOrderDoesNotMatter :
    List.Perm [(2467630, 1442620, 3), (2467630, 1714453, 2)] [(2467630, 1714453, 2), (2467630, (1442620 : Nat), (3 : Nat))] :=
  List.Perm.swap _ _ _

/-- Runs to speak of, a bin that is above, and a record of too few shots. -/
theorem witness_CandidatesAreMaximalRuns :
    runsOf [false, true, true, false, true] = [(1, 2), (4, 1)] ∧ [false, true, true, false, true].getD 4 false = true ∧
      ({} : InRec).shots < 8 ∧ 8 ≤ daylightRecord.shots := by decide

/-- A queue with a command in front, and an empty one. -/
def w_front : State := { State.reset with pending := [.mspiStatus 5] }

/-- Whether an outcome is a next state that a test accepts. -/
def isNext (o : Host.Outcome State Fault Refusal) (p : State → Bool) : Bool :=
  match o with
  | .next u => p u
  | _ => false

theorem witness_StepRunsTheFrontCommand :
    w_front.pending = .mspiStatus 5 :: [] ∧ State.reset.pending = [] := by decide +kernel

/-- For StepsKeepMemoriesCanonical and OutputsStayOffOutsideRun: a step from canonical memories, with the outputs off outside RUN. -/
theorem witness_step :
    w_front.wf = true ∧ w_front.ossdSafe = true ∧ w_front.headsSafe = true ∧ isNext (step w_front) (fun _ => true) = true := by
  decide +kernel

/-- Fuses that hold something. -/
theorem witness_FusesOnlyGrow :
    (let s := { w_front with boot := { w_front.boot with fuses := { roots := [7, 0, 0, 0], revoked := 2, rollback := 3 } } }
     isNext (step s) (fun _ => true) = true ∧ bit s.boot.fuses.revoked 1 = true ∧ s.boot.fuses.roots.getD 0 0 ≠ 0) := by
  decide +kernel

/-- A command that stores nothing and is no flash service. -/
theorem witness_MemoryFrame :
    mayStore (.mspiStatus 5) = false ∧ isNext (exec (.mspiStatus 5) State.reset) (fun _ => true) = true ∧
      (∀ t r a, Instr.mspiStatus 5 ≠ .flashErase t r a) ∧ (∀ t r a d g, Instr.mspiStatus 5 ≠ .flashWrite t r a d g) :=
  ⟨by decide, by decide +kernel, (fun _ _ _ h => nomatch h), (fun _ _ _ _ _ h => nomatch h)⟩

/-- PORST_N_ASSERT leads a device in RUN to RESET, and a hardware shutdown's hold stays. -/
def w_held : State := (State.reset.wr R.DEV_STATE.STATE devRun).wr R.THM_TRIP.HOLD 1

theorem witness_DeviceStatesFollowTheTable :
    isNext (exec (.porstNAssert 5) w_held) (fun u => u.devState == devReset && u.on R.THM_TRIP.HOLD) = true ∧
      w_held.on R.THM_TRIP.HOLD = true ∧ (∀ t, Instr.porstNAssert 5 ≠ .thermalHoldRelease t) :=
  ⟨by decide +kernel, by decide +kernel, (fun _ h => nomatch h)⟩

/-- For the last clause of FireStrobeComplete: a head with an inhibit, and a command that answers a next state. -/
theorem witness_gate :
    State.reset.inhWord 0 ≠ 0 ∧ isNext (exec (.fireStrobeLaunch 5 0 1) State.reset) (fun _ => true) = true := by decide +kernel

/-- For RegistersKeptByEachCommand and PartsKeptByEachCommand: a command with a frame, a register and a part of the state that it
may not change. -/
theorem witness_RegistersKept :
    wholeMap (.mspiStatus 5) = false ∧ ¬ mayWrite (.mspiStatus 5) R.DEV_ID.addr ∧ StatePart.heads ∉ mayChange (.mspiStatus 5) :=
  ⟨by decide, fun h => h, by decide⟩

end Sys2Proof.Tests
end

section
/-! The refutation of OutputsStayOffOutsideRun. A START that came during the calibrations of a head is held until the last of them
ends (R32); its release asks whether the head is blocked, but neither for the state of the head nor for that of the device. So a
state in which the device is in BOOT, the head is OFF and a START is held meets the hypotheses, and the next step scans. -/

namespace Sys2Proof.Machine

/-- The state after reset, in BOOT with every head OFF, but for head 0: no permission is missing, a START is held, and the vernier
calibration is the last one still due; its results wait in the queue. -/
def heldStartInBoot : State :=
  let s : State := { State.reset with pending := [.vernierCalComplete 0 0 0 0 0 0 0] }
  (s.setWord (R.FIRE_INHIBIT.addr 0) 0).updScan 0 fun c => { c with startHeld := some .mspi, calVernier := true }

/-- In BOOT the safe state of the heads has none that scans. -/
theorem State.not_headsSafe_of_boot_scanning {u : State} {h : Nat} (hh : h < 16) (boot : u.devState = devBoot)
    (scan : u.headState h = hsScanning) : ¬ u.headsSafe = true := by
  intro safe
  have off : ∀ i < 16, u.headState i = hsOff := by simpa [State.headsSafe, boot] using safe
  exact absurd (scan.symm.trans (off h hh)) (by decide)

theorem heldStartInBoot_ossdSafe : heldStartInBoot.ossdSafe = true := by decide +kernel

theorem heldStartInBoot_headsSafe : heldStartInBoot.headsSafe = true := by decide +kernel

/-- The end of the vernier calibration releases the START: head 0 scans, and the device is still in BOOT. -/
theorem step_heldStartInBoot :
    ∃ u, step heldStartInBoot = .next u ∧ u.devState = devBoot ∧ u.headState 0 = hsScanning :=
  ⟨_, rfl, by decide +kernel, by decide +kernel⟩

/-- Refutes O57: VERNIER_CAL_COMPLETE in `heldStartInBoot` leads head 0 from OFF to SCANNING in BOOT. -/
theorem not_outputsStayOffOutsideRun : ¬ Obligations.OutputsStayOffOutsideRun := by
  unfold Obligations.OutputsStayOffOutsideRun
  intro keeps
  obtain ⟨u, next, boot, scan⟩ := step_heldStartInBoot
  obtain ⟨-, heads, -⟩ := keeps heldStartInBoot u heldStartInBoot_ossdSafe heldStartInBoot_headsSafe next
  exact State.not_headsSafe_of_boot_scanning (by decide) boot scan heads

end Sys2Proof.Machine
end

section
/-! The refutation of CommitCommandsComplete. The statement speaks of every state, and the field that names the slot of a commit is
a plain number there: nothing holds it below 2. SCAN_LEN of a slot far out of range stands at an address of the event log, and the
record COMMIT_APPLIED of the commit itself (R62, R489), which comes after VALID has been set, clears the bit again. -/

namespace Sys2Proof.Machine

/-! ### The record of an event (R489) -/

/-- The address of word 0 of the next record of the event log. -/
def State.nextEventAddr (s : State) : Nat := R.EVENT_LOG.addr (4 * (s.rd R.EVT_WR.WR % 4096))

/-- Only a write to EVT_WR moves the next record. -/
theorem State.nextEventAddr_wr (s : State) {f : FRef} (v : Nat) (h : R.EVT_WR.addr ≠ f.addr) :
    (s.wr f v).nextEventAddr = s.nextEventAddr := by
  unfold State.nextEventAddr
  rw [State.rd_wr_addr (g := R.EVT_WR.WR) _ _ h]

@[simp] theorem State.nextEventAddr_drawn (s : State) : s.drawn.nextEventAddr = s.nextEventAddr := rfl

@[simp] theorem State.nextEventAddr_updScan (s : State) (h : Nat) (f : Scan → Scan) :
    (s.updScan h f).nextEventAddr = s.nextEventAddr := rfl

/-- Word 0 of the record of an event: code, class and head. -/
theorem State.noteEvent_logWord (s : State) (e : Event) (head arg : Nat) :
    (s.noteEvent e head arg).word s.nextEventAddr =
      (e.code + 0x10000 * e.cls + 0x1000000 * (head % 256)) % 2 ^ 32 := by
  have hi : s.rd R.EVT_WR.WR % 4096 < 4096 := Nat.mod_lt _ (by decide)
  unfold State.noteEvent State.nextEventAddr
  generalize s.rd R.EVT_WR.WR % 4096 = i at hi ⊢
  have next (k : Nat) (hk : 0 < k) : R.EVENT_LOG.addr (4 * i) ≠ R.EVENT_LOG.addr (4 * i + k) := by
    unfold R.EVENT_LOG.addr; omega
  have below : R.EVENT_LOG.addr (4 * i) ≠ R.EVT_WR.WR.addr := by
    simp only [R.EVENT_LOG.addr, R.EVT_WR.addr]; omega
  dsimp only
  rw [State.occurNow_keeps (fun s => s.word (R.EVENT_LOG.addr (4 * i))) (fun _ _ => rfl), State.updDev_word,
    State.word_inc_ne _ below, State.word_setWord_ne _ _ (next 3 (by decide)), State.word_setWord_ne _ _ (next 2 (by decide)),
    State.word_setWord_ne _ _ (next 1 (by decide)), State.word_setWord_same]

/-- A change of the device state to RUN or DEGRADED logs nothing: it shows the state and the DT of the change (R25). -/
theorem State.setDev_running_word (s : State) {st a : Nat} (run : st = devRun ∨ st = devDegraded)
    (ha : a ∉ [R.DEV_STATE.addr, R.DEV_STATE_DT_LO.addr, R.DEV_STATE_DT_HI.addr]) : (s.setDev st).word a = s.word a := by
  simp only [List.mem_cons, List.not_mem_nil, or_false, not_or] at ha
  obtain ⟨state, lo, hi⟩ := ha
  have is : (st == devRun || st == devDegraded) = true := by simpa using run
  have safe : (st == devSafe) = false := by obtain rfl | rfl := run <;> rfl
  unfold State.setDev
  dsimp only
  split
  · rfl
  · rw [is, safe]
    simp only [Bool.not_true, Bool.false_and, State.when_false, State.updDev_word]
    rw [State.word_wr64_ne _ _ lo hi, State.word_inc_ne _ state, State.word_wr_ne _ _ state, State.word_wr_ne _ _ state]

/-- The registers that show the device state and its causes. -/
def devRegs : List Nat := [R.DEV_CAUSE.addr, R.DEV_STATE.addr, R.DEV_STATE_DT_LO.addr, R.DEV_STATE_DT_HI.addr]

theorem State.settleDev_word (s : State) {a : Nat} (ha : a ∉ devRegs) : s.settleDev.word a = s.word a := by
  obtain ⟨cause, dev⟩ := not_or.mp (mt List.mem_cons.mpr ha)
  unfold State.settleDev
  dsimp only
  split
  · rw [State.setDev_running_word _ (.inr rfl) dev, State.word_wrB_ne _ _ cause, State.word_wrB_ne _ _ cause]
  · split
    · rw [State.setDev_running_word _ (.inl rfl) dev, State.word_wrB_ne _ _ cause, State.word_wrB_ne _ _ cause]
    · rw [State.word_wrB_ne _ _ cause, State.word_wrB_ne _ _ cause]

theorem State.nextEventAddr_not_devRegs (s : State) : s.nextEventAddr ∉ devRegs := by
  simp only [State.nextEventAddr, devRegs, R.EVENT_LOG.addr, R.DEV_CAUSE.addr, R.DEV_STATE.addr, R.DEV_STATE_DT_LO.addr,
    R.DEV_STATE_DT_HI.addr, List.mem_cons, List.not_mem_nil, or_false]
  omega

/-- An event of class LOG leaves its record and no other: it makes no cause active and the device does not react. -/
theorem State.raise_of_cls_zero_logWord (s : State) {e : Event} (log : e.cls = 0) (head : Nat) :
    (s.raise e head).word s.nextEventAddr = (e.code + 0x1000000 * (head % 256)) % 2 ^ 32 := by
  have cause (u : State) (unit : Nat) : u.causeOf e unit = u := by simp [State.causeOf, log]
  have react (u : State) : u.react e = u.settleDev := by simp [State.react, log]
  unfold State.raise State.raiseU State.raiseArg
  rw [cause, react, State.settleDev_word _ s.nextEventAddr_not_devRegs]
  simpa [log] using s.drawn.noteEvent_logWord e head (s.freeVal 32)

/-! ### A commit that takes effect (R61, R62) -/

theorem State.queueStream_word (s : State) (str : Nat) (f : EgFrame) {a : Nat} (ha : a ≠ R.NET_STREAM_SEQ.addr str) :
    (s.queueStream str f).word a = s.word a := by
  have enqueued (u : State) (p q : Nat) (g : EgFrame) : (u.enqueue p q g).word a = u.word a := by
    unfold State.enqueue State.settleShaper
    rw [State.updNet_word]
    split <;> rfl
  unfold State.queueStream
  rw [enqueued, State.word_inc_ne _ ha]

/-- The tables that the streams send move their sequence numbers and no other register. -/
theorem State.geometryChange_word (s : State) (h : Nat) {a : Nat} (ha : ∀ str < 16, a ≠ R.NET_STREAM_SEQ.addr str) :
    (s.geometryChange h).word a = s.word a := by
  unfold State.geometryChange
  rw [State.each_keeps (fun s => s.word a) (fun str below u => ?_), State.updNet_word]
  unfold State.sendGeometry State.sendRecords
  split
  · rfl
  · rw [foldl_keeps (fun s => s.word a) _ _ fun u _ _ => State.queueStream_word u str _ (ha str below), State.updNet_word]

/-- The event log is no register of a head that leaves OFF. -/
theorem State.tryLeaveOff_logWord (s : State) {h : Nat} (hh : h < 16) (w : Nat) :
    (s.tryLeaveOff h).word (R.EVENT_LOG.addr w) = s.word (R.EVENT_LOG.addr w) := by
  unfold State.tryLeaveOff
  dsimp only
  split
  · refine State.headPark_keeps (HeadKeeps.word ?_) s
    simp only [gateRegs, List.mem_append, List.mem_cons, List.not_mem_nil, or_false, R.EVENT_LOG.addr, R.FIRE_INHIBIT.addr,
      R.FIRE_INHIBIT_LATCH.addr, R.HEAD_STATE.addr, R.SCAN_POS.addr, R.EMT_STATUS.addr, R.EMT_CNT_CYCLE.addr, R.SRV_STATUS.addr,
      R.EYE_STATUS.addr, R.PWR_STATUS.addr]
    omega
  · rfl

/-- A commit that takes effect is the next record of the event log (R62). -/
theorem State.applyCommit_logWord (s : State) (h : Nat) (hh : h < 16) :
    (s.applyCommit h).word s.nextEventAddr = Event.commitApplied.code + 0x1000000 * h := by
  have status : R.EVT_WR.addr ≠ R.SCAN_STATUS.addr h := by simp only [R.SCAN_STATUS.addr, R.EVT_WR.addr]; omega
  have raised (u : State) (same : u.nextEventAddr = s.nextEventAddr) :
      (u.raise .commitApplied h).word s.nextEventAddr = Event.commitApplied.code + 0x1000000 * h := by
    rw [← same, State.raise_of_cls_zero_logWord u (e := .commitApplied) (by decide)]
    simp only [Event.code]
    omega
  unfold State.applyCommit State.setListRate
  rw [State.updCap_word, State.geometryChange_word, raised]
  · rw [State.nextEventAddr_updScan, State.nextEventAddr_wr _ _ status, State.nextEventAddr_wr _ _ status]
  · intro str hs
    simp only [State.nextEventAddr, R.EVENT_LOG.addr, R.NET_STREAM_SEQ.addr]
    omega

/-- A commit accepted in a head that does not run is in force at once, and logged (R61, R62). -/
theorem State.acceptCommit_logWord (s : State) {h : Nat} (hh : h < 16) (n : Nat) (after : Bool) (still : s.scanning h = false)
    (apart : R.EVT_WR.addr ≠ R.SCAN_LEN.addr h (s.head h).scan.commitSlot) :
    (s.acceptCommit h n after).word s.nextEventAddr = Event.commitApplied.code + 0x1000000 * h := by
  have state : (R.HEAD_STATE.STATE h).addr ≠ (R.SCAN_LEN.VALID h (s.head h).scan.commitSlot).addr := by
    simp only [R.HEAD_STATE.addr, R.SCAN_LEN.addr]; omega
  have frame : R.EVT_WR.addr ≠ R.SCAN_COMMIT_FRAME.addr h := by simp only [R.EVT_WR.addr, R.SCAN_COMMIT_FRAME.addr]; omega
  have logged (u : State) (same : u.nextEventAddr = s.nextEventAddr) :
      ((u.applyCommit h).tryLeaveOff h).word s.nextEventAddr = Event.commitApplied.code + 0x1000000 * h := by
    rw [← same, ← State.applyCommit_logWord u h hh]
    exact State.tryLeaveOff_logWord _ hh _
  unfold State.acceptCommit
  dsimp only
  rw [if_neg, logged]
  · rw [State.nextEventAddr_wr _ _ frame, State.nextEventAddr_updScan, State.nextEventAddr_wr _ _ apart]
  · simpa only [State.scanning, State.headState, State.updScan_rd, State.rd_wr_addr _ _ state, Bool.not_eq_true] using still

/-- The slot whose SCAN_LEN stands at word 0 of the next event record does not stay VALID in a head that does not run: the record of
the commit is written over it. -/
theorem State.acceptCommit_valid_lost (s : State) {h : Nat} (hh : h < 16) (n : Nat) (after : Bool) (still : s.scanning h = false)
    (logged : R.SCAN_LEN.addr h (s.head h).scan.commitSlot = s.nextEventAddr) :
    (s.acceptCommit h n after).on (R.SCAN_LEN.VALID h (s.head h).scan.commitSlot) = false := by
  have apart : R.EVT_WR.addr ≠ R.SCAN_LEN.addr h (s.head h).scan.commitSlot := by
    rw [logged]; simp only [State.nextEventAddr, R.EVT_WR.addr, R.EVENT_LOG.addr]; omega
  have word := s.acceptCommit_logWord hh n after still apart
  have clear : bits (Event.commitApplied.code + 0x1000000 * h) 31 31 = 0 := by simp only [Event.code, bits]; omega
  rw [← logged] at word
  simp only [State.on, State.rd, word, clear, bne_self_eq_false]

/-- Forwarding a write to the partner (R340) changes no register. -/
theorem State.on_forward (s : State) (f : Forwarded) (g : FRef) : (s.forward f).on g = s.on g := by
  unfold State.forward State.on
  split
  · rw [State.updPair_rd]
  · rfl

theorem State.on_with_pending (s : State) (q : List Instr) (g : FRef) : State.on { s with pending := q } g = s.on g := rfl

/-- Where the checks pass and every group is within its increment budget, the end of the checks accepts the commit (R59 to R61). -/
theorem exec_commitCheckComplete_passed {s : State} {t : Time} {h : HeadIx} (checking : s.rd (R.SCAN_STATUS.COMMIT_STATE h) = 1)
    (passes : (s.upTo t).commitReport h (s.prog h (s.head h).scan.commitSlot) = none)
    (within : (s.upTo t).incrementFaults (some (h.val, s.prog h (s.head h).scan.commitSlot)) = []) :
    ∃ n after f, exec (.commitCheckComplete t h) s =
      .next { ((s.upTo t).drawn.acceptCommit h n after).forward f with pending := s.pending } := by
  have report : (s.upTo t).commitReport h ((s.upTo t).prog h ((s.upTo t).head h).scan.commitSlot) = none := passes
  have faults : (s.upTo t).drawn.incrementFaults (some (h.val, (s.upTo t).prog h ((s.upTo t).head h).scan.commitSlot)) = [] :=
    within
  have effect : exec (.commitCheckComplete t h) s = execCommitCheckComplete t h s := rfl
  rw [effect]
  unfold execCommitCheckComplete State.incrementBudget
  rw [State.run_eq]
  dsimp only
  rw [if_neg (by simpa using checking), report, faults]
  exact ⟨_, _, _, rfl⟩

/-- Such a commit leaves the slot without VALID where SCAN_LEN of that slot stands at word 0 of the next event record. -/
theorem exec_commitCheckComplete_valid_lost {s : State} {t : Time} {h : HeadIx}
    (checking : s.rd (R.SCAN_STATUS.COMMIT_STATE h) = 1)
    (passes : (s.upTo t).commitReport h (s.prog h (s.head h).scan.commitSlot) = none)
    (within : (s.upTo t).incrementFaults (some (h.val, s.prog h (s.head h).scan.commitSlot)) = [])
    (still : s.scanning h = false)
    (logged : R.SCAN_LEN.addr h (s.head h).scan.commitSlot = s.nextEventAddr) :
    ∃ u, exec (.commitCheckComplete t h) s = .next u ∧ u.on (R.SCAN_LEN.VALID h (s.head h).scan.commitSlot) = false := by
  obtain ⟨n, after, f, next⟩ := exec_commitCheckComplete_passed checking passes within
  have lost := (s.upTo t).drawn.acceptCommit_valid_lost h.isLt n after still logged
  refine ⟨_, next, ?_⟩
  rw [State.on_with_pending, State.on_forward]
  exact lost

/-! ### The state that refutes -/

/-- The slot whose SCAN_LEN, for head 0, stands at word 0 of the event log. -/
def slotInLog : Nat := (R.EVENT_LOG.addr 0 - R.SCAN_LEN.addr 0 0) / 8

/-- The words of a SKIP dwell of 2 µs that pass the checks of Table 2.3. -/
def skipDwell : List Nat :=
  let words := [0, 0, 0x800000, 3000, 1000 + 2000 * 2 ^ 16] ++ List.replicate 10 0
  words ++ [crc32c (Desc.checked words)]

/-- The state after reset, but for head 0: it is a helper, which R294 exempts, its image has pattern 0, and its commit of
`slotInLog` is being checked; that slot holds the one descriptor `skipDwell` and a flyback of 200 µs. -/
def commitInLog : State :=
  let s := State.reset.hbmWrite (descAddr 0 slotInLog 0) (pack (skipDwell.map fun w => (4, w)))
  let s := (s.wr (R.SCAN_FLY.FLYBACK 0 slotInLog) 200).wr (R.SCAN_FLY.FLYBACK_MIN 0 slotInLog) 200
  let s := ((s.wr (R.DOM_MULT.EN 0) 1).wr (R.DOM_MULT.ROLE 0) 1).wr (R.SCAN_STATUS.COMMIT_STATE 0) 1
  s.updHead 0 fun H => { H with
    scan := { H.scan with commitSlot := slotInLog }
    image := { H.image with patterns := [(0, some ⟨[], 0, 0, 0, 0, 0, 0, 0⟩)] } }

theorem commitInLog_checking : commitInLog.rd (R.SCAN_STATUS.COMMIT_STATE (0 : HeadIx)) = 1 := by decide +kernel

theorem commitInLog_off : commitInLog.headState (0 : HeadIx) = hsOff := by decide +kernel

theorem commitInLog_passes :
    (commitInLog.upTo 0).commitReport (0 : HeadIx)
      (commitInLog.prog (0 : HeadIx) (commitInLog.head (0 : HeadIx)).scan.commitSlot) = none := by decide +kernel

theorem commitInLog_within :
    (commitInLog.upTo 0).incrementFaults
      (some ((0 : HeadIx).val, commitInLog.prog (0 : HeadIx) (commitInLog.head (0 : HeadIx)).scan.commitSlot)) = [] := by
  decide +kernel

theorem commitInLog_logged :
    R.SCAN_LEN.addr (0 : HeadIx) (commitInLog.head (0 : HeadIx)).scan.commitSlot =
      commitInLog.nextEventAddr := by decide +kernel

/-- Refutes O4: in `commitInLog` the checks of a commit pass in a head that is OFF, and COMMIT_CHECK_COMPLETE accepts it; yet its
slot, far out of range, does not end VALID. -/
theorem not_commitCommandsComplete : ¬ Obligations.CommitCommandsComplete := by
  unfold Obligations.CommitCommandsComplete
  intro complete
  obtain ⟨-, -, -, checked, -⟩ := complete commitInLog 0 .mspi 0 0 0 0 ⟨0, .clean, true⟩ 0 [] 0 0 false
  obtain ⟨u, next, -, -, accepted⟩ := checked commitInLog_checking
  obtain ⟨valid, -, -⟩ := accepted commitInLog_passes (.inl commitInLog_off)
  have still : commitInLog.scanning (0 : HeadIx) = false := by rw [State.scanning, commitInLog_off]; rfl
  obtain ⟨v, next', lost⟩ :=
    exec_commitCheckComplete_valid_lost commitInLog_checking commitInLog_passes commitInLog_within still commitInLog_logged
  obtain rfl : u = v := Host.Outcome.next.inj (next.symm.trans next')
  exact absurd valid (by rw [lost]; decide)

end Sys2Proof.Machine
end

section
/-! The refutation of FireStrobeComplete. Its last clause asks of every command that finds and leaves a head inhibited to keep the
end of its FIRE pulse. That forbids more than the beginning of a pulse: entry to RESET brings the fire scheduler of every head to its
reset value (R30, R511), so a pulse that is still high is cut short, and the reset value of FIRE_INHIBIT inhibits the head. -/

namespace Sys2Proof.Machine

/-- RESET ends the FIRE pulse of every head. -/
theorem State.enterReset_fireUntil (s : State) (cause h : Nat) : ((s.enterReset cause).head h).fire.fireUntil = 0 := rfl

/-- RESET leaves the inhibits of a head at their reset value. -/
theorem State.enterReset_inhWord (s : State) (cause : Nat) {h : Nat} (hh : h < 16) :
    (s.enterReset cause).inhWord h = State.reset.inhWord h := by
  have trip : R.FIRE_INHIBIT.addr h ≠ R.THM_TRIP.addr := by simp only [R.FIRE_INHIBIT.addr, R.THM_TRIP.addr]; omega
  have resetCause : R.FIRE_INHIBIT.addr h ≠ R.DEV_RESET_CAUSE.addr := by
    simp only [R.FIRE_INHIBIT.addr, R.DEV_RESET_CAUSE.addr]; omega
  have state : R.FIRE_INHIBIT.addr h ≠ R.DEV_STATE.addr := by simp only [R.FIRE_INHIBIT.addr, R.DEV_STATE.addr]; omega
  unfold State.enterReset State.inhWord
  rw [State.word_setWord_ne _ _ trip, State.word_wr_ne _ _ resetCause, State.word_wr_ne _ _ state]
  rfl

/-- A head is inhibited right after reset (Table 3.1). -/
theorem State.reset_inhWord_ne_zero : ∀ h : HeadIx, State.reset.inhWord h ≠ 0 := by decide +kernel

/-- PORST_N_ASSERT outside RESET leads to RESET (R25, R511). -/
theorem exec_porstNAssert_of_up {s : State} (t : Time) (up : s.devState ≠ devReset) :
    ∃ r : State, exec (.porstNAssert t) s = .next { r.enterReset 1 with pending := s.pending } := by
  have effect : exec (.porstNAssert t) s = execPorstNAssert t s := rfl
  rw [effect, execPorstNAssert, State.run_eq]
  dsimp only
  rw [if_neg (by exact up)]
  exact ⟨_, rfl⟩

/-- PORST_N_ASSERT outside RESET leaves each head inhibited, and no pulse of it high. -/
theorem porstNAssert_ends_pulse {s : State} (t : Time) (h : HeadIx) (up : s.devState ≠ devReset) :
    ∃ u, exec (.porstNAssert t) s = .next u ∧ u.inhWord h ≠ 0 ∧ (u.head h).fire.fireUntil = 0 := by
  obtain ⟨r, next⟩ := exec_porstNAssert_of_up t up
  have inhibits : (r.enterReset 1).inhWord h ≠ 0 := by
    rw [State.enterReset_inhWord r 1 h.isLt]; exact State.reset_inhWord_ne_zero h
  exact ⟨_, next, inhibits, r.enterReset_fireUntil 1 h⟩

/-- A device in RUN whose head 0 has been inhibited by the host within a FIRE pulse: the strobe completes at DT 20 (R35). -/
def pulseInRun : State :=
  ((State.reset.wr R.DEV_STATE.STATE devRun).setInh 0 .host true).updFire 0 fun f => { f with fireUntil := 20 }

theorem pulseInRun_up : pulseInRun.devState ≠ devReset := by decide +kernel

theorem pulseInRun_inhibited : pulseInRun.inhWord (0 : HeadIx) ≠ 0 := by decide +kernel

theorem pulseInRun_fireUntil : (pulseInRun.head (0 : HeadIx)).fire.fireUntil = 20 := by decide +kernel

/-- Refutes O5: in `pulseInRun` PORST_N_ASSERT finds head 0 inhibited and leaves it so, but ends its FIRE pulse. -/
theorem not_fireStrobeComplete : ¬ Obligations.FireStrobeComplete := by
  unfold Obligations.FireStrobeComplete
  intro complete
  obtain ⟨-, -, -, kept⟩ := complete pulseInRun 0 0 0
  obtain ⟨u, next, inhibited, ended⟩ := porstNAssert_ends_pulse 0 0 pulseInRun_up
  have same := kept (.porstNAssert 0) u pulseInRun_inhibited next inhibited
  rw [ended, pulseInRun_fireUntil] at same
  exact absurd same (by decide)

end Sys2Proof.Machine
end

section
/-! The transitions of the device state and the hold of a hardware shutdown (R25, R26, R442). All commands but a few are
`Ordinary`: they make of the device state what an event or a cause makes of it (Table 1.4), and THM_TRIP keeps its word. One
lemma for each operation says so, and it reads as the operation does, from the outside in. The few commands that go further
are taken one by one at the end. -/

namespace Sys2Proof.Machine

/-! ### Ordinary operations -/

/-- What events and causes make of the device state, whatever command brings them (Table 1.4): a SAFE event leads to SAFE, and
the DEGRADE causes decide between RUN and DEGRADED. -/
def CauseMoves (a b : Nat) : Prop :=
  b = a ∨ (b = devSafe ∧ (a = devBoot ∨ a = devRun ∨ a = devDegraded)) ∨
    ((b = devRun ∨ b = devDegraded) ∧ (a = devRun ∨ a = devDegraded))

theorem CauseMoves.trans {a b c : Nat} (h : CauseMoves a b) (g : CauseMoves b c) : CauseMoves a c := by
  unfold CauseMoves devBoot devRun devDegraded devSafe at *
  omega

/-- From state `s` to `u` the device state has moved as causes move it, and THM_TRIP has kept its word. -/
structure Ordinary (s u : State) : Prop where
  trip : u.word R.THM_TRIP.addr = s.word R.THM_TRIP.addr
  dev : CauseMoves s.devState u.devState

/-- What a command answers in state `s` is ordinary. -/
def OrdinaryAnswer (s : State) (x : Host.Outcome State Fault Refusal) : Prop := ∀ u, x = .next u → Ordinary s u

/-- Past a dimension of an array. -/
theorem far_add {b i : Nat} (above : Nat.blt 0x3000C b = true) : Nat.blt 0x3000C (b + i) = true := by
  simp at above ⊢
  omega

namespace Ordinary

variable {s u v : State}

theorem refl (s : State) : Ordinary s s := ⟨rfl, .inl rfl⟩

theorem trans (o : Ordinary s u) (p : Ordinary u v) : Ordinary s v := ⟨p.trip.trans o.trip, o.dev.trans p.dev⟩

/-- Only the registers matter. -/
theorem same (o : Ordinary s u) (h : v.regs = u.regs) : Ordinary s v := by
  have word (a : Nat) : v.word a = u.word a := by unfold State.word; rw [h]
  have dev : v.devState = u.devState := by unfold State.devState State.rd; rw [word]
  exact ⟨(word _).trans o.trip, dev ▸ o.dev⟩

/-! ### Registers apart from DEV_STATE and THM_TRIP -/

/-- Is a register one of the two? -/
def held (a : Nat) : Bool := a == R.DEV_STATE.addr || a == R.THM_TRIP.addr

theorem setWord (o : Ordinary s u) {a x : Nat} (apart : held a = false) : Ordinary s (u.setWord a x) := by
  obtain ⟨dev, trip⟩ : a ≠ R.DEV_STATE.addr ∧ a ≠ R.THM_TRIP.addr := by simpa [held] using apart
  have same : (u.setWord a x).devState = u.devState := State.rd_setWord_ne u x dev.symm
  exact ⟨(State.word_setWord_ne u x trip.symm).trans o.trip, same ▸ o.dev⟩

/-- A write to a register that stands once. -/
theorem reg {a x : Nat} (apart : held a = false) (o : Ordinary s u) : Ordinary s (u.setWord a x) := o.setWord apart

theorem apart {a : Nat} (dev : a ≠ 0x10) (trip : a ≠ 0x3000C) : held a = false := by
  simp [held, dev, trip, R.DEV_STATE.addr, R.THM_TRIP.addr]

/-- A write to a register of an array: all but those of block SEC lie above THM_TRIP, at 0x3000C. -/
theorem regAt {b i x : Nat} (above : Nat.blt 0x3000C b = true) (o : Ordinary s u) : Ordinary s (u.setWord (b + i) x) := by
  have : 0x3000C < b := by simpa using above
  exact o.setWord (apart (by omega) (by omega))

/-- A write to one of two registers. -/
theorem regIf {c : Prop} [Decidable c] {f g : FRef} {x : Nat} (one : held f.addr = false) (other : held g.addr = false)
    (o : Ordinary s u) : Ordinary s (u.setWord (if c then f else g).addr x) := by
  split
  · exact o.setWord one
  · exact o.setWord other

/-- A write to the field that shows a channel of an OSSD pair on. -/
theorem regOn (o : Ordinary s u) {b : Bool} {x : Nat} : Ordinary s (u.setWord (onField b).addr x) := .regIf rfl rfl o

/-- A write to a word of a result of the housekeeping converter. -/
theorem regHk (o : Ordinary s u) {e w x : Nat} : Ordinary s (u.setWord (hkResWord e w) x) := by
  unfold hkResWord R.HK_RES0.addr R.HK_SINGLE_RES0.addr
  split
  · exact .regAt (far_add rfl) o
  · exact .regAt rfl o

/-! ### Parts of the state beside the registers -/

theorem putDt (o : Ordinary s u) {x} : Ordinary s { u with dt := x } := o.same rfl
theorem putDtFine (o : Ordinary s u) {x y} : Ordinary s { u with dt := x, fine := y } := o.same rfl
theorem putFresh (o : Ordinary s u) {x} : Ordinary s { u with fresh := x } := o.same rfl
theorem putHbm (o : Ordinary s u) {x} : Ordinary s { u with hbm := x } := o.same rfl
theorem putHeads (o : Ordinary s u) {x} : Ordinary s { u with heads := x } := o.same rfl
theorem putDev (o : Ordinary s u) {x} : Ordinary s { u with dev := x } := o.same rfl
theorem putClk (o : Ordinary s u) {x} : Ordinary s { u with clk := x } := o.same rfl
theorem putPwr (o : Ordinary s u) {x} : Ordinary s { u with pwr := x } := o.same rfl
theorem putThm (o : Ordinary s u) {x} : Ordinary s { u with thm := x } := o.same rfl
theorem putSafe (o : Ordinary s u) {x} : Ordinary s { u with safe := x } := o.same rfl
theorem putLines (o : Ordinary s u) {x} : Ordinary s { u with lines := x } := o.same rfl
theorem putGroups (o : Ordinary s u) {x} : Ordinary s { u with groups := x } := o.same rfl
theorem putSpill (o : Ordinary s u) {x} : Ordinary s { u with spill := x } := o.same rfl
theorem putFields (o : Ordinary s u) {x} : Ordinary s { u with fields := x } := o.same rfl
theorem putBabbitt (o : Ordinary s u) {x} : Ordinary s { u with babbitt := x } := o.same rfl
theorem putCap (o : Ordinary s u) {x} : Ordinary s { u with cap := x } := o.same rfl
theorem putNet (o : Ordinary s u) {x} : Ordinary s { u with net := x } := o.same rfl
theorem putLanes (o : Ordinary s u) {x} : Ordinary s { u with lanes := x } := o.same rfl
theorem putPair (o : Ordinary s u) {x} : Ordinary s { u with pair := x } := o.same rfl
theorem putDom (o : Ordinary s u) {x} : Ordinary s { u with dom := x } := o.same rfl
theorem putMem (o : Ordinary s u) {x} : Ordinary s { u with mem := x } := o.same rfl
theorem putHk (o : Ordinary s u) {x} : Ordinary s { u with hk := x } := o.same rfl
theorem putBoot (o : Ordinary s u) {x} : Ordinary s { u with boot := x } := o.same rfl
theorem putMspi (o : Ordinary s u) {x} : Ordinary s { u with mspi := x } := o.same rfl
theorem putFree (o : Ordinary s u) {x} : Ordinary s { u with free := x } := o.same rfl

/-! ### Control -/

theorem ite {c : Prop} [Decidable c] (o : Ordinary s u) (p : Ordinary s v) : Ordinary s (if c then u else v) := by
  split <;> assumption

theorem iteFst {α : Type} {c : Prop} [Decidable c] {x y : State × α} (o : Ordinary s x.1) (p : Ordinary s y.1) :
    Ordinary s (if c then x else y).1 := by
  split <;> assumption

theorem iteOf {c : Prop} [Decidable c] (o : c → Ordinary s u) (p : Ordinary s v) : Ordinary s (if c then u else v) := by
  split
  · next h => exact o h
  · exact p

/-- The state of a pair that has been taken apart. -/
theorem fst {α : Type} {x : State × α} {a : α} (o : Ordinary s x.1) (e : x = (u, a)) : Ordinary s u := by
  rwa [e] at o

/-- What is ordinary from wherever `v` is reached, is so once `v` has been reached. -/
theorem after (h : ∀ {r}, Ordinary r v → Ordinary r u) (o : Ordinary s v) : Ordinary s u := h o

theorem optElim {β : Type} {x : Option β} {f : β → State} (o : Ordinary s u) (p : ∀ {b}, Ordinary s (f b)) :
    Ordinary s (x.elim u f) := by
  cases x
  · exact o
  · exact p

variable {f : State → State}

theorem when {c : Bool} (o : Ordinary s u) (h : ∀ {v}, Ordinary s v → Ordinary s (f v)) : Ordinary s (u.when c f) := by
  cases c
  · exact o
  · exact h o

theorem foldl {β : Type} {l : List β} {f : State → β → State} (o : Ordinary s u)
    (h : ∀ {v x}, Ordinary s v → Ordinary s (f v x)) : Ordinary s (l.foldl f u) := by
  induction l generalizing u with
  | nil => exact o
  | cons x l ih => exact ih (h o)

theorem foldlFst {α β : Type} {l : List β} {f : State × α → β → State × α} {x : State × α} (o : Ordinary s x.1)
    (h : ∀ {v y}, Ordinary s v.1 → Ordinary s (f v y).1) : Ordinary s (l.foldl f x).1 := by
  induction l generalizing x with
  | nil => exact o
  | cons y l ih => exact ih (h o)

section
variable {f : Nat → State → State} (o : Ordinary s u) (h : ∀ {i v}, Ordinary s v → Ordinary s (f i v))
include o h

theorem each {n : Nat} : Ordinary s (u.each n f) := o.foldl h

theorem eachHead : Ordinary s (u.eachHead f) := o.foldl h

end

theorem eachIsland {f : Bool → State → State} (o : Ordinary s u) (h : ∀ {b v}, Ordinary s v → Ordinary s (f b v)) :
    Ordinary s (u.eachIsland f) := h (h o)

theorem does {x : State → Host.Outcome State Fault Refusal} (o : Ordinary s u) (h : ∀ {v}, OrdinaryAnswer v (x v)) :
    Ordinary s (u.does x) := by
  unfold State.does
  split
  · next next => exact o.trans (h _ next)
  · exact o

end Ordinary

/-- A meaning whose effect is ordinary answers an ordinary state. -/
theorem OrdinaryAnswer.run {s : State} {t : Time} {f : State → State} (h : ∀ {r v}, Ordinary r v → Ordinary r (f v)) :
    OrdinaryAnswer s (s.run t f) := by
  intro u next
  rw [State.run_next next]
  exact (h (Ordinary.putDt (.refl s))).same rfl

variable {s u : State}

/-! ### Ops -/

theorem Ordinary.hbmWrite (o : Ordinary s u) {a bs} : Ordinary s (u.hbmWrite a bs) := .putHbm o

theorem Ordinary.updHead (o : Ordinary s u) {h f} : Ordinary s (u.updHead h f) := .putHeads o

theorem Ordinary.updScan (o : Ordinary s u) {h f} : Ordinary s (u.updScan h f) := .updHead o

theorem Ordinary.updFire (o : Ordinary s u) {h f} : Ordinary s (u.updFire h f) := .updHead o

theorem Ordinary.updChain (o : Ordinary s u) {h f} : Ordinary s (u.updChain h f) := .updHead o

theorem Ordinary.updServo (o : Ordinary s u) {h f} : Ordinary s (u.updServo h f) := .updHead o

theorem Ordinary.updEye (o : Ordinary s u) {h f} : Ordinary s (u.updEye h f) := .updHead o

theorem Ordinary.updPower (o : Ordinary s u) {h f} : Ordinary s (u.updPower h f) := .updHead o

theorem Ordinary.updBreach (o : Ordinary s u) {h b f} : Ordinary s (u.updBreach h b f) := .updHead o

theorem Ordinary.updDev (o : Ordinary s u) {f} : Ordinary s (u.updDev f) := .putDev o

theorem Ordinary.updClk (o : Ordinary s u) {f} : Ordinary s (u.updClk f) := .putClk o

theorem Ordinary.updPwr (o : Ordinary s u) {f} : Ordinary s (u.updPwr f) := .putPwr o

theorem Ordinary.updThm (o : Ordinary s u) {f} : Ordinary s (u.updThm f) := .putThm o

theorem Ordinary.updSafe (o : Ordinary s u) {f} : Ordinary s (u.updSafe f) := .putSafe o

theorem Ordinary.updCap (o : Ordinary s u) {f} : Ordinary s (u.updCap f) := .putCap o

theorem Ordinary.drawn (o : Ordinary s u) : Ordinary s u.drawn := .putFree o

theorem Ordinary.updMem (o : Ordinary s u) {f} : Ordinary s (u.updMem f) := .putMem o

theorem Ordinary.updMemPort (o : Ordinary s u) {p f} : Ordinary s (u.updMemPort p f) := .updMem o

theorem Ordinary.fillBucket (o : Ordinary s u) {p} : Ordinary s (u.fillBucket p) := .updMemPort o

theorem Ordinary.portTake (o : Ordinary s u) {p n} : Ordinary s (u.portTake p n).1 :=
  .iteFst (.fillBucket o) (.iteFst (.updMemPort <| .fillBucket o) (.regAt rfl <| .fillBucket o))

theorem Ordinary.updSeqr (o : Ordinary s u) {q f} : Ordinary s (u.updSeqr q f) := .updCap o

theorem Ordinary.occur (o : Ordinary s u) {c} : Ordinary s (u.occur c) := .each o fun o => .updSeqr o

theorem Ordinary.occurNow (o : Ordinary s u) {src arg} : Ordinary s (u.occurNow src arg) := .occur o

theorem Ordinary.chanOff (o : Ordinary s u) {m b} : Ordinary s (u.chanOff m b) := by
  unfold State.chanOff
  exact .updSafe <| .regOn o

theorem Ordinary.pairOff (o : Ordinary s u) {m cause} : Ordinary s (u.pairOff m cause) := by
  unfold State.pairOff
  exact .when (.reg rfl <| .eachIsland o fun o => .chanOff o) fun o => .occurNow o

theorem Ordinary.ossdOff (o : Ordinary s u) {cause} : Ordinary s (u.ossdOff cause) := .each o fun o => .pairOff o

theorem Ordinary.updPair (o : Ordinary s u) {f} : Ordinary s (u.updPair f) := .putPair o

theorem Ordinary.tokenSet (o : Ordinary s u) : Ordinary s u.tokenSet :=
  .eachHead o fun o => .regAt rfl <| .when (.regAt rfl o) fun o => .putFresh <| .regAt rfl o

theorem Ordinary.tokenRelease (o : Ordinary s u) {code} : Ordinary s (u.tokenRelease code) :=
  .tokenSet <| .updPair <| .reg rfl <| .reg rfl <| .reg rfl <| .reg rfl o

theorem Ordinary.noteEvent (o : Ordinary s u) {e head arg} : Ordinary s (u.noteEvent e head arg) :=
  .occurNow <| .updDev <| .reg rfl <| .regAt rfl <| .regAt rfl <| .regAt rfl <| .regAt rfl o

theorem Ordinary.handover (o : Ordinary s u) : Ordinary s u.handover :=
  .ite o (.drawn <| .noteEvent <| .updPair <| .tokenRelease o)

theorem Ordinary.tokenLeave (o : Ordinary s u) {st} : Ordinary s (u.tokenLeave st) :=
  .ite (.ite (.tokenSet <| .reg rfl o) o) <|
    .when (.when (.when o fun o => .handover o) fun o => .tokenRelease o) fun o => .reg rfl o

theorem thmTrip_not_eventWrites : ¬ eventWrites R.THM_TRIP.addr := by
  rintro (one | ⟨w, log⟩ | ⟨h, gate⟩)
  · revert one
    decide
  · unfold R.THM_TRIP.addr R.EVENT_LOG.addr at log
    omega
  · simp only [gateRegs, R.THM_TRIP.addr, R.FIRE_INHIBIT.addr, R.FIRE_INHIBIT_LATCH.addr, R.HEAD_STATE.addr, List.mem_cons,
      List.not_mem_nil, or_false] at gate
    omega

/-- The registers of a change of the device state (R25). -/
theorem State.devState_wr64 (s : State) (old x : Nat) {st : Nat} (fits : st < 8) :
    ((((s.wr R.DEV_STATE.PREV old).wr R.DEV_STATE.STATE st).inc R.DEV_STATE.CHG_CNT).wr64 R.DEV_STATE_DT_LO.VALUE
      R.DEV_STATE_DT_HI.VALUE x).devState = st := by
  unfold State.devState State.wr64 State.inc State.add
  rw [State.rd_wr_addr _ _ (by decide), State.rd_wr_addr _ _ (by decide),
    State.rd_wr_ne _ _ (by decide) (by decide) (by decide) (.inr (by decide)), State.rd_wr_same _ _ (by decide) (by decide)]
  exact Nat.mod_eq_of_lt fits

/-- The states that the device is led to while it runs. -/
abbrev ledTo : List Nat := [devRun, devDegraded, devSafe, devShutdown, devMaint]

/-- Causes move the device only from BOOT, RUN and DEGRADED, -/
theorem CauseMoves.of_rest {a b : Nat} (rest : a ∉ [devBoot, devRun, devDegraded]) (m : CauseMoves a b) : b = a := by
  simp only [List.mem_cons, List.not_mem_nil, or_false, not_or] at rest
  obtain ⟨boot, run, degraded⟩ := rest
  simpa [CauseMoves, boot, run, degraded] using m

/-- and only to SAFE, RUN and DEGRADED. -/
theorem CauseMoves.eq_of_not_cause {a b : Nat} (rest : b ∉ [devSafe, devRun, devDegraded]) (m : CauseMoves a b) :
    a = b := by
  simp only [List.mem_cons, List.not_mem_nil, or_false, not_or] at rest
  obtain ⟨safe, run, degraded⟩ := rest
  exact (by simpa [CauseMoves, safe, run, degraded] using m : b = a).symm

/-- A change of the device state shows the new state: what follows it moves nothing further. -/
theorem State.devState_setDev (s : State) {st : Nat} (led : st ∈ ledTo) : (s.setDev st).devState = st := by
  have fits : st < 8 := by
    revert st
    decide
  unfold State.setDev
  extract_lets old counted shown was is noted off left
  split
  · assumption
  · have start : noted.devState = st := (State.updDev_rd _ _ _).trans (State.devState_wr64 s old _ fits)
    have moves : CauseMoves noted.devState (left.when (st == devSafe) fun s => s.occurNow 0x0B 0).devState :=
      Ordinary.dev <| .when (.when (.when (.refl _) fun o => .ossdOff o) fun o => .tokenLeave o) fun o => .occurNow o
    rw [start] at moves
    clear_value noted
    simp only [ledTo, List.mem_cons, List.not_mem_nil, or_false] at led
    obtain rfl | rfl | rfl | rfl | rfl := led
    · exact start
    · exact start
    · exact CauseMoves.of_rest (by decide) moves
    · exact CauseMoves.of_rest (by decide) moves
    · exact CauseMoves.of_rest (by decide) moves

theorem State.setDev_trip (s : State) (st : Nat) : (s.setDev st).word R.THM_TRIP.addr = s.word R.THM_TRIP.addr :=
  State.setDev_keeps (EventKeeps.word thmTrip_not_eventWrites) st s

theorem Ordinary.setDev (o : Ordinary s u) {st} (led : st ∈ ledTo) (moves : CauseMoves u.devState st) :
    Ordinary s (u.setDev st) where
  trip := (u.setDev_trip st).trans o.trip
  dev := o.dev.trans (by rwa [u.devState_setDev led])

theorem Ordinary.settleDev (o : Ordinary s u) : Ordinary s u.settleDev := by
  unfold State.settleDev
  extract_lets v
  have p : Ordinary s v := .reg rfl <| .reg rfl o
  clear_value v
  split
  · next at_ => exact p.setDev (by decide) (.inr (.inr ⟨.inr rfl, .inl at_.1⟩))
  · split
    · next at_ => exact p.setDev (by decide) (.inr (.inr ⟨.inl rfl, .inr at_.1⟩))
    · exact p

theorem Ordinary.condOff (o : Ordinary s u) {e unit} : Ordinary s (u.condOff e unit) := .settleDev <| .updDev o

theorem Ordinary.causeOf (o : Ordinary s u) {e unit} : Ordinary s (u.causeOf e unit) :=
  .ite o (.ite (.updDev o) (.ite (.updDev o) (.updDev o)))

theorem Ordinary.react (o : Ordinary s u) {e} : Ordinary s (u.react e) := by
  have p : Ordinary s u.settleDev := .settleDev o
  have q : Ordinary s (u.settleDev.handover.ossdOff 1) := .ossdOff <| .handover p
  unfold State.react
  dsimp only
  split
  · split
    · next at_ => exact q.setDev (by decide) (.inr (.inl ⟨rfl, at_⟩))
    · exact q
  · split
    · next at_ => exact p.setDev (by decide) (.inr (.inr ⟨.inr rfl, .inl at_.2⟩))
    · exact p

theorem Ordinary.raiseArg (o : Ordinary s u) {e head arg unit} : Ordinary s (u.raiseArg e head arg unit) :=
  .react <| .causeOf <| .noteEvent o

theorem Ordinary.raiseU (o : Ordinary s u) {e head unit} : Ordinary s (u.raiseU e head unit) := .raiseArg <| .drawn o

theorem Ordinary.raise (o : Ordinary s u) {e head} : Ordinary s (u.raise e head) := .raiseU o

theorem Ordinary.updLane (o : Ordinary s u) {q l f} : Ordinary s (u.updLane q l f) := .putLanes o

theorem Ordinary.codeword (o : Ordinary s u) {p rx} : Ordinary s (u.codeword p rx) := by
  unfold State.codeword
  dsimp only
  split
  · exact o
  · exact .regAt (far_add rfl) o
  · exact .ite (.regAt (far_add rfl) o) (.raiseU <| .updLane <| .regAt (far_add rfl) o)

theorem Ordinary.accessError (o : Ordinary s u) {i write addr cause} : Ordinary s (u.accessError i write addr cause) :=
  .reg rfl <| .reg rfl <| .reg rfl <| .reg rfl <| .reg rfl o

theorem Ordinary.refuse (o : Ordinary s u) {i addr} : Ordinary s (u.refuse i addr) := .accessError o

theorem Ordinary.calDone (o : Ordinary s u) {k} : Ordinary s (u.calDone k) := .regAt rfl <| .regAt rfl <| .regAt rfl o

/-! ### Flags -/

theorem Ordinary.showTokenOnly (o : Ordinary s u) {h} : Ordinary s (u.showTokenOnly h) := .regAt rfl o

theorem Ordinary.setInh (o : Ordinary s u) {h b v} : Ordinary s (u.setInh h b v) :=
  .showTokenOnly <| .when (.when (.regAt rfl o) fun o => .putFresh <| .regAt rfl o) fun o => .regAt rfl o

theorem Ordinary.refreshEye (o : Ordinary s u) {h} : Ordinary s (u.refreshEye h) := .setInh o

theorem Ordinary.refreshThermal (o : Ordinary s u) {h} : Ordinary s (u.refreshThermal h) := .setInh o

theorem Ordinary.refreshEmitter (o : Ordinary s u) {h} : Ordinary s (u.refreshEmitter h) := .setInh o

theorem Ordinary.refreshServo (o : Ordinary s u) {h} : Ordinary s (u.refreshServo h) :=
  .setInh <| .regAt rfl <| .regAt rfl o

theorem Ordinary.refreshTiming (o : Ordinary s u) : Ordinary s u.refreshTiming :=
  .eachHead (.reg rfl <| .reg rfl o) fun o => .setInh o

/-! ### Capture -/

theorem Ordinary.updStream (o : Ordinary s u) {k f} : Ordinary s (u.updStream k f) := .updCap o

theorem Ordinary.updSlot (o : Ordinary s u) {i f} : Ordinary s (u.updSlot i f) := .updCap o

theorem Ordinary.capLost (o : Ordinary s u) {k} : Ordinary s (u.capLost k) := .raise <| .updStream <| .regAt rfl o

theorem Ordinary.capRecord (o : Ordinary s u) {k r} : Ordinary s (u.capRecord k r) :=
  .ite o (.ite (.capLost o) (.updStream <| .regAt rfl o))

theorem Ordinary.captureEvent (o : Ordinary s u) {n disp stamp} : Ordinary s (u.captureEvent n disp stamp) :=
  .ite o (.foldl o fun o => .capRecord o)

theorem Ordinary.captureShot (o : Ordinary s u) {h phase k ek} : Ordinary s (u.captureShot h phase k ek) :=
  .ite o (.foldl o fun o => .capRecord o)

theorem Ordinary.stageReturn (o : Ordinary s u) {r} : Ordinary s (u.stageReturn r) := by
  have p : Ordinary s (u.portTake 6 8).1 := .portTake o
  unfold State.stageReturn
  generalize u.portTake 6 8 = x at p ⊢
  obtain ⟨v, ok⟩ := x
  cases ok
  · exact .ite (.capLost o) (.capLost p)
  · exact .ite (.capLost o) (.updCap <| .hbmWrite p)

theorem Ordinary.stageReturns (o : Ordinary s u) {rs} : Ordinary s (u.stageReturns rs) :=
  .ite o (.foldl o fun o => .stageReturn o)

theorem Ordinary.drainOne (o : Ordinary s u) : Ordinary s u.drainOne := by
  have p : Ordinary s (u.portTake 6 8).1 := .portTake o
  unfold State.drainOne
  generalize u.portTake 6 8 = x at p ⊢
  obtain ⟨v, ok⟩ := x
  cases ok
  · exact .ite o p
  · exact .ite o (.when (.updCap p) fun o => .capRecord o)

theorem Ordinary.drainReturns (o : Ordinary s u) : Ordinary s u.drainReturns := by
  unfold State.drainReturns
  exact .when (.each (.updCap o) fun o => .drainOne o) fun o => .updCap o

theorem Ordinary.flushMissed (o : Ordinary s u) {q} : Ordinary s (u.flushMissed q) :=
  .ite o (.updSeqr <| .foldl o fun o => .capRecord o)

theorem Ordinary.flushOldMissed (o : Ordinary s u) : Ordinary s u.flushOldMissed := .each o fun o => .ite (.flushMissed o) o

theorem Ordinary.slotNext (o : Ordinary s u) {k} : Ordinary s (u.slotNext k) := by
  unfold State.slotNext
  split
  · exact o
  · split
    · exact o
    · exact .updSlot <| .regAt rfl o

theorem OrdinaryAnswer.execSlotArm {t i} : OrdinaryAnswer s (execSlotArm t i s) :=
  .run fun o => .ite (.slotNext <| .reg rfl <| .regAt rfl o) (.reg rfl o)

theorem OrdinaryAnswer.execSlotRelease {t i} : OrdinaryAnswer s (execSlotRelease t i s) :=
  .run fun o => .ite (.raise <| .reg rfl o) (.ite (.raise <| .reg rfl o) (.slotNext <| .reg rfl <| .regAt rfl o))

theorem OrdinaryAnswer.execSlotFull {t i} : OrdinaryAnswer s (execSlotFull t i s) :=
  .run fun o => .ite o <|
    .after (fun o => .slotNext <| .raise <| .regAt rfl <| .hbmWrite <| .updSlot <| .ite (.drawn <| .updSlot o) o) <|
    .each o fun o => .updSeqr o

theorem Ordinary.sendFrame (o : Ordinary s u) {k count frame} : Ordinary s (u.sendFrame k count frame) :=
  .ite o (.ite (.updCap <| .updStream o) (.regAt rfl <| .updStream o))

theorem OrdinaryAnswer.execCaptureFrameClose {t k} : OrdinaryAnswer s (execCaptureFrameClose t k s) := by
  unfold Machine.execCaptureFrameClose
  refine .run fun o => .ite o ?_
  extract_lets _ _ _ _ _ _ _ sent
  have p := Ordinary.after (u := sent) (fun o => .sendFrame <| .updStream <| .regAt rfl <| .when (.flushOldMissed o) fun o =>
    .drainReturns o) o
  clear_value sent
  split
  · exact .ite p (.updSlot <| .hbmWrite p)
  · exact p

theorem Ordinary.seqEnter (o : Ordinary s u) {q i time} : Ordinary s (u.seqEnter q i time) :=
  .updSeqr <| .regAt rfl <| .regAt rfl o

theorem Ordinary.seqTrigger (o : Ordinary s u) {q time} : Ordinary s (u.seqTrigger q time) :=
  .updSeqr <| .regAt rfl <| .regAt rfl <| .occur <| .regAt rfl <| .regAt rfl <| .regAt rfl <| .raise <| .when (.foldl o
    fun o => by
      split
      · exact .updSlot <| .regAt rfl <| .regAt rfl <| .capRecord o
      · exact .raise <| .capRecord o)
    fun o => .updCap o

theorem Ordinary.seqAct (o : Ordinary s u) {q i time entry} : Ordinary s (u.seqAct q i time entry) := by
  unfold State.seqAct
  split
  · exact .seqEnter o
  · exact .seqEnter o
  · exact .seqTrigger o
  · exact o

theorem Ordinary.seqMissed (o : Ordinary s u) {q time} : Ordinary s (u.seqMissed q time) :=
  .after (fun o => .ite (.updSeqr o) (.raise <| .updSeqr <| .updSeqr o)) (.when (.regAt rfl o) fun o => .flushMissed o)

theorem Ordinary.seqTake (o : Ordinary s u) {q c} : Ordinary s (u.seqTake q c) :=
  .ite o (.ite (.ite (.seqMissed <| .regAt rfl o) (.regAt rfl o)) (.ite (.seqAct <| .regAt rfl o) (.regAt rfl o)))

theorem OrdinaryAnswer.execSequencerOccurrence {t q} : OrdinaryAnswer s (execSequencerOccurrence t q s) :=
  .run fun o => by
    split
    · exact o
    · exact .ite o (.ite (.seqTake <| .updSeqr o) (.updSeqr o))

theorem OrdinaryAnswer.execSequencerTimerExpiry {t q} : OrdinaryAnswer s (execSequencerTimerExpiry t q s) :=
  .run fun o => by
    dsimp only
    split
    · exact o
    · exact .ite o (.ite (.seqEnter o) (.seqAct o))

theorem OrdinaryAnswer.execTrigOutPulseEnd {t idx} : OrdinaryAnswer s (execTrigOutPulseEnd t idx s) :=
  .run fun o => .updCap o

theorem Ordinary.seqRearmed (o : Ordinary s u) {q} : Ordinary s (u.seqRearmed q) :=
  .seqEnter <| .regAt rfl <| .flushMissed o

theorem OrdinaryAnswer.execRearmEnd {t q} : OrdinaryAnswer s (execRearmEnd t q s) := .run fun o => .ite o (.seqRearmed o)

theorem OrdinaryAnswer.execSequencerForce {t q} : OrdinaryAnswer s (execSequencerForce t q s) := .run fun o => .updSeqr o

theorem OrdinaryAnswer.execSequencerRestart {t q} : OrdinaryAnswer s (execSequencerRestart t q s) :=
  .run fun o => .seqRearmed o

theorem OrdinaryAnswer.execCaptureStatusTick {t} : OrdinaryAnswer s (execCaptureStatusTick t s) :=
  .run fun o => .ite (.flushOldMissed o) (.foldl (.updCap <| .flushOldMissed o) fun o => .ite (.capRecord <| .updCap o) o)

/-! ### HeadOps -/

theorem Ordinary.showPower (o : Ordinary s u) : Ordinary s u.showPower := .reg rfl <| .reg rfl o

theorem Ordinary.leaveRequest (o : Ordinary s u) {who units} : Ordinary s (u.leaveRequest who units) := .ite o (.updPwr o)

theorem Ordinary.leaveRelease (o : Ordinary s u) {who n} : Ordinary s (u.leaveRelease who n) := .showPower <| .updPwr o

theorem Ordinary.leaveEnd (o : Ordinary s u) {who} : Ordinary s (u.leaveEnd who) := .leaveRelease <| .updPwr o

theorem Ordinary.refillPool (o : Ordinary s u) : Ordinary s u.refillPool := .drawn <| .reg rfl <| .updPwr o

theorem Ordinary.coverDwell (o : Ordinary s u) {h} : Ordinary s (u.coverDwell h) :=
  .ite (.refillPool o) (.updPower <| .drawn <| .reg rfl <| .updPwr <| .refillPool o)

theorem Ordinary.dwellLeave (o : Ordinary s u) {h d asSkip} : Ordinary s (u.dwellLeave h d asSkip) :=
  .ite (.coverDwell <| .updPower <| .updPower <| .leaveRelease <| .updPower o) (.leaveRequest <| .updPower o)

theorem Ordinary.excite (o : Ordinary s u) {h mode level} : Ordinary s (u.excite h mode level) :=
  .refreshServo <| .updServo <| .regAt rfl <| .regAt rfl o

theorem Ordinary.vernier (o : Ordinary s u) {h f} : Ordinary s (u.vernier h f) := by
  unfold State.vernier
  exact .updFire o

theorem Ordinary.proofStrobe (o : Ordinary s u) {h e} : Ordinary s (u.proofStrobe h e) := by
  unfold State.proofStrobe
  exact .when (.when o fun o => .updChain o) fun o => .regAt rfl <| .regAt rfl <| .vernier <| .updFire <| .updEye o

theorem Ordinary.chainStart (o : Ordinary s u) {h c fails} : Ordinary s (u.chainStart h c fails) := by
  unfold State.chainStart
  dsimp only
  split
  · exact .proofStrobe <| .updChain o
  · exact .when (.updChain o) fun o => .regAt rfl o
  · exact .updChain o

theorem Ordinary.chainNext (o : Ordinary s u) {h} : Ordinary s (u.chainNext h) := by
  unfold State.chainNext
  dsimp only
  split
  · exact .chainStart <| .updChain o
  · exact o

theorem Ordinary.chainPut (o : Ordinary s u) {h c} : Ordinary s (u.chainPut h c) := .chainNext <| .updChain o

theorem Ordinary.abandonFrame (o : Ordinary s u) {h} : Ordinary s (u.abandonFrame h) :=
  .setInh <| .setInh <| .updPower <| .leaveEnd <| .leaveEnd <| .regAt rfl <| .regAt rfl <| .updScan o

theorem Ordinary.setHead (o : Ordinary s u) {h st} : Ordinary s (u.setHead h st) :=
  .refreshServo <| .showTokenOnly <| .regAt rfl o

theorem Ordinary.headOff (o : Ordinary s u) {h} : Ordinary s (u.headOff h) :=
  .refreshThermal <| .refreshEye <| .refreshEmitter <| .setHead <| .regAt rfl <| .when (.updServo <| .updEye <|
      .regAt rfl <| .regAt rfl <| .regAt rfl <| .regAt rfl <| .updChain <| .updScan <| .leaveEnd <| .abandonFrame o)
    fun o => .excite o

theorem Ordinary.headPark (o : Ordinary s u) {h} : Ordinary s (u.headPark h) :=
  .refreshEye <| .refreshServo <| .showTokenOnly <| .excite <| .regAt rfl <| .regAt rfl <| .updServo <| .regAt rfl <|
    .updEye <| .regAt rfl <| .when (.updScan <| .leaveEnd <| .abandonFrame o) fun o => .refreshEmitter <| .regAt rfl o

theorem Ordinary.headFault (o : Ordinary s u) {h cause} : Ordinary s (u.headFault h cause) :=
  .ite o (.setHead <| .regAt rfl <| .regAt rfl <| .updServo <| .updScan <| .leaveEnd <| .abandonFrame o)

theorem Ordinary.headScan (o : Ordinary s u) {h} : Ordinary s (u.headScan h) := .setHead <| .updChain <| .updScan o

theorem Ordinary.releaseHeldStart (o : Ordinary s u) {h} : Ordinary s (u.releaseHeldStart h) := by
  unfold State.releaseHeldStart
  split
  · exact o
  · exact .ite o (.ite (.refuse <| .updScan o) (.headScan <| .updScan o))

theorem Ordinary.dropEmpty (o : Ordinary s u) {h} : Ordinary s (u.dropEmpty h) := by
  unfold State.dropEmpty
  exact .when o fun o => .headOff o

theorem Ordinary.tryLeaveOff (o : Ordinary s u) {h} : Ordinary s (u.tryLeaveOff h) := .ite (.headPark o) o

theorem Ordinary.headsOff (o : Ordinary s u) : Ordinary s u.headsOff := .eachHead o fun o => .headOff o

/-! ### Eye -/

theorem Ordinary.eyeTurn (o : Ordinary s u) {h w} : Ordinary s (u.eyeTurn h w) := .ite o (.regAt rfl <| .updEye o)

theorem Ordinary.charge (o : Ordinary s u) {h r nJ} : Ordinary s (u.charge h r nJ) :=
  .regAt rfl <| .regAt rfl <| .updEye <| .foldl o fun o => .eyeTurn o

theorem Ordinary.eyeBlocked (o : Ordinary s u) {h w sector} : Ordinary s (u.eyeBlocked h w sector) :=
  .refreshEye <| .raise <| .regAt rfl <| .regAt rfl <| .regAt rfl o

theorem Ordinary.eyeDwellTest (o : Ordinary s u) {h d} : Ordinary s (u.eyeDwellTest h d) := by
  unfold State.eyeDwellTest
  have p := Ordinary.foldl (l := u.windows h) o fun {v w} o => .eyeTurn (h := h) (w := w) o
  dsimp only
  split
  · exact .refreshEye <| .regAt rfl <| .when (.regAt rfl p) fun o => .regAt rfl o
  · split
    · exact .eyeBlocked <| .updEye <| .when (.regAt rfl p) fun o => .regAt rfl o
    · exact .refreshEye <| .regAt rfl <| .updEye <| .when (.regAt rfl p) fun o => .regAt rfl o

theorem Ordinary.eyeMemory (o : Ordinary s u) {h ecc} : Ordinary s (u.eyeMemory h ecc) := by
  unfold State.eyeMemory
  split
  · exact o
  · exact .regAt rfl o
  · exact .raise <| .regAt rfl <| .updEye <| .eyeTurn o

theorem Ordinary.monFail (o : Ordinary s u) {h} : Ordinary s (u.monFail h) :=
  .refreshEye <| .raise <| .updEye <| .regAt rfl o

theorem Ordinary.judgePulse (o : Ordinary s u) {h code bound matched r} : Ordinary s (u.judgePulse h code bound matched r) :=
  .ite (.refreshEye <| .raise <| .charge <| .updEye <| .regAt rfl <| .regAt rfl o) <|
    .ite (.ite (.monFail <| .updEye <| .updEye <| .charge <| .regAt rfl o) (.updEye <| .charge <| .regAt rfl o)) <|
    .updEye <| .charge o

theorem Ordinary.testPulse (o : Ordinary s u) {h r n bound} : Ordinary s (u.testPulse h r n bound) := by
  unfold State.testPulse
  split
  · exact .eyeBlocked o
  · exact o

theorem Ordinary.eyePulse (o : Ordinary s u) {h k fk} : Ordinary s (u.eyePulse h k fk) := by
  unfold State.eyePulse
  dsimp only
  split
  · exact .updEye o
  · exact o

theorem OrdinaryAnswer.execEnergyMonitorSample {t h shot code ecc} :
    OrdinaryAnswer s (execEnergyMonitorSample t h shot code ecc s) :=
  .run fun o => by
    split
    · split
      · exact o
      · exact .ite o (.testPulse <| .judgePulse <| .updEye <| .eyeMemory o)
    · split
      · exact o
      · exact .ite o (.testPulse <| .judgePulse <| .updEye <| .eyeMemory o)

theorem OrdinaryAnswer.execEyeBucketAdvance {t h w ecc} : OrdinaryAnswer s (execEyeBucketAdvance t h w ecc s) :=
  .run fun o => .eyeTurn <| .eyeMemory o

theorem OrdinaryAnswer.execEyeLatchClear {t h} : OrdinaryAnswer s (execEyeLatchClear t h s) :=
  .run fun o => .ite (.refreshEye <| .updEye <| .regAt rfl <| .regAt rfl o) o

theorem OrdinaryAnswer.execZeroCalComplete {t h codes} : OrdinaryAnswer s (execZeroCalComplete t h codes s) :=
  .run fun o => .ite o <|
    .releaseHeldStart <| .ite (.monFail <| .updScan o) <|
    .refreshEye <| .updEye <| .regAt rfl <| .calDone <| .drawn <| .regAt rfl <| .updScan o

theorem Ordinary.eyeSample (o : Ordinary s u) {h} : Ordinary s (u.eyeSample h) :=
  .after (fun o => .ite o (.ite (.updEye o) (.ite (.refreshEye <| .raise <| .regAt rfl o) o))) (.ite o <| by
    split
    · exact o
    · exact .ite o (.ite o (.refreshEye <| .raise <| .regAt rfl o)))

/-! ### Servo -/

theorem Ordinary.updAxis (o : Ordinary s u) {h a f} : Ordinary s (u.updAxis h a f) := .updServo o

theorem Ordinary.followSource (o : Ordinary s u) {h} : Ordinary s (u.followSource h) := by
  unfold State.followSource
  exact .when (.updServo <| .regAt rfl o) fun o => .raise o

theorem Ordinary.countClamp (o : Ordinary s u) {h} : Ordinary s (u.countClamp h) :=
  .ite o (.ite (.regAt rfl o) (.raise <| .updServo <| .regAt rfl o))

theorem Ordinary.startPark (o : Ordinary s u) {h} : Ordinary s (u.startPark h) :=
  .ite (.abandonFrame o) (.leaveRequest <| .regAt rfl <| .updServo <| .updScan <| .abandonFrame o)

theorem Ordinary.faultPark (o : Ordinary s u) {h} : Ordinary s (u.faultPark h) :=
  .ite o (.refreshServo <| .leaveRequest <| .regAt rfl <| .updServo <| .updScan o)

theorem Ordinary.driveCell (o : Ordinary s u) {h} : Ordinary s (u.driveCell h) := .ite o (.updServo o)

theorem Ordinary.settle (o : Ordinary s u) {h good} : Ordinary s (u.settle h good) :=
  .ite o (.when (.updScan o) fun o => .regAt rfl o)

theorem Ordinary.trackCheck (o : Ordinary s u) {h} : Ordinary s (u.trackCheck h) :=
  .ite (.ite o (.raise <| .regAt rfl <| .updServo o)) (.ite (.updServo o) o)

theorem Ordinary.parkCheck (o : Ordinary s u) {h} : Ordinary s (u.parkCheck h) :=
  .ite o (.ite (.headPark <| .updServo o) (.updServo o))

theorem Ordinary.rampCheck (o : Ordinary s u) {h} : Ordinary s (u.rampCheck h) :=
  .ite o (.ite o (.ite (.headPark o) (.headFault <| .raise o)))

theorem Ordinary.rampStart (o : Ordinary s u) {h} : Ordinary s (u.rampStart h) := by
  unfold State.rampStart
  exact .when o fun o => .updServo o

theorem OrdinaryAnswer.execServoSample {t h doneX doneY} : OrdinaryAnswer s (execServoSample t h doneX doneY s) :=
  .run fun o => .ite o <|
    .ite (.driveCell <| .updServo o) <|
    .rampCheck <| .parkCheck <| .eyeSample <| .refreshServo <| .trackCheck <| .settle <| .regAt rfl <| .driveCell <|
    .updServo <| .regAt (far_add rfl) <| .regAt (far_add rfl) <| .updAxis <| .regAt (far_add rfl) <| .regAt (far_add rfl) <|
    .updAxis <| .countClamp <| .updAxis <| .updAxis <| .followSource <| .rampStart o

theorem Ordinary.feedbackFault (o : Ordinary s u) {h a frozen} : Ordinary s (u.feedbackFault h a frozen) :=
  .faultPark <| .refreshServo <| .raise <| .regAt rfl <| .updAxis o

theorem OrdinaryAnswer.execFeedbackLost {t h y} : OrdinaryAnswer s (execFeedbackLost t h y s) :=
  .run fun o => .ite o (.feedbackFault o)

theorem OrdinaryAnswer.execServoOverrun {t h y} : OrdinaryAnswer s (execServoOverrun t h y s) :=
  .run fun o => .ite o <|
    .ite (.faultPark <| .raise <| .regAt rfl <| .raise <| .regAt rfl <| .updAxis o) <|
    .regAt rfl <| .raise <| .regAt rfl <| .updAxis o

theorem OrdinaryAnswer.execFaultParkHoldEnd {t h} : OrdinaryAnswer s (execFaultParkHoldEnd t h s) :=
  .run fun o => .ite (.regAt rfl o) o

theorem OrdinaryAnswer.execParkTimeout {t h} : OrdinaryAnswer s (execParkTimeout t h s) :=
  .run fun o => by
    split
    · exact .ite (.headFault <| .raise o) o
    · exact o

theorem OrdinaryAnswer.execServoOffsetCalPhaseEnd {t h} : OrdinaryAnswer s (execServoOffsetCalPhaseEnd t h s) :=
  .run fun o => .ite o <| by
    split
    · exact .updServo o
    · exact .excite <| .updServo o
    · exact .releaseHeldStart <| .refreshServo <| .calDone <| .regAt rfl <| .when (.updScan <| .updServo o)
        fun o => .excite o
    · exact o

theorem Ordinary.excitationLevel (o : Ordinary s u) {i h level} : Ordinary s (u.excitationLevel i h level) :=
  .ite (.accessError o) (.ite (.updServo <| .regAt rfl o) (.ite (.excite <| .regAt rfl o) (.regAt rfl o)))

theorem OrdinaryAnswer.execExcitationLevelWrite {t i h level} : OrdinaryAnswer s (execExcitationLevelWrite t i h level s) :=
  .run fun o => .excitationLevel o

theorem Ordinary.exciteFlyback (o : Ordinary s u) {h} : Ordinary s (u.exciteFlyback h) :=
  .ite o (.ite (.updServo o) (.excite <| .updServo o))

theorem OrdinaryAnswer.execExcitationHoldEnd {t h} : OrdinaryAnswer s (execExcitationHoldEnd t h s) :=
  .run fun o => .refreshServo <| .updServo o

theorem Ordinary.coefWrite (o : Ordinary s u) {h a k i v} : Ordinary s (u.coefWrite h a k i v) :=
  .ite (.refuse o) (.regAt (far_add <| far_add <| far_add rfl) o)

theorem OrdinaryAnswer.execCoefBankWrite {t h a k i v} : OrdinaryAnswer s (execCoefBankWrite t h a k i v s) :=
  .run fun o => .ite (.accessError o) (.coefWrite o)

theorem Ordinary.axisBlock (o : Ordinary s u) {h a gap b} : Ordinary s (u.axisBlock h a gap b) :=
  .ite (.feedbackFault <| .updAxis <| .putFree o) (.updAxis <| .putFree o)

theorem OrdinaryAnswer.execSdBlockReceive {t h seq rx ctr x y} : OrdinaryAnswer s (execSdBlockReceive t h seq rx ctr x y s) :=
  .run fun o => .ite (.codeword o) (.refreshServo <| .axisBlock <| .axisBlock <| .updServo <| .codeword o)

/-! ### Return -/

theorem Ordinary.updLine (o : Ordinary s u) {i f} : Ordinary s (u.updLine i f) := .putLines o

theorem Ordinary.updGroup (o : Ordinary s u) {g f} : Ordinary s (u.updGroup g f) := .putGroups o

theorem Ordinary.updRec (o : Ordinary s u) {g b j f} : Ordinary s (u.updRec g b j f) := .updGroup o

theorem Ordinary.countHit (o : Ordinary s u) {i tapsA tapsB} : Ordinary s (u.countHit i tapsA tapsB) := by
  unfold State.countHit
  exact .when (.updLine o) fun o => .regAt rfl o

theorem Ordinary.updStatusAt (o : Ordinary s u) {n c f} : Ordinary s (u.updStatusAt n c f) :=
  .ite (by
    split
    · exact .when o fun o => .updRec o
    · exact o)
    o

theorem Ordinary.updStatus (o : Ordinary s u) {n f} : Ordinary s (u.updStatus n f) := .ite (.updRec o) o

theorem Ordinary.accept (o : Ordinary s u) {n c} : Ordinary s (u.accept n c) := .ite (.updGroup o) o

theorem Ordinary.edgeHit (o : Ordinary s u) {n c tapsA tapsB} : Ordinary s (u.edgeHit n c tapsA tapsB) :=
  .ite o (.countHit o)

theorem OrdinaryAnswer.execReturnEdge {t n back tapsA tapsB gate} :
    OrdinaryAnswer s (execReturnEdge t n back tapsA tapsB gate s) :=
  .run fun o => .after (fun o => .ite (.updLine o) <|
      .ite (.ite (.updStatusAt <| .regAt rfl <| .updLine <| .drawn o) (.regAt rfl <| .updLine <| .drawn o)) <|
      .ite (.captureEvent <| .updLine <| .edgeHit <| .drawn o) <|
      .ite (.captureEvent <| .updStatusAt <| .regAt rfl <| .updLine <| .edgeHit <| .drawn o) <|
      .ite (.updGroup <| .captureEvent <| .updStatusAt <| .regAt rfl <| .updLine <| .edgeHit <| .drawn o) <|
      .accept <| .captureEvent <| .updStatusAt <| .regAt rfl <| .updLine <| .edgeHit <| .drawn o) <|
    .when o fun o => .updHead o

theorem Ordinary.sealRecord (o : Ordinary s u) {i} : Ordinary s (u.sealRecord i) := .regAt rfl <| .regAt rfl <| .regAt rfl o

theorem Ordinary.writeTaps (o : Ordinary s u) {i} : Ordinary s (u.writeTaps i) := .each o fun o => .regAt (far_add rfl) o

theorem Ordinary.newEpoch (o : Ordinary s u) {i} : Ordinary s (u.newEpoch i) := by
  unfold State.newEpoch
  exact .when (.updLine o) fun o => .regAt rfl o

theorem Ordinary.coupling (o : Ordinary s u) {i cum} : Ordinary s (u.coupling i cum) :=
  .ite o (.when (.reg rfl <| .reg rfl <| .updLine <| .drawn o) fun o => .raise o)

theorem Ordinary.failInput (o : Ordinary s u) {i} : Ordinary s (u.failInput i) := by
  unfold State.failInput
  exact .when (.raiseU <| .when (.when (.regAt rfl o) fun o => .updStatus o) fun o => .regAt rfl o)
    fun o => .refreshEmitter o

theorem Ordinary.linePassed (o : Ordinary s u) {i} : Ordinary s (u.linePassed i) :=
  .ite (.when (.condOff <| .regAt rfl <| .updLine o) fun o => .regAt rfl o) (.updLine o)

theorem Ordinary.releaseHold (o : Ordinary s u) {h} : Ordinary s (u.releaseHold h) := .ite (.refreshTiming <| .updClk o) o

theorem Ordinary.evaluateEpoch (o : Ordinary s u) {i} : Ordinary s (u.evaluateEpoch i) := by
  unfold State.evaluateEpoch
  exact .after (fun o => .after (fun o => .when (.sealRecord <| .ite o (.ite (.updLine o) (.ite (.updLine o) o)))
        fun o => .releaseHold o) <|
      .when (.when (.when (.updLine <| .coupling <| .ite (.linePassed o) (.raise o)) fun o => .raiseU <| .regAt rfl o)
        fun o => .raiseU <| .regAt rfl o)
      fun o => .failInput o) <|
    .when (.drawn <| .regAt rfl <| .drawn <| .regAt rfl o) fun o => .regAt rfl o

theorem OrdinaryAnswer.execCalEpochClose {t i} : OrdinaryAnswer s (execCalEpochClose t i s) :=
  .run fun o => .when o
    fun o => .ite (.newEpoch <| .when o fun o => .updLine o) (.ite (.newEpoch <| .raise o) (.newEpoch <| .evaluateEpoch o))

theorem OrdinaryAnswer.execCalSelectionApply {t i} : OrdinaryAnswer s (execCalSelectionApply t i s) :=
  .run fun o => by
    split
    · exact o
    · exact .ite o <|
        .ite (.updLine o) <|
        .sealRecord <| .regAt rfl <| .regAt rfl <| .writeTaps <| .drawn <| .regAt rfl <| .calDone <| .when (.regAt rfl <|
          .regAt rfl <| .updLine o)
        fun o => .reg rfl <| .regAt rfl o

theorem OrdinaryAnswer.execCalStaleExpiry {t i} : OrdinaryAnswer s (execCalStaleExpiry t i s) :=
  .run fun o => .ite o (.raiseU <| .when (.sealRecord <| .regAt rfl o) fun o => .regAt rfl o)

theorem Ordinary.calRestore (o : Ordinary s u) {index} : Ordinary s (u.calRestore index) :=
  .ite (.raise <| .reg rfl <| .drawn o) (.newEpoch <| .reg rfl <| .updLine <| .drawn o)

theorem OrdinaryAnswer.execCalRestore {t i index} : OrdinaryAnswer s (execCalRestore t i index s) :=
  .run fun o => .ite (.refuse o) (.calRestore o)

theorem OrdinaryAnswer.execVernierCalComplete {t h y0 y1 y2 y3 y4} :
    OrdinaryAnswer s (execVernierCalComplete t h y0 y1 y2 y3 y4 s) :=
  .run fun o => .ite o <|
    .releaseHeldStart <| .calDone <| .sealRecord <| .drawn <| .regAt rfl <| .drawn <| .regAt rfl <| .updScan o

theorem Ordinary.echoLatency (o : Ordinary s u) {h} : Ordinary s (u.echoLatency h) :=
  .ite o (.when (.drawn <| .regAt rfl o) fun o => .raise o)

/-! ### Bench -/

theorem Ordinary.takeBuffers (o : Ordinary s u) {h} : Ordinary s (u.takeBuffers h) :=
  .each o fun o => .when o fun o => .updGroup <| .each o fun o => .updRec o

theorem Ordinary.openGroup (o : Ordinary s u) {h g d dwell frame place} : Ordinary s (u.openGroup h g d dwell frame place) :=
  .each (.updGroup o) fun o => .when (.updRec o) fun o => .raise <| .regAt rfl o

theorem Ordinary.openGroups (o : Ordinary s u) {h d dwell frame place} : Ordinary s (u.openGroups h d dwell frame place) :=
  .each o fun o => .when o fun o => .openGroup o

theorem Ordinary.addHyp (o : Ordinary s u) {h g y} : Ordinary s (u.addHyp h g y) :=
  .ite (.raise <| .putFresh <| .regAt rfl o) (.updGroup o)

theorem Ordinary.decideEvent (o : Ordinary s u) {g j c} : Ordinary s (u.decideEvent g j c).1 := by
  unfold State.decideEvent
  dsimp only
  split
  · exact o
  · exact .iteFst (.regAt rfl <| .updRec o) <|
      .iteFst (.foldl (.updGroup o) fun o => .addHyp o) (.regAt rfl <| .updRec <| .updGroup o)

theorem OrdinaryAnswer.execCoincDecision {t g j} : OrdinaryAnswer s (execCoincDecision t g j s) :=
  .run fun o => by
    split
    · exact o
    · exact .ite o (.updGroup <| .decideEvent o)

theorem OrdinaryAnswer.execHypothesisEntry {t g} : OrdinaryAnswer s (execHypothesisEntry t g s) :=
  .run fun o => by
    split
    · exact o
    · exact .updRec <| .updGroup o

theorem Ordinary.withdrawHyp (o : Ordinary s u) {g y} : Ordinary s (u.withdrawHyp g y) := .ite (.updGroup o) (.updRec o)

theorem Ordinary.withdrawFate (o : Ordinary s u) {n c f} : Ordinary s (u.withdrawFate n c f) := by
  unfold State.withdrawFate
  dsimp only
  split
  · exact .regAt rfl <| .updRec o
  · exact .regAt rfl <| .updRec o
  · exact .foldl o fun o => .withdrawHyp o
  · exact o

theorem Ordinary.blankSince (o : Ordinary s u) {n c} : Ordinary s (u.blankSince n c) :=
  .updGroup <| .foldl (.foldl o fun o => .updGroup <| .withdrawFate <| .updStatusAt <| .regAt rfl <| .regAt rfl o)
    fun o => .updStatusAt <| .regAt rfl <| .regAt rfl o

theorem OrdinaryAnswer.execSaturationDetect {t n} : OrdinaryAnswer s (execSaturationDetect t n s) :=
  .run fun o => .ite o <|
    .each (.updStatus <| .regAt rfl <| .updLine o) fun o => .when o fun o => .blankSince <| .updStatus o

theorem OrdinaryAnswer.execSaturationEnd {t n} : OrdinaryAnswer s (execSaturationEnd t n s) :=
  .run fun o => .when o fun o => .updLine o

theorem Ordinary.updClosed (o : Ordinary s u) {h f} : Ordinary s (u.updClosed h f) := .updHead o

theorem OrdinaryAnswer.execBufferComplete {t h g} : OrdinaryAnswer s (execBufferComplete t h g s) :=
  .run fun o => .ite o (.updClosed <| .each (.foldl (.updGroup o) fun o => .updRec o) fun o => .updRec o)

theorem Ordinary.showQueue (o : Ordinary s u) {h g} : Ordinary s (u.showQueue h g) :=
  .regAt rfl <| .regAt rfl <| .regAt rfl o

theorem Ordinary.updItem (o : Ordinary s u) {h n f} : Ordinary s (u.updItem h n f) := .updClosed o

theorem Ordinary.updItemOf (o : Ordinary s u) {h n frame dwell f} : Ordinary s (u.updItemOf h n frame dwell f) := by
  unfold State.updItemOf
  exact .when o fun o => .updItem o

/-! ### Detect -/

theorem Ordinary.refine (o : Ordinary s u) {h d x c} : Ordinary s (u.refine h d x c).1 := by
  unfold State.refine
  dsimp only
  split
  · exact .iteFst (.drawn <| .drawn o) (.iteFst (.drawn o) (.iteFst (.drawn <| .drawn o) (.drawn <| .drawn o)))
  · exact .drawn o

theorem Ordinary.fogShare (o : Ordinary s u) {h d bins c} : Ordinary s (u.fogShare h d bins c) := .ite o (.updHead o)

theorem Ordinary.visibility (o : Ordinary s u) {h} : Ordinary s (u.visibility h) :=
  .after (fun o => .ite (.ite (.updHead o) (.raise <| .regAt rfl <| .updHead o)) <|
      .ite (.condOff <| .regAt rfl <| .updHead o) (.updHead o)) <|
    .regAt rfl <| .regAt rfl <| .drawn o

theorem Ordinary.benchErrors (o : Ordinary s u) {h g b corr bad} : Ordinary s (u.benchErrors h g b corr bad) :=
  .foldl (.foldl o fun o => .raise <| .regAt rfl o) fun o => .raise <| .regAt rfl <| .updRec o

theorem Ordinary.slotsOf (o : Ordinary s u) {h d x} : Ordinary s (u.slotsOf h d x).1 :=
  .foldlFst o fun o => .drawn <| .refine o

theorem Ordinary.finish (o : Ordinary s u) {h k all x} : Ordinary s (u.finish h k all x) :=
  .updItem <| .updGroup <| .slotsOf <| .when (.when (.foldl (.foldl (.when (.when (.when o fun o => .raise <| .regAt rfl o)
              fun o => .raise <| .regAt rfl o)
            fun o => .raise o)
          fun o => .when o fun o => .raise <| .regAt rfl o)
        fun o => .fogShare o)
      fun o => .regAt rfl o)
    fun o => .regAt rfl o

theorem OrdinaryAnswer.execEvaluatorRun {t h g corr bad} : OrdinaryAnswer s (execEvaluatorRun t h g corr bad s) :=
  .run fun o => .ite o (.updClosed <| .foldl (.updGroup <| .benchErrors o) fun o => .finish o)

theorem OrdinaryAnswer.execFieldLineArrival {t h n bid fab a b} : OrdinaryAnswer s (execFieldLineArrival t h n bid fab a b s) :=
  .run fun o => .ite o (.ite (.updItem o) (.putFields o))

theorem Ordinary.refreshSel (o : Ordinary s u) {h} : Ordinary s (u.refreshSel h) :=
  .updClosed <| .when (.regAt rfl <| .regAt rfl o) fun o => .raise <| .regAt rfl o

theorem Ordinary.speedSel (o : Ordinary s u) : Ordinary s u.speedSel :=
  .eachHead o fun o => .when (.updHead o) fun o => .refreshSel o

/-! ### Bearing -/

theorem Ordinary.updBabbitt (o : Ordinary s u) {f} : Ordinary s (u.updBabbitt f) := .putBabbitt o

theorem Ordinary.updStaging (o : Ordinary s u) {n f} : Ordinary s (u.updStaging n f) := .updBabbitt o

theorem Ordinary.updLineOf (o : Ordinary s u) {n bid f} : Ordinary s (u.updLineOf n bid f) := .updStaging o

theorem Ordinary.stageWanted (o : Ordinary s u) {n} : Ordinary s (u.stageWanted n) := .updStaging o

theorem Ordinary.stageRead (o : Ordinary s u) {n now next} : Ordinary s (u.stageRead n now next) :=
  .ite (.updStaging o) (.stageWanted <| .updStaging <| .updStaging o)

theorem Ordinary.prefetchBearings (o : Ordinary s u) {h d next} : Ordinary s (u.prefetchBearings h d next) :=
  .ite o (.foldl o fun o => .stageRead o)

theorem Ordinary.stageDone (o : Ordinary s u) {n bid} : Ordinary s (u.stageDone n bid) := .stageWanted <| .updStaging o

theorem Ordinary.stageDemand (o : Ordinary s u) {n bid} : Ordinary s (u.stageDemand n bid) :=
  .ite o (.stageWanted <| .updStaging o)

theorem Ordinary.stageClose (o : Ordinary s u) {h d fired} : Ordinary s (u.stageClose h d fired) :=
  .ite o (.foldl o fun o => .ite (.updLineOf o) (.stageDone o))

theorem OrdinaryAnswer.execBearingStageArrival {t n uncorr} : OrdinaryAnswer s (execBearingStageArrival t n uncorr s) :=
  .run fun o => by
    split
    · exact o
    · exact .ite (.portTake o) <|
        .when (.when (.updLineOf <| .portTake o) fun o => .raise <| .reg rfl o)
        fun o => .raise <| .when o fun o => .regAt rfl o

theorem OrdinaryAnswer.execWriteBackComplete {t n} : OrdinaryAnswer s (execWriteBackComplete t n s) :=
  .run fun o => by
    dsimp only
    split
    · exact o
    · exact .ite (.portTake o) (.stageWanted <| .updStaging <| .portTake o)

theorem Ordinary.updTach (o : Ordinary s u) {f} : Ordinary s (u.updTach f) := .updBabbitt o

theorem Ordinary.weakCands (o : Ordinary s u) {h m x} : Ordinary s (u.weakCands h m x).1 :=
  .foldlFst o fun o => .drawn <| .drawn o

theorem Ordinary.placeWeak (o : Ordinary s u) {h slots ws} : Ordinary s (u.placeWeak h slots ws).1 :=
  .foldlFst o fun {x _} o => by
    obtain ⟨v, slots, out⟩ := x
    dsimp only
    split
    · exact .regAt rfl o
    · split <;> dsimp only
      · exact .regAt rfl o
      · exact .raise <| .regAt rfl <| .regAt rfl o

theorem Ordinary.trackUpdate (o : Ordinary s u) {h dR close tracks slots} :
    Ordinary s (u.trackUpdate h dR close tracks slots).1 := by
  unfold State.trackUpdate
  refine .foldlFst (.drawn o) fun {x _} o => ?_
  obtain ⟨v, ts, out, done, left⟩ := x
  refine .iteFst o ?_
  split
  · refine .iteFst o ?_
    extract_lets _ _ _ _ _ _ _ _ counted
    have p : Ordinary s counted := .when (.drawn <| .drawn o) fun o => .regAt rfl o
    exact p
  · exact o

theorem Ordinary.placeZoom (o : Ordinary s u) {x r fines dt restart} : Ordinary s (u.placeZoom x r fines dt restart).1 := by
  unfold State.placeZoom
  exact .foldlFst o fun o => .drawn o

theorem Ordinary.writeBearing (o : Ordinary s u) {bid x} : Ordinary s (u.writeBearing bid x) := .hbmWrite <| .hbmWrite o

theorem Ordinary.merge (o : Ordinary s u) {h m l} : Ordinary s (u.merge h m l) := by
  unfold State.merge
  extract_lets
  split
  extract_lets _ _ _ counted
  have p : Ordinary s counted := .when (.updBabbitt <| .when (.regAt rfl o) fun o => .regAt rfl o) fun o =>
    .raise <| .regAt rfl o
  clear_value counted
  split
  next weak =>
  replace p := (p.weakCands.iteFst p).fst weak
  split
  next placed =>
  replace p := p.placeWeak.fst placed
  extract_lets
  split
  next tracked =>
  replace p := (p.trackUpdate.iteFst p).fst tracked
  extract_lets
  split
  next zoomed =>
  exact .stageWanted <| .updLineOf <| .writeBearing <| .updItemOf <| p.placeZoom.fst zoomed

theorem Ordinary.nextRecord (o : Ordinary s u) {g m v} (next : u.nextRecord g = some (m, v)) : Ordinary s v := by
  unfold State.nextRecord at next
  split at next
  · cases next
    exact .updGroup o
  · split at next
    · cases next
      exact .putSpill o
    · cases next

theorem Ordinary.dropRecord (o : Ordinary s u) {h n bid frame dwell} : Ordinary s (u.dropRecord h n bid frame dwell) :=
  .stageDone <| .raise <| .regAt rfl <| .updItemOf o

theorem Ordinary.dropTaken (o : Ordinary s u) {m} : Ordinary s (u.dropTaken m) := .dropRecord o

theorem Ordinary.benchCorr (o : Ordinary s u) {h g} : Ordinary s (u.benchCorr h g) := .raise <| .regAt rfl o

theorem Ordinary.benchUncorr (o : Ordinary s u) {h g} : Ordinary s (u.benchUncorr h g) := .raise <| .regAt rfl o

theorem OrdinaryAnswer.execBearingMerge {t g corr bad} : OrdinaryAnswer s (execBearingMerge t g corr bad s) :=
  .run fun {r _} o => by
    split
    · exact o
    · next next =>
      extract_lets head took
      have p : Ordinary r took := .each (.showQueue <| .nextRecord o next) fun o => .benchCorr o
      clear_value took
      refine .ite (.dropTaken <| .benchUncorr p) ?_
      split
      · exact .stageDemand o
      · exact .merge p

theorem Ordinary.spillRecord (o : Ordinary s u) {h r} : Ordinary s (u.spillRecord h r) := by
  have p : Ordinary s (u.portTake 3 0xC00).1 := .portTake o
  unfold State.spillRecord
  generalize u.portTake 3 0xC00 = x at p ⊢
  obtain ⟨v, ok⟩ := x
  cases ok
  · exact .ite (.dropTaken o) (.updItem p)
  · exact .ite (.dropTaken o) (.regAt rfl <| .putSpill <| .hbmWrite p)

theorem Ordinary.spillRecords (o : Ordinary s u) {h recs} : Ordinary s (u.spillRecords h recs) := by
  unfold State.spillRecords
  exact .when (.foldl o fun o => .spillRecord o) fun o => .raise o

theorem Ordinary.moveErrors (o : Ordinary s u) {h g} : Ordinary s (u.moveErrors h g) :=
  .foldl (.benchErrors o) fun o => .stageDone <| .updItem o

theorem OrdinaryAnswer.execRecordMove {t h g} : OrdinaryAnswer s (execRecordMove t h g s) :=
  .run fun o => .ite o <|
    .after (fun o => .showQueue <| .ite (.foldl o fun o => .updGroup o) (.spillRecords o)) <|
    .foldl (.moveErrors o) fun o => .updItem o

theorem OrdinaryAnswer.execRecordDropDeadline {t h g} : OrdinaryAnswer s (execRecordDropDeadline t h g s) :=
  .run fun o => .ite o (.foldl o fun o => .dropRecord o)

theorem OrdinaryAnswer.execTachEdge {t b taps} : OrdinaryAnswer s (execTachEdge t b taps s) :=
  .run fun o => .ite (.drawn o) (.updTach <| .drawn o)

theorem Ordinary.speedBack (o : Ordinary s u) : Ordinary s u.speedBack :=
  .settleDev <| .speedSel <| .reg rfl <| .raise <| .updTach o

theorem OrdinaryAnswer.execTachGateEnd {t} : OrdinaryAnswer s (execTachGateEnd t s) :=
  .run fun o => .ite o <|
    .after (fun o => .ite o (.updTach <| .drawn o)) <|
    .ite (.ite (.reg rfl <| .reg rfl <| .reg rfl <| .reg rfl <| .reg rfl <| .updTach o) <|
      .speedSel <| .raise <| .reg rfl <| .reg rfl <| .reg rfl <| .reg rfl <| .reg rfl <| .reg rfl <| .reg rfl <| .updTach o) <|
    .ite (.ite (.speedBack <| .reg rfl <| .reg rfl <| .reg rfl <| .reg rfl <| .reg rfl <| .updTach o) <|
      .reg rfl <| .reg rfl <| .reg rfl <| .reg rfl <| .reg rfl <| .updTach o) <|
    .speedSel <| .reg rfl <| .reg rfl <| .reg rfl <| .reg rfl <| .reg rfl <| .reg rfl <| .updTach o

theorem OrdinaryAnswer.execSpeedValidTimer {t} : OrdinaryAnswer s (execSpeedValidTimer t s) :=
  .run fun o => by
    split
    · exact .when o fun o => .speedBack o
    · exact o

/-! ### Output -/

theorem Ordinary.updNet (o : Ordinary s u) {f} : Ordinary s (u.updNet f) := .putNet o

theorem Ordinary.settleShaper (o : Ordinary s u) {p q} : Ordinary s (u.settleShaper p q) := .ite o (.updNet o)

theorem Ordinary.enqueue (o : Ordinary s u) {p q f} : Ordinary s (u.enqueue p q f) := .updNet <| .settleShaper o

theorem Ordinary.queueStream (o : Ordinary s u) {str f} : Ordinary s (u.queueStream str f) := .enqueue <| .regAt rfl o

theorem Ordinary.closeFrame (o : Ordinary s u) {str h} : Ordinary s (u.closeFrame str h) :=
  .ite o (.updNet <| .queueStream o)

theorem Ordinary.streamPoint (o : Ordinary s u) {str h i r} : Ordinary s (u.streamPoint str h i r) :=
  .ite o (.when (.updNet <| .when o fun o => .closeFrame o) fun o => .closeFrame o)

theorem Ordinary.overrun (o : Ordinary s u) {h i frame str} : Ordinary s (u.overrun h i frame str) :=
  .ite o (.ite (.updNet <| .regAt rfl o) (.raise <| .updNet <| .updNet <| .regAt rfl o))

theorem Ordinary.writePoint (o : Ordinary s u) {h r} : Ordinary s (u.writePoint h r) :=
  .each (.regAt rfl <| .hbmWrite <| .each o fun o => .overrun o) fun o => .streamPoint o

theorem Ordinary.returnList (o : Ordinary s u) {h k items} : Ordinary s (u.returnList h k items) := .ite o (.stageReturns o)

theorem Ordinary.restartCatchup (o : Ordinary s u) {sync} : Ordinary s (u.restartCatchup sync) :=
  .leaveRequest <| .updPair <| .reg rfl <| .reg rfl <| .reg rfl o

theorem Ordinary.compared (o : Ordinary s u) {h bad} : Ordinary s (u.compared h bad) := by
  unfold State.compared
  exact .when (.when (.updPair o) fun o => .raise <| .reg rfl o) fun o => .when (.raise o) fun o => .restartCatchup o

theorem Ordinary.compareDigests (o : Ordinary s u) {h} : Ordinary s (u.compareDigests h) := by
  unfold State.compareDigests
  split
  · exact o
  · exact .compared <| .updPair o

theorem Ordinary.sendDigest (o : Ordinary s u) {h d excluded} : Ordinary s (u.sendDigest h d excluded) :=
  .ite o (.ite (.updPair o) (.compareDigests <| .updPair <| .updPair o))

theorem OrdinaryAnswer.execPointFormat {t h} : OrdinaryAnswer s (execPointFormat t h s) :=
  .run fun o => .ite o <|
    .sendDigest <| .updClosed <| .returnList <| .foldl o fun o => .foldl o fun o => .when (.writePoint o) fun o => .occur o

theorem OrdinaryAnswer.execPointFrameFlush {t str h} : OrdinaryAnswer s (execPointFrameFlush t str h s) :=
  .run fun o => .when o fun o => .closeFrame o

theorem Ordinary.streamOff (o : Ordinary s u) {str} : Ordinary s (u.streamOff str) :=
  .regAt rfl <| .when o fun o => .eachHead o fun o => .closeFrame o

theorem OrdinaryAnswer.execStreamDisable {t str} : OrdinaryAnswer s (execStreamDisable t str s) :=
  .run fun o => .streamOff o

theorem Ordinary.sendRecords (o : Ordinary s u) {str h first kind n rs} : Ordinary s (u.sendRecords str h first kind n rs) :=
  .foldl o fun o => .queueStream o

theorem Ordinary.sendGeometry (o : Ordinary s u) {str h} : Ordinary s (u.sendGeometry str h) :=
  .ite o (.sendRecords <| .updNet o)

theorem Ordinary.geometryChange (o : Ordinary s u) {h} : Ordinary s (u.geometryChange h) :=
  .each (.updNet o) fun o => .sendGeometry o

theorem OrdinaryAnswer.execGeometryRepeat {t str} : OrdinaryAnswer s (execGeometryRepeat t str s) :=
  .run fun o => .ite o (.eachHead o fun o => .when o fun o => .sendGeometry o)

theorem Ordinary.setAlarm (o : Ordinary s u) {h b a} : Ordinary s (u.setAlarm h b a) := .updNet o

theorem Ordinary.queueAlarm (o : Ordinary s u) {h kind a b} : Ordinary s (u.queueAlarm h kind a b) :=
  .ite o (.when (.when (.updNet o) fun o => .enqueue o) fun o => .enqueue o)

theorem OrdinaryAnswer.execAlarmFieldStatus {t h} : OrdinaryAnswer s (execAlarmFieldStatus t h s) :=
  .run fun o => .when o fun o => .queueAlarm o

theorem OrdinaryAnswer.execEventFrameQueue {t} : OrdinaryAnswer s (execEventFrameQueue t s) :=
  .run fun o => .updDev <| .each o fun o => .when o fun o => .sendRecords o

theorem OrdinaryAnswer.execStatusFrame {t} : OrdinaryAnswer s (execStatusFrame t s) :=
  .run fun o => .when o fun o => .each (.updNet o) fun o => .when o fun o => .queueStream o

theorem Ordinary.enqueuePtp (o : Ordinary s u) {p m} : Ordinary s (u.enqueuePtp p m) := .enqueue o

theorem Ordinary.updPtp (o : Ordinary s u) {p f} : Ordinary s (u.updPtp p f) := .updNet o

theorem Ordinary.ptpDeparted (o : Ordinary s u) {p m} : Ordinary s (u.ptpDeparted p m) := by
  unfold State.ptpDeparted
  dsimp only
  split
  · exact .enqueuePtp o
  · exact .updPtp o
  · exact .enqueuePtp o
  · exact o

theorem Ordinary.sendSync (o : Ordinary s u) {seq} : Ordinary s (u.sendSync seq) :=
  .each o fun o => .when o fun o => .enqueuePtp o

theorem Ordinary.putOnPort (o : Ordinary s u) {p bs} : Ordinary s (u.putOnPort p bs) := by
  unfold State.putOnPort
  exact .when o fun o => .updNet o

theorem Ordinary.sendNode (o : Ordinary s u) {p bs} : Ordinary s (u.sendNode p bs) :=
  .ite (.putOnPort <| .putOnPort <| .reg rfl o) (.putOnPort o)

theorem Ordinary.occupy (o : Ordinary s u) {p q bytes both} : Ordinary s (u.occupy p q bytes both) :=
  .ite (.updNet o) (.updNet <| .updNet o)

theorem Ordinary.transmit (o : Ordinary s u) {p q f} : Ordinary s (u.transmit p q f) := by
  unfold State.transmit
  dsimp only
  split
  · exact .updNet <| .putOnPort <| .when (.when o fun o => .occupy o) fun o => .drawn o
  · exact .when (.when o fun o => .occupy o) fun o => .sendNode o
  · exact .when (.when o fun o => .occupy o) fun o => .ptpDeparted <| .putOnPort o
  · exact .ite (.regAt rfl <| .updNet <| .when o fun o => .occupy o) <|
      .when (.when (.sendNode <| .updNet <| .when o fun o => .occupy o) fun o => .drawn o) fun o => .updNet o

theorem OrdinaryAnswer.execFrameTransmit {t p q} : OrdinaryAnswer s (execFrameTransmit t p q s) :=
  .run fun o => by
    split
    · exact o
    · exact .ite o (.transmit <| .updNet <| .settleShaper o)

theorem Ordinary.enqueueRaw (o : Ordinary s u) {p shared bs} : Ordinary s (u.enqueueRaw p shared bs) := .enqueue o

theorem OrdinaryAnswer.execPrpSupervision {t} : OrdinaryAnswer s (execPrpSupervision t s) :=
  .run fun o => .when o fun o => .updNet <| .enqueueRaw o

theorem OrdinaryAnswer.execNetPrpPlane {t p} : OrdinaryAnswer s (execNetPrpPlane t p s) :=
  .run fun o => .when o fun o => .raiseU o

theorem Ordinary.linkDown (o : Ordinary s u) {p} : Ordinary s (u.linkDown p) := by
  unfold State.linkDown
  exact .when o fun o => .raiseU <| .regAt rfl o

theorem OrdinaryAnswer.execNetLinkDown {t p} : OrdinaryAnswer s (execNetLinkDown t p s) := .run fun o => .linkDown o

theorem OrdinaryAnswer.execNetLinkUp {t p} : OrdinaryAnswer s (execNetLinkUp t p s) :=
  .run fun o => .when o fun o => .condOff <| .raiseU <| .regAt rfl o

/-! ### Power -/

theorem Ordinary.grantLeave (o : Ordinary s u) {l} : Ordinary s (u.grantLeave l) := by
  unfold State.grantLeave
  dsimp only
  split
  · exact .coverDwell <| .updPower <| .updPower <| .updPwr o
  · exact .updPwr o

theorem Ordinary.grantLoop (o : Ordinary s u) {who room qs free up} : Ordinary s (State.grantLoop who room qs free up u) := by
  induction qs generalizing free up u with
  | nil => exact o
  | cons q qs ih => exact .ite (.ite o (ih o)) (.ite o (ih <| .grantLeave o))

theorem Ordinary.stewardStep (o : Ordinary s u) : Ordinary s u.stewardStep :=
  .showPower <| .grantLoop <| .foldl (.updPwr o) fun o => .grantLeave o

theorem Ordinary.starve (o : Ordinary s u) : Ordinary s u.starve := .each (.updPwr o) fun o => .raise <| .reg rfl o

theorem Ordinary.retrainOver (o : Ordinary s u) : Ordinary s u.retrainOver := .foldl o fun o => .leaveEnd o

theorem OrdinaryAnswer.execStewardStep {t} : OrdinaryAnswer s (execStewardStep t s) :=
  .run fun o => .when o fun o => .starve <| .stewardStep <| .retrainOver <| .refillPool <| .updPwr o

theorem Ordinary.readSensor (o : Ordinary s u) {i r} : Ordinary s (u.readSensor i r) :=
  .ite (.raiseU <| .regAt rfl <| .regAt rfl <| .updThm o) <|
    .ite (.condOff <| .regAt rfl <| .regAt rfl <| .updThm o) (.regAt rfl <| .regAt rfl <| .updThm o)

theorem Ordinary.showThermal (o : Ordinary s u) : Ordinary s u.showThermal := by
  unfold State.showThermal
  dsimp only
  split
  · exact .drawn <| .reg rfl <| by
      split
      · exact .reg rfl o
      · exact .drawn <| .reg rfl o
  · exact .ite (.drawn <| .reg rfl <| by
      split
      · exact .reg rfl o
      · exact .drawn <| .reg rfl o)
      (.drawn <| .reg rfl <| by
        split
        · exact .reg rfl o
        · exact .drawn <| .reg rfl o)

theorem Ordinary.cond (o : Ordinary s u) {i e set clear} : Ordinary s (u.cond i e set clear) :=
  .ite (.raise <| .reg rfl o) (.ite (.reg rfl o) o)

theorem Ordinary.recall (o : Ordinary s u) : Ordinary s u.recall :=
  .foldl o fun o => .leaveRequest <| .leaveRelease <| .reg rfl o

theorem Ordinary.followCut (o : Ordinary s u) : Ordinary s u.followCut :=
  .showPower <| .eachHead (.ite (.recall <| .raise <| .reg rfl o) (.ite (.condOff <| .reg rfl o) (.reg rfl o)))
    fun o => .refreshThermal o

theorem Ordinary.hbmRelief (o : Ordinary s u) {t0 t1} : Ordinary s (u.hbmRelief t0 t1) :=
  .ite (.reg rfl <| .reg rfl <| .cond <| .updThm o) (.ite (.reg rfl <| .reg rfl <| .cond <| .updThm o) (.cond <| .updThm o))

theorem OrdinaryAnswer.execThermalRound {t readings hbm0 hbm1} : OrdinaryAnswer s (execThermalRound t readings hbm0 hbm1 s) :=
  .run fun o => .when o
    fun o => .followCut <| .cond <| .cond <| .cond <| .cond <| .hbmRelief <| .cond <| .updThm <| .showThermal <|
      .foldl (.updThm o)
    fun o => .readSensor o

theorem Ordinary.setHeadBad (o : Ordinary s u) {h bad} : Ordinary s (u.setHeadBad h bad) :=
  .refreshThermal <| .when (.updThm o) fun o => .raise o

theorem Ordinary.headTemperature (o : Ordinary s u) {h v} : Ordinary s (u.headTemperature h v) :=
  .ite (.setHeadBad <| .updThm o) (.ite (.setHeadBad <| .updThm o) (.updThm o))

theorem OrdinaryAnswer.execHeadTempTimeout {t h} : OrdinaryAnswer s (execHeadTempTimeout t h s) :=
  .run fun o => .when o fun o => .setHeadBad o

theorem Ordinary.writeRefused (o : Ordinary s u) : Ordinary s u.writeRefused := .raise <| .reg rfl o

/-! ### Lanes -/

theorem Ordinary.updPort (o : Ordinary s u) {p f} : Ordinary s (u.updPort p f) := .putLanes o

theorem Ordinary.headlink (o : Ordinary s u) {p} : Ordinary s (u.headlink p) :=
  .ite o (.tryLeaveOff <| .setInh <| .updPort o)

theorem Ordinary.showPort (o : Ordinary s u) {p} : Ordinary s (u.showPort p) :=
  .ite o <|
    .headlink <| .when (.when (.when (.each (.regAt rfl o) fun o => .when o fun o => .regAt (far_add rfl) o)
        fun o => .raiseU <| .each o fun o => .updLane o)
      fun o => .condOff o)
    fun o => .condOff o

theorem Ordinary.restripe (o : Ordinary s u) {p tx rx} : Ordinary s (u.restripe p tx rx) :=
  .ite (.showPort <| .updPort <| .regAt rfl <| .regAt rfl o) <|
    .when (.regAt rfl <| .showPort <| .updPort <| .regAt rfl <| .regAt rfl o) fun o => .raiseU o

theorem Ordinary.txPend (o : Ordinary s u) {p} : Ordinary s (u.txPend p) := .updPort o

theorem Ordinary.portStart (o : Ordinary s u) {p} : Ordinary s (u.portStart p) :=
  .ite o <|
    .showPort <| .each (.regAt rfl <| .regAt rfl <| .regAt rfl <| .each o fun o => .regAt rfl o)
    fun o => .when o fun o => .updLane o

theorem OrdinaryAnswer.execLaneTrainTimeout {t q l} : OrdinaryAnswer s (execLaneTrainTimeout t q l s) :=
  .run fun o => by
    split
    · exact o
    · exact .when o fun o => .raiseU <| .updLane o

theorem OrdinaryAnswer.execCodewordLock {t q l pos} : OrdinaryAnswer s (execCodewordLock t q l pos s) :=
  .run fun o => .ite o <| by
    dsimp only
    split
    · exact .updLane <| .regAt (far_add rfl) <| .regAt (far_add rfl) <| .regAt (far_add rfl) <| .regAt (far_add rfl) <|
        .updLane o
    · exact .ite (.updLane <| .regAt (far_add rfl) <| .regAt (far_add rfl) <| .regAt (far_add rfl) <|
          .regAt (far_add rfl) <| .updLane o) <|
        .showPort <| .regAt rfl <| .updLane <| .regAt (far_add rfl) <| .regAt (far_add rfl) <| .regAt (far_add rfl) <|
        .regAt (far_add rfl) <| .updLane o

theorem Ordinary.countFailure (o : Ordinary s u) {q l e} : Ordinary s (u.countFailure q l e) := by
  unfold State.countFailure
  exact .when (.updLane <| .raiseU <| .regAt (far_add rfl) o) fun o => .raiseU <| .regAt (far_add rfl) o

theorem Ordinary.laneFail (o : Ordinary s u) {q l c} : Ordinary s (u.laneFail q l c) :=
  .ite o <| by
    dsimp only
    split
    · exact .linkDown <| .when (.when (by
        split
        · exact .regAt (far_add rfl) o
        · exact .regAt (far_add rfl) o
        · exact .regAt (far_add rfl) o)
        fun o => .regAt (far_add rfl) <| .regAt (far_add rfl) o) fun o => .countFailure o
    · exact .ite (.txPend <| .when (.when (by
        split
        · exact .regAt (far_add rfl) o
        · exact .regAt (far_add rfl) o
        · exact .regAt (far_add rfl) o)
        fun o => .regAt (far_add rfl) <| .regAt (far_add rfl) o) fun o => .countFailure o) (.when (.when (.when (by
          split
          · exact .regAt (far_add rfl) o
          · exact .regAt (far_add rfl) o
          · exact .regAt (far_add rfl) o)
          fun o => .regAt (far_add rfl) <| .regAt (far_add rfl) o) fun o => .countFailure o) fun o => .restripe o)

theorem OrdinaryAnswer.execLaneFailure {t q l c} : OrdinaryAnswer s (execLaneFailure t q l c s) := .run fun o => .laneFail o

theorem Ordinary.laneRestore (o : Ordinary s u) {q l} : Ordinary s (u.laneRestore q l) := by
  unfold State.laneRestore
  dsimp only
  split
  · exact .regAt (far_add rfl) <| .updLane o
  · exact .when (.when (.updLane o) fun o => .txPend <| .regAt (far_add rfl) o) fun o => .restripe o

theorem OrdinaryAnswer.execLaneReadd {t q l} : OrdinaryAnswer s (execLaneReadd t q l s) :=
  .run fun o => .ite (.laneRestore <| .updLane o) o

theorem Ordinary.readd (o : Ordinary s u) {q lanes} : Ordinary s (u.readd q lanes) :=
  .each o fun o => .when o fun o => .laneRestore <| .updLane <| .regAt (far_add rfl) o

theorem OrdinaryAnswer.execLaneReaddWrite {t i q lanes} : OrdinaryAnswer s (execLaneReaddWrite t i q lanes s) :=
  .run fun o => .ite o (.ite (.accessError o) (.readd o))

theorem OrdinaryAnswer.execLinkReportSend {t p} : OrdinaryAnswer s (execLinkReportSend t p s) :=
  .run fun o => .ite o (.updPort o)

theorem OrdinaryAnswer.execLinkReportReceive {t p good rxOk} : OrdinaryAnswer s (execLinkReportReceive t p good rxOk s) :=
  .run fun o => .ite o (.txPend <| .updPort o)

theorem OrdinaryAnswer.execTransmitSetApply {t p} : OrdinaryAnswer s (execTransmitSetApply t p s) :=
  .run fun o => by
    split
    · exact o
    · exact .ite o (.restripe <| .updPort o)

theorem OrdinaryAnswer.execHeadlinkFault {t h} : OrdinaryAnswer s (execHeadlinkFault t h s) :=
  .run fun o => .when o fun o => .headFault o

theorem OrdinaryAnswer.execHkUpReceive {t h rx values} : OrdinaryAnswer s (execHkUpReceive t h rx values s) :=
  .run fun o => .ite (.codeword o) <| by
    split
    · exact .headTemperature <| .codeword o
    · exact .codeword o

theorem OrdinaryAnswer.execMgmtUpReceive {t h rx status data tag} :
    OrdinaryAnswer s (execMgmtUpReceive t h rx status data tag s) :=
  .run fun o => .when (.codeword o) fun o => .putLanes o

/-! ### Pair -/

theorem Ordinary.refreshFit (o : Ordinary s u) : Ordinary s u.refreshFit := by
  unfold State.refreshFit
  exact .updPair <| .reg rfl o

theorem OrdinaryAnswer.execHeartbeatSend {t} : OrdinaryAnswer s (execHeartbeatSend t s) := .run fun o => .ite o (.updPair o)

theorem Ordinary.announce (o : Ordinary s u) : Ordinary s u.announce := .each o fun o => .when o fun o => .enqueueRaw o

theorem Ordinary.claimToken (o : Ordinary s u) : Ordinary s u.claimToken :=
  .announce <| .updPair <| .when (.reg rfl <| .reg rfl <| .reg rfl <| .reg rfl <| .reg rfl <| .reg rfl o)
    fun o => .raise <| .reg rfl <| by
      split
      · exact .reg rfl o
      · exact o

theorem OrdinaryAnswer.execTokenClaim {t} : OrdinaryAnswer s (execTokenClaim t s) := .run fun o => .ite (.claimToken o) o

theorem Ordinary.chainTakeover (o : Ordinary s u) {h} : Ordinary s (u.chainTakeover h) := by
  unfold State.chainTakeover
  dsimp only
  split
  · exact o
  · exact .chainNext <| .refreshEmitter <| .updChain o

theorem OrdinaryAnswer.execTokenInhibitClear {t} : OrdinaryAnswer s (execTokenInhibitClear t s) :=
  .run fun o => .ite o (.eachHead (.updPair o) fun o => .chainTakeover <| .setInh o)

theorem Ordinary.tokenConflict (o : Ordinary s u) : Ordinary s u.tokenConflict :=
  .ite o (.updPair <| .raise <| .reg rfl <| .putFresh <| .reg rfl <| .tokenRelease o)

theorem Ordinary.readTokenIn (o : Ordinary s u) : Ordinary s u.readTokenIn := .tokenConflict <| .when o fun o => .updPair o

theorem OrdinaryAnswer.execTokenInChange {t a b} : OrdinaryAnswer s (execTokenInChange t a b s) :=
  .run fun o => .readTokenIn <| .reg rfl <| .when o fun o => .updPair o

theorem OrdinaryAnswer.execTokenRetry {t} : OrdinaryAnswer s (execTokenRetry t s) :=
  .run fun o => .ite (.claimToken <| .updPair o) o

theorem OrdinaryAnswer.execHolderHbSilence {t b} : OrdinaryAnswer s (execHolderHbSilence t b s) :=
  .run fun o => .ite o (.ite (.tokenRelease o) (.reg rfl o))

theorem OrdinaryAnswer.execPairHandover {t i} : OrdinaryAnswer s (execPairHandover t i s) :=
  .run fun o => .ite (.handover o) (.refuse o)

theorem OrdinaryAnswer.execPairRejoin {t} : OrdinaryAnswer s (execPairRejoin t s) :=
  .run fun o => .when o fun o => .refreshFit <| .restartCatchup o

theorem Ordinary.holderRole (o : Ordinary s u) {hb} : Ordinary s (u.holderRole hb) :=
  .ite o (.ite (.updPair <| .reg rfl <| .reg rfl o) (.reg rfl o))

theorem Ordinary.tokenLines (o : Ordinary s u) {hb} : Ordinary s (u.tokenLines hb) := by
  unfold State.tokenLines
  exact .when (.reg rfl <| .when (.when (.when (.when (.updPair o) fun o => .raiseU o) fun o => .raiseU o)
        fun o => .condOff o)
      fun o => .condOff o)
    fun o => .handover o

theorem Ordinary.adoptOpens (o : Ordinary s u) {hb} : Ordinary s (u.adoptOpens hb) :=
  .eachHead o fun o => by
    split
    · exact o
    · exact .ite (.raise <| .reg rfl <| .updPair <| .updScan o) o

theorem Ordinary.followHeads (o : Ordinary s u) {hb} : Ordinary s (u.followHeads hb) :=
  .eachHead o fun o => by
    split
    · exact o
    · exact .ite (.updPair <| .headScan o) o

theorem Ordinary.join (o : Ordinary s u) {hb j} : Ordinary s (u.join hb j) :=
  .restartCatchup <| .updPair <| .updNet <| .foldl (.foldl (.reg rfl <| .updTach <| .foldl (.eachHead o
          fun o => .updEye <| .foldl o fun o => .eyeTurn o)
        fun o => .updEye o)
      fun o => .regAt rfl o)
    fun o => .regAt rfl o

theorem Ordinary.pruneSent (o : Ordinary s u) {hb} : Ordinary s (u.pruneSent hb) := .updNet o

theorem Ordinary.formRole (o : Ordinary s u) {hb join} : Ordinary s (u.formRole hb join) := by
  unfold State.formRole
  refine .ite o (.ite (.refreshFit <| .reg rfl o) (.ite ?_ (.ite (.updPair <| .refreshFit o) (.refreshFit o))))
  refine .refreshFit <| .when (.adoptOpens <| .pruneSent ?_) fun o => .followHeads o
  split
  · exact .when (.when o fun o => .updPair <| .reg rfl o) fun o => .join o
  · exact .when o fun o => .updPair <| .reg rfl o

theorem OrdinaryAnswer.execHeartbeatReceive {t p rx hb join} : OrdinaryAnswer s (execHeartbeatReceive t p rx hb join s) :=
  .run fun o => .ite (.codeword o) <|
    .after (fun o => .ite (.updPair o) o) <|
    .formRole <| .holderRole <| .tokenLines <| .when (.when (.condOff <| .condOff <| .when (.reg rfl <| .reg rfl <|
          .reg rfl <| .updPair <| .codeword o)
        fun o => .drawn <| .reg rfl o)
      fun o => .raise o)
    fun o => .condOff o

theorem OrdinaryAnswer.execHeartbeatLost {t} : OrdinaryAnswer s (execHeartbeatLost t s) :=
  .run fun o => by
    split
    · exact o
    · exact .ite o <|
        .ite (.reg rfl <| .raise <| .reg rfl <| .reg rfl <| .updPair <| .refreshFit o) <|
        .ite (.raise <| .updPair <| .raise <| .reg rfl <| .reg rfl <| .updPair <| .refreshFit o) <|
        .ite (.updPair <| .raise <| .reg rfl <| .reg rfl <| .updPair <| .refreshFit o) <|
        .raise <| .reg rfl <| .reg rfl <| .updPair <| .refreshFit o

theorem OrdinaryAnswer.execPairJoinTimeout {t} : OrdinaryAnswer s (execPairJoinTimeout t s) :=
  .run fun o => .ite (.updPair o) o

theorem Ordinary.pairSeal (o : Ordinary s u) : Ordinary s u.pairSeal :=
  .ite (.reg rfl <| .reg rfl <| .reg rfl <| .updPair o) (.eachHead (.reg rfl <| .reg rfl <| .updPair o) fun o => .setInh o)

theorem OrdinaryAnswer.execDigestReceive {t p rx d} : OrdinaryAnswer s (execDigestReceive t p rx d s) :=
  .run fun o => .ite (.codeword o) (.compareDigests <| .updPair <| .codeword o)

theorem OrdinaryAnswer.execDigestTimeout {t h} : OrdinaryAnswer s (execDigestTimeout t h s) :=
  .run fun o => by
    split
    · exact o
    · exact .ite o (.compared <| .updPair o)

theorem OrdinaryAnswer.execCatchupRecord {t p rx bid record} : OrdinaryAnswer s (execCatchupRecord t p rx bid record s) :=
  .run fun o => .ite (.codeword o) (.after (fun o => .ite (.ite (.reg rfl <| .updPair o) <| by
    split
    · exact .raise <| .refreshFit <| .leaveEnd <| .reg rfl <| .reg rfl <| .reg rfl <| .updPair o
    · exact .reg rfl <| .reg rfl <| .updPair o)
    <| by
      dsimp only
      split
      · exact .raise <| .refreshFit <| .leaveEnd <| .reg rfl <| .reg rfl <| .updPair o
      · exact .reg rfl <| .updPair o)
      (.when (.codeword o) fun o => .hbmWrite o))

/-! ### Clocks -/

theorem Ordinary.forceOpenDwells (o : Ordinary s u) : Ordinary s u.forceOpenDwells :=
  .eachHead o fun o => .when o fun o => .updScan o

theorem Ordinary.showTpll (o : Ordinary s u) : Ordinary s u.showTpll := .refreshTiming <| .reg rfl o

theorem OrdinaryAnswer.execRefclkLoss {t} : OrdinaryAnswer s (execRefclkLoss t s) :=
  .run fun o => .when o
    fun o => .handover <| .raise <| .forceOpenDwells <| .updClk <| .refreshTiming <| .reg rfl <| .reg rfl o

theorem OrdinaryAnswer.execRefclkGood {t} : OrdinaryAnswer s (execRefclkGood t s) :=
  .run fun o => .when o fun o => .refreshTiming <| .reg rfl <| .reg rfl o

theorem OrdinaryAnswer.execTimingPllLossOfLock {t} : OrdinaryAnswer s (execTimingPllLossOfLock t s) :=
  .run fun o => .when o fun o => .handover <| .raise <| .forceOpenDwells <| .showTpll <| .reg rfl <| .reg rfl o

theorem Ordinary.timingBack (o : Ordinary s u) : Ordinary s u.timingBack :=
  .ite (.showTpll o) (.showTpll <| .updClk <| .each o fun o => .updLine <| .newEpoch o)

theorem OrdinaryAnswer.execTimingPllRelock {t} : OrdinaryAnswer s (execTimingPllRelock t s) :=
  .run fun o => .when o fun o => .timingBack <| .reg rfl o

theorem OrdinaryAnswer.execTimingPllBypass {t i on} : OrdinaryAnswer s (execTimingPllBypass t i on s) :=
  .run fun o => .ite o (.ite (.accessError o) (.ite (.showTpll <| .reg rfl o) (.timingBack <| .reg rfl o)))

theorem OrdinaryAnswer.execLogicPllLossOfLock {t} : OrdinaryAnswer s (execLogicPllLossOfLock t s) :=
  .run fun o => .when o fun o => .raise <| .updClk <| .reg rfl <| .reg rfl o

theorem OrdinaryAnswer.execLogicPllRelock {t} : OrdinaryAnswer s (execLogicPllRelock t s) :=
  .run fun o => .condOff <| .updClk <| .reg rfl o

theorem OrdinaryAnswer.execLogicPllBypass {t i on} : OrdinaryAnswer s (execLogicPllBypass t i on s) :=
  .run fun o => .ite o (.ite (.accessError o) (.ite (.refuse o) (.reg rfl o)))

theorem OrdinaryAnswer.execLaneRefLoss {t i} : OrdinaryAnswer s (execLaneRefLoss t i s) :=
  .run fun o => .when o
    fun o => .each (.raiseU <| .reg rfl <| .updClk o)
    fun o => .when o fun o => .each (.regAt rfl o) fun o => .laneFail <| .laneFail o

theorem OrdinaryAnswer.execLaneRefReturn {t i} : OrdinaryAnswer s (execLaneRefReturn t i s) :=
  .run fun o => .when o fun o => .each (.reg rfl o) fun o => .when o fun o => .regAt rfl o

theorem Ordinary.stepTime (o : Ordinary s u) {target} : Ordinary s (u.stepTime target) :=
  .raise <| .updClk <| .reg rfl <| .putDtFine o

theorem Ordinary.enterHoldover (o : Ordinary s u) : Ordinary s u.enterHoldover :=
  .ite o (.raise <| .updClk <| .reg rfl <| .when o fun o => .drawn <| .reg rfl o)

theorem Ordinary.leaveHoldover (o : Ordinary s u) : Ordinary s u.leaveHoldover :=
  .ite o (.refreshTiming <| .reg rfl <| .reg rfl <| .updClk <| .reg rfl o)

theorem Ordinary.offsetSample (o : Ordinary s u) {theta ts} : Ordinary s (u.offsetSample theta ts) :=
  .ite (.stepTime <| .updClk <| .leaveHoldover o) <|
    .when (.reg rfl <| .reg rfl <| .updClk <| .leaveHoldover o) fun o => .raise o

/-! ### Domain -/

theorem Ordinary.updDom (o : Ordinary s u) {f} : Ordinary s (u.updDom f) := .putDom o

theorem Ordinary.domPut (o : Ordinary s u) {port m} : Ordinary s (u.domPut port m) :=
  .ite (.reg rfl <| .iteFst (.portTake o) o) (.updDom <| .iteFst (.portTake o) o)

theorem Ordinary.domDown (o : Ordinary s u) {m} : Ordinary s (u.domDown m) := .each o fun o => .when o fun o => .domPut o

theorem Ordinary.domSend (o : Ordinary s u) {type via dst body} : Ordinary s (u.domSend type via dst body) := by
  unfold State.domSend
  dsimp only
  split
  · exact .domPut <| .updDom o
  · exact .domPut <| .domDown <| .updDom o

theorem Ordinary.domArrive (o : Ordinary s u) {via hdr} : Ordinary s (u.domArrive via hdr).1 :=
  .iteFst (by
    split
    · exact .codeword o
    · exact o)
    (.iteFst (.reg rfl <| by
      split
      · exact .codeword o
      · exact o)
      (.when (by
        split
        · exact .codeword o
        · exact o)
        fun o => .updDom o))

theorem Ordinary.domForward (o : Ordinary s u) {type hdr body} : Ordinary s (u.domForward type hdr body) :=
  .ite (.domDown o) (.ite o <| by
    split
    · exact .domPut o
    · exact o)

theorem Ordinary.domMessage (o : Ordinary s u) {via hdr type body} {f : State → State}
    (h : ∀ {v}, Ordinary s v → Ordinary s (f v)) : Ordinary s (u.domMessage via hdr type body f) :=
  .ite (.domArrive o) (.ite (h <| .domForward <| .domArrive o) (.domForward <| .domArrive o))

theorem Ordinary.showMembers (o : Ordinary s u) : Ordinary s u.showMembers := .reg rfl o

theorem Ordinary.sendTable (o : Ordinary s u) {body} : Ordinary s (u.sendTable body) := by
  unfold State.sendTable
  split
  · exact .domSend o
  · exact .domSend o

theorem Ordinary.sendPlan (o : Ordinary s u) {did} : Ordinary s (u.sendPlan did) := .ite o (.domSend o)

theorem OrdinaryAnswer.execJoinReceive {t via hdr pref depth heads} :
    OrdinaryAnswer s (execJoinReceive t via hdr pref depth heads s) :=
  .run fun o => .ite (.domArrive o) (.ite (.optElim (.domArrive o) (.domPut <| .domArrive o)) <| by
    dsimp only
    split
    · exact .domSend <| .domArrive o
    · exact .sendPlan <| .sendTable <| .domSend <| .showMembers <| .updDom <| .domArrive o)

theorem Ordinary.joinMessage (o : Ordinary s u) : Ordinary s u.joinMessage := by
  unfold State.joinMessage
  split
  · exact .domSend o
  · exact o

theorem Ordinary.sendJoin (o : Ordinary s u) : Ordinary s u.sendJoin :=
  .ite o <|
    .ite (.when o fun o => .raise o) (.joinMessage <| .when (.reg rfl <| .when o fun o => .reg rfl o) fun o => .reg rfl o)

theorem OrdinaryAnswer.execJoinSend {t} : OrdinaryAnswer s (execJoinSend t s) := .run fun o => .ite o (.sendJoin o)

theorem OrdinaryAnswer.execAdmitReceive {t via hdr serial a} : OrdinaryAnswer s (execAdmitReceive t via hdr serial a s) :=
  .run fun o => .ite (.domArrive o) (.ite (by
    split
    · exact .domPut <| .domArrive o
    · exact .domArrive o)
    <| by
      split
      · exact .condOff <| .reg rfl <| .reg rfl <| .domArrive o
      · exact .when (.reg rfl <| .domArrive o) fun o => .raise o
      · exact .sendJoin <| .reg rfl <| .domArrive o)

theorem OrdinaryAnswer.execRollSend {t} : OrdinaryAnswer s (execRollSend t s) :=
  .run fun o => .ite o (.domSend <| .foldl (.updDom o) fun o => .showMembers <| .sendTable <| .updDom o)

theorem OrdinaryAnswer.execRollReceive {t via hdr} : OrdinaryAnswer s (execRollReceive t via hdr s) :=
  .run fun o => .domMessage o fun o => .ite (.sendJoin o) (.ite (.domSend o) o)

theorem OrdinaryAnswer.execRollAnsReceive {t via hdr did serial role depth heads} :
    OrdinaryAnswer s (execRollAnsReceive t via hdr did serial role depth heads s) :=
  .run fun o => .domMessage o
    fun o => .ite o <|
    .ite (.sendTable <| .domSend <| .raise <| .reg rfl o) (.when (.updDom o) fun o => .foldl o fun o => .sendTable o)

theorem OrdinaryAnswer.execTableReceive {t via hdr op} : OrdinaryAnswer s (execTableReceive t via hdr op s) :=
  .run fun o => .domMessage o fun o => .ite o (.updDom o)

theorem OrdinaryAnswer.execDidReservationExpiry {t did} : OrdinaryAnswer s (execDidReservationExpiry t did s) :=
  .run fun o => .updDom o

theorem OrdinaryAnswer.execBeaconSend {t} : OrdinaryAnswer s (execBeaconSend t s) :=
  .run fun o => .when o fun o => .sendSync <| .domSend <| .updDom o

theorem Ordinary.followBeacon (o : Ordinary s u) {port hdr master members} :
    Ordinary s (u.followBeacon port hdr master members) := by
  unfold State.followBeacon
  exact .when (.condOff <| .condOff <| .when (.reg rfl <| .reg rfl <| .reg rfl <| .reg rfl <| .when o fun o => .reg rfl o)
      fun o => .condOff o)
    fun o => .joinMessage <| .reg rfl o

theorem OrdinaryAnswer.execBeaconReceive {t via hdr master gen members} :
    OrdinaryAnswer s (execBeaconReceive t via hdr master gen members s) :=
  .run fun o => .domMessage o
    fun o => .ite (.ite (.sendJoin <| .followBeacon <| .when (.updDom <| .reg rfl <| .raise <| .reg rfl o)
        fun o => .reg rfl o) o) <|
    .ite o (.after (fun o => .ite (.followBeacon o) o) (.when (.when (.updDom o) fun o => .reg rfl o) fun o => .reg rfl o))

theorem OrdinaryAnswer.execBeaconTimeout {t} : OrdinaryAnswer s (execBeaconTimeout t s) :=
  .run fun o => .ite o <| by
    split
    · exact o
    · exact .ite o <|
        .ite (.reg rfl o) <|
        .ite o <|
        .ite (.domSend <| .updDom <| .raise <| .showMembers <| .reg rfl <| .reg rfl <| .reg rfl <| .reg rfl <| .raise <|
          .updDom o) <|
        .enterHoldover <| .reg rfl <| .updDom o

theorem OrdinaryAnswer.execHoldoverLong {t} : OrdinaryAnswer s (execHoldoverLong t s) :=
  .run fun o => .when o fun o => .raise o

theorem OrdinaryAnswer.execHoldAlignExpiry {t} : OrdinaryAnswer s (execHoldAlignExpiry t s) :=
  .run fun o => .when o fun o => .refreshTiming <| .reg rfl o

theorem OrdinaryAnswer.execMarkerSend {t c fine} : OrdinaryAnswer s (execMarkerSend t c fine s) :=
  .run fun o => .ite o (.domSend <| .updDom o)

theorem Ordinary.checkPhase (o : Ordinary s u) {phase} : Ordinary s (u.checkPhase phase) :=
  .ite (.raise <| .refreshTiming <| .reg rfl <| .reg rfl o) o

theorem OrdinaryAnswer.execMarkerReceive {t c rx hdr fine turn phase} :
    OrdinaryAnswer s (execMarkerReceive t c rx hdr fine turn phase s) :=
  .run fun {r v} o => by
    have p : Ordinary r (v.domArrive (.port c rx) hdr).1 := .domArrive o
    generalize v.domArrive (.port c rx) hdr = x at p ⊢
    obtain ⟨w, ok⟩ := x
    exact .ite p (.checkPhase <| .ite (.domSend p) (.domSend <| .updDom p))

theorem OrdinaryAnswer.execMarkerFuReceive {t c rx hdr t1 t4} : OrdinaryAnswer s (execMarkerFuReceive t c rx hdr t1 t4 s) :=
  .run fun {r v} o => by
    have p : Ordinary r (v.domArrive (.port c rx) hdr).1 := .domArrive o
    generalize v.domArrive (.port c rx) hdr = x at p ⊢
    obtain ⟨w, ok⟩ := x
    have q {a b} : Ordinary r ((w.drawn.wrS (R.DOM_HOP.VALUE c) a).wrS R.DOM_TIME_ERR.VALUE b) :=
      .reg rfl <| .regAt rfl <| .drawn p
    exact .ite p (.ite (.updPort <| .updDom q) (.ite (.offsetSample <| .updDom q) (.updDom q)))

theorem OrdinaryAnswer.execSyncReqReceive {t via hdr at_} : OrdinaryAnswer s (execSyncReqReceive t via hdr at_ s) :=
  .run fun o => .domMessage o fun o => .ite (.updClk o) o

theorem OrdinaryAnswer.execSyncInEdge {t} : OrdinaryAnswer s (execSyncInEdge t s) :=
  .run fun o => .ite (.updDom <| .updClk o) o

theorem OrdinaryAnswer.execDividerReset {t} : OrdinaryAnswer s (execDividerReset t s) :=
  .run fun o => .ite o <| by
    split
    · exact .ite o (.refreshTiming <| .reg rfl <| .reg rfl <| .updClk <| .stepTime <| .drawn o)
    · exact .ite (.refreshTiming <| .reg rfl <| .reg rfl <| .updClk o) o
    · exact o

theorem OrdinaryAnswer.execPlanReceive {t via hdr gen eff entries} :
    OrdinaryAnswer s (execPlanReceive t via hdr gen eff entries s) :=
  .run fun o => .domMessage o fun o => .updDom o

theorem Ordinary.applyPlan (o : Ordinary s u) {h} : Ordinary s (u.applyPlan h).1 := by
  unfold State.applyPlan
  split
  · exact o
  · exact .reg rfl <| .regAt rfl <| .regAt rfl <| .regAt rfl o

theorem Ordinary.noticeLate (o : Ordinary s u) {h} : Ordinary s (u.noticeLate h) := .raise <| .reg rfl <| .updScan o

theorem OrdinaryAnswer.execNoticeReceive {t via hdr owner n} : OrdinaryAnswer s (execNoticeReceive t via hdr owner n s) :=
  .run fun o => .domMessage o fun o => .foldl o fun o => by
    split
    · exact .after (fun o => .ite o (.ite (.updScan o) (.noticeLate o))) (.when o fun o => .headScan o)
    · exact .when o fun o => .updScan o

theorem OrdinaryAnswer.execNoticeDeadline {t h} : OrdinaryAnswer s (execNoticeDeadline t h s) :=
  .run fun o => .ite (.noticeLate o) o

theorem Ordinary.sendNotice (o : Ordinary s u) {h body} : Ordinary s (u.sendNotice h body) := .ite (.domSend o) o

theorem Ordinary.domSeal (o : Ordinary s u) : Ordinary s u.domSeal :=
  .ite o (.ite (.showMembers <| .updDom <| .reg rfl <| .reg rfl <| .reg rfl <| .reg rfl o) (.reg rfl <| .reg rfl o))

/-! ### Memory -/

theorem Ordinary.updPc (o : Ordinary s u) {i f} : Ordinary s (u.updPc i f) := .updMem o

theorem Ordinary.stackFail (o : Ordinary s u) {st} : Ordinary s (u.stackFail st) :=
  .ite o (.when (.raiseU <| .reg rfl o) fun o => .raise <| .putBoot o)

theorem Ordinary.memUncorrectable (o : Ordinary s u) {a} : Ordinary s (u.memUncorrectable a) := by
  unfold State.memUncorrectable
  exact .when (.raise <| .updMem <| .reg rfl <| .reg rfl <| .regAt rfl o) fun o => .stackFail o

theorem Ordinary.issue (o : Ordinary s u) {j} : Ordinary s (u.issue j) :=
  .updPc <| .updMem <| .when o fun o => .updMemPort o

theorem Ordinary.issueHeld (o : Ordinary s u) {p js} : Ordinary s (State.issueHeld p js u) := by
  induction js generalizing u with
  | nil => exact .updMemPort o
  | cons j js ih => exact .ite (ih <| .issue o) (.updMemPort o)

theorem Ordinary.pcTurn (o : Ordinary s u) {i} : Ordinary s (u.pcTurn i) := by
  unfold State.pcTurn
  dsimp only
  split
  · exact .updPc o
  · exact .ite (.hbmWrite <| .updPc <| .updPc o) (.updPc <| .updPc o)

theorem Ordinary.memRequest (o : Ordinary s u) {r} : Ordinary s (u.memRequest r) :=
  .pcTurn <| .when (.issueHeld <| .fillBucket o) fun o => .regAt rfl o

theorem Ordinary.memRead (o : Ordinary s u) {p a n} : Ordinary s (u.memRead p a n).1 := .each o fun o => .memRequest o

theorem OrdinaryAnswer.execMemRequestIssue {t r} : OrdinaryAnswer s (execMemRequestIssue t r s) :=
  .run fun o => .memRequest o

theorem Ordinary.spillLost (o : Ordinary s u) {i} : Ordinary s (u.spillLost i) := by
  unfold State.spillLost
  split
  · exact o
  · exact .dropTaken <| .putSpill o

theorem Ordinary.pointLost (o : Ordinary s u) {h i} : Ordinary s (u.pointLost h i) :=
  .each o fun o => .when o fun o => .when o fun o => .updNet <| .regAt rfl o

theorem Ordinary.stagedLost (o : Ordinary s u) {a} : Ordinary s (u.stagedLost a) := .foldl (.updCap o) fun o => .capLost o

theorem Ordinary.unreadable (o : Ordinary s u) {a other} : Ordinary s (u.unreadable a other) :=
  .ite (.spillLost o) <|
    .ite (.when o fun o => .raise o) (.ite (.reg rfl o) (.ite (.stagedLost o) (.ite (.pointLost <| .pointLost o) o)))

theorem OrdinaryAnswer.execMemReadComplete {t p addr sev other} : OrdinaryAnswer s (execMemReadComplete t p addr sev other s) :=
  .run fun o => .pcTurn <| .issueHeld <| .fillBucket <| .when (.when (.updMemPort <| .updPc o)
      fun o => .raise <| .regAt rfl o)
    fun o => .unreadable <| .memUncorrectable o

theorem OrdinaryAnswer.execRetrainPause {t pc res} : OrdinaryAnswer s (execRetrainPause t pc res s) :=
  .run fun o => .when o fun o => by
    dsimp only
    split
    · exact .updPc <| .leaveRequest <| .updMem <| .updPc o
    · exact .when (.raiseU <| .reg rfl <| .updPc <| .leaveRequest <| .updMem <| .updPc o) fun o => .stackFail o

theorem OrdinaryAnswer.execSelfRefreshEntry {t c} : OrdinaryAnswer s (execSelfRefreshEntry t c s) :=
  .run fun o => .ite (.reg rfl <| .updMem o) o

theorem OrdinaryAnswer.execRateChangeRequest {t i slow} : OrdinaryAnswer s (execRateChangeRequest t i slow s) :=
  .run fun o => by
    split
    · exact .reg rfl <| .reg rfl o
    · exact .ite (.accessError o) (.reg rfl <| .reg rfl <| .reg rfl o)

theorem Ordinary.completeFlight (o : Ordinary s u) {i} : Ordinary s (u.completeFlight i) := .each o fun o => .pcTurn o

theorem OrdinaryAnswer.execStackRateChange {t st} : OrdinaryAnswer s (execStackRateChange t st s) :=
  .run fun o => .ite o <|
    .when (.updMem <| .reg rfl <| .each o fun o => .completeFlight o) fun o => .updMem <| .raise <| .reg rfl <| .reg rfl o

theorem OrdinaryAnswer.execScrubUnit {t sev written} : OrdinaryAnswer s (execScrubUnit t sev written s) :=
  .run fun o => .when o
    fun o => .ite (.portTake o) <|
    .after (fun o => .ite o (.ite (.memUncorrectable o) (.hbmWrite <| .memUncorrectable o))) <|
    .when (.updMem <| .portTake o) fun o => .raise <| .regAt rfl o

theorem OrdinaryAnswer.execWipeComplete {t} : OrdinaryAnswer s (execWipeComplete t s) :=
  .run fun o => .ite o (.each (.leaveEnd <| .reg rfl o) fun o => .issueHeld o)

theorem OrdinaryAnswer.execHbmPllLossOfLock {t st} : OrdinaryAnswer s (execHbmPllLossOfLock t st s) :=
  .run fun o => .stackFail <| .raiseU <| .reg rfl <| .reg rfl o

/-! ### SafetyIo -/

theorem Ordinary.chanHold (o : Ordinary s u) {m b} : Ordinary s (u.chanHold m b) := by
  unfold State.chanHold
  split
  · exact o
  · exact .updSafe o

theorem Ordinary.chanRaise (o : Ordinary s u) {m} : Ordinary s (u.chanRaise m) := .eachIsland o fun o => .chanHold o

theorem Ordinary.evalChannel (o : Ordinary s u) {m b} : Ordinary s (u.evalChannel m b) :=
  .ite (.ite (.chanHold o) (.updSafe <| .regOn <| .chanHold o)) (.ite (.chanOff <| .chanHold o) (.chanHold o))

theorem Ordinary.evalPair (o : Ordinary s u) {m} : Ordinary s (u.evalPair m) := by
  unfold State.evalPair
  exact .when (.reg rfl <| .eachIsland o fun o => .evalChannel o) fun o => .occurNow o

theorem Ordinary.evalPairs (o : Ordinary s u) : Ordinary s u.evalPairs := .reg rfl <| .each o fun o => .evalPair o

theorem OrdinaryAnswer.execOssdOnDelayExpiry {t m} : OrdinaryAnswer s (execOssdOnDelayExpiry t m s) :=
  .run fun o => .evalPair o

theorem OrdinaryAnswer.execHeadStale {t h} : OrdinaryAnswer s (execHeadStale t h s) := .run fun o => .evalPairs o

theorem Ordinary.chanTo (o : Ordinary s u) {m b on} : Ordinary s (u.chanTo m b on) := .updSafe <| .regOn o

theorem OrdinaryAnswer.execOssdTestStart {t m b} : OrdinaryAnswer s (execOssdTestStart t m b s) :=
  .run fun o => .when o fun o => .updSafe <| .chanTo o

theorem OrdinaryAnswer.execOssdTestEnd {t m b} : OrdinaryAnswer s (execOssdTestEnd t m b s) :=
  .run fun o => .when o fun o => .updSafe <| .chanTo o

theorem Ordinary.ossdFault (o : Ordinary s u) {m} : Ordinary s (u.ossdFault m) := .ite o (.raiseU <| .pairOff <| .reg rfl o)

theorem Ordinary.readback (o : Ordinary s u) {m b rb} : Ordinary s (u.readback m b rb) := by
  unfold State.readback
  exact .when o fun o => .ossdFault o

theorem Ordinary.frameJudge (o : Ordinary s u) {h i} : Ordinary s (u.frameJudge h i) := .ite o (.updBreach o)

theorem Ordinary.alarmChange (o : Ordinary s u) {h slow} : Ordinary s (u.alarmChange h slow) :=
  .queueAlarm <| .setAlarm <| .setAlarm <| .setAlarm <| .setAlarm o

theorem Ordinary.judgeFrames (o : Ordinary s u) {h} : Ordinary s (u.judgeFrames h) :=
  .alarmChange <| .eachIsland o fun o => .frameJudge o

theorem Ordinary.decideWith (o : Ordinary s u) {h ra rb slow forcedA forcedB differ judge} :
    Ordinary s (u.decideWith h ra rb slow forcedA forcedB differ judge) :=
  .evalPairs <| .when (.alarmChange <| .when (.when (.when (.setAlarm <| .updBreach <| .setAlarm <| .updBreach o)
          fun o => .eachIsland o fun o => .frameJudge o)
        fun o => .occur o)
      fun o => .occur o)
    fun o => .raise <| .putFresh <| .reg rfl o

theorem Ordinary.decideFast (o : Ordinary s u) {h missA missB differ} : Ordinary s (u.decideFast h missA missB differ) :=
  .decideWith <| .updClosed <| .each o fun o => .raise <| .reg rfl o

theorem OrdinaryAnswer.execSafetyDecision {t h slow differ} : OrdinaryAnswer s (execSafetyDecision t h slow differ s) :=
  .run fun o => .ite o (.ite (.ite o (.decideFast o)) (.ite o (.updClosed <| .decideWith o)))

theorem OrdinaryAnswer.execDecisionDeadline {t h a b} : OrdinaryAnswer s (execDecisionDeadline t h a b s) :=
  .run fun o => .ite o (.decideFast <| .raise <| .reg rfl o)

theorem Ordinary.updChannel (o : Ordinary s u) {c f} : Ordinary s (u.updChannel c f) := .updSafe o

theorem Ordinary.updInput (o : Ordinary s u) {n f} : Ordinary s (u.updInput n f) := .updSafe o

theorem Ordinary.inputSel (o : Ordinary s u) : Ordinary s u.inputSel := .eachHead o fun o => .when o fun o => .refreshSel o

theorem Ordinary.showInput (o : Ordinary s u) {n} : Ordinary s (u.showInput n) := by
  unfold State.showInput
  dsimp only
  split
  · exact o
  · generalize shown : State.eachHead _ _ = v
    have p : Ordinary s v := by
      rw [← shown]
      exact .eachHead (.when (.reg rfl o) fun o => .updSafe o) fun o => .when o fun o => .setInh o
    split
    · exact .when p fun o => .raiseU o
    · exact .ite (.condOff p) (.raiseU <| .ossdOff p)
    · exact p

theorem Ordinary.inputFaults (o : Ordinary s u) {n cross} : Ordinary s (u.inputFaults n cross) :=
  .ite o <|
    .ite (.raiseU <| .inputSel <| .raiseU <| .showInput <| .updInput <| .regIf rfl rfl o) <|
    .raiseU <| .showInput <| .updInput <| .regIf rfl rfl o

theorem Ordinary.faultClears (o : Ordinary s u) {n} : Ordinary s (u.faultClears n) :=
  .after (fun o => .ite (.inputSel o) o) (.showInput <| .condOff <| .condOff <| .updInput <| .reg rfl <| .reg rfl o)

theorem Ordinary.clearStep (o : Ordinary s u) {n} : Ordinary s (u.clearStep n) :=
  .ite o (.ite (.updInput o) (.ite o (.ite (.faultClears o) (.updInput o))))

theorem Ordinary.discTimeout (o : Ordinary s u) {n} : Ordinary s (u.discTimeout n) := by
  unfold State.discTimeout
  split
  · exact .ite (.reg rfl <| .inputFaults o) o
  · exact o

theorem Ordinary.rstStep (o : Ordinary s u) : Ordinary s u.rstStep := by
  unfold State.rstStep
  dsimp only
  split
  · exact .when o fun o => .updSafe o
  · exact .ite (.updSafe o) (.when o fun o => .updSafe o)
  · exact .ite (.updSafe o) (.when o fun o => .updSafe o)
  · exact .ite (.updSafe o) (.when o fun o => .updSafe o)
  · exact .ite (.updSafe o) (.when o fun o => .updSafe o)
  · exact .when o fun o => .updSafe o

theorem Ordinary.showReset (o : Ordinary s u) : Ordinary s u.showReset :=
  .rstStep <| .when (.reg rfl <| .reg rfl o) fun o => .condOff <| .reg rfl o

theorem OrdinaryAnswer.execInputFilterChange {t c level} : OrdinaryAnswer s (execInputFilterChange t c level s) :=
  .run fun o => .ite (.ite (.showInput <| .updChannel o) (.showReset <| .updChannel o)) o

theorem Ordinary.sampleChannel (o : Ordinary s u) {c raw} : Ordinary s (u.sampleChannel c raw) :=
  .ite (.updChannel o) <|
    .ite (.updChannel <| .updChannel o) (.ite (.updChannel <| .updChannel o) (.updChannel <| .updChannel o))

theorem Ordinary.testVerdict (o : Ordinary s u) {c} : Ordinary s (u.testVerdict c) := by
  unfold State.testVerdict
  exact .when (.ite (.ite (.updInput <| .updChannel o) (.ite (.faultClears <| .updChannel o) (.updInput <| .updChannel o))) <|
      .updChannel o)
    fun o => .inputFaults o

theorem OrdinaryAnswer.execTestPulse {t k} : OrdinaryAnswer s (execTestPulse t k s) :=
  .run fun o => .ite o (.each (.updSafe o) fun o => .when o fun o => .testVerdict o)

theorem OrdinaryAnswer.execDiscrepancyTimeout {t n} : OrdinaryAnswer s (execDiscrepancyTimeout t n s) :=
  .run fun o => .discTimeout o

theorem Ordinary.codeCheck (o : Ordinary s u) : Ordinary s u.codeCheck := .eachHead o fun o => .when o fun o => .raise o

theorem OrdinaryAnswer.execFieldCodeHold {t} : OrdinaryAnswer s (execFieldCodeHold t s) :=
  .run fun o => .ite o (.codeCheck <| .inputSel <| .updSafe o)

theorem Ordinary.safeSeal (o : Ordinary s u) : Ordinary s u.safeSeal :=
  .codeCheck <| .each (.each (.reg rfl <| .updSafe <| .updSafe o) fun o => .reg rfl o) fun o => .when o fun o => .raiseU o

theorem OrdinaryAnswer.execRstStuck {t c} : OrdinaryAnswer s (execRstStuck t c s) :=
  .run fun o => .when o fun o => .raiseU <| .reg rfl o

theorem Ordinary.updConn (o : Ordinary s u) {c f} : Ordinary s (u.updConn c f) := .updSafe o

theorem Ordinary.discard (o : Ordinary s u) : Ordinary s u.discard := .reg rfl o

theorem Ordinary.cmdEffect (o : Ordinary s u) {c cmd a0} : Ordinary s (u.cmdEffect c cmd a0) := by
  unfold State.cmdEffect
  dsimp only
  split
  · exact .foldl o fun o => .when o fun o => .refreshSel <| .updSafe o
  · exact .foldl o fun o => .updClosed <| .when (.regAt rfl o) fun o => .regAt rfl o
  · exact .updConn o
  · exact o

theorem Ordinary.safetyMsg (o : Ordinary s u) {c stamp cmd seq a0 a1 both} :
    Ordinary s (u.safetyMsg c stamp cmd seq a0 a1 both) :=
  .ite o <|
    .ite (.raiseU <| .discard o) <|
    .ite (.discard o) <|
    .ite (.reg rfl o) <|
    .ite (.raise <| .putFresh <| .reg rfl o) <|
    .cmdEffect <| .updConn <| .reg rfl <| .regAt rfl <| .when o fun o => .condOff o

theorem Ordinary.safetyBytes (o : Ordinary s u) {c stamp m} : Ordinary s (u.safetyBytes c stamp m) :=
  .ite (.discard o) (.safetyMsg o)

theorem Ordinary.connExpire (o : Ordinary s u) {c} : Ordinary s (u.connExpire c) :=
  .ite o (.raiseU <| .eachHead (.updConn <| .reg rfl o) fun o => .when o fun o => .when (.updSafe o) fun o => .refreshSel o)

theorem Ordinary.connTick (o : Ordinary s u) : Ordinary s u.connTick :=
  .each (.foldl (.each o fun o => .updConn o) fun o => .safetyBytes o) fun o => .when o fun o => .connExpire o

theorem OrdinaryAnswer.execSafetyTick {t v} : OrdinaryAnswer s (execSafetyTick t v s) :=
  .run fun o => .ite o <|
    .ite (.updSafe o) <|
    .evalPairs <| .each (.connTick <| .showReset <| .each (.sampleChannel <| .sampleChannel <| .each (.updSafe o)
        fun o => .sampleChannel <| .sampleChannel o)
      fun o => .clearStep <| .discTimeout <| .reg rfl <| .updInput <| .showInput o)
    fun o => .readback <| .readback o

theorem OrdinaryAnswer.execCmdNop {t c stamp seq arg0 arg1 both} :
    OrdinaryAnswer s (execCmdNop t c stamp seq arg0 arg1 both s) :=
  .run fun o => .when o fun o => .safetyMsg o

theorem OrdinaryAnswer.execCmdFieldSelect {t c stamp seq arg0 arg1 both} :
    OrdinaryAnswer s (execCmdFieldSelect t c stamp seq arg0 arg1 both s) :=
  .run fun o => .when o fun o => .safetyMsg o

theorem OrdinaryAnswer.execCmdOverride {t c stamp seq arg0 arg1 both} :
    OrdinaryAnswer s (execCmdOverride t c stamp seq arg0 arg1 both s) :=
  .run fun o => .when o fun o => .safetyMsg o

theorem OrdinaryAnswer.execCmdSpeedPlaus {t c stamp seq arg0 arg1 both} :
    OrdinaryAnswer s (execCmdSpeedPlaus t c stamp seq arg0 arg1 both s) :=
  .run fun o => .when o fun o => .safetyMsg o

theorem OrdinaryAnswer.execConnTimeout {t c} : OrdinaryAnswer s (execConnTimeout t c s) :=
  .run fun o => .when o fun o => .connExpire o

theorem Ordinary.clockBad (o : Ordinary s u) : Ordinary s u.clockBad := .raise <| .putFresh <| .reg rfl o

theorem OrdinaryAnswer.execSafeClockCheck {t b dev} : OrdinaryAnswer s (execSafeClockCheck t b dev s) :=
  .run fun o => .when o fun o => .clockBad o

theorem OrdinaryAnswer.execDtAdvanceTimeout {t b} : OrdinaryAnswer s (execDtAdvanceTimeout t b s) :=
  .run fun o => .clockBad o

/-! ### Housekeeping -/

theorem Ordinary.updHk (o : Ordinary s u) {f} : Ordinary s (u.updHk f) := .putHk o

theorem Ordinary.hkBegin (o : Ordinary s u) {r e} : Ordinary s (u.hkBegin r e) := by
  unfold State.hkBegin
  exact .updHk <| .when (.reg rfl o) fun o => .reg rfl o

theorem Ordinary.hkStep (o : Ordinary s u) {i} : Ordinary s (u.hkStep i) := .hkBegin <| .reg rfl o

theorem Ordinary.hkSequence (o : Ordinary s u) : Ordinary s u.hkSequence := .ite (.hkStep <| .reg rfl o) o

theorem Ordinary.hkLinear (o : Ordinary s u) {e raw tcj} : Ordinary s (u.hkLinear e raw tcj).1 :=
  .iteFst (.drawn o) <| by
    split
    · exact o
    · exact .drawn o
    · exact .drawn o
    · exact .drawn o
    · exact o
    · exact o
    · exact o
    · exact o
    · exact o
    · exact o
    · exact o
    · exact o

theorem Ordinary.hkResult (o : Ordinary s u) {e v ref swing compl} : Ordinary s (u.hkResult e v ref swing compl) := by
  unfold State.hkResult
  exact .when (.when (.when (.when (.updHk <| .regHk <| .regHk <| .regHk <| .regHk <| .hkLinear <| .drawn o)
          fun o => .reg rfl o)
        fun o => .raiseU o)
      fun o => .raiseU o)
    fun o => .raiseU o

theorem Ordinary.hkNextStep (o : Ordinary s u) : Ordinary s u.hkNextStep := .ite (.hkStep o) (.hkStep <| .reg rfl o)

theorem OrdinaryAnswer.execHkConversionComplete {t v ref swing compl} :
    OrdinaryAnswer s (execHkConversionComplete t v ref swing compl s) :=
  .run fun o => .ite o <| by
    dsimp only
    split
    · exact .updHk <| .reg rfl <| .hkResult o
    · exact .ite (.hkStep <| .reg rfl <| .hkResult o) (.hkNextStep <| .reg rfl <| .hkResult o)
    · exact .ite (.hkNextStep <| .hkResult o) (.ite (.hkNextStep <| .reg rfl <| .hkResult o) (.hkBegin <| .hkResult o))

theorem Ordinary.hkUrgent (o : Ordinary s u) {i e} : Ordinary s (u.hkUrgent i e) :=
  .ite (.refuse o) <|
    .ite (.reg rfl o) (.ite (.reg rfl <| .reg rfl o) (.updHk <| .hkBegin <| .raise <| .reg rfl <| .reg rfl <| .reg rfl o))

theorem OrdinaryAnswer.execHkUrgentRequest {t i e} : OrdinaryAnswer s (execHkUrgentRequest t i e s) :=
  .run fun o => .hkUrgent o

theorem Ordinary.hkStart (o : Ordinary s u) {i} : Ordinary s (u.hkStart i) := .ite (.refuse o) (.hkBegin o)

theorem OrdinaryAnswer.execHkSingleStart {t i} : OrdinaryAnswer s (execHkSingleStart t i s) :=
  .run fun o => .ite (.accessError o) (.hkStart o)

theorem Ordinary.hkGains (o : Ordinary s u) {codes} : Ordinary s (u.hkGains codes) :=
  .calDone <| .each o fun o => .ite (.drawn <| .regAt rfl o) (.raiseU o)

theorem Ordinary.hkCal (o : Ordinary s u) {i codes} : Ordinary s (u.hkCal i codes) := .ite (.refuse o) (.hkGains o)

theorem OrdinaryAnswer.execHkCalibrate {t i codes} : OrdinaryAnswer s (execHkCalibrate t i codes s) :=
  .run fun o => by
    dsimp only
    split
    · exact .when o fun o => .hkSequence <| .reg rfl <| .hkGains o
    · exact .ite (.accessError o) (.hkCal o)

theorem Ordinary.hkMode (o : Ordinary s u) {seq} : Ordinary s (u.hkMode seq) :=
  .ite o (.ite (.hkStep <| .reg rfl o) (.updHk <| .reg rfl <| .reg rfl <| .reg rfl o))

theorem OrdinaryAnswer.execHkModeWrite {t i seq} : OrdinaryAnswer s (execHkModeWrite t i seq s) :=
  .run fun o => .ite (.accessError o) (.hkMode o)

theorem OrdinaryAnswer.execHkClampConduct {t n} : OrdinaryAnswer s (execHkClampConduct t n s) :=
  .run fun o => .when (.putFresh <| .regIf rfl rfl <| .updHk o) fun o => .raiseU o

/-! ### Program -/

theorem Ordinary.incrementEvents (o : Ordinary s u) {bad} : Ordinary s (u.incrementEvents bad) :=
  .foldl o fun o => .raiseArg o

theorem Ordinary.incrementBudget (o : Ordinary s u) {t} : Ordinary s (u.incrementBudget t) := .incrementEvents o

/-! ### Chain -/

theorem OrdinaryAnswer.execChainLoad {t h} : OrdinaryAnswer s (execChainLoad t h s) :=
  .run fun o => .ite o (.chainNext <| .updChain o)

theorem Ordinary.verified (o : Ordinary s u) {h es} : Ordinary s (u.verified h es) :=
  .ite (.refreshEmitter <| .regAt rfl o) (.updChain <| .refreshEmitter <| .regAt rfl o)

theorem OrdinaryAnswer.execChainPatternSend {t h} : OrdinaryAnswer s (execChainPatternSend t h s) :=
  .run fun o => by
    split
    · exact o
    · exact .when o fun o => .chainPut o

theorem OrdinaryAnswer.execChainSwapSend {t h} : OrdinaryAnswer s (execChainSwapSend t h s) :=
  .run fun o => .when o fun o => .chainPut o

theorem Ordinary.swapped (o : Ordinary s u) {h} : Ordinary s (u.swapped h) := by
  unfold State.swapped
  dsimp only
  split
  · exact o
  · exact .when (.regAt rfl <| .updChain o) fun o => .updScan o

theorem Ordinary.diagnosed (o : Ordinary s u) {h es} : Ordinary s (u.diagnosed h es) :=
  .after (fun o => .ite (.refreshEmitter <| .updChain o) (.refreshEmitter <| .updChain o)) <|
    .when (.regAt rfl <| .each (.foldl o fun o => .updChain o) fun o => .raise o) fun o => .raise <| .updChain o

theorem Ordinary.chainStatus (o : Ordinary s u) {h es} : Ordinary s (u.chainStatus h es) :=
  .ite (.refreshEmitter <| .updChain <| .refreshThermal <| .updChain o) (.refreshThermal <| .updChain o)

theorem Ordinary.chainFailed (o : Ordinary s u) {h f nextClear} : Ordinary s (u.chainFailed h f nextClear) := by
  unfold State.chainFailed
  have p : Ordinary s (u.updChain h fun x => { x with flight := none }) := .updChain o
  dsimp only
  split
  · exact .refreshEmitter <| .headFault <| .raise <| .regAt rfl <| .updChain p
  · split
    · exact .chainStart <| .updChain <| .raise <| .regAt rfl p
    · exact .chainStart <| .raise <| .regAt rfl p

theorem Ordinary.chainPassed (o : Ordinary s u) {h c es} : Ordinary s (u.chainPassed h c es) :=
  .refreshEmitter <| by
    split
    · exact .updChain <| .updChain o
    · exact .swapped <| .updChain o
    · exact .verified <| .updChain o
    · exact .diagnosed <| .updChain o
    · exact .updChain <| .updChain o
    · exact .updChain o
    · exact .updChain o
    · exact .updChain o

theorem OrdinaryAnswer.execChainFrameReturn {t h r} : OrdinaryAnswer s (execChainFrameReturn t h r s) :=
  .run fun o => by
    split
    · exact o
    · split
      · exact o
      · exact .ite (.chainStatus <| .chainFailed <| .when o fun o => .swapped o) <|
          .chainNext <| .chainStatus <| .chainPassed o

theorem OrdinaryAnswer.execChainFrameTimeout {t h} : OrdinaryAnswer s (execChainFrameTimeout t h s) :=
  .run fun o => by
    split
    · exact o
    · exact .ite o (.chainFailed o)

theorem OrdinaryAnswer.execProofLate {t h} : OrdinaryAnswer s (execProofLate t h s) :=
  .run fun o => .when o fun o => .raise o

theorem OrdinaryAnswer.execProofStep {t h} : OrdinaryAnswer s (execProofStep t h s) :=
  .run fun o => .when o fun o => .when (.regAt rfl <| .updChain <| .chainPut o) fun o => .chainPut <| .regAt rfl o

/-! ### Scan -/

theorem Ordinary.refreshHost (o : Ordinary s u) {h} : Ordinary s (u.refreshHost h) := .setInh o

theorem OrdinaryAnswer.execHeadStart {t i h} : OrdinaryAnswer s (execHeadStart t i h s) :=
  .run fun o => .ite (.updScan o) (.ite (.refuse o) (.when o fun o => .headScan o))

theorem OrdinaryAnswer.execHeadPark {t h} : OrdinaryAnswer s (execHeadPark t h s) :=
  .run fun o => .ite (.updScan o) (.ite (.updScan <| .updScan o) (.startPark <| .updScan o))

theorem OrdinaryAnswer.execHeadRestart {t h} : OrdinaryAnswer s (execHeadRestart t h s) :=
  .run fun o => .when o fun o => .headPark o

theorem OrdinaryAnswer.execHostInhibitWrite {t h v} : OrdinaryAnswer s (execHostInhibitWrite t h v s) :=
  .run fun o => .refreshHost <| .regAt rfl o

theorem OrdinaryAnswer.execAutoStart {t h} : OrdinaryAnswer s (execAutoStart t h s) :=
  .run fun o => .when o fun o => .headScan o

theorem Ordinary.applyCommit (o : Ordinary s u) {h} : Ordinary s (u.applyCommit h) := by
  unfold State.applyCommit
  exact .updCap <| .geometryChange <| .raise <| .updScan <| .regAt rfl <| .regAt rfl o

theorem Ordinary.frameCommit (o : Ordinary s u) {h n} : Ordinary s (u.frameCommit h n) :=
  .ite (.applyCommit <| .when o fun o => .regAt rfl o) o

theorem Ordinary.frameCode (o : Ordinary s u) {h} : Ordinary s (u.frameCode h) := by
  unfold State.frameCode
  exact .when (.regAt rfl <| .regAt rfl <| .when o fun o => .reg rfl o) fun o => .raise o

theorem Ordinary.frameNumber (o : Ordinary s u) {h} : Ordinary s (u.frameNumber h) := by
  unfold State.frameNumber
  split
  · exact .updPair <| .reg rfl <| .regAt rfl o
  · exact .regAt rfl o

theorem Ordinary.frameBreach (o : Ordinary s u) {h} : Ordinary s (u.frameBreach h) := by
  unfold State.frameBreach
  exact .eachIsland (.when o fun o => .evalPairs <| .judgeFrames o) fun o => .updBreach o

theorem Ordinary.framePlan (o : Ordinary s u) {h} : Ordinary s (u.framePlan h) := by
  unfold State.framePlan
  exact .when (.applyPlan o) fun o => .raise o

theorem Ordinary.openFence (o : Ordinary s u) {h} : Ordinary s (u.openFence h) := by
  unfold State.openFence
  exact .when (.regAt rfl o) fun o => .regAt rfl <| .regAt rfl o

theorem OrdinaryAnswer.execFrameStart {t h} : OrdinaryAnswer s (execFrameStart t h s) :=
  .run fun o => .when o
    fun o => .regAt rfl <| .regAt rfl <| .regAt rfl <| .regAt rfl <| .updScan <| .leaveEnd <| .when (.frameCode <|
      .framePlan <| .frameCommit <| .when (.frameNumber <| .frameBreach o) fun o => .openFence o)
    fun o => .raise <| .regAt rfl o

theorem OrdinaryAnswer.execDescriptorPrefetchArrival {t h d uncorr} :
    OrdinaryAnswer s (execDescriptorPrefetchArrival t h d uncorr s) :=
  .run fun o => .when (.updScan o) fun o => .raise <| .regAt rfl o

theorem Ordinary.fetchDesc (o : Ordinary s u) {h sl d} : Ordinary s (u.fetchDesc h sl d).1 := by
  unfold State.fetchDesc
  split <;> dsimp only
  · exact .updScan o
  · exact .raise <| .regAt rfl o

theorem OrdinaryAnswer.execMovePhaseStart {t h} : OrdinaryAnswer s (execMovePhaseStart t h s) :=
  .run fun o => .ite o <|
    .dwellLeave <| .when (.regAt rfl <| .regAt rfl <| .updChain <| .updFire <| .updServo <| .updScan <| .fetchDesc o)
    fun o => .openFence o

theorem Ordinary.echoClear (o : Ordinary s u) {h} : Ordinary s (u.echoClear h) :=
  .refreshEmitter <| .updFire <| .regAt rfl <| .regAt rfl o

theorem Ordinary.leaveTest (o : Ordinary s u) {h} : Ordinary s (u.leaveTest h) :=
  .ite (.setInh o) (.setInh <| .reg rfl <| .updPower <| .leaveRelease <| .updPwr o)

theorem Ordinary.supplyTest (o : Ordinary s u) {h} : Ordinary s (u.supplyTest h) :=
  .ite (.setInh <| .coverDwell o) (.setInh <| .raise <| .reg rfl <| .coverDwell o)

theorem Ordinary.openTests (o : Ordinary s u) {h} : Ordinary s (u.openTests h) := by
  unfold State.openTests
  exact .when (.eyeDwellTest <| .supplyTest <| .when (.when o fun o => .echoClear o) fun o => .leaveTest o)
    fun o => .showTokenOnly <| .regAt rfl o

theorem Ordinary.openDwell (o : Ordinary s u) {h fire} : Ordinary s (u.openDwell h fire) := by
  unfold State.openDwell
  exact .when (.prefetchBearings <| .openGroups <| .when (.regAt rfl <| .regAt rfl <| .regAt rfl <| .updScan o)
      fun o => .takeBuffers o)
    fun o => .occurNow o

theorem Ordinary.openHelper (o : Ordinary s u) {h} : Ordinary s (u.openHelper h) :=
  .ite (.openDwell <| .openTests o) <| by
    split
    · exact o
    · exact .ite o (.openDwell <| .openTests o)

theorem Ordinary.openOr (o : Ordinary s u) {h fire} : Ordinary s (u.openOr h fire) :=
  .ite (.sendNotice <| .updScan o) (.openDwell o)

theorem Ordinary.openFixed (o : Ordinary s u) {h a} : Ordinary s (u.openFixed h a) := .ite o (.openDwell <| .openTests o)

theorem Ordinary.openNow (o : Ordinary s u) {h} : Ordinary s (u.openNow h) :=
  .ite (.openOr <| .ite o (.openTests o)) <|
    .ite (.openOr <| .ite o (.openTests o)) (.ite (.regAt rfl o) (.openOr <| .ite o (.openTests o)))

theorem OrdinaryAnswer.execDwellOpen {t h} : OrdinaryAnswer s (execDwellOpen t h s) :=
  .run fun o => .ite o (.ite (.openHelper o) <| by
    split
    · exact .openFixed o
    · exact .when o fun o => .openNow o)

theorem OrdinaryAnswer.execSettleTimeout {t h} : OrdinaryAnswer s (execSettleTimeout t h s) :=
  .run fun o => .ite o (.openOr <| .ite (.raise <| .regAt rfl o) (.openTests <| .raise <| .regAt rfl o))

theorem Ordinary.takeFields (o : Ordinary s u) {d} : Ordinary s (u.takeFields d) := .putFields o

theorem Ordinary.closeSlip (o : Ordinary s u) {h} : Ordinary s (u.closeSlip h) := .regAt rfl <| .updScan o

theorem Ordinary.decideNone (o : Ordinary s u) {h} : Ordinary s (u.decideNone h) := .decideWith <| .updClosed o

theorem Ordinary.keepLeave (o : Ordinary s u) {h} : Ordinary s (u.keepLeave h) := by
  unfold State.keepLeave
  exact .updPower <| .leaveRelease o

theorem Ordinary.closeDwell (o : Ordinary s u) {h} : Ordinary s (u.closeDwell h) := by
  unfold State.closeDwell
  exact .when (.keepLeave <| .when (.eachIsland (.regAt rfl <| .updScan <| .updFire <| .closeSlip <| .updPair <|
          .stageClose <| .echoLatency <| .each (.when (.updClosed <| .takeFields o) fun o => .regAt rfl o)
          fun o => .when o fun o => .updGroup o)
        fun o => .updBreach o)
      fun o => .decideNone o)
    fun o => .startPark o

theorem OrdinaryAnswer.execDwellClose {t h} : OrdinaryAnswer s (execDwellClose t h s) :=
  .run fun o => .when o fun o => .closeDwell o

theorem OrdinaryAnswer.execFlybackStart {t h} : OrdinaryAnswer s (execFlybackStart t h s) :=
  .run fun o => .ite o <|
    .exciteFlyback <| .visibility <| .leaveRequest <| .drawn <| .reg rfl <| .updPwr <| .refillPool <| .updScan <|
    .regAt rfl <| .updScan <| .updChain <| .regAt rfl o

/-! ### Commit -/

theorem Ordinary.forward (o : Ordinary s u) {f} : Ordinary s (u.forward f) := .ite (.updPair o) o

theorem Ordinary.storeLen (o : Ordinary s u) {h sl v} : Ordinary s (u.storeLen h sl v) :=
  .dropEmpty <| .regAt (far_add rfl) <| .regAt (far_add rfl) o

theorem Ordinary.storeFly (o : Ordinary s u) {h sl v} : Ordinary s (u.storeFly h sl v) :=
  .dropEmpty <| .regAt (far_add rfl) <| .regAt (far_add rfl) <| .regAt (far_add rfl) o

theorem Ordinary.storeDesc (o : Ordinary s u) {h sl d ws} : Ordinary s (u.storeDesc h sl d ws) :=
  .dropEmpty <| .regAt (far_add rfl) <| .hbmWrite o

theorem OrdinaryAnswer.execScanLoadStore {t i h v} : OrdinaryAnswer s (execScanLoadStore t i h v s) :=
  .run fun o => .ite (.refuse o) (.forward <| .regAt rfl <| .storeDesc <| .regAt (far_add rfl) o)

theorem Ordinary.requestCommit (o : Ordinary s u) {h sl} : Ordinary s (u.requestCommit h sl) :=
  .ite (.putFresh <| .regAt rfl o) (.updScan <| .regAt rfl o)

theorem OrdinaryAnswer.execCommitRequest {t h slot} : OrdinaryAnswer s (execCommitRequest t h slot s) :=
  .run fun o => .ite (.forward o) (.requestCommit o)

theorem OrdinaryAnswer.execCommitCancel {t h} : OrdinaryAnswer s (execCommitCancel t h s) :=
  .run fun o => .when o fun o => .updScan <| .regAt rfl o

theorem Ordinary.acceptCommit (o : Ordinary s u) {h n after} : Ordinary s (u.acceptCommit h n after) :=
  .ite (.regAt rfl <| .regAt rfl <| .updScan <| .regAt (far_add rfl) o) <|
    .tryLeaveOff <| .applyCommit <| .regAt rfl <| .updScan <| .regAt (far_add rfl) o

theorem Ordinary.rejectCommit (o : Ordinary s u) {h cause dwell} : Ordinary s (u.rejectCommit h cause dwell) :=
  .raise <| .regAt rfl <| .regAt rfl <| .regAt rfl o

theorem OrdinaryAnswer.execCommitCheckComplete {t h} : OrdinaryAnswer s (execCommitCheckComplete t h s) :=
  .run fun o => .ite o <| by
    dsimp only
    split
    · exact .rejectCommit <| .incrementBudget <| .drawn o
    · exact .forward <| .acceptCommit <| .incrementBudget <| .drawn o

theorem Ordinary.shadowCommit (o : Ordinary s u) {h sl n} : Ordinary s (u.shadowCommit h sl n) := by
  unfold State.shadowCommit
  dsimp only
  split
  · exact .raise <| .forward <| .rejectCommit <| .incrementBudget <| .drawn o
  · exact .acceptCommit <| .updScan <| .incrementBudget <| .drawn o

theorem OrdinaryAnswer.execForwardedWrite {t p rx f} : OrdinaryAnswer s (execForwardedWrite t p rx f s) :=
  .run fun o => .ite (.codeword o) <| by
    split
    · split
      · exact .codeword o
      · exact .ite (.codeword o) (.ite (.storeFly <| .codeword o) (.storeLen <| .codeword o))
    · exact .when (.codeword o) fun o => .storeDesc o
    · exact .requestCommit <| .codeword o
    · exact .shadowCommit <| .codeword o
    · exact .raise <| .codeword o

/-! ### Firing -/

theorem Ordinary.recordShot (o : Ordinary s u) {h k launched} : Ordinary s (u.recordShot h k launched) :=
  .eyePulse <| .updFire <| .when o fun o => .takeBuffers o

theorem Ordinary.launched (o : Ordinary s u) {h k} : Ordinary s (u.launched h k) := by
  unfold State.launched
  extract_lets _ _ shot
  have p : Ordinary s shot := .vernier <| .updFire <| .regAt rfl <| .regAt rfl <| .regAt rfl <| .regAt rfl o
  clear_value shot
  split
  · exact p
  · exact .updPair <| .reg rfl p

theorem Ordinary.stopNotice (o : Ordinary s u) {h} : Ordinary s (u.stopNotice h) := by
  unfold State.stopNotice
  split
  · exact .ite (.sendNotice <| .updScan o) o
  · exact o

theorem OrdinaryAnswer.execFireStrobeLaunch {t h k} : OrdinaryAnswer s (execFireStrobeLaunch t h k s) :=
  .run fun o => .ite (.stopNotice o) (.ite o (.ite (.recordShot o) (.when o fun o => .launched <| .recordShot o)))

theorem OrdinaryAnswer.execRandomHitInject {t i tapsA tapsB} : OrdinaryAnswer s (execRandomHitInject t i tapsA tapsB s) :=
  .run fun o => .when o fun o => .countHit o

theorem Ordinary.updShot (o : Ordinary s u) {h k f} : Ordinary s (u.updShot h k f) := .updFire o

theorem Ordinary.strayEcho (o : Ordinary s u) {h} : Ordinary s (u.strayEcho h) :=
  .ite (.updPair <| .reg rfl o) (.raise <| .regAt rfl o)

theorem Ordinary.matchEcho (o : Ordinary s u) {h x stamp} : Ordinary s (u.matchEcho h x stamp) := by
  unfold State.matchEcho
  exact .updPair <| .captureShot <| .when (.regAt rfl <| .updEye <| .updShot o) fun o => .updFire o

theorem OrdinaryAnswer.execEchoEdge {t h tapsA tapsB} : OrdinaryAnswer s (execEchoEdge t h tapsA tapsB s) :=
  .run fun o => by
    dsimp only
    split
    · exact .strayEcho <| .when o fun o => .countHit o
    · exact .ite (.strayEcho <| .when o fun o => .countHit o) <|
        .ite (.when o fun o => .countHit o) (.matchEcho <| .when o fun o => .countHit o)

theorem Ordinary.echoMissed (o : Ordinary s u) {h} : Ordinary s (u.echoMissed h) :=
  .ite (.refreshEmitter <| .raise <| .regAt rfl <| .regAt rfl <| .regAt rfl o) (.regAt rfl <| .regAt rfl o)

theorem OrdinaryAnswer.execEchoWindowExpiry {t h k} : OrdinaryAnswer s (execEchoWindowExpiry t h k s) :=
  .run fun o => by
    split
    · exact o
    · exact .ite o (.ite (.echoMissed <| .updShot o) (.reg rfl <| .updShot o))

theorem OrdinaryAnswer.execClrEcho {t h} : OrdinaryAnswer s (execClrEcho t h s) :=
  .run fun o => .ite o (.ite (.updFire o) (.echoClear o))

/-! ### HostBus -/

/-- A field written with what it holds leaves the word as it is. -/
theorem putBits_bits (n : Nat) {hi lo : Nat} (h : lo ≤ hi) : putBits n hi lo (bits n hi lo) = n := by
  have low : bits n hi lo % 2 ^ (hi - lo + 1) = bits n hi lo := Nat.mod_eq_of_lt (bits_lt n hi lo)
  have split : 2 ^ (hi + 1) = 2 ^ (hi - lo + 1) * 2 ^ lo := by
    rw [← Nat.pow_add]
    congr 1
    omega
  have up : n / 2 ^ (hi + 1) = n / 2 ^ lo / 2 ^ (hi - lo + 1) := by rw [split, Nat.mul_comm, Nat.div_div_eq_div_mul]
  unfold putBits
  rw [low, up, split, ← Nat.mul_assoc, ← Nat.add_mul, bits, Nat.div_add_mod', Nat.div_add_mod']

/-- A register whose fields are all read only. -/
def RegRow.readOnly (r : RegRow) : Bool := r.configBits == 0 && r.fields.all fun f => f.acc == .ro && f.lo ≤ f.hi

theorem writeFields_readOnly {fs : List FieldRow} {p : FieldRow → Bool} {config : Bool} {old v keep : Nat}
    (ro : fs.all fun f => f.acc == .ro && f.lo ≤ f.hi) : (writeFields fs p config old v keep).1 = old := by
  refine List.foldlRecOn (motive := fun x : Nat × Nat => x.1 = old) fs _ rfl fun x keeps f mem => ?_
  obtain ⟨acc, order⟩ : f.acc = .ro ∧ f.lo ≤ f.hi := by simpa using List.all_eq_true.mp ro f mem
  obtain ⟨w, c⟩ := x
  subst keeps
  dsimp only
  split
  · simp only [FieldRow.write, acc, putBits_bits w order]
  · rfl

namespace Ordinary

theorem held_readOnly {a : Nat} (hold : held a = true) {r : RegRow} (row : regRow a = some r) : r.readOnly = true := by
  have all : (regRow R.DEV_STATE.addr).all RegRow.readOnly ∧ (regRow R.THM_TRIP.addr).all RegRow.readOnly := by decide
  obtain rfl | rfl : a = R.DEV_STATE.addr ∨ a = R.THM_TRIP.addr := by simpa [held] using hold
  · simpa [row] using all.1
  · simpa [row] using all.2

/-- A write by the rules of a register's fields: the two registers are read only. -/
theorem setWordBy (o : Ordinary s u) {a x : Nat} {r : RegRow} (row : regRow a = some r)
    (same : r.readOnly = true → x = u.word a) : Ordinary s (u.setWord a x) := by
  cases hold : held a
  · exact o.setWord hold
  · have stays (b : Nat) : (u.setWord a x).word b = u.word b := by
      by_cases h : b = a
      · rw [h, State.word_setWord_same, same (held_readOnly hold row), Nat.mod_eq_of_lt (u.word_lt a)]
      · exact State.word_setWord_ne u x h
    have dev : (u.setWord a x).devState = u.devState := by unfold State.devState State.rd; rw [stays]
    exact ⟨(stays _).trans o.trip, dev ▸ o.dev⟩

theorem setFields (o : Ordinary s u) {a : Nat} {r : RegRow} (row : regRow a = some r) {p config v keep} :
    Ordinary s (u.setWord a (writeFields r.fields p config (u.word a) v keep).1) :=
  o.setWordBy row fun ro => writeFields_readOnly (Bool.and_eq_true_iff.mp ro).2

theorem classWrite (o : Ordinary s u) {i a v} : Ordinary s (u.classWrite i a v) := by
  unfold State.classWrite
  split
  · exact o
  · next r row => exact .when (.setFields o row) fun o => .accessError o

end Ordinary

namespace Ordinary

theorem headWrite (o : Ordinary s u) {i a v} : Ordinary s (u.headWrite i a v) := by
  unfold State.headWrite
  extract_lets h off
  have load : 0x444 ≤ off ∧ off < 0x480 → held a = false := by
    unfold off addrOff
    exact fun range => apart (by omega) (by omega)
  clear_value h off
  refine .ite ?_ <| .ite ?_ <| .ite ?_ <| .iteOf (fun range => .ite (.refuse o) (.setWord o (load range))) <|
    .ite ?_ <| .ite ?_ <| .ite ?_ <| .ite ?_ <| .ite ?_ o
  · exact .ite (.does (.when (.refreshHost o) fun o => .does o .execHeadRestart) .execHeadPark) <|
      .when (.when (.refreshHost o) fun o => .does o .execHeadRestart) fun o => .does o .execHeadStart
  · exact .ite (.does o .execCommitCancel) (.when o fun o => .does o .execCommitRequest)
  · exact .ite (.refuse o) (.forward <| .ite (.storeLen o) (.storeFly o))
  · exact .does o .execScanLoadStore
  · exact .when o fun o => .does o .execClrEcho
  · exact .excitationLevel o
  · exact .ite o (.ite (.accessError o) (.coefWrite o))
  · exact .when o fun o => .does o .execEyeLatchClear

end Ordinary

/-- One sleep bit of a lane. -/
theorem Ordinary.sleepBit (o : Ordinary s u) {i a} {f : FRef} {used want off : Bool} (above : 0x3000C < f.addr) :
    Ordinary s (if u.on f = want then u else if off && (used || want) then u.wrB f want else u.refuse i a) :=
  .ite o (.ite (.setWord o (apart (by omega) (by omega))) (.refuse o))

/-- The indices are generalized in the definition before it is applied: the kernel would subtract the base address of the
block from `a` step by step. -/
theorem Ordinary.sleepWrite (o : Ordinary s u) {i a v} : Ordinary s (u.sleepWrite i a v) := by
  generalize body : State.sleepWrite = f
  delta State.sleepWrite at body
  subst body
  dsimp -zeta -iota -proj only
  generalize (a - 0xC0000) / 0x400 = q, (a % 0x400 - 0x40) / 0x20 = l
  have above : 0x3000C < R.LANE_CFG.addr q l := by
    unfold R.LANE_CFG.addr
    omega
  extract_lets
  split
  exact .sleepBit (.sleepBit o above) above

theorem Ordinary.attestReq (o : Ordinary s u) {i} : Ordinary s (u.attestReq i) := .ite (.refuse o) (.reg rfl <| .reg rfl o)

theorem Ordinary.seqEnable (o : Ordinary s u) {q} : Ordinary s (u.seqEnable q) := .seqRearmed <| .updSeqr o

/-- As for `sleepWrite`. -/
theorem Ordinary.seqWrite (o : Ordinary s u) {i a v old} : Ordinary s (u.seqWrite i a v old) := by
  generalize body : State.seqWrite = f
  delta State.seqWrite at body
  subst body
  dsimp -zeta only
  generalize (a - 0xA0800) / 0x100 = q, a % 0x100 = off
  exact .ite (.when o fun o => .seqEnable o) <|
    .ite (.when (.when o fun o => .does o .execSequencerRestart) fun o => .does o .execSequencerForce) <|
    .ite (.ite (.refuse o) (.classWrite o)) o

namespace Ordinary

/-- Does every function of a list keep to what is ordinary? -/
def AllOrdinary (fs : List (State → State)) : Prop := ∀ f ∈ fs, ∀ {s u}, Ordinary s u → Ordinary s (f u)

theorem AllOrdinary.nil : AllOrdinary [] := by simp [AllOrdinary]

theorem AllOrdinary.cons {f fs} (h : ∀ {s u}, Ordinary s u → Ordinary s (f u)) (hs : AllOrdinary fs) :
    AllOrdinary (f :: fs) := by
  intro g mem
  rcases List.mem_cons.mp mem with rfl | mem
  · exact h
  · exact hs g mem

theorem AllOrdinary.ite {c : Prop} [Decidable c] {fs gs} (h : AllOrdinary fs) (k : AllOrdinary gs) :
    AllOrdinary (if c then fs else gs) := by
  split
  · exact h
  · exact k

theorem AllOrdinary.one {f} (h : ∀ {s u}, Ordinary s u → Ordinary s (f u)) : AllOrdinary [f] := .cons h .nil

theorem allOrdinary_hkWrite {i v} : AllOrdinary (Machine.hkWrite i v) :=
  .cons (fun o => .ite o (.does o .execHkModeWrite)) <|
    .cons (fun o => .when o fun o => .does o .execHkSingleStart) <|
    .cons (fun o => .when o fun o => .putFree <| .does o .execHkCalibrate) <|
    .one fun o => .when o fun o => .does o .execHkUrgentRequest

theorem allOrdinary_triggers {i a v old} : AllOrdinary (triggers i a v old) := by
  unfold triggers
  refine .ite (.one fun o => .headWrite o) <|
    .ite (.ite (.one fun o => .does o .execLaneReaddWrite) <| .ite (.one fun o => .sleepWrite o) .nil) <|
    .ite (.one fun o => .seqWrite o) <|
    .ite (.one ?_) <|
    .ite (.one fun o => .when o fun o => .updDev o) <|
    .ite (.one fun o => .when o fun o => .attestReq o) <|
    .ite (.cons (fun o => .does o .execTimingPllBypass) <| .one fun o => .does o .execLogicPllBypass) <|
    .ite allOrdinary_hkWrite <|
    .ite (.one fun o => .ite (.refuse o) (.classWrite o)) <|
    .ite (.cons (fun o => .when o fun o => .does o .execPairHandover) <| .one fun o =>
      .when o fun o => .does o .execPairRejoin) ?_
  · intro s u o
    generalize (a - 0x91000) / 0x40 = stream
    exact .ite (.regAt rfl o) (.streamOff o)
  · split
    · next at_ => exact .one fun o => .setWord o (at_ ▸ rfl)
    · exact .ite (.one fun o => .ite o (.ite (.does o .execSlotArm) (.does o .execSlotRelease))) <|
        .ite (.one fun o => .when o fun o => .does o .execRateChangeRequest) <|
        .ite (.one fun o => .when o fun o => .does o .execCalRestore) .nil

theorem watch {x : State × Nat} {f : State → State} (o : Ordinary s x.1)
    (h : ∀ {s u}, Ordinary s u → Ordinary s (f u)) : Ordinary s (Machine.watch x f).1 := by
  unfold Machine.watch
  extract_lets n v
  split
  · exact h o
  · exact .reg rfl <| h o

theorem hostWrite (o : Ordinary s u) {i a v} : Ordinary s (u.hostWrite i a v) := by
  unfold State.hostWrite
  refine .ite (.accessError o) ?_
  split
  · exact .ite o (.accessError o)
  · next r row =>
    extract_lets old own
    split
    next w first fields =>
    have word : _ = w := congrArg Prod.fst fields
    have set : Ordinary s (u.setWord a w) := word ▸ .setFields o row
    split
    next x c watched =>
    have all : Ordinary s ((triggers i a v old).foldl Machine.watch (u.setWord a w, first)).1 :=
      List.foldlRecOn (motive := fun x : State × Nat => Ordinary s x.1) _ _ set fun _ o _ mem =>
        .watch o (allOrdinary_triggers _ mem)
    exact .when (all.fst watched) fun o => .accessError o

end Ordinary

theorem Ordinary.setShadow (o : Ordinary s u) {i a v} : Ordinary s (u.setShadow i a v) := by
  unfold State.setShadow
  split
  · exact .putMspi o
  · exact .putMspi o

theorem Ordinary.hostRead (o : Ordinary s u) {i a} : Ordinary s (u.hostRead i a).1 :=
  .iteFst (.accessError o) (.iteFst (.setShadow o) (.foldl o fun o => .setShadow o))

theorem Ordinary.hostReads (o : Ordinary s u) {i a n} : Ordinary s (u.hostReads i a n).1 := .foldlFst o fun o => .hostRead o

theorem Ordinary.hostWrites (o : Ordinary s u) {i a ws} : Ordinary s (u.hostWrites i a ws).1 :=
  .foldlFst o fun {x y} o => by
    obtain ⟨v, cs⟩ := x
    obtain ⟨k, w⟩ := y
    exact .hostWrite o

theorem OrdinaryAnswer.execHostRegisterWrite {t i addr v} : OrdinaryAnswer s (execHostRegisterWrite t i addr v s) :=
  .run fun o => .hostWrite o

theorem Ordinary.mspiResult (o : Ordinary s u) {abort accErr crcErr done} :
    Ordinary s (u.mspiResult abort accErr crcErr done) :=
  .reg rfl <| .reg rfl <| .reg rfl <| .reg rfl o

theorem OrdinaryAnswer.execMspiRead {t addr lenM1 waits} : OrdinaryAnswer s (execMspiRead t addr lenM1 waits s) :=
  .run fun o => .ite o (.ite (.mspiResult <| .putMspi o) (.mspiResult <| .putMspi <| .hostReads o))

theorem OrdinaryAnswer.execMspiWrite {t addr lenM1 words crc} : OrdinaryAnswer s (execMspiWrite t addr lenM1 words crc s) :=
  .run fun o => .ite o (.ite (.mspiResult o) (.ite (.mspiResult o) (.mspiResult <| .reg rfl <| .hostWrites o)))

theorem OrdinaryAnswer.execMspiStatus {t} : OrdinaryAnswer s (execMspiStatus t s) := .run fun o => .ite o (.putMspi o)

theorem OrdinaryAnswer.execMspiAbort {t} : OrdinaryAnswer s (execMspiAbort t s) := .run fun o => .ite o (.mspiResult o)

theorem OrdinaryAnswer.execEventLatchClear {t v} : OrdinaryAnswer s (execEventLatchClear t v s) :=
  .run fun o => .when (.reg rfl o) fun o => .updDev o

/-! ### Loader -/

theorem Ordinary.updBoot (o : Ordinary s u) {f} : Ordinary s (u.updBoot f) := .putBoot o

theorem Ordinary.setFuses (o : Ordinary s u) {f} : Ordinary s (u.setFuses f) :=
  .reg rfl <| .reg rfl <| .reg rfl <| .reg rfl <| .reg rfl <| .reg rfl <| .updBoot o

theorem Ordinary.slotFail (o : Ordinary s u) {slot cause} : Ordinary s (u.slotFail slot cause) :=
  .raiseArg <| .regIf rfl rfl o

theorem Ordinary.noImage (o : Ordinary s u) : Ordinary s u.noImage := .raise o

theorem Ordinary.placeFields (o : Ordinary s u) {bid ws} : Ordinary s (u.placeFields bid ws) := .hbmWrite <| .hbmWrite o

theorem OrdinaryAnswer.execFuseLoadComplete {t factory a b} : OrdinaryAnswer s (execFuseLoadComplete t factory a b s) :=
  .run fun {r v} o => .ite o <| by
    extract_lets first partly loaded one
    have p : Ordinary r loaded := .ite (.setFuses o) (.ite (.setFuses <| .setFuses o) (.writeRefused <| .setFuses o))
    have manifest {v slot m} (o : Ordinary r v) : Ordinary r (one v slot m).1 := by
      unfold one
      split
      · exact .slotFail o
      · exact .iteFst o (.slotFail o)
    clear_value loaded one
    split
    next xa =>
    split
    next xb =>
    exact .when (.updBoot <| (manifest <| (manifest p).fst xa).fst xb) fun o => .noImage o

theorem OrdinaryAnswer.execHbmTrainingComplete {t fast slow} : OrdinaryAnswer s (execHbmTrainingComplete t fast slow s) :=
  .run fun o => .ite o <|
    .leaveRequest <| .reg rfl <| .putHbm <| .reg rfl <| .each (.updBoot <| .updDev <| .putDtFine o) fun o => .updMem o

theorem Ordinary.derive (o : Ordinary s u) {img} : Ordinary s (u.derive img) :=
  .each (.eachHead o fun o => .regAt rfl <| .regAt rfl o) fun o => .regAt rfl <| .regAt rfl <| .regAt rfl <| .regAt rfl o

theorem Ordinary.placeProgram (o : Ordinary s u) {p} : Ordinary s (u.placeProgram p) :=
  .regAt (far_add rfl) <| .regAt (far_add rfl) <| .regAt (far_add rfl) <| .regAt (far_add rfl) <| .foldl o
    fun o => .hbmWrite o

theorem Ordinary.configWord (o : Ordinary s u) {a v} : Ordinary s (u.configWord a v) := by
  unfold State.configWord
  split
  · exact o
  · next r row =>
    refine o.setWordBy row fun ro => ?_
    have none : r.configBits = 0 := by simpa using (Bool.and_eq_true_iff.mp ro).1
    have fits : u.word a &&& 0xFFFFFFFF = u.word a % 2 ^ 32 := Nat.and_two_pow_sub_one_eq_mod _ 32
    simpa [none, fits] using u.word_lt a

theorem Ordinary.applyImage (o : Ordinary s u) {img} : Ordinary s (u.applyImage img) := by
  unfold State.applyImage
  exact .derive <| .updPwr <| .foldl (.foldl (.eachHead (.foldl (.eachHead (.foldl o fun o => .configWord o)
            fun o => .when o fun o => .regAt rfl o)
          fun o => .placeProgram o)
        fun o => .regAt rfl o)
      fun o => .placeFields o)
    fun o => .updHead o

theorem Ordinary.reportFaults (o : Ordinary s u) {applied} : Ordinary s (u.reportFaults applied) :=
  .eachHead o fun o => by
    split
    · exact o
    · exact .regAt rfl <| .regAt rfl o

theorem OrdinaryAnswer.execSlotReadComplete {t r} : OrdinaryAnswer s (execSlotReadComplete t r s) :=
  .run fun o => .ite o <| by
    split
    · exact o
    · exact .ite (.updBoot o) <|
        .when (.updBoot <| .putHbm <| .when (.raiseArg <| .regIf rfl rfl o) fun o => .incrementEvents <| .reportFaults o)
        fun o => .raise o

theorem Ordinary.showImage (o : Ordinary s u) {slot m img fallback} : Ordinary s (u.showImage slot m img fallback) := by
  unfold State.showImage
  refine .when (List.foldlRecOn (motive := Ordinary s) _ _ (.reg rfl <| .reg rfl <| .reg rfl <| .reg rfl <| .reg rfl o)
    fun _ o w mem => .setWord o ?_) fun o => .raise <| .reg rfl o
  have few := List.mem_range.mp mem
  exact Ordinary.apart (a := 0x10040 + w * 4) (by omega) (by omega)

theorem Ordinary.lineSeal (o : Ordinary s u) {img i} : Ordinary s (u.lineSeal img i) :=
  .newEpoch <| .updLine <| .sealRecord <| .writeTaps <| .when (by
    split
    · exact .regAt rfl <| .regAt rfl <| .updLine <| .regAt rfl o
    · exact .regAt rfl o)
    fun o => .regAt rfl o

theorem Ordinary.headSeal (o : Ordinary s u) {h} : Ordinary s (u.headSeal h) :=
  .refreshHost <| .setInh <| .setInh <| .setInh <| .updScan <| .updServo <| .regAt rfl <| .updEye o

theorem Ordinary.planSeal (o : Ordinary s u) {img} : Ordinary s (u.planSeal img) := .ite o (.drawn <| .updDom o)

theorem Ordinary.sealParts (o : Ordinary s u) {img} : Ordinary s (u.sealParts img) :=
  .eachHead (.incrementBudget <| .leaveRequest <| .hkSequence <| .updMem <| .each (.each (.updCap <| .planSeal <|
          .domSeal <| .pairSeal <| .each (.eachHead (.each (.updTach <| .eachHead (.safeSeal <| .updDev <| .showPower <|
                  .reg rfl <| .updPwr o)
                fun o => .refreshSel o)
              fun o => .lineSeal o)
            fun o => .headSeal o)
          fun o => .when o fun o => .seqRearmed <| .updSeqr o)
        fun o => .portStart o)
      fun o => .when o fun o => .regAt rfl o)
    fun o => .when o fun o => .geometryChange o

/-! ### Device -/

theorem OrdinaryAnswer.execRailOutOfTolerance {t rail} : OrdinaryAnswer s (execRailOutOfTolerance t rail s) :=
  .run fun o => .updDev o

theorem OrdinaryAnswer.execDegHoldExpiry {t code} : OrdinaryAnswer s (execDegHoldExpiry t code s) :=
  .run fun o => .settleDev <| .updDev o

theorem OrdinaryAnswer.execSlowInputClamp {t i on} : OrdinaryAnswer s (execSlowInputClamp t i on s) :=
  .run fun o => .when (.updDev o) fun o => .readTokenIn o

theorem OrdinaryAnswer.execTrigInEdge {t idx fall taps} : OrdinaryAnswer s (execTrigInEdge t idx fall taps s) :=
  .run fun o => .ite (.drawn o) (.occur <| .updCap <| .drawn o)

/-! ### Electrum -/

theorem Ordinary.fuseRefused (o : Ordinary s u) : Ordinary s u.fuseRefused := .raise <| .writeRefused o

theorem Ordinary.advanceRollback (o : Ordinary s u) : Ordinary s u.advanceRollback :=
  .ite o (.ite (.fuseRefused o) (.raise <| .setFuses o))

theorem OrdinaryAnswer.execRollbackAutoCommit {t} : OrdinaryAnswer s (execRollbackAutoCommit t s) :=
  .run fun o => .when o fun o => .updBoot <| .advanceRollback o

theorem length_wordsOf (n : Nat) (bs : List Byte) : (wordsOf n bs).length = n := by
  induction n generalizing bs with
  | zero => rfl
  | succ n ih => simp [wordsOf, ih]

theorem Ordinary.showReport (o : Ordinary s u) {bs} : Ordinary s (u.showReport bs) := by
  unfold State.showReport
  refine .reg rfl <| .reg rfl <| .reg rfl <| List.foldlRecOn (motive := Ordinary s) _ _ o fun v o x mem => ?_
  obtain ⟨word, w⟩ := x
  have few : w < 908 := by simpa [length_wordsOf] using List.snd_lt_of_mem_zipIdx mem
  exact .setWord o <| Ordinary.apart (a := 0x11000 + w * 4) (by omega) (by omega)

theorem OrdinaryAnswer.execAttestRequest {t i} : OrdinaryAnswer s (execAttestRequest t i s) := .run fun o => .attestReq o

theorem OrdinaryAnswer.execAttestComplete {t x} : OrdinaryAnswer s (execAttestComplete t x s) :=
  .run fun o => .when o fun o => .showReport o

theorem Ordinary.updSession (o : Ordinary s u) {f} : Ordinary s (u.updSession f) := .updBoot o

theorem Ordinary.authFail (o : Ordinary s u) : Ordinary s u.authFail := .raise <| .reg rfl <| .reg rfl o

theorem OrdinaryAnswer.execHelloReceive {t p c} : OrdinaryAnswer s (execHelloReceive t p c s) :=
  .run fun o => .ite o (.ite (.authFail o) (.updSession <| .reg rfl o))

theorem Ordinary.answer (o : Ordinary s u) {ok data} : Ordinary s (u.answer ok data) := .updBoot o

theorem Ordinary.denied (o : Ordinary s u) {why} : Ordinary s (u.denied why) := .answer o

/-! ### Pins -/

theorem Ordinary.rxDrop (o : Ordinary s u) : Ordinary s u.rxDrop := by
  unfold State.rxDrop
  exact .when (.updNet <| .reg rfl o) fun o => .raise o

theorem Ordinary.queueCommand (o : Ordinary s u) {c stamp data} : Ordinary s (u.queueCommand c stamp data) :=
  .ite (.discard o) (.updConn o)

theorem Ordinary.gptp (o : Ordinary s u) {p stamp m} : Ordinary s (u.gptp p stamp m) := by
  unfold State.gptp
  dsimp only
  split
  · exact .enqueuePtp o
  · exact .when o fun o => .updPtp o
  · split
    · exact .updPtp <| .drawn o
    · exact o
  · exact .enqueuePtp <| .updPtp <| .updPtp o
  · split
    · exact .when (.updPtp o) fun o => .offsetSample o
    · exact o
  · exact o

theorem Ordinary.deliver (o : Ordinary s u) {p x} : Ordinary s (u.deliver p x) := by
  unfold State.deliver
  split
  · split
    · exact .queueCommand o
    · exact .ite o (.rxDrop o)
    · exact .rxDrop o
  · exact .ite o (.drawn <| .enqueueRaw o)
  · exact .gptp o
  · exact .ite o (.rxDrop o)
  · exact .rxDrop o
  · exact .rxDrop o

theorem Ordinary.planeHeard (o : Ordinary s u) {p x} : Ordinary s (u.planeHeard p x) := .ite (.condOff <| .updNet o) o

theorem OrdinaryAnswer.execNetFrameReceive {t p x} : OrdinaryAnswer s (execNetFrameReceive t p x s) :=
  .run fun o => .ite o <| by
    dsimp only
    split
    · exact .ite (.planeHeard o) (.deliver <| .updNet <| .planeHeard o)
    · exact .deliver <| .planeHeard o

/-! ### The table, command by command -/

/-- What the statement asks of a command that leads from state `s` to state `u`. -/
structure FollowsTable (c : Instr) (s u : State) : Prop where
  table : u.devState = s.devState ∨ tableAllows c s.devState u.devState
  hold : s.on R.THM_TRIP.HOLD = true → (∀ t, c ≠ .thermalHoldRelease t) →
    u.on R.THM_TRIP.HOLD = true ∧ (s.devState = devReset → u.devState = devReset)

variable {c : Instr}

section
variable {a b : Nat}

theorem tableAllows_reset (to_ : b = devReset) (may : mayReset c = true) : tableAllows c a b := .inl ⟨to_, may⟩

theorem tableAllows_boot (to_ : b = devBoot) (from_ : a = devReset ∨ mayReset c = true) : tableAllows c a b :=
  .inr <| .inl ⟨to_, from_⟩

theorem tableAllows_shutdown (to_ : b = devShutdown) (from_ : a ≠ devReset) (own : ∃ t, c = .thermalShutdown t) :
    tableAllows c a b := .inr <| .inr <| .inl ⟨to_, from_, own⟩

theorem tableAllows_safe (to_ : b = devSafe)
    (from_ : a = devReset ∨ a = devBoot ∨ a = devRun ∨ a = devDegraded ∨ mayReset c = true) : tableAllows c a b :=
  .inr <| .inr <| .inr <| .inl ⟨to_, from_⟩

theorem tableAllows_maint (to_ : b = devMaint) (from_ : a = devRun ∨ a = devDegraded ∨ a = devSafe)
    (own : ∃ t, c = .authReceive t true) : tableAllows c a b := .inr <| .inr <| .inr <| .inr <| .inl ⟨to_, from_, own⟩

theorem tableAllows_running (to_ : b = devRun ∨ b = devDegraded) (from_ : a = devRun ∨ a = devDegraded ∨
    (a = devBoot ∧ ∃ t, c = .seal t) ∨ (a = devSafe ∧ ∃ t v, c = .resetAccept t v)) : tableAllows c a b :=
  .inr <| .inr <| .inr <| .inr <| .inr ⟨to_, from_⟩

end

theorem State.hold_of_trip {s u : State} (trip : u.word R.THM_TRIP.addr = s.word R.THM_TRIP.addr) :
    u.on R.THM_TRIP.HOLD = s.on R.THM_TRIP.HOLD := by
  unfold State.on State.rd
  rw [trip]

/-- A meaning follows the table when its effect does. -/
theorem FollowsTable.run {t : Time} {f : State → State} (next : s.run t f = .next u) (h : ∀ v, FollowsTable c v (f v)) :
    FollowsTable c s u := by
  rw [State.run_next next]
  exact ⟨(h (s.upTo t)).table, (h (s.upTo t)).hold⟩

theorem Ordinary.followsTable (o : Ordinary s u) : FollowsTable c s u where
  table := by
    obtain same | ⟨safe, from_⟩ | ⟨turn, from_⟩ := o.dev
    · exact .inl same
    · exact .inr <| tableAllows_safe safe (.inr <| from_.imp_right fun other => other.imp_right .inl)
    · exact .inr <| tableAllows_running turn (from_.imp_right .inl)
  hold on _ := ⟨State.hold_of_trip o.trip ▸ on, fun reset => by
    have stays := o.dev.of_rest (by rw [reset]; decide)
    rw [stays, reset]⟩

theorem OrdinaryAnswer.followsTable {x} (o : OrdinaryAnswer s x) (next : x = .next u) : FollowsTable c s u :=
  (o u next).followsTable

/-! ### Through RESET -/

/-- The boot starts only from RESET, and not during the hold: it leads to BOOT, or on to SAFE when it logs a shutdown. -/
theorem State.tryBoot_cases (s : State) : s.tryBoot = s ∨
    (s.devState = devReset ∧ s.on R.THM_TRIP.HOLD = false ∧ s.tryBoot.word R.THM_TRIP.addr = s.word R.THM_TRIP.addr ∧
      (s.tryBoot.devState = devBoot ∨ s.tryBoot.devState = devSafe)) := by
  unfold State.tryBoot
  split
  · exact .inl rfl
  · next starts =>
    obtain ⟨reset, -, good⟩ : s.devState = devReset ∧ ¬ s.dev.porst = true ∧ s.suppliesGood = true := by
      simpa using starts
    have free : s.on R.THM_TRIP.HOLD = false := by
      simpa using (Bool.and_eq_true_iff.mp good).2
    extract_lets booted
    have boot : booted.devState = devBoot := by
      unfold booted
      exact State.rd_wr_same s _ (by decide) (by decide)
    have trip : booted.word R.THM_TRIP.addr = s.word R.THM_TRIP.addr := State.word_wr_ne _ _ (by decide)
    have o : Ordinary booted (booted.when booted.thm.tripLog fun s =>
        (s.updThm fun m => { m with tripLog := false }).raise .thmTripped noHead) :=
      .when (.refl _) fun o => .raise <| .updThm o
    refine .inr ⟨reset, free, o.trip.trans trip, ?_⟩
    clear_value booted
    have moves := o.dev
    rw [boot] at moves
    obtain same | ⟨safe, -⟩ | ⟨-, none⟩ := moves
    · exact .inl same
    · exact .inr safe
    · exact absurd none (by decide)

/-- From state `s` the device has gone through RESET to state `u`; during the hold it is still there. -/
structure Rebooted (s u : State) : Prop where
  trip : u.word R.THM_TRIP.addr = s.word R.THM_TRIP.addr
  dev : u.devState = devReset ∨ (s.on R.THM_TRIP.HOLD = false ∧ (u.devState = devBoot ∨ u.devState = devSafe))

theorem State.enterReset_trip (s : State) (cause : Nat) :
    (s.enterReset cause).word R.THM_TRIP.addr = s.word R.THM_TRIP.addr := by
  unfold State.enterReset
  exact (State.word_setWord_same _ _ _).trans (Nat.mod_eq_of_lt (s.word_lt _))

theorem State.enterReset_devState (s : State) (cause : Nat) : (s.enterReset cause).devState = devReset := by
  unfold State.enterReset State.devState
  dsimp only
  rw [State.rd_setWord_ne _ _ (by decide), State.rd_wr_addr _ _ (by decide), State.rd_wr_same _ _ (by decide) (by decide)]
  rfl

theorem Rebooted.enterReset (trip : u.word R.THM_TRIP.addr = s.word R.THM_TRIP.addr) {cause : Nat} :
    Rebooted s (u.enterReset cause) := ⟨(u.enterReset_trip cause).trans trip, .inl (u.enterReset_devState cause)⟩

theorem Rebooted.tryBoot (r : Rebooted s u) : Rebooted s u.tryBoot := by
  obtain same | ⟨-, free, trip, goes⟩ := u.tryBoot_cases
  · rwa [same]
  · exact ⟨trip.trans r.trip, .inr ⟨State.hold_of_trip r.trip ▸ free, goes⟩⟩

theorem Rebooted.followsTable (r : Rebooted s u) (may : mayReset c = true) : FollowsTable c s u where
  table := by
    obtain reset | ⟨-, boot | safe⟩ := r.dev
    · exact .inr <| tableAllows_reset reset may
    · exact .inr <| tableAllows_boot boot (.inr may)
    · exact .inr <| tableAllows_safe safe (.inr <| .inr <| .inr <| .inr may)
  hold on _ := by
    refine ⟨State.hold_of_trip r.trip ▸ on, fun _ => ?_⟩
    obtain reset | ⟨free, -⟩ := r.dev
    · exact reset
    · simp [free] at on

/-! ### The services of a session (R478 to R480) -/

/-- What a service does: an ordinary change, or one through RESET. -/
def Serviced (s u : State) : Prop := Ordinary s u ∨ Rebooted s u

theorem Serviced.trip (x : Serviced s u) : u.word R.THM_TRIP.addr = s.word R.THM_TRIP.addr := x.elim (·.trip) (·.trip)

theorem Serviced.sessionEnd (x : Serviced s u) : Serviced s u.sessionEnd :=
  .inr <| .tryBoot <| .enterReset <| (Ordinary.raise (.refl u)).trip.trans x.trip

theorem Serviced.service (o : Ordinary s u) {r p} {f : State → State} (h : ∀ {v}, Ordinary s v → Serviced s (f v)) :
    Serviced s (u.service r p f) := by
  unfold State.service
  extract_lets _ counted served
  split
  · exact .inl o
  · have q : Ordinary s counted := .updSession o
    have x : Serviced s served := by
      unfold served
      split
      · exact h q
      · split
        · exact h q
        · exact .inl <| .denied q
    clear_value served
    unfold State.when
    split
    · exact x.sessionEnd
    · exact x

theorem Serviced.followsTable (x : Serviced s u) (may : mayReset c = true) : FollowsTable c s u :=
  x.elim (·.followsTable) (·.followsTable may)

/-- The answer of a service. -/
def ServiceAnswer (s : State) (x : Host.Outcome State Fault Refusal) : Prop := ∀ u, x = .next u → Serviced s u

theorem ServiceAnswer.run {t : Time} {f : State → State} (h : ∀ {r v}, Ordinary r v → Serviced r (f v)) :
    ServiceAnswer s (s.run t f) := by
  intro u next
  rw [State.run_next next]
  exact (h (Ordinary.putDt (.refl s))).imp (fun o => o.same rfl) fun r => ⟨r.trip, r.dev⟩

/-- A service whose own effect is ordinary. -/
theorem ServiceAnswer.ofOrdinary {t : Time} {r p} {f : State → State} (h : ∀ {s v}, Ordinary s v → Ordinary s (f v)) :
    ServiceAnswer s (s.run t fun s => s.service r p f) := .run fun o => .service o fun o => .inl (h o)

theorem ServiceAnswer.execClose {t r} : ServiceAnswer s (execClose t r s) :=
  .run fun o => .service o fun o => .sessionEnd <| .inl <| .answer o

theorem ServiceAnswer.execSessionLost {t} : ServiceAnswer s (execSessionLost t s) :=
  .run fun {_ v} o => by
    unfold State.when
    split
    · exact .sessionEnd <| .inl o
    · exact .inl o

theorem ServiceAnswer.execSessionExpiry {t} : ServiceAnswer s (execSessionExpiry t s) :=
  .run fun o => by
    unfold State.when
    split
    · exact .sessionEnd <| .inl o
    · exact .inl o

theorem ServiceAnswer.execRegRead {t r addr count} : ServiceAnswer s (execRegRead t r addr count s) :=
  .ofOrdinary fun o => .ite (.denied o) (.answer <| .hostReads o)

theorem ServiceAnswer.execRegWrite {t r addr words} : ServiceAnswer s (execRegWrite t r addr words s) :=
  .ofOrdinary fun o => .ite (.denied o) (.answer <| .hostWrites o)

theorem ServiceAnswer.execSnapRead {t r i gen first count} : ServiceAnswer s (execSnapRead t r i gen first count s) :=
  .ofOrdinary fun o => .ite (.denied o) <| by
    split
    next header =>
    split
    next frames =>
    refine .answer <| .leaveRequest <| .fst (.foldlFst (o.memRead.fst header) fun {x _} o => ?_) frames
    obtain ⟨v, out⟩ := x
    dsimp only
    exact .memRead o

theorem ServiceAnswer.execAttest {t r x} : ServiceAnswer s (execAttest t r x s) :=
  .ofOrdinary fun o => .ite (.denied o) (.answer <| .showReport o)

theorem Ordinary.flashPut (o : Ordinary s u) {a bs} : Ordinary s (u.flashPut a bs) := .updBoot o

theorem ServiceAnswer.execFlashErase {t r addr} : ServiceAnswer s (execFlashErase t r addr s) :=
  .ofOrdinary fun o => .ite (.denied o) (.ite (.denied <| .writeRefused o) (.answer <| .updBoot o))

theorem ServiceAnswer.execFlashWrite {t r addr data good} : ServiceAnswer s (execFlashWrite t r addr data good s) :=
  .ofOrdinary fun o => .ite (.denied o) (.ite (.denied <| .writeRefused o) (.ite (.denied <| .putFree <| .flashPut o)
    (.ite (.answer <| .flashPut o) (.denied <| .flashPut o))))

theorem ServiceAnswer.execFlashRead {t r addr n} : ServiceAnswer s (execFlashRead t r addr n s) :=
  .ofOrdinary fun o => .ite (.denied o) (.answer o)

theorem ServiceAnswer.execHeadEnable {t r heads} : ServiceAnswer s (execHeadEnable t r heads s) :=
  .ofOrdinary fun o => .answer <| .eachHead (.updSession o) fun o => .refreshHost o

theorem ServiceAnswer.execLcChange {t r target seedEd seedMl} : ServiceAnswer s (execLcChange t r target seedEd seedMl s) :=
  .run fun o => .service o fun {v} o => by
    split
    · exact .inl <| .denied o
    · split
      · exact .inl <| .denied <| .fuseRefused o
      · exact .inr <| .tryBoot <| .enterReset <| Ordinary.trip <| .answer <| .raise <| .setFuses o

theorem ServiceAnswer.execRollbackCommit {t r} : ServiceAnswer s (execRollbackCommit t r s) :=
  .ofOrdinary fun o => .ite (.denied o) (.ite (.answer <| .advanceRollback o) (.denied <| .advanceRollback o))

theorem ServiceAnswer.execRootProgram {t r i hash} : ServiceAnswer s (execRootProgram t r i hash s) :=
  .ofOrdinary fun o => .ite (.denied <| .raise o) (.ite (.denied <| .fuseRefused o) (.answer <| .setFuses o))

theorem ServiceAnswer.execRootRevoke {t r i} : ServiceAnswer s (execRootRevoke t r i s) :=
  .ofOrdinary fun o => .ite (.denied <| .raise o) (.ite (.denied <| .fuseRefused o) (.answer <| .setFuses o))

theorem ServiceAnswer.followsTable {x} (y : ServiceAnswer s x) (may : mayReset c = true) (next : x = .next u) :
    FollowsTable c s u := (y u next).followsTable may

/-! ### Reset, supplies, watchdog (R25, R30, R510, R511) -/

theorem execPorstNAssert_followsTable {t} (next : execPorstNAssert t s = .next u) : FollowsTable (.porstNAssert t) s u :=
  .run next fun v => by
    dsimp only
    split
    · exact Ordinary.followsTable <| .updDev <| .refl v
    · exact Rebooted.followsTable (.enterReset (by rfl)) rfl

theorem execWatchdogExpiry_followsTable {t} (next : execWatchdogExpiry t s = .next u) :
    FollowsTable (.watchdogExpiry t) s u :=
  .run next fun v => by
    unfold State.when
    split
    · exact Rebooted.followsTable (.tryBoot <| .enterReset rfl) rfl
    · exact Ordinary.followsTable <| .refl v

/-- The start of the boot: the device was in RESET before. -/
theorem Ordinary.tryBoot_followsTable (o : Ordinary s u) : FollowsTable c s u.tryBoot := by
  obtain same | ⟨reset, free, trip, goes⟩ := u.tryBoot_cases
  · rw [same]
    exact o.followsTable
  · have was : s.devState = devReset := (o.dev.eq_of_not_cause (by rw [reset]; decide)).trans reset
    refine ⟨.inr ?_, fun on => ?_⟩
    · exact goes.elim (fun boot => tableAllows_boot boot (.inl was)) fun safe => tableAllows_safe safe (.inl was)
    · rw [← State.hold_of_trip o.trip, free] at on
      exact absurd on (by decide)

theorem execPorstNRelease_followsTable {t} (next : execPorstNRelease t s = .next u) : FollowsTable (.porstNRelease t) s u :=
  .run next fun v => by
    unfold State.when
    split
    · exact Ordinary.tryBoot_followsTable <| .updDev <| .refl v
    · exact Ordinary.followsTable <| .refl v

theorem execSuppliesGood_followsTable {t} (next : execSuppliesGood t s = .next u) : FollowsTable (.suppliesGood t) s u :=
  .run next fun v => Ordinary.tryBoot_followsTable <| .updDev <| .refl v

/-! ### Hardware shutdown (R441, R442) -/

theorem execThermalShutdown_followsTable {t} (next : execThermalShutdown t s = .next u) :
    FollowsTable (.thermalShutdown t) s u :=
  .run next fun v => by
    split
    · split
      · exact Ordinary.followsTable <| .refl v
      · next stands =>
        obtain ⟨up, free⟩ := not_or.mp stands
        extract_lets _ latched
        clear_value latched
        have o : Ordinary (latched.setDev devShutdown) (latched.setDev devShutdown).headsOff := .headsOff <| .refl _
        have shutdown : (latched.setDev devShutdown).headsOff.devState = devShutdown := by
          have dev := o.dev
          rw [latched.devState_setDev (by decide)] at dev
          exact dev.of_rest (by decide)
        exact ⟨.inr <| tableAllows_shutdown shutdown up ⟨t, rfl⟩, fun on => absurd on free⟩
    · exact Ordinary.followsTable <| .refl v

theorem execThermalHoldRelease_followsTable {t} (next : execThermalHoldRelease t s = .next u) :
    FollowsTable (.thermalHoldRelease t) s u :=
  .run next fun v => by
    split
    · exact Ordinary.followsTable <| .refl v
    · refine ⟨?_, fun _ other => absurd rfl (other t)⟩
      extract_lets left
      have start : left.devState = v.devState ∨ left.devState = devReset := by
        unfold left State.when
        split
        · exact .inr <| v.enterReset_devState 5
        · exact .inl rfl
      have wr : (left.wr R.THM_TRIP.HOLD 0).devState = left.devState := State.rd_wr_addr _ _ (by decide)
      obtain same | ⟨-, -, -, goes⟩ := (left.wr R.THM_TRIP.HOLD 0).tryBoot_cases
      · rw [same, wr]
        exact start.imp_right fun reset => tableAllows_reset reset rfl
      · exact .inr <| goes.elim (fun boot => tableAllows_boot boot (.inr rfl)) fun safe =>
          tableAllows_safe safe (.inr <| .inr <| .inr <| .inr rfl)

/-! ### Seal, reset button, session opened (R318, R474, R478) -/

/-- From state `s` a seal or a reset led the device to RUN or DEGRADED, in state `v`, and causes moved it from there. -/
theorem Ordinary.followsTable_of_running {v : State} (trip : v.word R.THM_TRIP.addr = s.word R.THM_TRIP.addr)
    (run : v.devState = devRun ∨ v.devState = devDegraded) (o : Ordinary v u)
    (own : (s.devState = devBoot ∧ ∃ t, c = .seal t) ∨ (s.devState = devSafe ∧ ∃ t v, c = .resetAccept t v)) :
    FollowsTable c s u where
  table := by
    obtain same | ⟨safe, -⟩ | ⟨turn, -⟩ := o.dev
    · exact .inr <| tableAllows_running (by rwa [same]) (.inr <| .inr own)
    · obtain ⟨boot, -⟩ | ⟨was, -⟩ := own
      · exact .inr <| tableAllows_safe safe (.inr <| .inl boot)
      · exact .inl <| safe.trans was.symm
    · exact .inr <| tableAllows_running turn (.inr <| .inr own)
  hold on _ := by
    refine ⟨State.hold_of_trip (o.trip.trans trip) ▸ on, fun reset => ?_⟩
    rw [reset] at own
    exact absurd own (by simp [devReset, devBoot, devSafe])

theorem State.setDev_run (s : State) (degraded : Bool) :
    (s.setDev (if degraded then devDegraded else devRun)).devState = devRun ∨
      (s.setDev (if degraded then devDegraded else devRun)).devState = devDegraded := by
  split
  · exact .inr <| s.devState_setDev (by decide)
  · exact .inl <| s.devState_setDev (by decide)

/-- A seal that succeeds leaves BOOT for RUN or DEGRADED. -/
theorem execSeal_followsTable {t} (next : execSeal t s = .next u) : FollowsTable (.seal t) s u :=
  .run next fun v => by
    split
    · exact Ordinary.followsTable <| .refl v
    · split
      · exact Ordinary.followsTable <| .refl v
      · extract_lets _ _ _ settled left
        have p : Ordinary v settled := .settleDev <| .updBoot <| .sealParts <| .showImage <| .applyImage <| .refl v
        have o : Ordinary left (left.eachHead fun h s => s.tryLeaveOff h) := .eachHead (.refl left) fun o => .tryLeaveOff o
        clear_value settled
        by_cases stays : settled.devState ≠ devBoot ∨ settled.safeActive
        · have same : left = settled := if_pos stays
          exact (p.trans (same ▸ o)).followsTable
        · have led : left = settled.setDev (if settled.degActive then devDegraded else devRun) := if_neg stays
          have boot : settled.devState = devBoot := Decidable.not_not.mp (not_or.mp stays).1
          have was : v.devState = devBoot := boot ▸ p.dev.eq_of_not_cause (by rw [boot]; decide)
          exact o.followsTable_of_running (by rw [led, State.setDev_trip, p.trip]) (by rw [led]; exact settled.setDev_run _)
            (.inl ⟨was, t, rfl⟩)

/-- Causes settle between RUN and DEGRADED alone: they do not lead to SAFE. -/
theorem State.settleDev_safe (safe : s.settleDev.devState = devSafe) : s.devState = devSafe := by
  revert safe
  unfold State.settleDev
  extract_lets v
  have same : v.devState = s.devState := (State.rd_wr_addr _ _ (by decide)).trans (State.rd_wr_addr _ _ (by decide))
  clear_value v
  split
  · rw [v.devState_setDev (by decide)]
    exact fun safe => absurd safe (by decide)
  · split
    · rw [v.devState_setDev (by decide)]
      exact fun safe => absurd safe (by decide)
    · exact same.symm.trans

theorem Ordinary.rstRefused (o : Ordinary s u) : Ordinary s u.rstRefused := .raise <| .reg rfl o

theorem State.rstAct_followsTable {t same} : FollowsTable (.resetAccept t same) s s.rstAct := by
  unfold State.rstAct
  extract_lets _ _ left raised ready evaluated
  have p : Ordinary s (s.updDev fun d => { d with safeOcc := [] }).settleDev := .settleDev <| .updDev <| .refl s
  have o : Ordinary left evaluated := .foldl (.each (.refl left) fun o => .chanRaise o) fun o => .evalPair <| .updSafe o
  clear_value evaluated
  have last {c : Bool} : Ordinary left (if c then evaluated.inc R.SAFE_RST_STATUS.ACCEPTED else evaluated.rstRefused) :=
    .ite (.reg rfl o) (.rstRefused o)
  revert last
  unfold left State.leaveSafe
  split
  · next leaves =>
    intro last
    exact last.followsTable_of_running (by rw [State.setDev_trip, p.trip]) (State.setDev_run _ _)
      (.inr ⟨State.settleDev_safe (s := s.updDev _) leaves.1, t, same, rfl⟩)
  · exact fun last => (p.trans last).followsTable

theorem execResetAccept_followsTable {t same} (next : execResetAccept t same s = .next u) :
    FollowsTable (.resetAccept t same) s u :=
  .run next fun v => by
    split
    · exact Ordinary.followsTable <| .refl v
    · extract_lets judged
      split
      · have acts : FollowsTable (.resetAccept t same) judged judged.rstAct := State.rstAct_followsTable
        exact ⟨acts.table, acts.hold⟩
      · exact Ordinary.followsTable <| .rstRefused <| .updSafe <| .refl v

/-- A session that opens leads from RUN, DEGRADED or SAFE to MAINT. -/
theorem execAuthReceive_followsTable {t good} (next : execAuthReceive t good s = .next u) :
    FollowsTable (.authReceive t good) s u :=
  .run next fun v => by
    split
    · exact Ordinary.followsTable <| .refl v
    · next opens =>
      split
      · exact Ordinary.followsTable <| .authFail <| .refl v
      · next good =>
        obtain ⟨-, may⟩ : v.sessionState = 1 ∧ v.mayMaintain = true := by simpa using opens
        have from_ : v.devState = devRun ∨ v.devState = devDegraded ∨ v.devState = devSafe := by
          simpa [State.mayMaintain, State.running, or_assoc] using may
        extract_lets _ _ _ _ counted maint refreshed parked
        have p : Ordinary v counted :=
          .updSession <| .reg rfl <| .reg rfl <| .reg rfl <| .reg rfl <| .reg rfl <| .reg rfl <| .refl v
        have o : Ordinary maint (parked.raise .sessionOpen noHead) := .raise <| .eachHead (.eachHead (.refl maint) fun o =>
          .refreshHost o) fun o => .when o fun o => .ite (.updScan o) (.startPark o)
        have shown : maint.devState = devMaint := counted.devState_setDev (by decide)
        have trip : maint.word R.THM_TRIP.addr = v.word R.THM_TRIP.addr := (counted.setDev_trip _).trans p.trip
        clear_value maint
        have stays : (parked.raise .sessionOpen noHead).devState = devMaint :=
          (o.dev.of_rest (by rw [shown]; decide)).trans shown
        refine ⟨.inr <| tableAllows_maint stays from_ ⟨t, by simpa using good⟩, fun on _ => ?_⟩
        refine ⟨State.hold_of_trip (o.trip.trans trip) ▸ on, fun reset => ?_⟩
        rw [reset] at from_
        exact absurd from_ (by decide)

/-! ### Every command -/

theorem exec_followsTable (next : exec c s = .next u) : FollowsTable c s u := by
  cases c with
  | porstNAssert => exact execPorstNAssert_followsTable next
  | porstNRelease => exact execPorstNRelease_followsTable next
  | suppliesGood => exact execSuppliesGood_followsTable next
  | railOutOfTolerance t rail => exact (OrdinaryAnswer.execRailOutOfTolerance (rail := rail)).followsTable next
  | watchdogExpiry => exact execWatchdogExpiry_followsTable next
  | degHoldExpiry => exact OrdinaryAnswer.execDegHoldExpiry.followsTable next
  | eventLatchClear => exact OrdinaryAnswer.execEventLatchClear.followsTable next
  | slowInputClamp => exact OrdinaryAnswer.execSlowInputClamp.followsTable next
  | headStart => exact OrdinaryAnswer.execHeadStart.followsTable next
  | headPark => exact OrdinaryAnswer.execHeadPark.followsTable next
  | headRestart => exact OrdinaryAnswer.execHeadRestart.followsTable next
  | hostInhibitWrite => exact OrdinaryAnswer.execHostInhibitWrite.followsTable next
  | autoStart => exact OrdinaryAnswer.execAutoStart.followsTable next
  | frameStart => exact OrdinaryAnswer.execFrameStart.followsTable next
  | movePhaseStart => exact OrdinaryAnswer.execMovePhaseStart.followsTable next
  | descriptorPrefetchArrival => exact OrdinaryAnswer.execDescriptorPrefetchArrival.followsTable next
  | settleTimeout => exact OrdinaryAnswer.execSettleTimeout.followsTable next
  | dwellOpen => exact OrdinaryAnswer.execDwellOpen.followsTable next
  | dwellClose => exact OrdinaryAnswer.execDwellClose.followsTable next
  | flybackStart => exact OrdinaryAnswer.execFlybackStart.followsTable next
  | scanLoadStore => exact OrdinaryAnswer.execScanLoadStore.followsTable next
  | commitRequest => exact OrdinaryAnswer.execCommitRequest.followsTable next
  | commitCancel => exact OrdinaryAnswer.execCommitCancel.followsTable next
  | commitCheckComplete => exact OrdinaryAnswer.execCommitCheckComplete.followsTable next
  | forwardedWrite => exact OrdinaryAnswer.execForwardedWrite.followsTable next
  | chainLoad => exact OrdinaryAnswer.execChainLoad.followsTable next
  | chainPatternSend => exact OrdinaryAnswer.execChainPatternSend.followsTable next
  | chainSwapSend => exact OrdinaryAnswer.execChainSwapSend.followsTable next
  | chainFrameReturn => exact OrdinaryAnswer.execChainFrameReturn.followsTable next
  | chainFrameTimeout => exact OrdinaryAnswer.execChainFrameTimeout.followsTable next
  | proofStep => exact OrdinaryAnswer.execProofStep.followsTable next
  | proofLate => exact OrdinaryAnswer.execProofLate.followsTable next
  | fireStrobeLaunch => exact OrdinaryAnswer.execFireStrobeLaunch.followsTable next
  | echoEdge => exact OrdinaryAnswer.execEchoEdge.followsTable next
  | echoWindowExpiry => exact OrdinaryAnswer.execEchoWindowExpiry.followsTable next
  | clrEcho => exact OrdinaryAnswer.execClrEcho.followsTable next
  | returnEdge => exact OrdinaryAnswer.execReturnEdge.followsTable next
  | saturationDetect => exact OrdinaryAnswer.execSaturationDetect.followsTable next
  | saturationEnd => exact OrdinaryAnswer.execSaturationEnd.followsTable next
  | randomHitInject => exact OrdinaryAnswer.execRandomHitInject.followsTable next
  | calEpochClose => exact OrdinaryAnswer.execCalEpochClose.followsTable next
  | calSelectionApply => exact OrdinaryAnswer.execCalSelectionApply.followsTable next
  | calStaleExpiry => exact OrdinaryAnswer.execCalStaleExpiry.followsTable next
  | calRestore => exact OrdinaryAnswer.execCalRestore.followsTable next
  | vernierCalComplete => exact OrdinaryAnswer.execVernierCalComplete.followsTable next
  | coincDecision => exact OrdinaryAnswer.execCoincDecision.followsTable next
  | hypothesisEntry => exact OrdinaryAnswer.execHypothesisEntry.followsTable next
  | bufferComplete => exact OrdinaryAnswer.execBufferComplete.followsTable next
  | evaluatorRun => exact OrdinaryAnswer.execEvaluatorRun.followsTable next
  | fieldLineArrival => exact OrdinaryAnswer.execFieldLineArrival.followsTable next
  | recordMove => exact OrdinaryAnswer.execRecordMove.followsTable next
  | recordDropDeadline => exact OrdinaryAnswer.execRecordDropDeadline.followsTable next
  | bearingStageArrival => exact OrdinaryAnswer.execBearingStageArrival.followsTable next
  | bearingMerge => exact OrdinaryAnswer.execBearingMerge.followsTable next
  | writeBackComplete => exact OrdinaryAnswer.execWriteBackComplete.followsTable next
  | tachEdge => exact OrdinaryAnswer.execTachEdge.followsTable next
  | tachGateEnd => exact OrdinaryAnswer.execTachGateEnd.followsTable next
  | speedValidTimer => exact OrdinaryAnswer.execSpeedValidTimer.followsTable next
  | pointFormat => exact OrdinaryAnswer.execPointFormat.followsTable next
  | pointFrameFlush => exact OrdinaryAnswer.execPointFrameFlush.followsTable next
  | geometryRepeat => exact OrdinaryAnswer.execGeometryRepeat.followsTable next
  | alarmFieldStatus => exact OrdinaryAnswer.execAlarmFieldStatus.followsTable next
  | eventFrameQueue => exact OrdinaryAnswer.execEventFrameQueue.followsTable next
  | statusFrame => exact OrdinaryAnswer.execStatusFrame.followsTable next
  | streamDisable => exact OrdinaryAnswer.execStreamDisable.followsTable next
  | frameTransmit => exact OrdinaryAnswer.execFrameTransmit.followsTable next
  | prpSupervision => exact OrdinaryAnswer.execPrpSupervision.followsTable next
  | netPrpPlane => exact OrdinaryAnswer.execNetPrpPlane.followsTable next
  | netLinkDown => exact OrdinaryAnswer.execNetLinkDown.followsTable next
  | netLinkUp => exact OrdinaryAnswer.execNetLinkUp.followsTable next
  | captureStatusTick => exact OrdinaryAnswer.execCaptureStatusTick.followsTable next
  | captureFrameClose => exact OrdinaryAnswer.execCaptureFrameClose.followsTable next
  | trigInEdge => exact OrdinaryAnswer.execTrigInEdge.followsTable next
  | sequencerOccurrence => exact OrdinaryAnswer.execSequencerOccurrence.followsTable next
  | sequencerTimerExpiry => exact OrdinaryAnswer.execSequencerTimerExpiry.followsTable next
  | trigOutPulseEnd => exact OrdinaryAnswer.execTrigOutPulseEnd.followsTable next
  | rearmEnd => exact OrdinaryAnswer.execRearmEnd.followsTable next
  | sequencerForce => exact OrdinaryAnswer.execSequencerForce.followsTable next
  | sequencerRestart => exact OrdinaryAnswer.execSequencerRestart.followsTable next
  | slotArm => exact OrdinaryAnswer.execSlotArm.followsTable next
  | slotRelease => exact OrdinaryAnswer.execSlotRelease.followsTable next
  | slotFull => exact OrdinaryAnswer.execSlotFull.followsTable next
  | servoSample => exact OrdinaryAnswer.execServoSample.followsTable next
  | servoOverrun => exact OrdinaryAnswer.execServoOverrun.followsTable next
  | feedbackLost => exact OrdinaryAnswer.execFeedbackLost.followsTable next
  | faultParkHoldEnd => exact OrdinaryAnswer.execFaultParkHoldEnd.followsTable next
  | parkTimeout => exact OrdinaryAnswer.execParkTimeout.followsTable next
  | servoOffsetCalPhaseEnd => exact OrdinaryAnswer.execServoOffsetCalPhaseEnd.followsTable next
  | excitationLevelWrite => exact OrdinaryAnswer.execExcitationLevelWrite.followsTable next
  | excitationHoldEnd => exact OrdinaryAnswer.execExcitationHoldEnd.followsTable next
  | coefBankWrite => exact OrdinaryAnswer.execCoefBankWrite.followsTable next
  | sdBlockReceive => exact OrdinaryAnswer.execSdBlockReceive.followsTable next
  | hkUpReceive => exact OrdinaryAnswer.execHkUpReceive.followsTable next
  | mgmtUpReceive => exact OrdinaryAnswer.execMgmtUpReceive.followsTable next
  | energyMonitorSample => exact OrdinaryAnswer.execEnergyMonitorSample.followsTable next
  | eyeBucketAdvance => exact OrdinaryAnswer.execEyeBucketAdvance.followsTable next
  | eyeLatchClear => exact OrdinaryAnswer.execEyeLatchClear.followsTable next
  | zeroCalComplete => exact OrdinaryAnswer.execZeroCalComplete.followsTable next
  | safetyDecision => exact OrdinaryAnswer.execSafetyDecision.followsTable next
  | decisionDeadline => exact OrdinaryAnswer.execDecisionDeadline.followsTable next
  | safetyTick => exact OrdinaryAnswer.execSafetyTick.followsTable next
  | safeClockCheck t b => exact (OrdinaryAnswer.execSafeClockCheck (b := b)).followsTable next
  | dtAdvanceTimeout t b => exact (OrdinaryAnswer.execDtAdvanceTimeout (b := b)).followsTable next
  | inputFilterChange => exact OrdinaryAnswer.execInputFilterChange.followsTable next
  | testPulse => exact OrdinaryAnswer.execTestPulse.followsTable next
  | discrepancyTimeout => exact OrdinaryAnswer.execDiscrepancyTimeout.followsTable next
  | fieldCodeHold => exact OrdinaryAnswer.execFieldCodeHold.followsTable next
  | resetAccept => exact execResetAccept_followsTable next
  | rstStuck => exact OrdinaryAnswer.execRstStuck.followsTable next
  | ossdOnDelayExpiry => exact OrdinaryAnswer.execOssdOnDelayExpiry.followsTable next
  | headStale t h => exact (OrdinaryAnswer.execHeadStale (h := h)).followsTable next
  | ossdTestStart => exact OrdinaryAnswer.execOssdTestStart.followsTable next
  | ossdTestEnd => exact OrdinaryAnswer.execOssdTestEnd.followsTable next
  | cmdNop => exact OrdinaryAnswer.execCmdNop.followsTable next
  | cmdFieldSelect => exact OrdinaryAnswer.execCmdFieldSelect.followsTable next
  | cmdOverride => exact OrdinaryAnswer.execCmdOverride.followsTable next
  | cmdSpeedPlaus => exact OrdinaryAnswer.execCmdSpeedPlaus.followsTable next
  | connTimeout => exact OrdinaryAnswer.execConnTimeout.followsTable next
  | heartbeatSend => exact OrdinaryAnswer.execHeartbeatSend.followsTable next
  | heartbeatReceive => exact OrdinaryAnswer.execHeartbeatReceive.followsTable next
  | heartbeatLost => exact OrdinaryAnswer.execHeartbeatLost.followsTable next
  | pairJoinTimeout => exact OrdinaryAnswer.execPairJoinTimeout.followsTable next
  | tokenClaim => exact OrdinaryAnswer.execTokenClaim.followsTable next
  | tokenInhibitClear => exact OrdinaryAnswer.execTokenInhibitClear.followsTable next
  | tokenInChange => exact OrdinaryAnswer.execTokenInChange.followsTable next
  | tokenRetry => exact OrdinaryAnswer.execTokenRetry.followsTable next
  | holderHbSilence => exact OrdinaryAnswer.execHolderHbSilence.followsTable next
  | pairHandover => exact OrdinaryAnswer.execPairHandover.followsTable next
  | pairRejoin => exact OrdinaryAnswer.execPairRejoin.followsTable next
  | digestReceive => exact OrdinaryAnswer.execDigestReceive.followsTable next
  | digestTimeout => exact OrdinaryAnswer.execDigestTimeout.followsTable next
  | catchupRecord t p rx bid record =>
    exact (OrdinaryAnswer.execCatchupRecord (bid := bid) (record := record)).followsTable next
  | beaconSend => exact OrdinaryAnswer.execBeaconSend.followsTable next
  | beaconReceive => exact OrdinaryAnswer.execBeaconReceive.followsTable next
  | beaconTimeout => exact OrdinaryAnswer.execBeaconTimeout.followsTable next
  | markerSend => exact OrdinaryAnswer.execMarkerSend.followsTable next
  | markerReceive => exact OrdinaryAnswer.execMarkerReceive.followsTable next
  | markerFuReceive => exact OrdinaryAnswer.execMarkerFuReceive.followsTable next
  | joinSend => exact OrdinaryAnswer.execJoinSend.followsTable next
  | joinReceive => exact OrdinaryAnswer.execJoinReceive.followsTable next
  | admitReceive => exact OrdinaryAnswer.execAdmitReceive.followsTable next
  | rollSend => exact OrdinaryAnswer.execRollSend.followsTable next
  | rollReceive => exact OrdinaryAnswer.execRollReceive.followsTable next
  | rollAnsReceive => exact OrdinaryAnswer.execRollAnsReceive.followsTable next
  | planReceive => exact OrdinaryAnswer.execPlanReceive.followsTable next
  | tableReceive => exact OrdinaryAnswer.execTableReceive.followsTable next
  | noticeReceive => exact OrdinaryAnswer.execNoticeReceive.followsTable next
  | noticeDeadline => exact OrdinaryAnswer.execNoticeDeadline.followsTable next
  | syncReqReceive => exact OrdinaryAnswer.execSyncReqReceive.followsTable next
  | dividerReset => exact OrdinaryAnswer.execDividerReset.followsTable next
  | syncInEdge => exact OrdinaryAnswer.execSyncInEdge.followsTable next
  | didReservationExpiry => exact OrdinaryAnswer.execDidReservationExpiry.followsTable next
  | holdoverLong => exact OrdinaryAnswer.execHoldoverLong.followsTable next
  | holdAlignExpiry => exact OrdinaryAnswer.execHoldAlignExpiry.followsTable next
  | memRequestIssue => exact OrdinaryAnswer.execMemRequestIssue.followsTable next
  | memReadComplete => exact OrdinaryAnswer.execMemReadComplete.followsTable next
  | retrainPause => exact OrdinaryAnswer.execRetrainPause.followsTable next
  | selfRefreshEntry => exact OrdinaryAnswer.execSelfRefreshEntry.followsTable next
  | rateChangeRequest => exact OrdinaryAnswer.execRateChangeRequest.followsTable next
  | stackRateChange => exact OrdinaryAnswer.execStackRateChange.followsTable next
  | scrubUnit => exact OrdinaryAnswer.execScrubUnit.followsTable next
  | wipeComplete => exact OrdinaryAnswer.execWipeComplete.followsTable next
  | hbmPllLossOfLock => exact OrdinaryAnswer.execHbmPllLossOfLock.followsTable next
  | laneTrainTimeout => exact OrdinaryAnswer.execLaneTrainTimeout.followsTable next
  | codewordLock => exact OrdinaryAnswer.execCodewordLock.followsTable next
  | laneFailure => exact OrdinaryAnswer.execLaneFailure.followsTable next
  | linkReportSend => exact OrdinaryAnswer.execLinkReportSend.followsTable next
  | linkReportReceive => exact OrdinaryAnswer.execLinkReportReceive.followsTable next
  | transmitSetApply => exact OrdinaryAnswer.execTransmitSetApply.followsTable next
  | headlinkFault => exact OrdinaryAnswer.execHeadlinkFault.followsTable next
  | laneReadd => exact OrdinaryAnswer.execLaneReadd.followsTable next
  | laneReaddWrite => exact OrdinaryAnswer.execLaneReaddWrite.followsTable next
  | refclkLoss => exact OrdinaryAnswer.execRefclkLoss.followsTable next
  | refclkGood => exact OrdinaryAnswer.execRefclkGood.followsTable next
  | timingPllLossOfLock => exact OrdinaryAnswer.execTimingPllLossOfLock.followsTable next
  | timingPllRelock => exact OrdinaryAnswer.execTimingPllRelock.followsTable next
  | logicPllLossOfLock => exact OrdinaryAnswer.execLogicPllLossOfLock.followsTable next
  | logicPllRelock => exact OrdinaryAnswer.execLogicPllRelock.followsTable next
  | laneRefLoss => exact OrdinaryAnswer.execLaneRefLoss.followsTable next
  | laneRefReturn => exact OrdinaryAnswer.execLaneRefReturn.followsTable next
  | timingPllBypass => exact OrdinaryAnswer.execTimingPllBypass.followsTable next
  | logicPllBypass => exact OrdinaryAnswer.execLogicPllBypass.followsTable next
  | stewardStep => exact OrdinaryAnswer.execStewardStep.followsTable next
  | thermalRound => exact OrdinaryAnswer.execThermalRound.followsTable next
  | thermalShutdown => exact execThermalShutdown_followsTable next
  | thermalHoldRelease => exact execThermalHoldRelease_followsTable next
  | headTempTimeout => exact OrdinaryAnswer.execHeadTempTimeout.followsTable next
  | hkConversionComplete => exact OrdinaryAnswer.execHkConversionComplete.followsTable next
  | hkUrgentRequest => exact OrdinaryAnswer.execHkUrgentRequest.followsTable next
  | hkSingleStart => exact OrdinaryAnswer.execHkSingleStart.followsTable next
  | hkCalibrate => exact OrdinaryAnswer.execHkCalibrate.followsTable next
  | hkModeWrite => exact OrdinaryAnswer.execHkModeWrite.followsTable next
  | hkClampConduct => exact OrdinaryAnswer.execHkClampConduct.followsTable next
  | fuseLoadComplete => exact OrdinaryAnswer.execFuseLoadComplete.followsTable next
  | hbmTrainingComplete => exact OrdinaryAnswer.execHbmTrainingComplete.followsTable next
  | slotReadComplete => exact OrdinaryAnswer.execSlotReadComplete.followsTable next
  | rollbackAutoCommit => exact OrdinaryAnswer.execRollbackAutoCommit.followsTable next
  | attestRequest => exact OrdinaryAnswer.execAttestRequest.followsTable next
  | attestComplete => exact OrdinaryAnswer.execAttestComplete.followsTable next
  | helloReceive => exact OrdinaryAnswer.execHelloReceive.followsTable next
  | authReceive => exact execAuthReceive_followsTable next
  | regRead => exact ServiceAnswer.execRegRead.followsTable rfl next
  | regWrite => exact ServiceAnswer.execRegWrite.followsTable rfl next
  | snapRead => exact ServiceAnswer.execSnapRead.followsTable rfl next
  | attest => exact ServiceAnswer.execAttest.followsTable rfl next
  | flashErase => exact ServiceAnswer.execFlashErase.followsTable rfl next
  | flashWrite => exact ServiceAnswer.execFlashWrite.followsTable rfl next
  | flashRead => exact ServiceAnswer.execFlashRead.followsTable rfl next
  | headEnable => exact ServiceAnswer.execHeadEnable.followsTable rfl next
  | lcChange => exact ServiceAnswer.execLcChange.followsTable rfl next
  | rollbackCommit => exact ServiceAnswer.execRollbackCommit.followsTable rfl next
  | rootProgram => exact ServiceAnswer.execRootProgram.followsTable rfl next
  | rootRevoke => exact ServiceAnswer.execRootRevoke.followsTable rfl next
  | close => exact ServiceAnswer.execClose.followsTable rfl next
  | sessionLost => exact ServiceAnswer.execSessionLost.followsTable rfl next
  | sessionExpiry => exact ServiceAnswer.execSessionExpiry.followsTable rfl next
  | hostRegisterWrite => exact OrdinaryAnswer.execHostRegisterWrite.followsTable next
  | mspiRead => exact OrdinaryAnswer.execMspiRead.followsTable next
  | mspiWrite => exact OrdinaryAnswer.execMspiWrite.followsTable next
  | mspiStatus => exact OrdinaryAnswer.execMspiStatus.followsTable next
  | mspiAbort => exact OrdinaryAnswer.execMspiAbort.followsTable next
  | netFrameReceive => exact OrdinaryAnswer.execNetFrameReceive.followsTable next
  -- the seal: its name is a keyword of Lean
  | _ => exact execSeal_followsTable next

theorem State.thermTripN_of_hold (hold : s.on R.THM_TRIP.HOLD = true) : s.thermTripN = .low := by
  simp [State.thermTripN, hold]

/-- Settles O54: every command follows the table, most of them because all they do is ordinary. -/
theorem deviceStatesFollowTheTable : Obligations.DeviceStatesFollowTheTable := by
  unfold Obligations.DeviceStatesFollowTheTable
  refine ⟨fun c s u next => (exec_followsTable next).table, fun c s u next hold other => ?_⟩
  obtain ⟨persists, stays⟩ := (exec_followsTable next).hold hold other
  exact ⟨persists, stays, State.thermTripN_of_hold persists⟩
end Sys2Proof.Machine
end
